-- ==== Sys2Proof/Word.lean ====
section
/-! DEFINITION. The word types of the PF384-L2 (R2, R123, R457). -/

namespace Sys2Proof

/-- A byte. -/
abbrev Byte := BitVec 8

/-- The 32 bits of an fp32 value (R123). -/
abbrev F32 := BitVec 32

/-- A unit instruction (R99) or the 128 content bits of a flit (R39). -/
abbrev Word128 := BitVec 128

end Sys2Proof
end

