-- ==== Sys2Proof/Config.lean ====
section
/-! DEFINITION. What the spec leaves to an implementation, as constants without a body: no proof can see a value of
theirs, so a claim holds whatever they are. -/

namespace Sys2Proof.Config

/-- The free values: the `n`-th value the device draws where the spec gives none (log entry 2). -/
opaque freeNat : Nat → Nat

/-- Which of the results within 2 ulp of e to the power a EXP gives (R106); its result where the spec states none. -/
opaque exp : F32 → F32
/-- The same of RECIP, 1 / a. -/
opaque recip : F32 → F32
/-- The same of RSQRT, 1 / √a. -/
opaque rsqrt : F32 → F32
/-- The same of SIGMOID, 1 / (1 + e^(-a)). -/
opaque sigmoid : F32 → F32

/-- The DRAM row that a word of a half-stack lies in, by SPAR ordinal and word index (R471); rows are numbered over all
half-stacks. -/
opaque dramRow : Nat → Nat → Nat
/-- The bank of a DRAM row, and the spare rows that a bank was made with (R471). -/
opaque dramBank : Nat → Nat
opaque spareRows : Nat → Nat

/-- SHA-512 (R1), 64 bytes of a message. -/
opaque sha512 : List Byte → List Byte

/-- Whether a signature over SHA-512 of a message verifies under a public key with ECDSA P-521 (R553, R559, R569). -/
opaque signatureOk : List Byte → List Byte → List Byte → Bool
/-- The Nyras service public key that the firmware image carries (R569). -/
opaque serviceKey : List Byte
/-- Whether a DER certificate chains to the fused root and carries the firmware-signing purpose, and its public key (R560). -/
opaque certOk : List Byte → Bool
opaque certKey : List Byte → List Byte

/-- The certificate chain of a hub die that runs an MHC firmware (R554), and the digests of its measurement indices (R557):
they depend on fused secrets and on images that the spec does not give. -/
opaque certChain : Nat → List Byte → List Byte
opaque digest : Nat → List Nat → List Byte
/-- The alias-key signature of a hub die over a message (R553). -/
opaque aliasSign : Nat → List Byte → List Byte

/-- AES-256-XTS under the namespace key of a serial number and a tweak (R562, R563), and its inverse: not computed here. -/
opaque xts : Nat → Nat → List (BitVec 8) → List (BitVec 8)
opaque xtsInv : Nat → Nat → List (BitVec 8) → List (BitVec 8)

/-- The body of a REG packet (R42, R55): what it asks of a register (0 read, 1 write, anything else a reply), the register, its
width and the value written, and the body of a reply. The spec gives their layout nowhere. -/
opaque regKind : Nat → List Byte → Nat
opaque regAddr : Nat → List Byte → Nat
opaque regWide : Nat → List Byte → Bool
opaque regValue : Nat → List Byte → Nat
opaque replyBody : Nat → List Byte

/-- The version of the self-test program that a firmware version carries (R544). -/
opaque testVersion : Nat → Nat

/-- The factory calibration that the fuses of a die hold for a sensor or regulator (R512, R520). -/
opaque calFactory : Nat → Nat → Nat

end Sys2Proof.Config
end

