-- ==== Sys2Proof/Machine/RegNames.lean ====
section
/-! DEFINITION. The addresses of the registers (R2): block, instance base and offset, one constant for each
register of the tables of the spec. The address of instance `i` is the constant plus `i * 0x1000`. -/

namespace Sys2Proof.Machine.Reg

def STAY_INFO : Nat := 0x01000000
def STAY_CTL : Nat := 0x01000004
def STAY_CNT_CLR : Nat := 0x01000008
def STAY_DISCARD : Nat := 0x01000010
def STAY_DISCARD_LAST : Nat := 0x01000014
def STAY_ROUTE_SEL : Nat := 0x01000020
def STAY_ROUTE_DATA : Nat := 0x01000024
def STAY_REROUTE_COUNT : Nat := 0x01000030
def STAY_MIRROR_STATUS : Nat := 0x01000200
def STAY_SHARE_SEL : Nat := 0x01000300
def STAY_SHARE_GRANTED : Nat := 0x01000308
def STAY_SHARE_WEIGHT : Nat := 0x01000310
def STAY_SHARE_MAXWAIT : Nat := 0x01000318
def STAY_SHARE_OUT_FLITS : Nat := 0x01000320
def STAY_PORT_STATUS : Nat := 0x01000100
def STAY_PORT_ERR : Nat := 0x01000104
def STAY_PORT_TX_FLITS : Nat := 0x01000108
def STAY_PORT_RX_FLITS : Nat := 0x01000110
def STAY_PORT_CORRECTED : Nat := 0x01000118
def STAY_PORT_REPLAYS : Nat := 0x0100011C
def STAY_PORT_CREDIT_STALL : Nat := 0x01000120
def STAY_PORT_TRUNCATED : Nat := 0x01000128
def STAY_PORT_SPARES : Nat := 0x0100012C
def CORE_INFO : Nat := 0x02000000
def CORE_STATE : Nat := 0x02000004
def CORE_EPOCH : Nat := 0x02000008
def CORE_RUNAHEAD : Nat := 0x0200000C
def CORE_ENG_MAP : Nat := 0x02000010
def CORE_FAULT : Nat := 0x02000014
def CORE_FAULT_INFO : Nat := 0x02000018
def CORE_CYCLES : Nat := 0x02000020
def CORE_SEQ_WAIT : Nat := 0x02000028
def CORE_SQUASHES : Nat := 0x02000030
def CORE_CKPTS : Nat := 0x02000034
def CORE_CKPT_WAIT : Nat := 0x02000038
def CORE_SEM : Nat := 0x02000040
def CORE_XB_ARRIVALS : Nat := 0x020000C0
def CORE_XB_COLLIDE : Nat := 0x020000C8
def CORE_BANK_LOSS : Nat := 0x02000100
def CORE_BANK_PROMOTE : Nat := 0x02000140
def ENG_STATUS : Nat := 0x03000000
def ENG_ACC_CYCLES : Nat := 0x03000008
def ENG_LANE_CYCLES : Nat := 0x03000010
def ENG_GATED_CYCLES : Nat := 0x03000018
def ENG_WAIT_WEIGHT : Nat := 0x03000020
def ENG_WAIT_OTHER : Nat := 0x03000028
def ENG_WLOAD_COUNT : Nat := 0x03000030
def ENG_MAC_COUNT : Nat := 0x03000034
def ENG_DRAIN_COUNT : Nat := 0x03000038
def ENG_AMAX : Nat := 0x03000040
def QNT_CTL : Nat := 0x04000000
def QNT_SR_SEED : Nat := 0x04000004
def QNT_CNT_CLR : Nat := 0x04000008
def QNT_SAT : Nat := 0x04000010
def QNT_NAN : Nat := 0x04000090
def QNT_VSAT : Nat := 0x040000A0
def QNT_VNAN : Nat := 0x040000A4
def QNT_VAMAX : Nat := 0x040000A8
def QNT_SR_DRAWS : Nat := 0x040000B0
def TLT_VERDICT_CTL : Nat := 0x05000000
def TLT_TOL_REL : Nat := 0x05000010
def TLT_TOL_ABS : Nat := 0x05000020
def TLT_CLEAN : Nat := 0x05000030
def TLT_FAIL_SUM : Nat := 0x05000038
def TLT_FAIL_DRAIN : Nat := 0x0500003C
def TLT_FAIL_OTHER : Nat := 0x05000040
def TLT_NUMERIC : Nat := 0x05000044
def TLT_UNCHECKED : Nat := 0x05000048
def TLT_NONFINITE : Nat := 0x0500004C
def TLT_ENG_FAIL : Nat := 0x05000050
def TLT_SQUASH_IN : Nat := 0x05000060
def TLT_SQUASH_OUT : Nat := 0x05000064
def TLT_DISCARD_ARRIVALS : Nat := 0x05000068
def TLT_VC2_IGNORED : Nat := 0x0500006C
def TLT_DEP_PENDING : Nat := 0x05000070
def TLT_RETRY_PEAK : Nat := 0x05000074
def TLT_HOLD_TIMEOUT : Nat := 0x05400000
def TLT_HOLD_BYTES : Nat := 0x05400004
def TLT_HOLD_PEAK : Nat := 0x05400008
def TLT_HOLD_TAGS : Nat := 0x0540000C
def TLT_HOLD_TIMEOUTS : Nat := 0x05400010
def TLT_HOLD_READ_WAIT : Nat := 0x05400018
def TIER_POOL_BYTES : Nat := 0x06000000
def TIER_PIN_LIMIT : Nat := 0x06000008
def TIER_PINNED : Nat := 0x06000010
def TIER_CACHED : Nat := 0x06000018
def TIER_EVICTIONS : Nat := 0x06000020
def TIER_FLASH_BYTES : Nat := 0x06000028
def TIER_HOST_BYTES : Nat := 0x06000030
def TIER_OBJECTS : Nat := 0x06000038
def TIER_REFUSED : Nat := 0x0600003C
def TIER_CNT_CLR : Nat := 0x06000040
def TIER_HS_STATUS : Nat := 0x06200000
def TIER_HS_PIN_LIMIT : Nat := 0x06200008
def TIER_HS_PINNED : Nat := 0x06200010
def TIER_HS_CACHED : Nat := 0x06200018
def TIER_HS_FREE : Nat := 0x06200020
def TIER_HS_EVICTIONS : Nat := 0x06200028
def TIER_HS_OLDEST_AGE : Nat := 0x06200030
def TIER_HS_LANDING_PEAK : Nat := 0x06200034
def TIER_HS_REFUSED_ACCESS : Nat := 0x06200038
def TIER_JOB_PINNED : Nat := 0x06100000
def TIER_JOB_CACHED : Nat := 0x06100008
def TIER_JOB_EVICT_OWN : Nat := 0x06100010
def TIER_JOB_EVICT_OTHER : Nat := 0x06100018
def TIER_JOB_REFETCH_BYTES : Nat := 0x06100020
def TIER_JOB_DEMAND_FETCH : Nat := 0x06100028
def TIER_JOB_DEMAND_HIT : Nat := 0x0610002C
def TIER_JOB_SPACE_WAIT : Nat := 0x06100030
def TIER_JOB_WINDOW_STALL : Nat := 0x06100038
def TIER_JOB_REFUSED : Nat := 0x06100040
def TIER_JOB_CNT_CLR : Nat := 0x06100044
def JOB_STATUS : Nat := 0x07000000
def JOB_CTL : Nat := 0x07000004
def JOB_DIE_MASK : Nat := 0x07000008
def JOB_CORES : Nat := 0x07000010
def JOB_SLOTS : Nat := 0x07000014
def JOB_DISPATCH_OPEN : Nat := 0x07000018
def JOB_RECORDS : Nat := 0x07000020
def JOB_TASKS : Nat := 0x07000028
def JOB_REL_FULL : Nat := 0x07000030
def JOB_REL_FLUSH : Nat := 0x07000038
def JOB_REL_TIMER : Nat := 0x07000040
def JOB_REL_PRESSURE : Nat := 0x07000048
def JOB_STEALS : Nat := 0x07000050
def JOB_BUSY_NS : Nat := 0x07000058
def JOB_IDLE_NS : Nat := 0x07000060
def JOB_BARRIER_WAIT_NS : Nat := 0x07000068
def JOB_SLOT_WAIT_NS : Nat := 0x07000070
def JOB_PACE_PPS : Nat := 0x07000078
def JOB_FREQ : Nat := 0x0700007C
def JOB_LOST_COUNT : Nat := 0x07000080
def JOB_CNT_CLR : Nat := 0x07000084
def JOB_BU_OPEN : Nat := 0x07100000
def JOB_BU_QUEUED : Nat := 0x07100004
def JOB_BU_RUNNING : Nat := 0x07100008
def JOB_BU_SLOTS_PEAK : Nat := 0x0710000C
def JOB_BU_ROW_BYTES : Nat := 0x07100010
def JOB_BU_OUT_BYTES : Nat := 0x07100018
def JOB_DEV_STATUS : Nat := 0x07200000
def JOB_RESETS : Nat := 0x07200004
def JOB_LAST_RESET_US : Nat := 0x07200008
def JOB_LAST_FAULT : Nat := 0x0720000C
def JOB_ROUTED : Nat := 0x07200010
def TKL_JOB_WEIGHT : Nat := 0x08000000
def TKL_JOB_ELEMS : Nat := 0x08000008
def TKL_JOB_ADD_WAIT_NS : Nat := 0x08000010
def TKL_JOB_RESV_WAIT_NS : Nat := 0x08000018
def TKL_JOB_LATE_DISCARD : Nat := 0x08000020
def TKL_JOB_REFUSED_PKT : Nat := 0x08000024
def TKL_JOB_CNT_CLR : Nat := 0x08000028
def TKL_SHARD_STATUS : Nat := 0x08040000
def TKL_SHARD_GLOBAL_FIRST : Nat := 0x08040004
def TKL_SHARD_UPDATES : Nat := 0x08040008
def TKL_SHARD_LAST_STEP : Nat := 0x0804000C
def TKL_SHARD_GSCALE : Nat := 0x08040010
def TKL_SHARD_NONFINITE_ROWS : Nat := 0x08040020
def TKL_SHARD_SERVE_SAT : Nat := 0x08040024
def TKL_RED_STATUS : Nat := 0x08080000
def TKL_RED_STEP : Nat := 0x08080004
def TKL_RED_EXPERTS : Nat := 0x08080008
def TKL_RED_ELAPSED_MS : Nat := 0x0808000C
def TKL_RED_LOW_PTR : Nat := 0x08080010
def TKL_RED_DONE : Nat := 0x08080020
def TKL_RED_SAT : Nat := 0x08080040
def TKL_RED_AMAX : Nat := 0x08080050
def TKL_RED_N : Nat := 0x08080060
def TKL_AD_SEL : Nat := 0x08100000
def TKL_AD_PTR : Nat := 0x08100004
def TKL_AD_BUF_USED : Nat := 0x08100008
def TKL_AD_BUF_PEAK : Nat := 0x08100010
def TKL_AD_ELEMS : Nat := 0x08100018
def TKL_AD_BUSY_NS : Nat := 0x08100020
def TKL_AD_RESV_DENIED : Nat := 0x08100028
def TKL_AD_EARLY : Nat := 0x0810002C
def TKL_UE_PARAMS : Nat := 0x08180000
def TKL_UE_BUSY_NS : Nat := 0x08180008
def TKL_UE_POISON_ROWS : Nat := 0x08180010
def TKL_DEV_STATUS : Nat := 0x08200000
def TKL_DEV_COMMITS : Nat := 0x08200004
def TKL_DEV_TIMEOUTS : Nat := 0x08200008
def TKL_DEV_NOT_OWNER : Nat := 0x0820000C
def EMB_H_STATUS : Nat := 0x09000000
def EMB_H_COMMANDS : Nat := 0x09000008
def EMB_H_ENTRIES : Nat := 0x09000010
def EMB_H_ROWS_READ : Nat := 0x09000018
def EMB_H_CACHE_HITS : Nat := 0x09000020
def EMB_H_FLASH_READS : Nat := 0x09000028
def EMB_H_ROWS_UPDATED : Nat := 0x09000030
def EMB_H_PF_EVICT : Nat := 0x09000038
def EMB_H_PF_DROP : Nat := 0x0900003C
def EMB_H_DUP_MAX : Nat := 0x09000040
def EMB_H_DUP_SAT : Nat := 0x09000044
def EMB_H_CNT_CLR : Nat := 0x09000048
def EMB_GU_PAIRS : Nat := 0x09100000
def EMB_GU_PAIRS_PEAK : Nat := 0x09100004
def EMB_GU_READS_OUT : Nat := 0x09100008
def EMB_GU_CACHE_ROWS : Nat := 0x0910000C
def EMB_GU_FMA : Nat := 0x09100010
def EMB_GU_BUSY_NS : Nat := 0x09100018
def EMB_DEV_STATUS : Nat := 0x09200000
def EMB_DEV_HASH : Nat := 0x09200004
def SRCH_H_STATUS : Nat := 0x0A000000
def SRCH_H_SEQ : Nat := 0x0A000008
def SRCH_H_GEN : Nat := 0x0A000010
def SRCH_H_SIDE_ITEMS : Nat := 0x0A000014
def SRCH_H_TOMBS : Nat := 0x0A000018
def SRCH_H_QUERIES : Nat := 0x0A000020
def SRCH_H_NODES_READ : Nat := 0x0A000028
def SRCH_H_PF_WASTED : Nat := 0x0A000030
def SRCH_H_RERANKED : Nat := 0x0A000038
def SRCH_H_SHORT : Nat := 0x0A000040
def SRCH_H_BM_HITS : Nat := 0x0A000044
def SRCH_H_BM_BUILDS : Nat := 0x0A000048
def SRCH_H_POSTFILTER : Nat := 0x0A00004C
def SRCH_H_UNREADABLE : Nat := 0x0A000050
def SRCH_H_BM_BUILD_NS : Nat := 0x0A000058
def SRCH_H_CNT_CLR : Nat := 0x0A000060
def SRCH_DEV_STATUS : Nat := 0x0A200000
def SRCH_SCAN_RATE : Nat := 0x0A200004
def SRCH_DEV_BM_BYTES : Nat := 0x0A200008
def MEDIA_CH_STATUS : Nat := 0x0B000000
def MEDIA_CH_BUS_NS : Nat := 0x0B000008
def MEDIA_CH_READS : Nat := 0x0B000010
def MEDIA_CH_PROGRAMS : Nat := 0x0B000018
def MEDIA_CH_ERASES : Nat := 0x0B000020
def MEDIA_CH_RETRAINS : Nat := 0x0B000024
def MEDIA_CH_DECODE : Nat := 0x0B000028
def MEDIA_ARB_DISPATCH : Nat := 0x0B000050
def MEDIA_ARB_PROMOTE : Nat := 0x0B000080
def MEDIA_ARB_MAXWAIT : Nat := 0x0B000090
def MEDIA_CH_CNT_CLR : Nat := 0x0B0000A0
def MEDIA_DIE_STATUS : Nat := 0x0B100000
def MEDIA_ARB_LIMIT : Nat := 0x0B100004
def MEDIA_SUSP_CTL : Nat := 0x0B100008
def MEDIA_RECON_CTL : Nat := 0x0B10000C
def MEDIA_PATROL_CTL : Nat := 0x0B100010
def MEDIA_READ_DISTURB : Nat := 0x0B100014
def MEDIA_RAW_GRANT : Nat := 0x0B100020
def MEDIA_ENG_SCANNED : Nat := 0x0B100030
def MEDIA_ENG_OUT : Nat := 0x0B100038
def MEDIA_ENG_DIST : Nat := 0x0B100040
def MEDIA_SUSPENDS : Nat := 0x0B100048
def MEDIA_RECONS : Nat := 0x0B10004C
def MEDIA_NOT_ERASED : Nat := 0x0B100050
def MEDIA_PROG_FAILS : Nat := 0x0B100054
def MEDIA_ERASE_FAILS : Nat := 0x0B100058
def MEDIA_PATROL_FLAGS : Nat := 0x0B10005C
def MEDIA_ECLOG_SEL : Nat := 0x0B100060
def MEDIA_ECLOG_LO : Nat := 0x0B100068
def MEDIA_ECLOG_HI : Nat := 0x0B100070
def MEDIA_DIE_CNT_CLR : Nat := 0x0B100078
def MEDIA_LUN_STATUS : Nat := 0x0B800000
def MEDIA_LUN_BUSY_NS : Nat := 0x0B800008
def MEDIA_LUN_RETIRED : Nat := 0x0B800010
def FTL_DIE_STATUS : Nat := 0x0C000000
def FTL_WSN : Nat := 0x0C000008
def FTL_HOST_CW : Nat := 0x0C000010
def FTL_RELOC_CW : Nat := 0x0C000018
def FTL_LOG_CW : Nat := 0x0C000020
def FTL_PARITY_CW : Nat := 0x0C000028
def FTL_JRNL_RETAINED : Nat := 0x0C000030
def FTL_THROTTLE_NS : Nat := 0x0C000038
def FTL_GC_CAS_LOST : Nat := 0x0C000040
def FTL_RETIRED : Nat := 0x0C000044
def FTL_RELOCATIONS : Nat := 0x0C000048
def FTL_REFRESHES : Nat := 0x0C00004C
def FTL_PIN_REFUSED : Nat := 0x0C000050
def FTL_WEAR : Nat := 0x0C000054
def FTL_ROWLOG_ROWS : Nat := 0x0C000058
def FTL_BANDS : Nat := 0x0C00005C
def FTL_CNT_CLR : Nat := 0x0C000060
def FTL_GRP_STATUS : Nat := 0x0C100000
def FTL_GC_CTL : Nat := 0x0C100004
def FTL_GC_URGENT_CTL : Nat := 0x0C100008
def FTL_SLC_CTL : Nat := 0x0C10000C
def FTL_WL_CTL : Nat := 0x0C100010
def FTL_SLC_USED : Nat := 0x0C100014
def FTL_GC_VICTIMS : Nat := 0x0C100018
def FTL_REBUILD_BYTES : Nat := 0x0C100020
def FTL_DEV_STATUS : Nat := 0x0C200000
def FTL_RECOVERY_MS : Nat := 0x0C200004
def FTL_JRNL_MAX : Nat := 0x0C200008
def FTL_STREAM_FLUSH_US : Nat := 0x0C20000C
def FTL_BLOCK_NS_BYTES : Nat := 0x0C200010
def FTL_NS_BYTES : Nat := 0x0C200018
def FTL_HOST_BYTES : Nat := 0x0C200020
def FTL_NAND_BYTES : Nat := 0x0C200028
def FTL_SECURE_PENDING : Nat := 0x0C200030
def HIF_LD_STATUS : Nat := 0x0D000000
def HIF_LD_QOS : Nat := 0x0D000004
def HIF_LD_RESERVE : Nat := 0x0D000008
def HIF_LD_ADMITTED_NOW : Nat := 0x0D00000C
def HIF_LD_COMMANDS : Nat := 0x0D000010
def HIF_LD_QOS_WAIT_NS : Nat := 0x0D000018
def HIF_LD_REFUSED_QOS : Nat := 0x0D000020
def HIF_LD_DELAYED : Nat := 0x0D000024
def HIF_LD_DMA_BYTES : Nat := 0x0D000028
def HIF_LD_MEM_BYTES : Nat := 0x0D000030
def HIF_LD_QRESETS : Nat := 0x0D000038
def HIF_LD_CNT_CLR : Nat := 0x0D00003C
def HIF_PORT_STATUS : Nat := 0x0D100000
def HIF_ADMIT_MAX : Nat := 0x0D100004
def HIF_ADMITTED : Nat := 0x0D100008
def HIF_FAILOVERS : Nat := 0x0D10000C
def HIF_ADMISSIONS : Nat := 0x0D100010
def MEM_CORE_STATUS : Nat := 0x0E000000
def MEM_CORE_RET : Nat := 0x0E000004
def MEM_CORE_CORRECTED : Nat := 0x0E000008
def MEM_CORE_UNCORR : Nat := 0x0E00000C
def MEM_CORE_POISON_READ : Nat := 0x0E000010
def MEM_CORE_POISON_PASS : Nat := 0x0E000014
def MEM_CORE_MERGE_RMW : Nat := 0x0E000018
def MEM_CORE_MERGE_POISON : Nat := 0x0E000020
def MEM_CORE_REPAIR : Nat := 0x0E000028
def MEM_CORE_LTEST_CTL : Nat := 0x0E000030
def MEM_CORE_LTEST_PASSES : Nat := 0x0E000034
def MEM_CORE_LTEST_FAILS : Nat := 0x0E000038
def MEM_CORE_CNT_CLR : Nat := 0x0E00003C
def MEM_DIE_STATUS : Nat := 0x0E200000
def MEM_DIE_CORRECTED : Nat := 0x0E200008
def MEM_DIE_UNCORR : Nat := 0x0E200010
def MEM_DIE_POISON_READ : Nat := 0x0E200014
def MEM_DIE_MERGE_RMW : Nat := 0x0E200018
def MEM_DIE_MERGE_POISON : Nat := 0x0E200020
def MEM_PATROL_CTL : Nat := 0x0E200024
def MEM_LAST_UE : Nat := 0x0E200028
def MEM_DIE_PPR_USED : Nat := 0x0E200030
def MEM_DIE_CNT_CLR : Nat := 0x0E200034
def MEM_SEC_WIPES : Nat := 0x0E200080
def MEM_SEC_TEST_PASSES : Nat := 0x0E200084
def MEM_SEC_SPARES_LEFT : Nat := 0x0E200088
def MEM_SCRUB_CTL_CORE : Nat := 0x0E000040
def MEM_SCRUB_CTL_DIE : Nat := 0x0E200040
def MEM_SCRUB_BASE_CORE : Nat := 0x0E000048
def MEM_SCRUB_BASE_DIE : Nat := 0x0E200048
def MEM_SCRUB_LEN_CORE : Nat := 0x0E000050
def MEM_SCRUB_LEN_DIE : Nat := 0x0E200050
def MEM_SCRUB_STATUS_CORE : Nat := 0x0E000058
def MEM_SCRUB_STATUS_DIE : Nat := 0x0E200058
def MEM_SCRUB_SUM_CORE : Nat := 0x0E000060
def MEM_SCRUB_SUM_DIE : Nat := 0x0E200060
def MEM_DEV_STATUS : Nat := 0x0E300000
def MEM_DEV_FILL_US : Nat := 0x0E300004
def MEM_DEV_POISON_COMMITS : Nat := 0x0E300008
def PWR_STATUS : Nat := 0x0F300000
def PWR_CAP_W : Nat := 0x0F300004
def PWR_INPUT_W : Nat := 0x0F300008
def PWR_STORAGE_W : Nat := 0x0F30000C
def PWR_CAP_CEIL : Nat := 0x0F300010
def PWR_DERATE_DEV : Nat := 0x0F300014
def PWR_PS_CTL : Nat := 0x0F300018
def PWR_PS_IDLE_MS : Nat := 0x0F30001C
def PWR_PS_EXIT_US : Nat := 0x0F300028
def PWR_PS_RESIDENCY : Nat := 0x0F300030
def PWR_THERM_CTL : Nat := 0x0F300050
def PWR_SUP_STATUS : Nat := 0x0F300054
def PWR_SUP_CTL : Nat := 0x0F300058
def PWR_SWITCHOVERS : Nat := 0x0F30005C
def PWR_HOLDUP : Nat := 0x0F300060
def PWR_COOLANT : Nat := 0x0F300064
def PWR_HINTS_HOIST : Nat := 0x0F300068
def PWR_HINTS_REEF : Nat := 0x0F30006C
def PWR_HINTS_LATE : Nat := 0x0F300070
def PWR_HINTS_IGNORED : Nat := 0x0F300074
def PWR_THERM_TRIPS : Nat := 0x0F300078
def PWR_INPUT_PEAK_W : Nat := 0x0F30007C
def PWR_ENERGY_J : Nat := 0x0F300080
def PWR_CNT_CLR : Nat := 0x0F300088
def PWR_CORE_FMAX_FACTORY : Nat := 0x0F000000
def PWR_CORE_FMAX_AGED : Nat := 0x0F000004
def PWR_CORE_DERATE : Nat := 0x0F000008
def PWR_CORE_FREQ : Nat := 0x0F00000C
def PWR_CORE_VOLT : Nat := 0x0F000010
def PWR_CORE_TEMP : Nat := 0x0F000014
def PWR_CORE_DROOP_EVENTS : Nat := 0x0F000018
def PWR_DIE_TEMP : Nat := 0x0F200000
def PWR_DIE_W : Nat := 0x0F200004
def PWR_CAL_SEL : Nat := 0x0F200008
def PWR_CAL_FACTORY : Nat := 0x0F20000C
def PWR_CAL_OVERLAY : Nat := 0x0F200010
def AVL_STATUS : Nat := 0x10000000
def AVL_ROT_CTL : Nat := 0x10000004
def AVL_ROT_POS : Nat := 0x10000008
def AVL_ROT_CYCLES : Nat := 0x1000000C
def AVL_FENCE_LO : Nat := 0x10000010
def AVL_FENCE_HI : Nat := 0x10000018
def AVL_CAPACITY : Nat := 0x10000020
def AVL_FAILOVERS : Nat := 0x10000028
def AVL_LAST_FAILOVER_US : Nat := 0x1000002C
def AVL_SWAP : Nat := 0x10000030
def AVL_ST_CTL : Nat := 0x10000034
def AVL_ST_START_MS : Nat := 0x10000038
def AVL_CNT_CLR : Nat := 0x1000003C
def AVL_DIE_STATUS : Nat := 0x10100000
def AVL_DIE_FENCE_TIME : Nat := 0x10100008
def AVL_ST_SEL : Nat := 0x10100010
def AVL_ST_RECORD : Nat := 0x10100018
def AVL_ST_RUN : Nat := 0x10100020
def AVL_ST_FAILS : Nat := 0x10100024
def AVL_CORE_ROT : Nat := 0x10400000
def AVL_CORE_STRESS : Nat := 0x10400004
def AVL_CORE_ST : Nat := 0x10400008
def SEC_STATUS : Nat := 0x11000000
def SEC_CMD : Nat := 0x11000004
def SEC_ARG_ADDR : Nat := 0x11000008
def SEC_ARG_LEN : Nat := 0x11000010
def SEC_LAST_RESULT : Nat := 0x11000014
def SEC_DBG_EXPIRY : Nat := 0x11000018
def SEC_NONCE : Nat := 0x11000020
def SEC_FW_SVN : Nat := 0x11000060
def SEC_FW_VERSION : Nat := 0x11000064
def SEC_KEK_EPOCH : Nat := 0x11000068
def SEC_NS_KEYS : Nat := 0x1100006C
def SEC_SERIAL : Nat := 0x11000070
def SEC_TAMPER_COUNT : Nat := 0x11000078
def SEC_UNLOCK_FAILS : Nat := 0x1100007C
def SEC_CNT_CLR : Nat := 0x11000080
def SB_STATUS : Nat := 0x12000000
def SB_ALERT : Nat := 0x12000004
def SB_ALERT_MASK : Nat := 0x12000008
def SB_FAULT_MASK : Nat := 0x1200000C
def SB_LED_CTL : Nat := 0x12000010
def SB_PERST_COUNT : Nat := 0x12000014
def SB_SHUTDOWN_COUNT : Nat := 0x12000018
def SEC_DIE_TAMPER : Nat := 0x11200000
def SEC_DIE_ROT : Nat := 0x11200004

end Sys2Proof.Machine.Reg
end

