-- ==== Sys2Proof/Machine/RegTables.lean ====
section
/-! DEFINITION. The register tables of the spec as data: for each table its block, its instances (R2, R23), its plane
(R25) and its rows, and for each row the offset, width, access type (R4), writable bits, range checks, reset value and
view (R566). Written from the register tables of chapters 02 to 18. -/

namespace Sys2Proof.Machine

/-- The access types of R4. -/
inductive Access where
  | ro | rw | rw1c | wo | rws | rwl
  deriving DecidableEq, Repr

/-- Who may reach a register in the unprivileged view (R566). -/
inductive View where
  | other        -- every LD reads; only the privileged view writes
  | privileged   -- as `other`: the chapter places its writes in the privileged view
  | secret       -- no access in the unprivileged view
  | ld           -- LD instances: an LD reads its own
  | core | engine                                       -- the cores of a job of the LD
  | job | shard | reduction | gather | search           -- the job or handle of the LD
  deriving DecidableEq, Repr

/-- A range check of a written value: bits `hi` to `lo` must lie from `min` to `max` and be a multiple of `mult`. -/
structure RangeCheck where
  hi : Nat
  lo : Nat
  min : Nat
  max : Nat
  mult : Nat
  deriving DecidableEq, Repr

/-- One register, or an array of `count` registers `stride` bytes apart. `hub` marks a register of dies 42 and 52 only. -/
structure RegRow where
  name : String
  off : Nat
  count : Nat
  stride : Nat
  wide : Bool
  access : Access
  mask : Nat
  checks : List RangeCheck
  reset : Nat
  view : View
  hub : Bool
  deriving DecidableEq, Repr

/-- One register table: the instances it covers and its rows. -/
structure RegTable where
  block : Nat
  base : Nat
  count : Nat
  compute : Bool
  rows : List RegRow
  deriving DecidableEq, Repr

def stayRows0 : List RegRow :=
  [ ⟨"STAY_INFO", 0x0, 1, 0x0, false, .ro, 0xFFFFFFFF, [], 0x0, .other, false⟩,
    ⟨"STAY_CTL", 0x4, 1, 0x0, false, .rwl, 0x1, [], 0x1, .privileged, false⟩,
    ⟨"STAY_CNT_CLR", 0x8, 1, 0x0, false, .wo, 0xFFFFFFFF, [], 0x0, .privileged, false⟩,
    ⟨"STAY_DISCARD", 0x10, 1, 0x0, false, .ro, 0xFFFFFFFF, [], 0x0, .other, false⟩,
    ⟨"STAY_DISCARD_LAST", 0x14, 1, 0x0, false, .ro, 0xFFFFFFFF, [], 0x0, .other, false⟩,
    ⟨"STAY_ROUTE_SEL", 0x20, 1, 0x0, false, .rw, 0x7F, [], 0x0, .other, false⟩,
    ⟨"STAY_ROUTE_DATA", 0x24, 1, 0x0, false, .ro, 0xFFFFFFFF, [], 0x0, .other, false⟩,
    ⟨"STAY_REROUTE_COUNT", 0x30, 1, 0x0, false, .ro, 0xFFFFFFFF, [], 0x0, .other, false⟩,
    ⟨"STAY_MIRROR_STATUS", 0x200, 1, 0x0, false, .ro, 0xFFFFFFFF, [], 0x0, .other, true⟩,
    ⟨"STAY_SHARE_SEL", 0x300, 1, 0x0, false, .rw, 0x737, [], 0x0, .other, false⟩,
    ⟨"STAY_SHARE_GRANTED", 0x308, 1, 0x0, true, .ro, 0xFFFFFFFFFFFFFFFF, [], 0x0, .other, false⟩,
    ⟨"STAY_SHARE_WEIGHT", 0x310, 1, 0x0, true, .ro, 0xFFFFFFFFFFFFFFFF, [], 0x100000000, .other, false⟩ ]

def stayRows1 : List RegRow :=
  [ ⟨"STAY_SHARE_MAXWAIT", 0x318, 1, 0x0, false, .ro, 0xFFFFFFFF, [], 0x0, .other, false⟩,
    ⟨"STAY_SHARE_OUT_FLITS", 0x320, 1, 0x0, true, .ro, 0xFFFFFFFFFFFFFFFF, [], 0x0, .other, false⟩ ]

/-- The stay table (R70). -/
def stayTable : RegTable := ⟨0x01, 0x0, 100, false, stayRows0 ++ stayRows1⟩

/-- The stayPort table (R71). -/
def stayPortTable : RegTable := ⟨0x01, 0x0, 100, false,
  [ ⟨"STAY_PORT_STATUS", 0x100, 4, 0x40, false, .ro, 0xFFFFFFFF, [], 0x0, .other, false⟩,
    ⟨"STAY_PORT_ERR", 0x104, 4, 0x40, false, .rw1c, 0x7F, [], 0x0, .other, false⟩,
    ⟨"STAY_PORT_TX_FLITS", 0x108, 4, 0x40, true, .ro, 0xFFFFFFFFFFFFFFFF, [], 0x0, .other, false⟩,
    ⟨"STAY_PORT_RX_FLITS", 0x110, 4, 0x40, true, .ro, 0xFFFFFFFFFFFFFFFF, [], 0x0, .other, false⟩,
    ⟨"STAY_PORT_CORRECTED", 0x118, 4, 0x40, false, .ro, 0xFFFFFFFF, [], 0x0, .other, false⟩,
    ⟨"STAY_PORT_REPLAYS", 0x11C, 4, 0x40, false, .ro, 0xFFFFFFFF, [], 0x0, .other, false⟩,
    ⟨"STAY_PORT_CREDIT_STALL", 0x120, 4, 0x40, true, .ro, 0xFFFFFFFFFFFFFFFF, [], 0x0, .other, false⟩,
    ⟨"STAY_PORT_TRUNCATED", 0x128, 4, 0x40, false, .ro, 0xFFFFFFFF, [], 0x0, .other, false⟩,
    ⟨"STAY_PORT_SPARES", 0x12C, 4, 0x40, false, .ro, 0xFFFFFFFF, [], 0x0, .other, false⟩ ]⟩

def coreRows0 : List RegRow :=
  [ ⟨"CORE_INFO", 0x0, 1, 0x0, false, .ro, 0xFFFFFFFF, [], 0x0, .core, false⟩,
    ⟨"CORE_STATE", 0x4, 1, 0x0, false, .ro, 0xFFFFFFFF, [], 0x1, .core, false⟩,
    ⟨"CORE_EPOCH", 0x8, 1, 0x0, false, .ro, 0xFFFFFFFF, [], 0x0, .core, false⟩,
    ⟨"CORE_RUNAHEAD", 0xC, 1, 0x0, false, .rw, 0x7, [⟨2, 0, 1, 4, 1⟩, ⟨31, 3, 0, 0, 1⟩], 0x4, .core, false⟩,
    ⟨"CORE_ENG_MAP", 0x10, 1, 0x0, false, .ro, 0xFFFFFFFF, [], 0x0, .core, false⟩,
    ⟨"CORE_FAULT", 0x14, 1, 0x0, false, .rw1c, 0x7F, [], 0x0, .core, false⟩,
    ⟨"CORE_FAULT_INFO", 0x18, 1, 0x0, false, .ro, 0xFFFFFFFF, [], 0x0, .core, false⟩,
    ⟨"CORE_CYCLES", 0x20, 1, 0x0, true, .ro, 0xFFFFFFFFFFFFFFFF, [], 0x0, .core, false⟩,
    ⟨"CORE_SEQ_WAIT", 0x28, 1, 0x0, true, .ro, 0xFFFFFFFFFFFFFFFF, [], 0x0, .core, false⟩,
    ⟨"CORE_SQUASHES", 0x30, 1, 0x0, false, .ro, 0xFFFFFFFF, [], 0x0, .core, false⟩,
    ⟨"CORE_CKPTS", 0x34, 1, 0x0, false, .ro, 0xFFFFFFFF, [], 0x0, .core, false⟩,
    ⟨"CORE_CKPT_WAIT", 0x38, 1, 0x0, true, .ro, 0xFFFFFFFFFFFFFFFF, [], 0x0, .core, false⟩ ]

def coreRows1 : List RegRow :=
  [ ⟨"CORE_SEM", 0x40, 32, 0x4, false, .ro, 0xFFFFFFFF, [], 0x0, .core, false⟩,
    ⟨"CORE_XB_ARRIVALS", 0xC0, 1, 0x0, true, .ro, 0xFFFFFFFFFFFFFFFF, [], 0x0, .core, false⟩,
    ⟨"CORE_XB_COLLIDE", 0xC8, 1, 0x0, false, .ro, 0xFFFFFFFF, [], 0x0, .core, false⟩,
    ⟨"CORE_BANK_LOSS", 0x100, 7, 0x8, true, .ro, 0xFFFFFFFFFFFFFFFF, [], 0x0, .core, false⟩,
    ⟨"CORE_BANK_PROMOTE", 0x140, 1, 0x0, false, .ro, 0xFFFFFFFF, [], 0x0, .core, false⟩ ]

/-- The core table (R118). -/
def coreTable : RegTable := ⟨0x02, 0x0, 400, true, coreRows0 ++ coreRows1⟩

/-- The ENG table (R121). -/
def engTable : RegTable := ⟨0x03, 0x0, 1600, true,
  [ ⟨"ENG_STATUS", 0x0, 1, 0x0, false, .ro, 0xFFFFFFFF, [], 0x0, .engine, false⟩,
    ⟨"ENG_ACC_CYCLES", 0x8, 1, 0x0, true, .ro, 0xFFFFFFFFFFFFFFFF, [], 0x0, .engine, false⟩,
    ⟨"ENG_LANE_CYCLES", 0x10, 1, 0x0, true, .ro, 0xFFFFFFFFFFFFFFFF, [], 0x0, .engine, false⟩,
    ⟨"ENG_GATED_CYCLES", 0x18, 1, 0x0, true, .ro, 0xFFFFFFFFFFFFFFFF, [], 0x0, .engine, false⟩,
    ⟨"ENG_WAIT_WEIGHT", 0x20, 1, 0x0, true, .ro, 0xFFFFFFFFFFFFFFFF, [], 0x0, .engine, false⟩,
    ⟨"ENG_WAIT_OTHER", 0x28, 1, 0x0, true, .ro, 0xFFFFFFFFFFFFFFFF, [], 0x0, .engine, false⟩,
    ⟨"ENG_WLOAD_COUNT", 0x30, 1, 0x0, false, .ro, 0xFFFFFFFF, [], 0x0, .engine, false⟩,
    ⟨"ENG_MAC_COUNT", 0x34, 1, 0x0, false, .ro, 0xFFFFFFFF, [], 0x0, .engine, false⟩,
    ⟨"ENG_DRAIN_COUNT", 0x38, 1, 0x0, false, .ro, 0xFFFFFFFF, [], 0x0, .engine, false⟩,
    ⟨"ENG_AMAX", 0x40, 8, 0x4, false, .rw, 0xFFFFFFFF, [], 0x0, .engine, false⟩ ]⟩

/-- The qnt table (R149). -/
def qntTable : RegTable := ⟨0x04, 0x0, 400, true,
  [ ⟨"QNT_CTL", 0x0, 1, 0x0, false, .rw, 0x1, [⟨31, 1, 0, 0, 1⟩], 0x0, .core, false⟩,
    ⟨"QNT_SR_SEED", 0x4, 1, 0x0, false, .rw, 0xFFFFFFFF, [], 0x1, .core, false⟩,
    ⟨"QNT_CNT_CLR", 0x8, 1, 0x0, false, .wo, 0xFFFFFFFF, [], 0x0, .privileged, false⟩,
    ⟨"QNT_SAT", 0x10, 32, 0x4, false, .ro, 0xFFFFFFFF, [], 0x0, .core, false⟩,
    ⟨"QNT_NAN", 0x90, 4, 0x4, false, .ro, 0xFFFFFFFF, [], 0x0, .core, false⟩,
    ⟨"QNT_VSAT", 0xA0, 1, 0x0, false, .ro, 0xFFFFFFFF, [], 0x0, .core, false⟩,
    ⟨"QNT_VNAN", 0xA4, 1, 0x0, false, .ro, 0xFFFFFFFF, [], 0x0, .core, false⟩,
    ⟨"QNT_VAMAX", 0xA8, 1, 0x0, false, .rw, 0xFFFFFFFF, [], 0x0, .core, false⟩,
    ⟨"QNT_SR_DRAWS", 0xB0, 1, 0x0, true, .ro, 0xFFFFFFFFFFFFFFFF, [], 0x0, .core, false⟩ ]⟩

def tltRows0 : List RegRow :=
  [ ⟨"TLT_VERDICT_CTL", 0x0, 1, 0x0, false, .rwl, 0xF1F, [⟨31, 12, 0, 0, 1⟩], 0x413, .core, false⟩,
    ⟨"TLT_TOL_REL", 0x10, 4, 0x4, false, .rwl, 0xFFFFFFFF, [], 0x0, .core, false⟩,
    ⟨"TLT_TOL_ABS", 0x20, 4, 0x4, false, .rwl, 0xFFFFFFFF, [], 0x0, .core, false⟩,
    ⟨"TLT_CLEAN", 0x30, 1, 0x0, true, .ro, 0xFFFFFFFFFFFFFFFF, [], 0x0, .core, false⟩,
    ⟨"TLT_FAIL_SUM", 0x38, 1, 0x0, false, .ro, 0xFFFFFFFF, [], 0x0, .core, false⟩,
    ⟨"TLT_FAIL_DRAIN", 0x3C, 1, 0x0, false, .ro, 0xFFFFFFFF, [], 0x0, .core, false⟩,
    ⟨"TLT_FAIL_OTHER", 0x40, 1, 0x0, false, .ro, 0xFFFFFFFF, [], 0x0, .core, false⟩,
    ⟨"TLT_NUMERIC", 0x44, 1, 0x0, false, .ro, 0xFFFFFFFF, [], 0x0, .core, false⟩,
    ⟨"TLT_UNCHECKED", 0x48, 1, 0x0, false, .ro, 0xFFFFFFFF, [], 0x0, .core, false⟩,
    ⟨"TLT_NONFINITE", 0x4C, 1, 0x0, false, .ro, 0xFFFFFFFF, [], 0x0, .core, false⟩,
    ⟨"TLT_ENG_FAIL", 0x50, 4, 0x4, false, .rws, 0xFFFFFFFF, [], 0x0, .core, false⟩,
    ⟨"TLT_SQUASH_IN", 0x60, 1, 0x0, false, .ro, 0xFFFFFFFF, [], 0x0, .core, false⟩ ]

def tltRows1 : List RegRow :=
  [ ⟨"TLT_SQUASH_OUT", 0x64, 1, 0x0, false, .ro, 0xFFFFFFFF, [], 0x0, .core, false⟩,
    ⟨"TLT_DISCARD_ARRIVALS", 0x68, 1, 0x0, false, .ro, 0xFFFFFFFF, [], 0x0, .core, false⟩,
    ⟨"TLT_VC2_IGNORED", 0x6C, 1, 0x0, false, .ro, 0xFFFFFFFF, [], 0x0, .core, false⟩,
    ⟨"TLT_DEP_PENDING", 0x70, 1, 0x0, false, .ro, 0xFFFFFFFF, [], 0x0, .core, false⟩,
    ⟨"TLT_RETRY_PEAK", 0x74, 1, 0x0, false, .ro, 0xFFFFFFFF, [], 0x0, .core, false⟩ ]

/-- The tlt table (R183). -/
def tltTable : RegTable := ⟨0x05, 0x0, 400, true, tltRows0 ++ tltRows1⟩

/-- The hold table (R185). -/
def holdTable : RegTable := ⟨0x05, 0x400, 100, false,
  [ ⟨"TLT_HOLD_TIMEOUT", 0x0, 1, 0x0, false, .rwl, 0xFFFF, [⟨15, 0, 1, 65535, 1⟩], 0x1F4, .privileged, false⟩,
    ⟨"TLT_HOLD_BYTES", 0x4, 1, 0x0, false, .ro, 0xFFFFFFFF, [], 0x0, .other, false⟩,
    ⟨"TLT_HOLD_PEAK", 0x8, 1, 0x0, false, .ro, 0xFFFFFFFF, [], 0x0, .other, false⟩,
    ⟨"TLT_HOLD_TAGS", 0xC, 1, 0x0, false, .ro, 0xFFFFFFFF, [], 0x0, .other, false⟩,
    ⟨"TLT_HOLD_TIMEOUTS", 0x10, 1, 0x0, false, .ro, 0xFFFFFFFF, [], 0x0, .other, false⟩,
    ⟨"TLT_HOLD_READ_WAIT", 0x18, 1, 0x0, true, .ro, 0xFFFFFFFFFFFFFFFF, [], 0x0, .other, false⟩ ]⟩

/-- The tier table (R218). -/
def tierTable : RegTable := ⟨0x06, 0x0, 1, false,
  [ ⟨"TIER_POOL_BYTES", 0x0, 1, 0x0, true, .ro, 0xFFFFFFFFFFFFFFFF, [], 0xE600000000, .other, false⟩,
    ⟨"TIER_PIN_LIMIT", 0x8, 1, 0x0, true, .rw, 0xFFFFFFFFFFFFFFFF, [], 0xDC00000000, .privileged, false⟩,
    ⟨"TIER_PINNED", 0x10, 1, 0x0, true, .ro, 0xFFFFFFFFFFFFFFFF, [], 0x0, .other, false⟩,
    ⟨"TIER_CACHED", 0x18, 1, 0x0, true, .ro, 0xFFFFFFFFFFFFFFFF, [], 0x0, .other, false⟩,
    ⟨"TIER_EVICTIONS", 0x20, 1, 0x0, true, .ro, 0xFFFFFFFFFFFFFFFF, [], 0x0, .other, false⟩,
    ⟨"TIER_FLASH_BYTES", 0x28, 1, 0x0, true, .ro, 0xFFFFFFFFFFFFFFFF, [], 0x0, .other, false⟩,
    ⟨"TIER_HOST_BYTES", 0x30, 1, 0x0, true, .ro, 0xFFFFFFFFFFFFFFFF, [], 0x0, .other, false⟩,
    ⟨"TIER_OBJECTS", 0x38, 1, 0x0, false, .ro, 0xFFFFFFFF, [], 0x0, .other, false⟩,
    ⟨"TIER_REFUSED", 0x3C, 1, 0x0, false, .ro, 0xFFFFFFFF, [], 0x0, .other, false⟩,
    ⟨"TIER_CNT_CLR", 0x40, 1, 0x0, false, .wo, 0xFFFFFFFF, [], 0x0, .privileged, false⟩ ]⟩

/-- The tierHs table (R219). -/
def tierHsTable : RegTable := ⟨0x06, 0x200, 40, false,
  [ ⟨"TIER_HS_STATUS", 0x0, 1, 0x0, false, .ro, 0xFFFFFFFF, [], 0x0, .other, false⟩,
    ⟨"TIER_HS_PIN_LIMIT", 0x8, 1, 0x0, true, .ro, 0xFFFFFFFFFFFFFFFF, [], 0x580000000, .other, false⟩,
    ⟨"TIER_HS_PINNED", 0x10, 1, 0x0, true, .ro, 0xFFFFFFFFFFFFFFFF, [], 0x0, .other, false⟩,
    ⟨"TIER_HS_CACHED", 0x18, 1, 0x0, true, .ro, 0xFFFFFFFFFFFFFFFF, [], 0x0, .other, false⟩,
    ⟨"TIER_HS_FREE", 0x20, 1, 0x0, true, .ro, 0xFFFFFFFFFFFFFFFF, [], 0x5C0000000, .other, false⟩,
    ⟨"TIER_HS_EVICTIONS", 0x28, 1, 0x0, true, .ro, 0xFFFFFFFFFFFFFFFF, [], 0x0, .other, false⟩,
    ⟨"TIER_HS_OLDEST_AGE", 0x30, 1, 0x0, false, .ro, 0xFFFFFFFF, [], 0x0, .other, false⟩,
    ⟨"TIER_HS_LANDING_PEAK", 0x34, 1, 0x0, false, .ro, 0xFFFFFFFF, [], 0x0, .other, false⟩,
    ⟨"TIER_HS_REFUSED_ACCESS", 0x38, 1, 0x0, false, .ro, 0xFFFFFFFF, [], 0x0, .other, false⟩ ]⟩

/-- The tierJob table (R220). -/
def tierJobTable : RegTable := ⟨0x06, 0x100, 64, false,
  [ ⟨"TIER_JOB_PINNED", 0x0, 1, 0x0, true, .ro, 0xFFFFFFFFFFFFFFFF, [], 0x0, .job, false⟩,
    ⟨"TIER_JOB_CACHED", 0x8, 1, 0x0, true, .ro, 0xFFFFFFFFFFFFFFFF, [], 0x0, .job, false⟩,
    ⟨"TIER_JOB_EVICT_OWN", 0x10, 1, 0x0, true, .ro, 0xFFFFFFFFFFFFFFFF, [], 0x0, .job, false⟩,
    ⟨"TIER_JOB_EVICT_OTHER", 0x18, 1, 0x0, true, .ro, 0xFFFFFFFFFFFFFFFF, [], 0x0, .job, false⟩,
    ⟨"TIER_JOB_REFETCH_BYTES", 0x20, 1, 0x0, true, .ro, 0xFFFFFFFFFFFFFFFF, [], 0x0, .job, false⟩,
    ⟨"TIER_JOB_DEMAND_FETCH", 0x28, 1, 0x0, false, .ro, 0xFFFFFFFF, [], 0x0, .job, false⟩,
    ⟨"TIER_JOB_DEMAND_HIT", 0x2C, 1, 0x0, false, .ro, 0xFFFFFFFF, [], 0x0, .job, false⟩,
    ⟨"TIER_JOB_SPACE_WAIT", 0x30, 1, 0x0, true, .ro, 0xFFFFFFFFFFFFFFFF, [], 0x0, .job, false⟩,
    ⟨"TIER_JOB_WINDOW_STALL", 0x38, 1, 0x0, true, .ro, 0xFFFFFFFFFFFFFFFF, [], 0x0, .job, false⟩,
    ⟨"TIER_JOB_REFUSED", 0x40, 1, 0x0, false, .ro, 0xFFFFFFFF, [], 0x0, .job, false⟩,
    ⟨"TIER_JOB_CNT_CLR", 0x44, 1, 0x0, false, .wo, 0xFFFFFFFF, [], 0x0, .privileged, false⟩ ]⟩

def jobRows0 : List RegRow :=
  [ ⟨"JOB_STATUS", 0x0, 1, 0x0, false, .ro, 0xFFFFFFFF, [], 0x0, .job, false⟩,
    ⟨"JOB_CTL", 0x4, 1, 0x0, false, .rw, 0x1FFFFF, [⟨20, 16, 0, 18, 1⟩], 0x0, .job, false⟩,
    ⟨"JOB_DIE_MASK", 0x8, 1, 0x0, true, .ro, 0xFFFFFFFFFFFFFFFF, [], 0x0, .job, false⟩,
    ⟨"JOB_CORES", 0x10, 1, 0x0, false, .ro, 0xFFFFFFFF, [], 0x0, .job, false⟩,
    ⟨"JOB_SLOTS", 0x14, 1, 0x0, false, .ro, 0xFFFFFFFF, [], 0x0, .job, false⟩,
    ⟨"JOB_DISPATCH_OPEN", 0x18, 1, 0x0, false, .ro, 0xFFFFFFFF, [], 0x0, .job, false⟩,
    ⟨"JOB_RECORDS", 0x20, 1, 0x0, true, .ro, 0xFFFFFFFFFFFFFFFF, [], 0x0, .job, false⟩,
    ⟨"JOB_TASKS", 0x28, 1, 0x0, true, .ro, 0xFFFFFFFFFFFFFFFF, [], 0x0, .job, false⟩,
    ⟨"JOB_REL_FULL", 0x30, 1, 0x0, true, .ro, 0xFFFFFFFFFFFFFFFF, [], 0x0, .job, false⟩,
    ⟨"JOB_REL_FLUSH", 0x38, 1, 0x0, true, .ro, 0xFFFFFFFFFFFFFFFF, [], 0x0, .job, false⟩,
    ⟨"JOB_REL_TIMER", 0x40, 1, 0x0, true, .ro, 0xFFFFFFFFFFFFFFFF, [], 0x0, .job, false⟩,
    ⟨"JOB_REL_PRESSURE", 0x48, 1, 0x0, true, .ro, 0xFFFFFFFFFFFFFFFF, [], 0x0, .job, false⟩ ]

def jobRows1 : List RegRow :=
  [ ⟨"JOB_STEALS", 0x50, 1, 0x0, true, .ro, 0xFFFFFFFFFFFFFFFF, [], 0x0, .job, false⟩,
    ⟨"JOB_BUSY_NS", 0x58, 1, 0x0, true, .ro, 0xFFFFFFFFFFFFFFFF, [], 0x0, .job, false⟩,
    ⟨"JOB_IDLE_NS", 0x60, 1, 0x0, true, .ro, 0xFFFFFFFFFFFFFFFF, [], 0x0, .job, false⟩,
    ⟨"JOB_BARRIER_WAIT_NS", 0x68, 1, 0x0, true, .ro, 0xFFFFFFFFFFFFFFFF, [], 0x0, .job, false⟩,
    ⟨"JOB_SLOT_WAIT_NS", 0x70, 1, 0x0, true, .ro, 0xFFFFFFFFFFFFFFFF, [], 0x0, .job, false⟩,
    ⟨"JOB_PACE_PPS", 0x78, 1, 0x0, false, .ro, 0xFFFFFFFF, [], 0x0, .job, false⟩,
    ⟨"JOB_FREQ", 0x7C, 1, 0x0, false, .ro, 0xFFFFFFFF, [], 0x0, .job, false⟩,
    ⟨"JOB_LOST_COUNT", 0x80, 1, 0x0, false, .ro, 0xFFFFFFFF, [], 0x0, .job, false⟩,
    ⟨"JOB_CNT_CLR", 0x84, 1, 0x0, false, .wo, 0xFFFFFFFF, [], 0x0, .privileged, false⟩ ]

/-- The job table (R251). -/
def jobTable : RegTable := ⟨0x07, 0x0, 64, false, jobRows0 ++ jobRows1⟩

/-- The batchUnit table (R253). -/
def batchUnitTable : RegTable := ⟨0x07, 0x100, 40, true,
  [ ⟨"JOB_BU_OPEN", 0x0, 1, 0x0, false, .ro, 0xFFFFFFFF, [], 0x0, .other, false⟩,
    ⟨"JOB_BU_QUEUED", 0x4, 1, 0x0, false, .ro, 0xFFFFFFFF, [], 0x0, .other, false⟩,
    ⟨"JOB_BU_RUNNING", 0x8, 1, 0x0, false, .ro, 0xFFFFFFFF, [], 0x0, .other, false⟩,
    ⟨"JOB_BU_SLOTS_PEAK", 0xC, 1, 0x0, false, .ro, 0xFFFFFFFF, [], 0x0, .other, false⟩,
    ⟨"JOB_BU_ROW_BYTES", 0x10, 1, 0x0, true, .ro, 0xFFFFFFFFFFFFFFFF, [], 0x0, .other, false⟩,
    ⟨"JOB_BU_OUT_BYTES", 0x18, 1, 0x0, true, .ro, 0xFFFFFFFFFFFFFFFF, [], 0x0, .other, false⟩ ]⟩

/-- The jobDev table (R254). -/
def jobDevTable : RegTable := ⟨0x07, 0x200, 1, false,
  [ ⟨"JOB_DEV_STATUS", 0x0, 1, 0x0, false, .ro, 0xFFFFFFFF, [], 0x0, .other, false⟩,
    ⟨"JOB_RESETS", 0x4, 1, 0x0, false, .ro, 0xFFFFFFFF, [], 0x0, .other, false⟩,
    ⟨"JOB_LAST_RESET_US", 0x8, 1, 0x0, false, .ro, 0xFFFFFFFF, [], 0x0, .other, false⟩,
    ⟨"JOB_LAST_FAULT", 0xC, 1, 0x0, false, .ro, 0xFFFFFFFF, [], 0x0, .other, false⟩,
    ⟨"JOB_ROUTED", 0x10, 1, 0x0, true, .ro, 0xFFFFFFFFFFFFFFFF, [], 0x0, .other, false⟩ ]⟩

/-- The tklJob table (R287). -/
def tklJobTable : RegTable := ⟨0x08, 0x0, 64, false,
  [ ⟨"TKL_JOB_WEIGHT", 0x0, 1, 0x0, false, .rw, 0x1F, [⟨4, 0, 1, 16, 1⟩], 0x1, .privileged, false⟩,
    ⟨"TKL_JOB_ELEMS", 0x8, 1, 0x0, true, .ro, 0xFFFFFFFFFFFFFFFF, [], 0x0, .job, false⟩,
    ⟨"TKL_JOB_ADD_WAIT_NS", 0x10, 1, 0x0, true, .ro, 0xFFFFFFFFFFFFFFFF, [], 0x0, .job, false⟩,
    ⟨"TKL_JOB_RESV_WAIT_NS", 0x18, 1, 0x0, true, .ro, 0xFFFFFFFFFFFFFFFF, [], 0x0, .job, false⟩,
    ⟨"TKL_JOB_LATE_DISCARD", 0x20, 1, 0x0, false, .ro, 0xFFFFFFFF, [], 0x0, .job, false⟩,
    ⟨"TKL_JOB_REFUSED_PKT", 0x24, 1, 0x0, false, .ro, 0xFFFFFFFF, [], 0x0, .job, false⟩,
    ⟨"TKL_JOB_CNT_CLR", 0x28, 1, 0x0, false, .wo, 0xFFFFFFFF, [], 0x0, .privileged, false⟩ ]⟩

/-- The tklShard table (R287). -/
def tklShardTable : RegTable := ⟨0x08, 0x40, 64, false,
  [ ⟨"TKL_SHARD_STATUS", 0x0, 1, 0x0, false, .ro, 0xFFFFFFFF, [], 0x0, .shard, false⟩,
    ⟨"TKL_SHARD_GLOBAL_FIRST", 0x4, 1, 0x0, false, .ro, 0xFFFFFFFF, [], 0x0, .shard, false⟩,
    ⟨"TKL_SHARD_UPDATES", 0x8, 1, 0x0, false, .ro, 0xFFFFFFFF, [], 0x0, .shard, false⟩,
    ⟨"TKL_SHARD_LAST_STEP", 0xC, 1, 0x0, false, .ro, 0xFFFFFFFF, [], 0x0, .shard, false⟩,
    ⟨"TKL_SHARD_GSCALE", 0x10, 4, 0x4, false, .ro, 0xFFFFFFFF, [], 0x0, .shard, false⟩,
    ⟨"TKL_SHARD_NONFINITE_ROWS", 0x20, 1, 0x0, false, .ro, 0xFFFFFFFF, [], 0x0, .shard, false⟩,
    ⟨"TKL_SHARD_SERVE_SAT", 0x24, 1, 0x0, false, .ro, 0xFFFFFFFF, [], 0x0, .shard, false⟩ ]⟩

/-- The tklRed table (R287). -/
def tklRedTable : RegTable := ⟨0x08, 0x80, 64, false,
  [ ⟨"TKL_RED_STATUS", 0x0, 1, 0x0, false, .ro, 0xFFFFFFFF, [], 0x0, .reduction, false⟩,
    ⟨"TKL_RED_STEP", 0x4, 1, 0x0, false, .ro, 0xFFFFFFFF, [], 0x0, .reduction, false⟩,
    ⟨"TKL_RED_EXPERTS", 0x8, 1, 0x0, false, .ro, 0xFFFFFFFF, [], 0x0, .reduction, false⟩,
    ⟨"TKL_RED_ELAPSED_MS", 0xC, 1, 0x0, false, .ro, 0xFFFFFFFF, [], 0x0, .reduction, false⟩,
    ⟨"TKL_RED_LOW_PTR", 0x10, 1, 0x0, false, .ro, 0xFFFFFFFF, [], 0x0, .reduction, false⟩,
    ⟨"TKL_RED_DONE", 0x20, 8, 0x4, false, .ro, 0xFFFFFFFF, [], 0x0, .reduction, false⟩,
    ⟨"TKL_RED_SAT", 0x40, 4, 0x4, false, .ro, 0xFFFFFFFF, [], 0x0, .reduction, false⟩,
    ⟨"TKL_RED_AMAX", 0x50, 4, 0x4, false, .ro, 0xFFFFFFFF, [], 0x0, .reduction, false⟩,
    ⟨"TKL_RED_N", 0x60, 4, 0x8, true, .ro, 0xFFFFFFFFFFFFFFFF, [], 0x0, .reduction, false⟩ ]⟩

/-- The tklAdder table (R287). -/
def tklAdderTable : RegTable := ⟨0x08, 0x100, 40, true,
  [ ⟨"TKL_AD_SEL", 0x0, 1, 0x0, false, .rw, 0x3F, [], 0x0, .other, false⟩,
    ⟨"TKL_AD_PTR", 0x4, 1, 0x0, false, .ro, 0xFFFFFFFF, [], 0x0, .other, false⟩,
    ⟨"TKL_AD_BUF_USED", 0x8, 1, 0x0, true, .ro, 0xFFFFFFFFFFFFFFFF, [], 0x0, .other, false⟩,
    ⟨"TKL_AD_BUF_PEAK", 0x10, 1, 0x0, true, .ro, 0xFFFFFFFFFFFFFFFF, [], 0x0, .other, false⟩,
    ⟨"TKL_AD_ELEMS", 0x18, 1, 0x0, true, .ro, 0xFFFFFFFFFFFFFFFF, [], 0x0, .other, false⟩,
    ⟨"TKL_AD_BUSY_NS", 0x20, 1, 0x0, true, .ro, 0xFFFFFFFFFFFFFFFF, [], 0x0, .other, false⟩,
    ⟨"TKL_AD_RESV_DENIED", 0x28, 1, 0x0, false, .ro, 0xFFFFFFFF, [], 0x0, .other, false⟩,
    ⟨"TKL_AD_EARLY", 0x2C, 1, 0x0, false, .ro, 0xFFFFFFFF, [], 0x0, .other, false⟩ ]⟩

/-- The tklUpd table (R287). -/
def tklUpdTable : RegTable := ⟨0x08, 0x180, 40, false,
  [ ⟨"TKL_UE_PARAMS", 0x0, 1, 0x0, true, .ro, 0xFFFFFFFFFFFFFFFF, [], 0x0, .other, false⟩,
    ⟨"TKL_UE_BUSY_NS", 0x8, 1, 0x0, true, .ro, 0xFFFFFFFFFFFFFFFF, [], 0x0, .other, false⟩,
    ⟨"TKL_UE_POISON_ROWS", 0x10, 1, 0x0, false, .ro, 0xFFFFFFFF, [], 0x0, .other, false⟩ ]⟩

/-- The tklDev table (R287). -/
def tklDevTable : RegTable := ⟨0x08, 0x200, 1, false,
  [ ⟨"TKL_DEV_STATUS", 0x0, 1, 0x0, false, .ro, 0xFFFFFFFF, [], 0x0, .other, false⟩,
    ⟨"TKL_DEV_COMMITS", 0x4, 1, 0x0, false, .ro, 0xFFFFFFFF, [], 0x0, .other, false⟩,
    ⟨"TKL_DEV_TIMEOUTS", 0x8, 1, 0x0, false, .ro, 0xFFFFFFFF, [], 0x0, .other, false⟩,
    ⟨"TKL_DEV_NOT_OWNER", 0xC, 1, 0x0, false, .ro, 0xFFFFFFFF, [], 0x0, .other, false⟩ ]⟩

/-- The emb table (R311). -/
def embTable : RegTable := ⟨0x09, 0x0, 64, false,
  [ ⟨"EMB_H_STATUS", 0x0, 1, 0x0, false, .ro, 0xFFFFFFFF, [], 0x0, .gather, false⟩,
    ⟨"EMB_H_COMMANDS", 0x8, 1, 0x0, true, .ro, 0xFFFFFFFFFFFFFFFF, [], 0x0, .gather, false⟩,
    ⟨"EMB_H_ENTRIES", 0x10, 1, 0x0, true, .ro, 0xFFFFFFFFFFFFFFFF, [], 0x0, .gather, false⟩,
    ⟨"EMB_H_ROWS_READ", 0x18, 1, 0x0, true, .ro, 0xFFFFFFFFFFFFFFFF, [], 0x0, .gather, false⟩,
    ⟨"EMB_H_CACHE_HITS", 0x20, 1, 0x0, true, .ro, 0xFFFFFFFFFFFFFFFF, [], 0x0, .gather, false⟩,
    ⟨"EMB_H_FLASH_READS", 0x28, 1, 0x0, true, .ro, 0xFFFFFFFFFFFFFFFF, [], 0x0, .gather, false⟩,
    ⟨"EMB_H_ROWS_UPDATED", 0x30, 1, 0x0, true, .ro, 0xFFFFFFFFFFFFFFFF, [], 0x0, .gather, false⟩,
    ⟨"EMB_H_PF_EVICT", 0x38, 1, 0x0, false, .ro, 0xFFFFFFFF, [], 0x0, .gather, false⟩,
    ⟨"EMB_H_PF_DROP", 0x3C, 1, 0x0, false, .ro, 0xFFFFFFFF, [], 0x0, .gather, false⟩,
    ⟨"EMB_H_DUP_MAX", 0x40, 1, 0x0, false, .ro, 0xFFFFFFFF, [], 0x0, .gather, false⟩,
    ⟨"EMB_H_DUP_SAT", 0x44, 1, 0x0, false, .ro, 0xFFFFFFFF, [], 0x0, .gather, false⟩,
    ⟨"EMB_H_CNT_CLR", 0x48, 1, 0x0, false, .wo, 0xFFFFFFFF, [], 0x0, .privileged, false⟩ ]⟩

/-- The embUnit table (R312). -/
def embUnitTable : RegTable := ⟨0x09, 0x100, 40, true,
  [ ⟨"EMB_GU_PAIRS", 0x0, 1, 0x0, false, .ro, 0xFFFFFFFF, [], 0x0, .other, false⟩,
    ⟨"EMB_GU_PAIRS_PEAK", 0x4, 1, 0x0, false, .ro, 0xFFFFFFFF, [], 0x0, .other, false⟩,
    ⟨"EMB_GU_READS_OUT", 0x8, 1, 0x0, false, .ro, 0xFFFFFFFF, [], 0x0, .other, false⟩,
    ⟨"EMB_GU_CACHE_ROWS", 0xC, 1, 0x0, false, .ro, 0xFFFFFFFF, [], 0x0, .other, false⟩,
    ⟨"EMB_GU_FMA", 0x10, 1, 0x0, true, .ro, 0xFFFFFFFFFFFFFFFF, [], 0x0, .other, false⟩,
    ⟨"EMB_GU_BUSY_NS", 0x18, 1, 0x0, true, .ro, 0xFFFFFFFFFFFFFFFF, [], 0x0, .other, false⟩ ]⟩

/-- The embDev table (R312). -/
def embDevTable : RegTable := ⟨0x09, 0x200, 1, false,
  [ ⟨"EMB_DEV_STATUS", 0x0, 1, 0x0, false, .ro, 0xFFFFFFFF, [], 0x0, .other, false⟩,
    ⟨"EMB_DEV_HASH", 0x4, 1, 0x0, false, .ro, 0xFFFFFFFF, [], 0x9E3779B1, .other, false⟩ ]⟩

def srchRows0 : List RegRow :=
  [ ⟨"SRCH_H_STATUS", 0x0, 1, 0x0, false, .ro, 0xFFFFFFFF, [], 0x0, .search, false⟩,
    ⟨"SRCH_H_SEQ", 0x8, 1, 0x0, true, .ro, 0xFFFFFFFFFFFFFFFF, [], 0x0, .search, false⟩,
    ⟨"SRCH_H_GEN", 0x10, 1, 0x0, false, .ro, 0xFFFFFFFF, [], 0x0, .search, false⟩,
    ⟨"SRCH_H_SIDE_ITEMS", 0x14, 1, 0x0, false, .ro, 0xFFFFFFFF, [], 0x0, .search, false⟩,
    ⟨"SRCH_H_TOMBS", 0x18, 1, 0x0, false, .ro, 0xFFFFFFFF, [], 0x0, .search, false⟩,
    ⟨"SRCH_H_QUERIES", 0x20, 1, 0x0, true, .ro, 0xFFFFFFFFFFFFFFFF, [], 0x0, .search, false⟩,
    ⟨"SRCH_H_NODES_READ", 0x28, 1, 0x0, true, .ro, 0xFFFFFFFFFFFFFFFF, [], 0x0, .search, false⟩,
    ⟨"SRCH_H_PF_WASTED", 0x30, 1, 0x0, true, .ro, 0xFFFFFFFFFFFFFFFF, [], 0x0, .search, false⟩,
    ⟨"SRCH_H_RERANKED", 0x38, 1, 0x0, true, .ro, 0xFFFFFFFFFFFFFFFF, [], 0x0, .search, false⟩,
    ⟨"SRCH_H_SHORT", 0x40, 1, 0x0, false, .ro, 0xFFFFFFFF, [], 0x0, .search, false⟩,
    ⟨"SRCH_H_BM_HITS", 0x44, 1, 0x0, false, .ro, 0xFFFFFFFF, [], 0x0, .search, false⟩,
    ⟨"SRCH_H_BM_BUILDS", 0x48, 1, 0x0, false, .ro, 0xFFFFFFFF, [], 0x0, .search, false⟩ ]

def srchRows1 : List RegRow :=
  [ ⟨"SRCH_H_POSTFILTER", 0x4C, 1, 0x0, false, .ro, 0xFFFFFFFF, [], 0x0, .search, false⟩,
    ⟨"SRCH_H_UNREADABLE", 0x50, 1, 0x0, false, .ro, 0xFFFFFFFF, [], 0x0, .search, false⟩,
    ⟨"SRCH_H_BM_BUILD_NS", 0x58, 1, 0x0, true, .ro, 0xFFFFFFFFFFFFFFFF, [], 0x0, .search, false⟩,
    ⟨"SRCH_H_CNT_CLR", 0x60, 1, 0x0, false, .wo, 0xFFFFFFFF, [], 0x0, .privileged, false⟩ ]

/-- The srch table (R337). -/
def srchTable : RegTable := ⟨0x0A, 0x0, 64, false, srchRows0 ++ srchRows1⟩

/-- The srchDev table (R338). -/
def srchDevTable : RegTable := ⟨0x0A, 0x200, 1, false,
  [ ⟨"SRCH_DEV_STATUS", 0x0, 1, 0x0, false, .ro, 0xFFFFFFFF, [], 0x0, .other, false⟩,
    ⟨"SRCH_SCAN_RATE", 0x4, 1, 0x0, false, .rw, 0x3FF, [⟨9, 0, 1, 806, 1⟩], 0x2BC, .privileged, false⟩,
    ⟨"SRCH_DEV_BM_BYTES", 0x8, 1, 0x0, true, .ro, 0xFFFFFFFFFFFFFFFF, [], 0x0, .other, false⟩ ]⟩

/-- The mediaCh table (R373). -/
def mediaChTable : RegTable := ⟨0x0B, 0x0, 224, false,
  [ ⟨"MEDIA_CH_STATUS", 0x0, 1, 0x0, false, .ro, 0xFFFFFFFF, [], 0x0, .other, false⟩,
    ⟨"MEDIA_CH_BUS_NS", 0x8, 1, 0x0, true, .ro, 0xFFFFFFFFFFFFFFFF, [], 0x0, .other, false⟩,
    ⟨"MEDIA_CH_READS", 0x10, 1, 0x0, true, .ro, 0xFFFFFFFFFFFFFFFF, [], 0x0, .other, false⟩,
    ⟨"MEDIA_CH_PROGRAMS", 0x18, 1, 0x0, true, .ro, 0xFFFFFFFFFFFFFFFF, [], 0x0, .other, false⟩,
    ⟨"MEDIA_CH_ERASES", 0x20, 1, 0x0, false, .ro, 0xFFFFFFFF, [], 0x0, .other, false⟩,
    ⟨"MEDIA_CH_RETRAINS", 0x24, 1, 0x0, false, .ro, 0xFFFFFFFF, [], 0x0, .other, false⟩,
    ⟨"MEDIA_CH_DECODE", 0x28, 8, 0x4, false, .ro, 0xFFFFFFFF, [], 0x0, .other, false⟩,
    ⟨"MEDIA_ARB_DISPATCH", 0x50, 5, 0x8, true, .ro, 0xFFFFFFFFFFFFFFFF, [], 0x0, .other, false⟩,
    ⟨"MEDIA_ARB_PROMOTE", 0x80, 4, 0x4, false, .ro, 0xFFFFFFFF, [], 0x0, .other, false⟩,
    ⟨"MEDIA_ARB_MAXWAIT", 0x90, 4, 0x4, false, .ro, 0xFFFFFFFF, [], 0x0, .other, false⟩,
    ⟨"MEDIA_CH_CNT_CLR", 0xA0, 1, 0x0, false, .wo, 0xFFFFFFFF, [], 0x0, .privileged, false⟩ ]⟩

def mediaDieRows0 : List RegRow :=
  [ ⟨"MEDIA_DIE_STATUS", 0x0, 1, 0x0, false, .ro, 0xFFFFFFFF, [], 0x0, .other, false⟩,
    ⟨"MEDIA_ARB_LIMIT", 0x4, 1, 0x0, false, .rwl, 0xFFFFFFFF, [⟨7, 0, 1, 255, 1⟩, ⟨15, 8, 1, 255, 1⟩, ⟨23, 16, 1, 255, 1⟩, ⟨31, 24, 1, 255, 1⟩], 0x40100804, .privileged, false⟩,
    ⟨"MEDIA_SUSP_CTL", 0x8, 1, 0x0, false, .rwl, 0xFFFFFFFF, [⟨31, 28, 1, 15, 1⟩], 0xF3E81908, .privileged, false⟩,
    ⟨"MEDIA_RECON_CTL", 0xC, 1, 0x0, false, .rwl, 0xFFFFFF, [], 0x14064, .privileged, false⟩,
    ⟨"MEDIA_PATROL_CTL", 0x10, 1, 0x0, false, .rwl, 0xFF, [⟨7, 0, 1, 255, 1⟩], 0xE, .privileged, false⟩,
    ⟨"MEDIA_READ_DISTURB", 0x14, 1, 0x0, false, .rwl, 0xFFFFFFFF, [], 0x186A0, .privileged, false⟩,
    ⟨"MEDIA_RAW_GRANT", 0x20, 1, 0x0, false, .rw, 0xC001FFFF, [], 0x0, .privileged, false⟩,
    ⟨"MEDIA_ENG_SCANNED", 0x30, 1, 0x0, true, .ro, 0xFFFFFFFFFFFFFFFF, [], 0x0, .other, false⟩,
    ⟨"MEDIA_ENG_OUT", 0x38, 1, 0x0, true, .ro, 0xFFFFFFFFFFFFFFFF, [], 0x0, .other, false⟩,
    ⟨"MEDIA_ENG_DIST", 0x40, 1, 0x0, true, .ro, 0xFFFFFFFFFFFFFFFF, [], 0x0, .other, false⟩,
    ⟨"MEDIA_SUSPENDS", 0x48, 1, 0x0, false, .ro, 0xFFFFFFFF, [], 0x0, .other, false⟩,
    ⟨"MEDIA_RECONS", 0x4C, 1, 0x0, false, .ro, 0xFFFFFFFF, [], 0x0, .other, false⟩ ]

def mediaDieRows1 : List RegRow :=
  [ ⟨"MEDIA_NOT_ERASED", 0x50, 1, 0x0, false, .ro, 0xFFFFFFFF, [], 0x0, .other, false⟩,
    ⟨"MEDIA_PROG_FAILS", 0x54, 1, 0x0, false, .ro, 0xFFFFFFFF, [], 0x0, .other, false⟩,
    ⟨"MEDIA_ERASE_FAILS", 0x58, 1, 0x0, false, .ro, 0xFFFFFFFF, [], 0x0, .other, false⟩,
    ⟨"MEDIA_PATROL_FLAGS", 0x5C, 1, 0x0, false, .ro, 0xFFFFFFFF, [], 0x0, .other, false⟩,
    ⟨"MEDIA_ECLOG_SEL", 0x60, 1, 0x0, false, .rw, 0x7FFFF, [], 0x0, .other, false⟩,
    ⟨"MEDIA_ECLOG_LO", 0x68, 1, 0x0, true, .ro, 0xFFFFFFFFFFFFFFFF, [], 0x0, .other, false⟩,
    ⟨"MEDIA_ECLOG_HI", 0x70, 1, 0x0, true, .ro, 0xFFFFFFFFFFFFFFFF, [], 0x0, .other, false⟩,
    ⟨"MEDIA_DIE_CNT_CLR", 0x78, 1, 0x0, false, .wo, 0xFFFFFFFF, [], 0x0, .privileged, false⟩ ]

/-- The mediaDie table (R374). -/
def mediaDieTable : RegTable := ⟨0x0B, 0x100, 56, false, mediaDieRows0 ++ mediaDieRows1⟩

/-- The mediaLun table (R375). -/
def mediaLunTable : RegTable := ⟨0x0B, 0x800, 1792, false,
  [ ⟨"MEDIA_LUN_STATUS", 0x0, 1, 0x0, false, .ro, 0xFFFFFFFF, [], 0x0, .other, false⟩,
    ⟨"MEDIA_LUN_BUSY_NS", 0x8, 1, 0x0, true, .ro, 0xFFFFFFFFFFFFFFFF, [], 0x0, .other, false⟩,
    ⟨"MEDIA_LUN_RETIRED", 0x10, 1, 0x0, false, .ro, 0xFFFFFFFF, [], 0x0, .other, false⟩ ]⟩

def ftlRows0 : List RegRow :=
  [ ⟨"FTL_DIE_STATUS", 0x0, 1, 0x0, false, .ro, 0xFFFFFFFF, [], 0x0, .other, false⟩,
    ⟨"FTL_WSN", 0x8, 1, 0x0, true, .ro, 0xFFFFFFFFFFFFFFFF, [], 0x0, .other, false⟩,
    ⟨"FTL_HOST_CW", 0x10, 1, 0x0, true, .ro, 0xFFFFFFFFFFFFFFFF, [], 0x0, .other, false⟩,
    ⟨"FTL_RELOC_CW", 0x18, 1, 0x0, true, .ro, 0xFFFFFFFFFFFFFFFF, [], 0x0, .other, false⟩,
    ⟨"FTL_LOG_CW", 0x20, 1, 0x0, true, .ro, 0xFFFFFFFFFFFFFFFF, [], 0x0, .other, false⟩,
    ⟨"FTL_PARITY_CW", 0x28, 1, 0x0, true, .ro, 0xFFFFFFFFFFFFFFFF, [], 0x0, .other, false⟩,
    ⟨"FTL_JRNL_RETAINED", 0x30, 1, 0x0, true, .ro, 0xFFFFFFFFFFFFFFFF, [], 0x0, .other, false⟩,
    ⟨"FTL_THROTTLE_NS", 0x38, 1, 0x0, true, .ro, 0xFFFFFFFFFFFFFFFF, [], 0x0, .other, false⟩,
    ⟨"FTL_GC_CAS_LOST", 0x40, 1, 0x0, false, .ro, 0xFFFFFFFF, [], 0x0, .other, false⟩,
    ⟨"FTL_RETIRED", 0x44, 1, 0x0, false, .ro, 0xFFFFFFFF, [], 0x0, .other, false⟩,
    ⟨"FTL_RELOCATIONS", 0x48, 1, 0x0, false, .ro, 0xFFFFFFFF, [], 0x0, .other, false⟩,
    ⟨"FTL_REFRESHES", 0x4C, 1, 0x0, false, .ro, 0xFFFFFFFF, [], 0x0, .other, false⟩ ]

def ftlRows1 : List RegRow :=
  [ ⟨"FTL_PIN_REFUSED", 0x50, 1, 0x0, false, .ro, 0xFFFFFFFF, [], 0x0, .other, false⟩,
    ⟨"FTL_WEAR", 0x54, 1, 0x0, false, .ro, 0xFFFFFFFF, [], 0x0, .other, false⟩,
    ⟨"FTL_ROWLOG_ROWS", 0x58, 1, 0x0, false, .ro, 0xFFFFFFFF, [], 0x0, .other, false⟩,
    ⟨"FTL_BANDS", 0x5C, 1, 0x0, false, .ro, 0xFFFFFFFF, [], 0x0, .other, false⟩,
    ⟨"FTL_CNT_CLR", 0x60, 1, 0x0, false, .wo, 0xFFFFFFFF, [], 0x0, .privileged, false⟩ ]

/-- The ftl table (R411). -/
def ftlTable : RegTable := ⟨0x0C, 0x0, 56, false, ftlRows0 ++ ftlRows1⟩

/-- The ftlGrp table (R412). -/
def ftlGrpTable : RegTable := ⟨0x0C, 0x100, 4, false,
  [ ⟨"FTL_GRP_STATUS", 0x0, 1, 0x0, false, .ro, 0xFFFFFFFF, [], 0x0, .other, false⟩,
    ⟨"FTL_GC_CTL", 0x4, 1, 0x0, false, .rwl, 0xFFFFFFFF, [], 0x6000400, .privileged, false⟩,
    ⟨"FTL_GC_URGENT_CTL", 0x8, 1, 0x0, false, .rwl, 0xFFFFFFFF, [⟨31, 16, 64, 65535, 1⟩], 0x800100, .privileged, false⟩,
    ⟨"FTL_SLC_CTL", 0xC, 1, 0x0, false, .rwl, 0xFFFFFFFF, [⟨15, 0, 64, 2048, 1⟩], 0x1000200, .privileged, false⟩,
    ⟨"FTL_WL_CTL", 0x10, 1, 0x0, false, .rwl, 0xFFFFFFFF, [⟨15, 0, 50, 1000, 1⟩], 0xC8012C, .privileged, false⟩,
    ⟨"FTL_SLC_USED", 0x14, 1, 0x0, false, .ro, 0xFFFFFFFF, [], 0x0, .other, false⟩,
    ⟨"FTL_GC_VICTIMS", 0x18, 1, 0x0, false, .ro, 0xFFFFFFFF, [], 0x0, .other, false⟩,
    ⟨"FTL_REBUILD_BYTES", 0x20, 1, 0x0, true, .ro, 0xFFFFFFFFFFFFFFFF, [], 0x0, .other, false⟩ ]⟩

/-- The ftlDev table (R413). -/
def ftlDevTable : RegTable := ⟨0x0C, 0x200, 1, false,
  [ ⟨"FTL_DEV_STATUS", 0x0, 1, 0x0, false, .ro, 0xFFFFFFFF, [], 0x0, .other, false⟩,
    ⟨"FTL_RECOVERY_MS", 0x4, 1, 0x0, false, .ro, 0xFFFFFFFF, [], 0x0, .other, false⟩,
    ⟨"FTL_JRNL_MAX", 0x8, 1, 0x0, false, .rwl, 0xFFFF, [⟨15, 0, 64, 4096, 1⟩], 0x200, .privileged, false⟩,
    ⟨"FTL_STREAM_FLUSH_US", 0xC, 1, 0x0, false, .rwl, 0xFFFF, [⟨15, 0, 50, 10000, 1⟩], 0x1F4, .privileged, false⟩,
    ⟨"FTL_BLOCK_NS_BYTES", 0x10, 1, 0x0, true, .ro, 0xFFFFFFFFFFFFFFFF, [], 0x0, .other, false⟩,
    ⟨"FTL_NS_BYTES", 0x18, 1, 0x0, true, .ro, 0xFFFFFFFFFFFFFFFF, [], 0x0, .other, false⟩,
    ⟨"FTL_HOST_BYTES", 0x20, 1, 0x0, true, .ro, 0xFFFFFFFFFFFFFFFF, [], 0x0, .other, false⟩,
    ⟨"FTL_NAND_BYTES", 0x28, 1, 0x0, true, .ro, 0xFFFFFFFFFFFFFFFF, [], 0x0, .other, false⟩,
    ⟨"FTL_SECURE_PENDING", 0x30, 1, 0x0, false, .ro, 0xFFFFFFFF, [], 0x0, .other, false⟩ ]⟩

/-- The hifLd table (R454). -/
def hifLdTable : RegTable := ⟨0x0D, 0x0, 16, false,
  [ ⟨"HIF_LD_STATUS", 0x0, 1, 0x0, false, .ro, 0xFFFFFFFF, [], 0x0, .ld, false⟩,
    ⟨"HIF_LD_QOS", 0x4, 1, 0x0, false, .rw, 0xFFFF007F, [⟨6, 0, 1, 64, 1⟩], 0x3E80001, .privileged, false⟩,
    ⟨"HIF_LD_RESERVE", 0x8, 1, 0x0, false, .ro, 0xFFFFFFFF, [], 0x0, .ld, false⟩,
    ⟨"HIF_LD_ADMITTED_NOW", 0xC, 1, 0x0, false, .ro, 0xFFFFFFFF, [], 0x0, .ld, false⟩,
    ⟨"HIF_LD_COMMANDS", 0x10, 1, 0x0, true, .ro, 0xFFFFFFFFFFFFFFFF, [], 0x0, .ld, false⟩,
    ⟨"HIF_LD_QOS_WAIT_NS", 0x18, 1, 0x0, true, .ro, 0xFFFFFFFFFFFFFFFF, [], 0x0, .ld, false⟩,
    ⟨"HIF_LD_REFUSED_QOS", 0x20, 1, 0x0, false, .ro, 0xFFFFFFFF, [], 0x0, .ld, false⟩,
    ⟨"HIF_LD_DELAYED", 0x24, 1, 0x0, false, .ro, 0xFFFFFFFF, [], 0x0, .ld, false⟩,
    ⟨"HIF_LD_DMA_BYTES", 0x28, 1, 0x0, true, .ro, 0xFFFFFFFFFFFFFFFF, [], 0x0, .ld, false⟩,
    ⟨"HIF_LD_MEM_BYTES", 0x30, 1, 0x0, true, .ro, 0xFFFFFFFFFFFFFFFF, [], 0x0, .ld, false⟩,
    ⟨"HIF_LD_QRESETS", 0x38, 1, 0x0, false, .ro, 0xFFFFFFFF, [], 0x0, .ld, false⟩,
    ⟨"HIF_LD_CNT_CLR", 0x3C, 1, 0x0, false, .wo, 0xFFFFFFFF, [], 0x0, .privileged, false⟩ ]⟩

/-- The hifPort table (R456). -/
def hifPortTable : RegTable := ⟨0x0D, 0x100, 1, false,
  [ ⟨"HIF_PORT_STATUS", 0x0, 1, 0x0, false, .ro, 0xFFFFFFFF, [], 0x0, .other, false⟩,
    ⟨"HIF_ADMIT_MAX", 0x4, 1, 0x0, false, .ro, 0xFFFFFFFF, [], 0x2000, .other, false⟩,
    ⟨"HIF_ADMITTED", 0x8, 1, 0x0, false, .ro, 0xFFFFFFFF, [], 0x0, .other, false⟩,
    ⟨"HIF_FAILOVERS", 0xC, 1, 0x0, false, .ro, 0xFFFFFFFF, [], 0x0, .other, false⟩,
    ⟨"HIF_ADMISSIONS", 0x10, 1, 0x0, true, .ro, 0xFFFFFFFFFFFFFFFF, [], 0x0, .other, false⟩ ]⟩

def memCoreRows0 : List RegRow :=
  [ ⟨"MEM_CORE_STATUS", 0x0, 1, 0x0, false, .ro, 0xFFFFFFFF, [], 0x0, .core, false⟩,
    ⟨"MEM_CORE_RET", 0x4, 1, 0x0, false, .rw, 0xFFFFFFFF, [], 0x0, .core, false⟩,
    ⟨"MEM_CORE_CORRECTED", 0x8, 1, 0x0, false, .ro, 0xFFFFFFFF, [], 0x0, .core, false⟩,
    ⟨"MEM_CORE_UNCORR", 0xC, 1, 0x0, false, .ro, 0xFFFFFFFF, [], 0x0, .core, false⟩,
    ⟨"MEM_CORE_POISON_READ", 0x10, 1, 0x0, false, .ro, 0xFFFFFFFF, [], 0x0, .core, false⟩,
    ⟨"MEM_CORE_POISON_PASS", 0x14, 1, 0x0, false, .ro, 0xFFFFFFFF, [], 0x0, .core, false⟩,
    ⟨"MEM_CORE_MERGE_RMW", 0x18, 1, 0x0, true, .ro, 0xFFFFFFFFFFFFFFFF, [], 0x0, .core, false⟩,
    ⟨"MEM_CORE_MERGE_POISON", 0x20, 1, 0x0, false, .ro, 0xFFFFFFFF, [], 0x0, .core, false⟩,
    ⟨"MEM_CORE_REPAIR", 0x28, 1, 0x0, true, .ro, 0xFFFFFFFFFFFFFFFF, [], 0x0, .core, false⟩,
    ⟨"MEM_CORE_LTEST_CTL", 0x30, 1, 0x0, false, .rwl, 0x3F, [⟨5, 1, 10, 24, 1⟩], 0x21, .core, false⟩,
    ⟨"MEM_CORE_LTEST_PASSES", 0x34, 1, 0x0, false, .ro, 0xFFFFFFFF, [], 0x0, .core, false⟩,
    ⟨"MEM_CORE_LTEST_FAILS", 0x38, 1, 0x0, false, .rws, 0xFFFFFFFF, [], 0x0, .core, false⟩ ]

def memCoreRows1 : List RegRow :=
  [ ⟨"MEM_CORE_CNT_CLR", 0x3C, 1, 0x0, false, .wo, 0xFFFFFFFF, [], 0x0, .privileged, false⟩,
    ⟨"MEM_SCRUB_CTL", 0x40, 1, 0x0, false, .rw, 0xF0, [], 0x0, .core, false⟩,
    ⟨"MEM_SCRUB_BASE", 0x48, 1, 0x0, true, .rw, 0xFFFFFFFFFFFFFFFF, [], 0x0, .core, false⟩,
    ⟨"MEM_SCRUB_LEN", 0x50, 1, 0x0, true, .rw, 0xFFFFFFFFFFFFFFFF, [], 0x0, .core, false⟩,
    ⟨"MEM_SCRUB_STATUS", 0x58, 1, 0x0, false, .ro, 0xFFFFFFFF, [], 0x0, .core, false⟩,
    ⟨"MEM_SCRUB_SUM", 0x60, 1, 0x0, true, .ro, 0xFFFFFFFFFFFFFFFF, [], 0x0, .core, false⟩ ]

/-- The memCore table (R483). -/
def memCoreTable : RegTable := ⟨0x0E, 0x0, 400, true, memCoreRows0 ++ memCoreRows1⟩

def memDieRows0 : List RegRow :=
  [ ⟨"MEM_DIE_STATUS", 0x0, 1, 0x0, false, .ro, 0xFFFFFFFF, [], 0x0, .other, false⟩,
    ⟨"MEM_DIE_CORRECTED", 0x8, 1, 0x0, true, .ro, 0xFFFFFFFFFFFFFFFF, [], 0x0, .other, false⟩,
    ⟨"MEM_DIE_UNCORR", 0x10, 1, 0x0, false, .ro, 0xFFFFFFFF, [], 0x0, .other, false⟩,
    ⟨"MEM_DIE_POISON_READ", 0x14, 1, 0x0, false, .ro, 0xFFFFFFFF, [], 0x0, .other, false⟩,
    ⟨"MEM_DIE_MERGE_RMW", 0x18, 1, 0x0, true, .ro, 0xFFFFFFFFFFFFFFFF, [], 0x0, .other, false⟩,
    ⟨"MEM_DIE_MERGE_POISON", 0x20, 1, 0x0, false, .ro, 0xFFFFFFFF, [], 0x0, .other, false⟩,
    ⟨"MEM_PATROL_CTL", 0x24, 1, 0x0, false, .rwl, 0xFF, [], 0x18, .privileged, false⟩,
    ⟨"MEM_LAST_UE", 0x28, 1, 0x0, true, .ro, 0xFFFFFFFFFFFFFFFF, [], 0x0, .other, false⟩,
    ⟨"MEM_DIE_PPR_USED", 0x30, 1, 0x0, false, .ro, 0xFFFFFFFF, [], 0x0, .other, false⟩,
    ⟨"MEM_DIE_CNT_CLR", 0x34, 1, 0x0, false, .wo, 0xFFFFFFFF, [], 0x0, .privileged, false⟩,
    ⟨"MEM_SEC_WIPES", 0x80, 1, 0x0, false, .ro, 0xFFFFFFFF, [], 0x0, .other, true⟩,
    ⟨"MEM_SEC_TEST_PASSES", 0x84, 1, 0x0, false, .ro, 0xFFFFFFFF, [], 0x0, .other, true⟩ ]

def memDieRows1 : List RegRow :=
  [ ⟨"MEM_SEC_SPARES_LEFT", 0x88, 1, 0x0, false, .ro, 0xFFFFFFFF, [], 0x4, .other, true⟩,
    ⟨"MEM_SCRUB_CTL", 0x40, 1, 0x0, false, .rw, 0xF0, [], 0x0, .privileged, false⟩,
    ⟨"MEM_SCRUB_BASE", 0x48, 1, 0x0, true, .rw, 0xFFFFFFFFFFFFFFFF, [], 0x0, .privileged, false⟩,
    ⟨"MEM_SCRUB_LEN", 0x50, 1, 0x0, true, .rw, 0xFFFFFFFFFFFFFFFF, [], 0x0, .privileged, false⟩,
    ⟨"MEM_SCRUB_STATUS", 0x58, 1, 0x0, false, .ro, 0xFFFFFFFF, [], 0x0, .other, false⟩,
    ⟨"MEM_SCRUB_SUM", 0x60, 1, 0x0, true, .ro, 0xFFFFFFFFFFFFFFFF, [], 0x0, .other, false⟩ ]

/-- The memDie table (R484). -/
def memDieTable : RegTable := ⟨0x0E, 0x200, 100, false, memDieRows0 ++ memDieRows1⟩

/-- The memDev table (R487). -/
def memDevTable : RegTable := ⟨0x0E, 0x300, 1, false,
  [ ⟨"MEM_DEV_STATUS", 0x0, 1, 0x0, false, .ro, 0xFFFFFFFF, [], 0x0, .other, false⟩,
    ⟨"MEM_DEV_FILL_US", 0x4, 1, 0x0, false, .ro, 0xFFFFFFFF, [], 0x0, .other, false⟩,
    ⟨"MEM_DEV_POISON_COMMITS", 0x8, 1, 0x0, false, .ro, 0xFFFFFFFF, [], 0x0, .other, false⟩ ]⟩

def pwrRows0 : List RegRow :=
  [ ⟨"PWR_STATUS", 0x0, 1, 0x0, false, .ro, 0xFFFFFFFF, [], 0x0, .other, false⟩,
    ⟨"PWR_CAP_W", 0x4, 1, 0x0, false, .rw, 0xFFF, [⟨11, 0, 1200, 3000, 1⟩], 0xA28, .privileged, false⟩,
    ⟨"PWR_INPUT_W", 0x8, 1, 0x0, false, .ro, 0xFFFFFFFF, [], 0x0, .other, false⟩,
    ⟨"PWR_STORAGE_W", 0xC, 1, 0x0, false, .ro, 0xFFFFFFFF, [], 0x0, .other, false⟩,
    ⟨"PWR_CAP_CEIL", 0x10, 1, 0x0, false, .ro, 0xFFFFFFFF, [], 0x4B0, .other, false⟩,
    ⟨"PWR_DERATE_DEV", 0x14, 1, 0x0, false, .rw, 0x1FF, [⟨8, 0, 0, 500, 25⟩], 0x0, .privileged, false⟩,
    ⟨"PWR_PS_CTL", 0x18, 1, 0x0, false, .rw, 0xF, [], 0xF, .privileged, false⟩,
    ⟨"PWR_PS_IDLE_MS", 0x1C, 3, 0x4, false, .rw, 0xFFFFFF, [], 0x0, .privileged, false⟩,
    ⟨"PWR_PS_EXIT_US", 0x28, 1, 0x0, true, .ro, 0xFFFFFFFFFFFFFFFF, [], 0x4E2007D00032, .other, false⟩,
    ⟨"PWR_PS_RESIDENCY", 0x30, 4, 0x8, true, .ro, 0xFFFFFFFFFFFFFFFF, [], 0x0, .other, false⟩,
    ⟨"PWR_THERM_CTL", 0x50, 1, 0x0, false, .rw, 0xFFFF, [⟨7, 0, 85, 105, 1⟩, ⟨15, 8, 85, 100, 1⟩], 0x5F64, .privileged, false⟩,
    ⟨"PWR_SUP_STATUS", 0x54, 1, 0x0, false, .ro, 0xFFFFFFFF, [], 0x0, .other, false⟩ ]

def pwrRows1 : List RegRow :=
  [ ⟨"PWR_SUP_CTL", 0x58, 1, 0x0, false, .rw, 0x1, [], 0x1, .privileged, false⟩,
    ⟨"PWR_SWITCHOVERS", 0x5C, 1, 0x0, false, .ro, 0xFFFFFFFF, [], 0x0, .other, false⟩,
    ⟨"PWR_HOLDUP", 0x60, 1, 0x0, false, .ro, 0xFFFFFFFF, [], 0x0, .other, false⟩,
    ⟨"PWR_COOLANT", 0x64, 1, 0x0, false, .ro, 0xFFFFFFFF, [], 0x0, .other, false⟩,
    ⟨"PWR_HINTS_HOIST", 0x68, 1, 0x0, false, .ro, 0xFFFFFFFF, [], 0x0, .other, false⟩,
    ⟨"PWR_HINTS_REEF", 0x6C, 1, 0x0, false, .ro, 0xFFFFFFFF, [], 0x0, .other, false⟩,
    ⟨"PWR_HINTS_LATE", 0x70, 1, 0x0, false, .ro, 0xFFFFFFFF, [], 0x0, .other, false⟩,
    ⟨"PWR_HINTS_IGNORED", 0x74, 1, 0x0, false, .ro, 0xFFFFFFFF, [], 0x0, .other, false⟩,
    ⟨"PWR_THERM_TRIPS", 0x78, 1, 0x0, false, .ro, 0xFFFFFFFF, [], 0x0, .other, false⟩,
    ⟨"PWR_INPUT_PEAK_W", 0x7C, 1, 0x0, false, .ro, 0xFFFFFFFF, [], 0x0, .other, false⟩,
    ⟨"PWR_ENERGY_J", 0x80, 1, 0x0, true, .ro, 0xFFFFFFFFFFFFFFFF, [], 0x0, .other, false⟩,
    ⟨"PWR_CNT_CLR", 0x88, 1, 0x0, false, .wo, 0xFFFFFFFF, [], 0x0, .privileged, false⟩ ]

/-- The pwr table (R519). -/
def pwrTable : RegTable := ⟨0x0F, 0x300, 1, false, pwrRows0 ++ pwrRows1⟩

/-- The pwrCore table (R520). -/
def pwrCoreTable : RegTable := ⟨0x0F, 0x0, 400, false,
  [ ⟨"PWR_CORE_FMAX_FACTORY", 0x0, 1, 0x0, false, .ro, 0xFFFFFFFF, [], 0x0, .core, false⟩,
    ⟨"PWR_CORE_FMAX_AGED", 0x4, 1, 0x0, false, .ro, 0xFFFFFFFF, [], 0x0, .core, false⟩,
    ⟨"PWR_CORE_DERATE", 0x8, 1, 0x0, false, .rw, 0x1FF, [⟨8, 0, 0, 500, 25⟩], 0x0, .core, false⟩,
    ⟨"PWR_CORE_FREQ", 0xC, 1, 0x0, false, .ro, 0xFFFFFFFF, [], 0x0, .core, false⟩,
    ⟨"PWR_CORE_VOLT", 0x10, 1, 0x0, false, .ro, 0xFFFFFFFF, [], 0x0, .core, false⟩,
    ⟨"PWR_CORE_TEMP", 0x14, 1, 0x0, false, .ro, 0xFFFFFFFF, [], 0x0, .core, false⟩,
    ⟨"PWR_CORE_DROOP_EVENTS", 0x18, 1, 0x0, false, .ro, 0xFFFFFFFF, [], 0x0, .core, false⟩ ]⟩

/-- The pwrDie table (R520). -/
def pwrDieTable : RegTable := ⟨0x0F, 0x200, 100, false,
  [ ⟨"PWR_DIE_TEMP", 0x0, 1, 0x0, false, .ro, 0xFFFFFFFF, [], 0x0, .other, false⟩,
    ⟨"PWR_DIE_W", 0x4, 1, 0x0, false, .ro, 0xFFFFFFFF, [], 0x0, .other, false⟩,
    ⟨"PWR_CAL_SEL", 0x8, 1, 0x0, false, .rw, 0x1F, [], 0x0, .privileged, false⟩,
    ⟨"PWR_CAL_FACTORY", 0xC, 1, 0x0, false, .ro, 0xFFFFFFFF, [], 0x0, .other, false⟩,
    ⟨"PWR_CAL_OVERLAY", 0x10, 1, 0x0, false, .rw, 0x7F, [], 0x0, .privileged, false⟩ ]⟩

def avlRows0 : List RegRow :=
  [ ⟨"AVL_STATUS", 0x0, 1, 0x0, false, .ro, 0xFFFFFFFF, [], 0x0, .other, false⟩,
    ⟨"AVL_ROT_CTL", 0x4, 1, 0x0, false, .rwl, 0x1FFF, [⟨12, 1, 60, 3600, 1⟩], 0x4B1, .privileged, false⟩,
    ⟨"AVL_ROT_POS", 0x8, 1, 0x0, false, .ro, 0xFFFFFFFF, [], 0x0, .other, false⟩,
    ⟨"AVL_ROT_CYCLES", 0xC, 1, 0x0, false, .ro, 0xFFFFFFFF, [], 0x0, .other, false⟩,
    ⟨"AVL_FENCE_LO", 0x10, 1, 0x0, true, .ro, 0xFFFFFFFFFFFFFFFF, [], 0x0, .other, false⟩,
    ⟨"AVL_FENCE_HI", 0x18, 1, 0x0, true, .ro, 0xFFFFFFFFFFFFFFFF, [], 0x0, .other, false⟩,
    ⟨"AVL_CAPACITY", 0x20, 1, 0x0, true, .ro, 0xFFFFFFFFFFFFFFFF, [], 0x0, .other, false⟩,
    ⟨"AVL_FAILOVERS", 0x28, 1, 0x0, false, .ro, 0xFFFFFFFF, [], 0x0, .other, false⟩,
    ⟨"AVL_LAST_FAILOVER_US", 0x2C, 1, 0x0, false, .ro, 0xFFFFFFFF, [], 0x0, .other, false⟩,
    ⟨"AVL_SWAP", 0x30, 1, 0x0, false, .wo, 0xFFFFFFFF, [], 0x0, .privileged, false⟩,
    ⟨"AVL_ST_CTL", 0x34, 1, 0x0, false, .rw, 0x1FFFF, [⟨15, 0, 24, 2160, 1⟩], 0x2D0, .privileged, false⟩,
    ⟨"AVL_ST_START_MS", 0x38, 1, 0x0, false, .ro, 0xFFFFFFFF, [], 0x0, .other, false⟩ ]

def avlRows1 : List RegRow :=
  [ ⟨"AVL_CNT_CLR", 0x3C, 1, 0x0, false, .wo, 0xFFFFFFFF, [], 0x0, .privileged, false⟩ ]

/-- The avl table (R550). -/
def avlTable : RegTable := ⟨0x10, 0x0, 1, false, avlRows0 ++ avlRows1⟩

/-- The avlDie table (R551). -/
def avlDieTable : RegTable := ⟨0x10, 0x100, 100, false,
  [ ⟨"AVL_DIE_STATUS", 0x0, 1, 0x0, false, .ro, 0xFFFFFFFF, [], 0x0, .other, false⟩,
    ⟨"AVL_DIE_FENCE_TIME", 0x8, 1, 0x0, true, .ro, 0xFFFFFFFFFFFFFFFF, [], 0x0, .other, false⟩,
    ⟨"AVL_ST_SEL", 0x10, 1, 0x0, false, .rw, 0x3F, [⟨5, 0, 0, 37, 1⟩], 0x0, .privileged, false⟩,
    ⟨"AVL_ST_RECORD", 0x18, 1, 0x0, true, .ro, 0xFFFFFFFFFFFFFFFF, [], 0x0, .other, false⟩,
    ⟨"AVL_ST_RUN", 0x20, 1, 0x0, false, .wo, 0xFFFFFFFF, [], 0x0, .privileged, false⟩,
    ⟨"AVL_ST_FAILS", 0x24, 1, 0x0, false, .ro, 0xFFFFFFFF, [], 0x0, .other, false⟩ ]⟩

/-- The avlCore table (R551). -/
def avlCoreTable : RegTable := ⟨0x10, 0x400, 400, false,
  [ ⟨"AVL_CORE_ROT", 0x0, 1, 0x0, false, .ro, 0xFFFFFFFF, [], 0x0, .core, false⟩,
    ⟨"AVL_CORE_STRESS", 0x4, 1, 0x0, false, .ro, 0xFFFFFFFF, [], 0x0, .core, false⟩,
    ⟨"AVL_CORE_ST", 0x8, 1, 0x0, true, .ro, 0xFFFFFFFFFFFFFFFF, [], 0x0, .core, false⟩ ]⟩

def secRows0 : List RegRow :=
  [ ⟨"SEC_STATUS", 0x0, 1, 0x0, false, .ro, 0xFFFFFFFF, [], 0x0, .other, false⟩,
    ⟨"SEC_CMD", 0x4, 1, 0x0, false, .wo, 0xFFFFFFFF, [], 0x0, .secret, false⟩,
    ⟨"SEC_ARG_ADDR", 0x8, 1, 0x0, true, .rw, 0xFFFFFFFFFFFFFFFF, [], 0x0, .secret, false⟩,
    ⟨"SEC_ARG_LEN", 0x10, 1, 0x0, false, .rw, 0xFFFFFFFF, [⟨31, 0, 0, 67108864, 1⟩], 0x0, .secret, false⟩,
    ⟨"SEC_LAST_RESULT", 0x14, 1, 0x0, false, .ro, 0xFFFFFFFF, [], 0x0, .other, false⟩,
    ⟨"SEC_DBG_EXPIRY", 0x18, 1, 0x0, false, .ro, 0xFFFFFFFF, [], 0x0, .other, false⟩,
    ⟨"SEC_NONCE", 0x20, 16, 0x4, false, .ro, 0xFFFFFFFF, [], 0x0, .other, false⟩,
    ⟨"SEC_FW_SVN", 0x60, 1, 0x0, false, .ro, 0xFFFFFFFF, [], 0x0, .other, false⟩,
    ⟨"SEC_FW_VERSION", 0x64, 1, 0x0, false, .ro, 0xFFFFFFFF, [], 0x0, .other, false⟩,
    ⟨"SEC_KEK_EPOCH", 0x68, 1, 0x0, false, .ro, 0xFFFFFFFF, [], 0x0, .other, false⟩,
    ⟨"SEC_NS_KEYS", 0x6C, 1, 0x0, false, .ro, 0xFFFFFFFF, [], 0x0, .other, false⟩,
    ⟨"SEC_SERIAL", 0x70, 1, 0x0, true, .ro, 0xFFFFFFFFFFFFFFFF, [], 0x0, .other, false⟩ ]

def secRows1 : List RegRow :=
  [ ⟨"SEC_TAMPER_COUNT", 0x78, 1, 0x0, false, .ro, 0xFFFFFFFF, [], 0x0, .other, false⟩,
    ⟨"SEC_UNLOCK_FAILS", 0x7C, 1, 0x0, false, .ro, 0xFFFFFFFF, [], 0x0, .other, false⟩,
    ⟨"SEC_CNT_CLR", 0x80, 1, 0x0, false, .wo, 0xFFFFFFFF, [], 0x0, .privileged, false⟩ ]

/-- The sec table (R580). -/
def secTable : RegTable := ⟨0x11, 0x0, 1, false, secRows0 ++ secRows1⟩

/-- The sb table (R599). -/
def sbTable : RegTable := ⟨0x12, 0x0, 1, false,
  [ ⟨"SB_STATUS", 0x0, 1, 0x0, false, .ro, 0xFFFFFFFF, [], 0x0, .other, false⟩,
    ⟨"SB_ALERT", 0x4, 1, 0x0, false, .rw1c, 0x3F, [], 0x0, .other, false⟩,
    ⟨"SB_ALERT_MASK", 0x8, 1, 0x0, false, .rw, 0x3F, [], 0x0, .privileged, false⟩,
    ⟨"SB_FAULT_MASK", 0xC, 1, 0x0, false, .rw, 0x3F, [], 0x1F, .privileged, false⟩,
    ⟨"SB_LED_CTL", 0x10, 1, 0x0, false, .rw, 0x1, [], 0x0, .other, false⟩,
    ⟨"SB_PERST_COUNT", 0x14, 1, 0x0, false, .ro, 0xFFFFFFFF, [], 0x0, .other, false⟩,
    ⟨"SB_SHUTDOWN_COUNT", 0x18, 1, 0x0, false, .ro, 0xFFFFFFFF, [], 0x0, .other, false⟩ ]⟩

/-- The secDie table (R581). -/
def secDieTable : RegTable := ⟨0x11, 0x200, 100, false,
  [ ⟨"SEC_DIE_TAMPER", 0x0, 1, 0x0, false, .rw1c, 0xF, [], 0x0, .other, true⟩,
    ⟨"SEC_DIE_ROT", 0x4, 1, 0x0, false, .ro, 0xFFFFFFFF, [], 0x0, .other, true⟩ ]⟩

/-- The tables of each block (R3). -/
def regTables : Nat → List RegTable
  | 0x01 => [stayTable, stayPortTable]
  | 0x02 => [coreTable]
  | 0x03 => [engTable]
  | 0x04 => [qntTable]
  | 0x05 => [tltTable, holdTable]
  | 0x06 => [tierTable, tierHsTable, tierJobTable]
  | 0x07 => [jobTable, batchUnitTable, jobDevTable]
  | 0x08 => [tklJobTable, tklShardTable, tklRedTable, tklAdderTable, tklUpdTable, tklDevTable]
  | 0x09 => [embTable, embUnitTable, embDevTable]
  | 0x0A => [srchTable, srchDevTable]
  | 0x0B => [mediaChTable, mediaDieTable, mediaLunTable]
  | 0x0C => [ftlTable, ftlGrpTable, ftlDevTable]
  | 0x0D => [hifLdTable, hifPortTable]
  | 0x0E => [memCoreTable, memDieTable, memDevTable]
  | 0x0F => [pwrTable, pwrCoreTable, pwrDieTable]
  | 0x10 => [avlTable, avlDieTable, avlCoreTable]
  | 0x11 => [secTable, secDieTable]
  | 0x12 => [sbTable]
  | _ => []

end Sys2Proof.Machine
end

