-- ==== Sys2Proof/Machine/Map.lean ====
section
/-! DEFINITION. Sparse maps as plain data: a list of key and value pairs in one canonical form (keys strictly rising,
no entry equal to what an unlisted key reads as), so that equal maps are equal lists. Memory bytes, poison marks and
every numbered piece of state are held so. -/

namespace Sys2Proof.Machine

/-- A sparse map from numbers. -/
abbrev NMap (α : Type) := List (Nat × α)

/-- What key `k` reads as; `d` is what an unlisted key reads as. -/
def nget {α : Type} (d : α) : NMap α → Nat → α
  | [], _ => d
  | (k', v) :: m, k => if k' = k then v else nget d m k

/-- An entry placed before the first entry of a larger key. -/
def ninsert {α : Type} (k : Nat) (v : α) : NMap α → NMap α
  | [] => [(k, v)]
  | (k', v') :: m => if k < k' then (k, v) :: (k', v') :: m else (k', v') :: ninsert k v m

/-- The map in which `k` reads `v`: canonical when the map is. -/
def nset {α : Type} [DecidableEq α] (d : α) (m : NMap α) (k : Nat) (v : α) : NMap α :=
  let rest := m.filter (fun e => !(e.1 == k))
  if v = d then rest else ninsert k v rest

/-- Every key of the map lies above `b`, the keys rise, and no entry equals what its key would read as unlisted. -/
def nabove {α : Type} [DecidableEq α] (d : Nat → α) (b : Nat) : NMap α → Bool
  | [] => true
  | (k, v) :: m => decide (b < k) && decide (v ≠ d k) && nabove d k m

/-- The canonical form of a map whose unlisted key `k` reads `d k`. -/
def nwf {α : Type} [DecidableEq α] (d : Nat → α) : NMap α → Bool
  | [] => true
  | (k, v) :: m => decide (v ≠ d k) && nabove d k m

/-- The bits `hi` to `lo` of a number. -/
def bits (n hi lo : Nat) : Nat := n / 2 ^ lo % 2 ^ (hi + 1 - lo)

/-- Bit `i` of a number. -/
def bit (n i : Nat) : Bool := n / 2 ^ i % 2 == 1

/-- `n` with the bits `hi` to `lo` replaced by those of `v`. -/
def setBits (n hi lo v : Nat) : Nat :=
  n / 2 ^ (hi + 1) * 2 ^ (hi + 1) + v % 2 ^ (hi + 1 - lo) * 2 ^ lo + n % 2 ^ lo

/-- The number a Boolean stands for in a field. -/
def b2n (b : Bool) : Nat := if b then 1 else 0

/-- A value put into a list that is sorted by `le`, before the values that are not below it. -/
def insertBy {α : Type} (le : α → α → Bool) (x : α) : List α → List α
  | [] => [x]
  | y :: l => if le x y then x :: y :: l else y :: insertBy le x l

/-- A list sorted by `le`; values that are equal under it keep their order. -/
def sortBy {α : Type} (le : α → α → Bool) (l : List α) : List α := l.foldr (insertBy le) []

/-- Numbers in rising order. -/
def rising (l : List Nat) : List Nat := sortBy (fun a b => decide (a ≤ b)) l

/-- The number that bytes spell, the first byte lowest. -/
def leNat : List Byte → Nat
  | [] => 0
  | b :: bs => b.toNat + 256 * leNat bs

/-- The `n` low bytes of a number, the lowest first. -/
def natLe : Nat → Nat → List Byte
  | 0, _ => []
  | n + 1, v => BitVec.ofNat 8 v :: natLe n (v / 256)

/-- The signed value of the low `w` bits of `n`. -/
def signed (w n : Nat) : Int := if n % 2 ^ w < 2 ^ (w - 1) then (n % 2 ^ w : Nat) else (n % 2 ^ w : Nat) - (2 ^ w : Nat)

/-- The numbers from `a` to `a + n - 1`. -/
def rangeFrom (a n : Nat) : List Nat := (List.range n).map (a + ·)

/-- The quotient rounded up. -/
def ceilDiv (a b : Nat) : Nat := (a + b - 1) / b

/-- The bits set in the low `n` bits of `v`. -/
def popCount : Nat → Nat → Nat
  | 0, _ => 0
  | n + 1, v => v % 2 + popCount n (v / 2)

/-- The positions of the bits set in the low `n` bits of `v`, rising. -/
def bitList (n v : Nat) : List Nat := (List.range n).filter (bit v)

end Sys2Proof.Machine
end

