-- ==== Sys2Proof/Syntax.lean ====
section
/-! DEFINITION. The commands of the PF384-L2, one constructor for each row of spec/opcode_table.json, in the
table's order, with the operand types they carry. -/

namespace Sys2Proof

/-- A Ryern command as the mailbox slot that carries it (R422, R425): the logical device and mailbox it came
through, and the 64 bytes of the slot, byte `n` at bits `8n` to `8n + 7`. -/
structure Cmd where
  ld : Nat
  mb : Nat
  slot : BitVec 512
  deriving DecidableEq, Repr

/-- The path by which a register access reaches the device (R4, R144, R418, R419, R566, R576). -/
inductive Path where
  | bar (ld : Nat)       -- BAR0 of a logical device (R419)
  | ryern (ld : Nat)     -- REG_READ or REG_WRITE of a logical device (R440)
  | fabric               -- the fabric-manager path (R418)
  | monitor              -- the Wesko monitor (R576)
  | core (c : Nat)       -- kernel code of a core, through its core-local register window (R144)
  deriving DecidableEq, Repr

/-- A packet of the stay fabric as a unit sends or receives it: the head fields of R41, the body bytes (sixteen for
each body flit) and the ordinals of the body flits that carry the poison mark (R39). -/
structure Packet where
  typ : Nat
  vc : Nat
  cls : Nat
  dstDie : Nat
  dstUnit : Nat
  srcDie : Nat
  srcUnit : Nat
  hops : Nat
  len : Nat
  job : Nat
  jobV : Bool
  spec : Bool
  specEng : Nat
  specEpoch : Nat
  addr : Nat
  tag : Nat
  lastBytes : Nat
  notify : Bool
  ackReq : Bool
  rsp : Nat
  body : List Byte
  poison : List Nat
  deriving DecidableEq, Repr

/-- What a decoder finds in a received flit or a read word (R458). -/
inductive Ecc where
  | clean
  | corrected
  | uncorrectable
  | poison
  deriving DecidableEq, Repr

/-- The packet a TRUNC notice names (R68), with its type, VC and SPEC bit. -/
structure Trunc where
  typ : Nat
  vc : Nat
  spec : Bool
  srcDie : Nat
  srcUnit : Nat
  dstDie : Nat
  dstUnit : Nat
  tag : Nat
  specEng : Nat
  specEpoch : Nat
  deriving DecidableEq, Repr

/-- A message of the CXL FM API on the fabric-manager path (R597, R415, R418). -/
inductive FmMsg where
  | bind (ld units : Nat)
  | unbind (ld : Nat)
  | admin (ld : Nat)
  | regRead (addr : Nat) (wide : Bool)
  | regWrite (addr : Nat) (wide : Bool) (value : BitVec 64)
  | other (opcode : Nat)
  deriving DecidableEq, Repr

/-- One candidate of a search: item ID and fp32 distance (R324), and whether it came from the side list. -/
structure Hit where
  id : Nat
  dist : BitVec 32
  side : Bool
  deriving DecidableEq, Repr

/-- What a core's kernel leaves for the coordinator at its end (R327, R329): the re-ranked graph candidates of a query, and the
prefetches that it discarded. Empty for a kernel of a DISPATCH. -/
structure KernelResult where
  hits : List Hit
  wasted : Nat
  deriving DecidableEq, Repr

/-- One record that the apply phase of an INDEX_FOLD writes (R335): the item, its code, and its neighbour list. -/
structure FoldRecord where
  id : Nat
  code : List Byte
  nbrs : List Nat
  deriving DecidableEq, Repr

/-- A NAND operation that a channel dispatcher can issue (R365, R366). -/
inductive NandOp where
  | read (cls : Nat)
  | program (cls quad wl : Nat) (slc : Bool)
  | erase (quad : Nat) (slc : Bool)
  deriving DecidableEq, Repr

/-- How the flow of a relocated code word is described when its program ends (R387): the band and entry it maps, the
tag KIND (R383), the WSN, the new location and, for copies, the old one. -/
structure GroupCw where
  band : Nat
  unit : Nat
  kind : Nat
  wsn : Nat
  newLoc : Nat
  oldLoc : Nat
  deriving DecidableEq, Repr

/-- A signed token as the device parsed it (R569). -/
structure Token where
  bytes : List Byte
  deriving DecidableEq, Repr

/-- The commands and events of the device: one constructor for each row of spec/opcode_table.json. -/
inductive Instr where
  -- Ryern commands
  | nop (c : Cmd)
  | read (c : Cmd)
  | write (c : Cmd)
  | discard (c : Cmd)
  | secureDiscard (c : Cmd)
  | nsCreate (c : Cmd)
  | nsDelete (c : Cmd)
  | nsFormat (c : Cmd)
  | nsAccess (c : Cmd)
  | nsInfo (c : Cmd)
  | regRead (c : Cmd)
  | regWrite (c : Cmd)
  | registerWrite (p : Path) (addr : Nat) (wide : Bool) (value : BitVec 64)
  | timeAnchor (c : Cmd)
  | timeAnchorMgmt (die : Nat) (utc : Nat)
  | hostRegister (c : Cmd)
  | hostDeregister (c : Cmd)
  | powerHint (c : Cmd)
  | powerState (c : Cmd)
  | jobOpen (c : Cmd)
  | jobClose (c : Cmd)
  | routeWrite (c : Cmd)
  | dispatch (c : Cmd)
  | shardOpen (c : Cmd)
  | shardClose (c : Cmd)
  | reduceOpen (c : Cmd)
  | rankDone (c : Cmd)
  | reduceCommit (c : Cmd)
  | checkpoint (c : Cmd)
  | embOpen (c : Cmd)
  | embClose (c : Cmd)
  | gather (c : Cmd)
  | gatherPrefetch (c : Cmd)
  | embUpdate (c : Cmd)
  | place (c : Cmd)
  | unplace (c : Cmd)
  | srchOpen (c : Cmd)
  | srchClose (c : Cmd)
  | search (c : Cmd)
  | vecInsert (c : Cmd)
  | vecDelete (c : Cmd)
  | indexFold (c : Cmd)
  | mediaRawRead (c : Cmd) (step : Nat)
  | mediaRawProgram (c : Cmd) (fail : Bool)
  | mediaRawErase (c : Cmd) (fail : Bool)
  | quadGrant (p : Path) (ord : Nat) (value : BitVec 32)
  | quadRelease (p : Path) (ord : Nat) (value : BitVec 32)
  -- mailboxes and the command pipeline
  | mbSqTail (ld mb : Nat) (value : BitVec 32)
  | mbCqHead (ld mb : Nat) (value : BitVec 32)
  | mbEnable (ld mb : Nat) (value : BitVec 32)
  | queueReset (ld mb : Nat) (value : BitVec 32)
  | queueResetEnd (ld mb : Nat)
  | functionLevelReset (ld : Nat)
  | commandFetch (ld mb : Nat)
  | commandAdmit (ld mb : Nat)
  | commandExecutionStart (n : Nat)
  | admitDeadlineExpiry (n : Nat)
  | completionWrite (n : Nat) (linkOk : Bool)
  | interruptCoalesceTimeout (ld mb : Nat) (linkOk : Bool)
  | hostDmaReject (n : Nat) (hreg offset done : Nat)
  | ldBind (ld units : Nat)
  | ldUnbind (ld : Nat)
  | adminLdDesignate (ld : Nat)
  | cxlMemWrite (ld offset : Nat) (data : List Byte)
  | cxlMemRead (ld offset count : Nat)
  | identifyMemoryDevice (ld : Nat)
  | getSupportedLogs (ld : Nat)
  | getLog (ld : Nat)
  | getHealthInfo (ld : Nat)
  | getEventRecords (ld : Nat)
  | clearEventRecords (ld : Nat)
  -- SPDM on the DOE mailbox
  | getVersion (ld : Nat)
  | getCapabilities (ld : Nat)
  | negotiateAlgorithms (ld : Nat) (baseAsym baseHash : Nat)
  | getDigests (ld : Nat)
  | getCertificate (ld slot offset length : Nat)
  | challenge (ld slot : Nat) (nonce : BitVec 256)
  | getMeasurements (ld index : Nat) (signed : Bool) (nonce : BitVec 256)
  | chunkGet (ld handle seq : Nat)
  | spdmUnsupportedRequest (ld code : Nat)
  -- management transport
  | mctpControlMessage (setEid : Option Nat)
  | fmApiMessage (m : FmMsg)
  | mctpUnsupportedType (typ : Nat)
  -- stay fabric
  | flitReceive (die port : Nat) (head : BitVec 128) (body : Nat) (ecc : Ecc)
  | linkNak (die port seq : Nat)
  | linkRetrain (die port : Nat)
  | handshakeTimeout (die port : Nat)
  | failNotice (die port : Nat)
  | routeTableWrite (die : Nat) (entries : List (Nat × Nat))
  | truncNotice (t : Trunc)
  | fenceNotice (die fenced : Nat)
  | hopEpochEnd (die out vc : Nat)
  | writePacket (p : Packet)
  | readReq (p : Packet) (bad : List Nat)
  | readResp (p : Packet)
  | writeAck (p : Packet)
  | media (p : Packet)
  | reg (p : Packet)
  | clean (p : Packet)
  | reopen (p : Packet)
  | reopenAck (p : Packet)
  | releaseAck (p : Packet)
  | squashFrom (p : Packet)
  -- cores: unit instructions
  | unitInstructionPlace (core : Nat) (i : BitVec 128)
  | wload (core : Nat) (i : BitVec 128)
  | mac (core : Nat) (i : BitVec 128)
  | drain (core : Nat) (i : BitVec 128)
  | add (core : Nat) (i : BitVec 128) (residueOk : Bool)
  | sub (core : Nat) (i : BitVec 128) (residueOk : Bool)
  | mul (core : Nat) (i : BitVec 128) (residueOk : Bool)
  | fma (core : Nat) (i : BitVec 128) (residueOk : Bool)
  | max (core : Nat) (i : BitVec 128) (residueOk : Bool)
  | min (core : Nat) (i : BitVec 128) (residueOk : Bool)
  | abs (core : Nat) (i : BitVec 128) (residueOk : Bool)
  | exp (core : Nat) (i : BitVec 128) (residueOk : Bool)
  | recip (core : Nat) (i : BitVec 128) (residueOk : Bool)
  | rsqrt (core : Nat) (i : BitVec 128) (residueOk : Bool)
  | sigmoid (core : Nat) (i : BitVec 128) (residueOk : Bool)
  | siluMul (core : Nat) (i : BitVec 128) (residueOk : Bool)
  | cvt (core : Nat) (i : BitVec 128) (residueOk : Bool)
  | rsum (core : Nat) (i : BitVec 128) (residueOk : Bool)
  | rmax (core : Nat) (i : BitVec 128) (residueOk : Bool)
  | absmax (core : Nat) (i : BitVec 128) (residueOk : Bool)
  | copy (core : Nat) (i : BitVec 128)
  | put (core : Nat) (i : BitVec 128)
  | get (core : Nat) (i : BitVec 128)
  | ckpt (core : Nat) (i : BitVec 128)
  | fence (core : Nat) (i : BitVec 128)
  | post (core : Nat) (i : BitVec 128)
  | hint (core : Nat) (i : BitVec 128)
  | endKernel (core : Nat) (i : BitVec 128)
  | unitInstructionComplete (core seq : Nat)
  | rowGate (eng : Nat)
  | verdictIssue (eng : Nat) (twinOk : Bool)
  | sequencerMismatch (core : Nat)
  | epochCommit (core : Nat)
  | holdTimeout (die idx : Nat)
  | kernelEndReport (core : Nat) (r : KernelResult)
  -- placement, batching and tasks
  | sliceFetchIssue (ord : Nat)
  | stagingMove (ord slot : Nat)
  | recordRoute (seq : Nat)
  | batchTimerExpiry (ord job slot : Nat)
  | taskGive (ord job : Nat)
  | workSteal (ord job : Nat)
  | outputCopyComplete (ord job slot : Nat)
  | barrierDispatchStart (seq : Nat)
  | paceInterval
  -- gradient reduction
  | tackleContext (p : Packet)
  | tackleCodes (p : Packet)
  | tackleStatistics (p : Packet)
  | reservationGrant (ord red : Nat)
  | reductionTimeout (red : Nat)
  | updatePhaseStart (red : Nat)
  | updatePhaseEnd (red : Nat)
  -- embedding tables and search
  | gatherRowRead (n : Nat) (row : Nat) (bad : Bool)
  | gatherReduce (n : Nat) (bag : Nat)
  | embApplyPhase (n : Nat)
  | bitmapBuildComplete (h slot : Nat)
  | sideBatchTimer (h : Nat)
  | foldApplyPhase (h : Nat) (recs : List FoldRecord)
  -- flash media
  | zqCalibrationShort (ch : Nat)
  | dqRetrain (ch : Nat)
  | nandOperationDispatch (lun : Nat) (op : NandOp)
  | eraseResume (lun : Nat)
  | arrayReadComplete (lun : Nat) (step : Nat)
  | programDataInEnd (lun : Nat)
  | programCheck (lun : Nat) (ok : Bool) (cws : List GroupCw)
  | eraseCheck (lun : Nat) (ok : Bool)
  | patrolRead (lun quad plane : Nat) (step : Nat)
  | blockRefresh (lun quad plane : Nat)
  -- flash translation
  | journalPageClose (ord : Nat)
  | quadProgress (ord : Nat) (die quad wls : Nat)
  | txnCommit (txn : Nat)
  | streamFlush (ord : Nat)
  | gcErase (grp t quad : Nat)
  -- memory integrity
  | mergeWriteOut (m : Nat) (stored : Ecc)
  | dramPatrol (ord : Nat) (corrected : List Nat) (bad : List Nat)
  | scrubStart (p : Path) (inst : Nat) (value : BitVec 32)
  | scrubAbort (p : Path) (inst : Nat) (value : BitVec 32)
  | scrubSummary (inst : Nat) (corrected : List Nat) (bad : List Nat)
  | laneRegionTest (eng : Nat) (pass : Bool)
  | secureScratchTest (die : Nat) (pass : Bool)
  | memCoreRet (p : Path) (core : Nat) (value : BitVec 32)
  -- power, supplies and thermal
  | feedLost (b : Bool) (volts : Nat)
  | feedGood (b : Bool) (volts : Nat)
  | feedReturn
  | holdupMeasure (cap ms : Nat)
  | shutdownRequest
  | capRecompute (storageW inputW : Nat)
  | hardwareLimiter (on : Bool)
  | pwrCapW (p : Path) (value : BitVec 32)
  | hoistStagingStart (core : Nat)
  | hintPhaseStart (core : Nat)
  | hintEnd (core : Nat)
  | droopEvent (core : Nat)
  | thermalTrip (die temp : Nat)
  | tripEnd
  | thermalThrottleStep (core temp : Nat)
  | throttleRecoverStep (core temp : Nat)
  | storageWarn (die temp : Nat)
  | storageHot (inst temp : Nat)
  | thermalShutdown (inst temp : Nat)
  | psIdleTimer (ps : Nat)
  | halfStackSleep (ord : Nat)
  | backgroundTaskWake
  | coolantAlarm (inletC flow : Nat)
  -- availability
  | heartbeat
  | hubTakeover (oldFailed : Bool)
  | mhcLockstepMismatch (die : Nat)
  | avlSwap (p : Path) (value : BitVec 32)
  | dieFirmwareSwitch (die : Nat)
  | dieFence (die cause : Nat)
  | avlStRun (p : Path) (die : Nat) (value : BitVec 32) (pass : Bool)
  | selftestAgeExpiry (die block : Nat) (pass : Bool)
  | rotationPeriod (results : List (Nat × Nat))
  | rotationRestart (p : Path) (value : BitVec 32)
  -- security
  | tamperEvent (die kinds : Nat)
  | nonce (p : Path)
  | unlock (p : Path) (t : Token)
  | lock (p : Path) (level : Nat)
  | lifecycle (p : Path) (t : Token)
  | fwStage (p : Path) (image : List Byte)
  | fwActivate (p : Path)
  | svnCommit (p : Path)
  | nonceExpiry
  | nonceRefusalEnd
  | debugExpiry
  -- the Wesko monitor
  | weskoId
  | weskoStatus
  | weskoNonce
  | weskoToken (n : Nat) (data : List Byte)
  | weskoUnlock
  | weskoLifecycle
  | weskoLock (level : Nat)
  | weskoLog (index : Nat)
  | weskoRr (addr : Nat)
  | weskoRw (addr : Nat) (value : BitVec 64)
  | weskoHalt (core : Nat)
  | weskoResume (core : Nat)
  | weskoMr (code inst addr count : Nat)
  | weskoMw (code inst addr : Nat) (data : BitVec 128)
  | weskoFuse
  | weskoTest
  -- pins
  | perstAssert (us : Nat)
  | perstRelease
  | prsntMate
  | prsntBreak
  -- register writes with a behaviour of their own
  | hifLdQos (p : Path) (ld : Nat) (value : BitVec 32)
  | stayCntClr (p : Path) (die : Nat) (value : BitVec 32)
  | qntCntClr (p : Path) (core : Nat) (value : BitVec 32)
  | tierCntClr (p : Path) (value : BitVec 32)
  | tierJobCntClr (p : Path) (job : Nat) (value : BitVec 32)
  | jobCntClr (p : Path) (job : Nat) (value : BitVec 32)
  | tklJobCntClr (p : Path) (job : Nat) (value : BitVec 32)
  | embHCntClr (p : Path) (h : Nat) (value : BitVec 32)
  | srchHCntClr (p : Path) (h : Nat) (value : BitVec 32)
  | mediaChCntClr (p : Path) (ch : Nat) (value : BitVec 32)
  | mediaDieCntClr (p : Path) (ord : Nat) (value : BitVec 32)
  | ftlCntClr (p : Path) (ord : Nat) (value : BitVec 32)
  | hifLdCntClr (p : Path) (ld : Nat) (value : BitVec 32)
  | memCoreCntClr (p : Path) (core : Nat) (value : BitVec 32)
  | memDieCntClr (p : Path) (die : Nat) (value : BitVec 32)
  | pwrCntClr (p : Path) (value : BitVec 32)
  | avlCntClr (p : Path) (value : BitVec 32)
  | secCntClr (p : Path) (value : BitVec 32)
  -- ends of transitions
  | linkRetrainEnd (die port : Nat) (ok : Bool) (lane : Option Nat)
  | eraseSuspendReady (lun : Nat)
  | linkL0 (rate lanes : Nat) (lopt : Bool)
  | portFailure
  | storageWarnEnd (die : Nat)
  | storageHotEnd
  | mhcRestartEnd (die : Nat)
  | voltageRampEnd (core : Nat)
  | standbyPhyTest (pass : Bool)
  | dynamicAddressAssign (addr : Nat)
  | handoverTrainingEnd (ord : Nat)
  | psTransitionEnd
  deriving DecidableEq, Repr

end Sys2Proof
end

