-- ==== Sys2Proof/Machine/State.lean ====
section
/-! DEFINITION. The state of the PF384-L2 as plain data, the reasons a step stops, and the state after reset. Every
register of the register tables has its one home in `Device.regs`; what the spec keeps beside the registers stands in
the structures below, chapter by chapter. -/

namespace Sys2Proof.Machine

/-! ## Time, log and what leaves the device -/

/-- The timestamp counter of one MAST die, the ns it has run for, its anchor and its record numbering (R30 to R33). -/
structure MastClock where
  counter : Nat := 0
  ran : Nat := 0
  anchored : Bool := false
  anchorUtc : Nat := 0
  anchorAt : Nat := 0
  generation : Nat := 0
  seq : Nat := 0
  deriving DecidableEq, Repr

/-- One record of the error-log ring (R453): its log index, its 32 bytes, and the one LD that sees it, if not all do. -/
structure LogRecord where
  index : Nat
  bytes : List Byte
  viewer : Option Nat
  deriving DecidableEq, Repr

/-- What the device has sent to the outside: interrupts (R421, R429), CXL.mem answers (R416), management answers
(R414, R556, R597) and monitor lines (R576). -/
inductive Output where
  | msix (ld vector : Nat)
  | memWritten (ld offset : Nat) (ok : Bool)
  | memData (ld offset : Nat) (data : List Byte) (poison : List Nat)
  | memDev (ld status : Nat) (data : List Byte)
  | spdm (ld code : Nat) (data : List Byte)
  | mctp (typ code : Nat) (data : List Byte)
  | line (ok : Bool) (status : Nat) (data : List Byte)
  deriving DecidableEq, Repr

/-! ## Mailboxes and the command pipeline (chapter 13) -/

/-- A doorbell whose slots are still pending: how many slots it made pending and have not been fetched, when it arrived, the
time for which every admission had been in use by then (R446), and the number of CXL.mem requests before it (R417). -/
structure Bell where
  slots : Nat
  at_ : Nat
  full : Nat
  mem : Nat
  deriving DecidableEq, Repr

/-- One Ryern mailbox of one LD (R419, R420, R422); the completions whose interrupt is pending, and since when (R429). -/
structure Mailbox where
  sqHead : Nat := 0
  tail : Nat := 0
  cqTail : Nat := 0
  cqHead : Nat := 0
  unread : Nat := 0
  phase : Bool := true
  enabled : Bool := false
  resetting : Bool := false
  fault : Bool := false
  cqBase : Nat := 0
  ctl : Nat := 0
  bells : List Bell := []
  intPending : Nat := 0
  intSince : Nat := 0
  deriving DecidableEq, Repr

/-- How far a command has come (R423 to R427). -/
inductive Phase where
  | fetched | admitted | started | ended
  deriving DecidableEq, Repr

/-- One command that has been fetched and whose completion entry has not been written: its serial number in order of
fetching, its slot, the times of R427, what its doorbell recorded, the time each delay reason has held it (R428), its place in the order of
admission (0: not admitted), its outcome, and what its admission took down: a parameter block with whether it was poisoned (R260),
whether a rank was not done (R263), and the snapshot of a SEARCH (R333). -/
structure Pending where
  n : Nat
  ld : Nat
  mb : Nat
  slot : BitVec 512
  phase : Phase
  arrival : Nat
  full : Nat
  mem : Nat
  held : Option (Nat × Nat)
  waits : List (Nat × Nat)
  ran : Bool
  order : Nat
  started : Nat
  status : Nat
  reason : Nat
  result : Nat
  resultHi : Nat
  cut : Bool
  silent : Bool
  block : Option (List Byte × Bool) := none
  late : Option Bool := none
  snap : Option Nat := none
  wsns : List (Nat × Nat × Nat) := []
  deriving DecidableEq, Repr

/-- One logical device as the port keeps it (R415, R419, R438), and the mailboxes that fetched and were admitted from last (R424). -/
structure LdState where
  intCause : Nat := 0
  intMask : Nat := 0
  elogSel : Nat := 0
  window : List Nat := []
  hregs : NMap (Option (Nat × Nat × Nat)) := []
  fetchMb : Nat := 63
  admitMb : Nat := 63
  deriving DecidableEq, Repr

/-- A CXL.mem request under way (R416): its number in order of arrival, LD, window offset, bytes, and whether it
writes. -/
structure MemReq where
  n : Nat
  ld : Nat
  off : Nat
  bytes : Nat
  write : Bool
  deriving DecidableEq, Repr

/-- The host interface: mailboxes keyed `ld * 64 + mb` (their slots stand in
the mailbox SRAM, memory code 7 of die 42, mirrored), LDs, and host memory
keyed `ld * 2^64 + address`; the time for which every admission has been in use, and since when it is (R446); whether
admissions are scarce, and the LD whose turn it is with what is left of its quantum (R445); CXL.mem requests
under way; the LD whose turn the device's own CXL.io transfers are, with the bytes left of its quantum (R447). -/
structure HostIf where
  mbs : NMap Mailbox := []
  lds : NMap LdState := []
  hostMem : List Host.Cell := []
  admin : Nat := 0
  next : Nat := 0
  orders : Nat := 0
  fullNs : Nat := 0
  fullFrom : Option Nat := none
  scarce : Bool := false
  turn : Nat := 0
  left : Nat := 0
  reqs : List MemReq := []
  nextReq : Nat := 0
  dmaTurn : Nat := 15
  dmaLeft : Nat := 0
  deriving DecidableEq, Repr

/-! ## The stay fabric (chapter 02) -/

/-- A flit in a router: its link sequence number once a port has sent it, the head of its packet, its ordinal in the packet (0 the
head), whether it stands for the later flits of its packet too (a packet that a unit has injected, or the poison that completes one,
R68), whether it is sent again (2) or was held (1) after its port failed (R66, R67), and the input and class it came from. -/
structure Flit where
  seq : Nat := 0
  head : Word128
  ord : Nat
  rest : Bool := false
  again : Nat := 0
  inp : Nat := 4
  cls : Nat := 0
  deriving DecidableEq, Repr

/-- The routers. Route entries keyed `die * 128 + destination` (R49), and those that no class-1 route backs (R69).
Input buffers keyed `((die * 8 + input) * 4 + vc) * 2 + class`, input 4 the local one (R55); by input buffer the packet that arrives and
its next ordinal (R40), the head of a packet whose flits are dropped, where the packet at its front goes, as output and class, and for how
many flits of its VC it has waited (R63). Outputs are keyed `die * 32 + port`, ports 8 to 23 the units of the local port: by output, VC
and class the packet part-way across, as input and class, head and next ordinal (R55); the input and whether it has its quantum, and the
deficits (R60); the turn among VCs 0, 1 and 3 with what is left of it, and the flits since the last of VC2 (R59).
Links are keyed `die * 8 + port`, ports 4 and 5 the mirror stays: flits sent and not acknowledged, sequence numbers, consecutive replays,
the flit that the receiver has refused (R58), and the spare lanes of a mirror stay. Share counts keyed `((die * 8 + output) * 4 + vc) * 8 +
input` (R61, R63); the flits of an epoch. Heads of the packets on their way; packets that were truncated, as they were sent (R68); the
entries still to be written by die, and the dies that hold packets for a failed port (R66); flits of response space that units have
reserved, keyed `die * 16 + unit` (R56). -/
structure Fabric where
  route : NMap Nat := []
  noYx : List Nat := []
  bufs : NMap (List Flit) := []
  arriving : NMap (Option (Word128 × Nat)) := []
  dropping : NMap (Option Word128) := []
  course : NMap (Option (Nat × Nat)) := []
  waited : NMap Nat := []
  worms : NMap (Option (Nat × Word128 × Nat)) := []
  turn : NMap (Nat × Bool) := []
  deficit : NMap Nat := []
  vcTurn : NMap (Nat × Nat) := []
  since2 : NMap Nat := []
  replay : NMap (List Flit) := []
  linkSeq : NMap Nat := []
  replays : NMap (Nat × Nat) := []
  nak : NMap (Option Nat) := []
  spares : NMap Nat := []
  granted : NMap Nat := []
  outFlits : NMap Nat := []
  hopNow : NMap Nat := []
  hopLast : NMap Nat := []
  weight : NMap Nat := []
  maxWait : NMap Nat := []
  epochAt : NMap Nat := []
  fly : List Word128 := []
  cut : List Packet := []
  reroute : List (Nat × List (Nat × Nat × Bool)) := []
  holding : List Nat := []
  reserved : NMap Nat := []
  deriving DecidableEq, Repr

/-! ## Engines and cores (chapters 03, 04 and 05) -/

/-- The MACs since the last INIT on an engine: whether they are one checked accumulation group (R154), the row and
token ranges, and the format class (R156). -/
structure Group where
  checked : Bool := false
  rowFirst : Nat := 0
  rowCount : Nat := 0
  tokFirst : Nat := 0
  tokCount : Nat := 0
  cls : Nat := 0
  deriving DecidableEq, Repr

/-- What a WLOAD left in a lane-register bank (R101, R154). -/
structure Tile where
  wfmt : Nat := 0
  rowFirst : Nat := 0
  rowCount : Nat := 0
  deriving DecidableEq, Repr

/-- One DRAIN that awaits its verdict (R161, R162): its physical and logical engine, its site, and the result of its sum check: the
first failing slot with its C and S. -/
structure DrainCheck where
  eng : Nat
  logical : Nat
  epoch : Nat
  ordinal : Nat
  checked : Bool
  sumFail : Option (Nat × F32 × F32)
  deriving DecidableEq, Repr

/-- One engine (R75 to R77, R135, R152, R153). Accumulators and latch entries are keyed `slot * 128 + row`; `served` is the logical
engine whose instruction it took last (R182). The generator `lfsr` is loaded at kernel entry (R129) and holds 0 until the first one
(log entry 154). -/
structure Engine where
  active : Nat := 0
  tiles : NMap Tile := []
  acc : NMap F32 := []
  accPoison : NMap Bool := []
  latch : NMap F32 := []
  latchPoison : NMap Bool := []
  tsum : NMap F32 := []
  tsumLatch : NMap F32 := []
  csum : NMap F32 := []
  steps : NMap Nat := []
  group : Group := {}
  lfsr : BitVec 32 := 0
  region : Nat := 0
  standIn : List Nat := []
  retireNext : Bool := false
  served : Option Nat := none
  deriving DecidableEq, Repr

/-- One unit instruction on the scoreboard (R97, R98). -/
structure Placed where
  seq : Nat
  instr : Word128
  queue : Nat
  epoch : Nat
  issued : Bool
  deriving DecidableEq, Repr

/-- One open epoch (R113, R114, R163, R168): its number, whether it is closed, the DRAINs whose verdict is not clean
yet, how many DRAINs and other checks it has had, its consumer bitmap as `die * 16 + unit`, and the unreleased inputs that it had
consumed when it closed, as producer and epoch. -/
structure Epoch where
  num : Nat
  closed : Bool
  awaiting : Nat
  checks : Nat
  consumers : List Nat
  inputs : List (Nat × Nat)
  deriving DecidableEq, Repr

/-- One NOTIFY arrival in an exchange bank (R93, R112, R115): its number, its semaphore, and the core and epoch of an
unverified producer. -/
structure Arrival where
  n : Nat
  sem : Nat
  producer : Option (Nat × Nat)
  deriving DecidableEq, Repr

/-- One entry of the checkpoint store (R112): `arrivals` is the number of the first arrival after it. -/
structure Checkpoint where
  epoch : Nat
  iaddr : Nat
  sregs : NMap Nat
  sems : List Nat
  arrivals : Nat
  deriving DecidableEq, Repr

/-- One entry of the dependency table (R167): the epochs of the unreleased arrivals, LOCAL, CLEANED, and the epoch of each unreleased
arrival that has landed, for the count of R176. -/
structure Dep where
  epochs : List Nat := []
  loc : Nat := 0
  cleaned : Option Nat := none
  landed : List Nat := []
  deriving DecidableEq, Repr

/-- One failing attempt at a site (R179 to R182, R186): the physical engine (0xFE the vector unit, 0xFF the sequencer), CHECK, the
failing slot, C and S. -/
structure Attempt where
  eng : Nat
  check : Nat
  slot : Nat
  c : F32
  s : F32
  deriving DecidableEq, Repr

/-- A failure site (R179): its epoch, the ordinal of its check there, whether the check is a DRAIN's (0), the vector unit's (2) or the
sequencer's (3), and its failing attempts. -/
structure Site where
  epoch : Nat
  ordinal : Nat
  kind : Nat
  tries : List Attempt
  deriving DecidableEq, Repr

/-- A DMA instruction in progress: its place on the scoreboard, its outstanding requests by tag (R56, R108). -/
structure DmaReq where
  tag : Nat
  seq : Nat
  die : Nat
  unit : Nat
  raddr : Nat
  laddr : Nat
  bytes : Nat
  read : Bool
  probe : Bool
  sent : Bool
  deriving DecidableEq, Repr

/-- One core beside its registers, memories and engines (R96 to R99, R112 to R115, R167, R168, R174 to R176). `atSync` is the SYNC
instruction that the sequencer waits at before it executes it (R109), `ckptWait` the CKPT that waits for an epoch (R113), `halting` that a HALT waits for queued instructions (R575), `ending` the END
that waits for the open epochs. The generator `vlfsr` is loaded at kernel entry (R129) and holds 0 until the first one (log entry
154). -/
structure Core where
  sregs : NMap Nat := []
  iaddr : Nat := 0
  board : List Placed := []
  nextSeq : Nat := 0
  ckpts : List Checkpoint := []
  epochs : List Epoch := []
  arrivals : List Arrival := []
  nextArrival : Nat := 0
  deps : NMap Dep := []
  shut : NMap (Option Nat) := []
  drains : List DrainCheck := []
  sites : List Site := []
  dma : List DmaReq := []
  nextTag : Nat := 0
  reopenWait : List (Nat × Nat) := []
  releaseWait : List (Nat × Nat) := []
  atSync : Option Word128 := none
  ckptWait : Option Word128 := none
  halting : Bool := false
  ending : Option Word128 := none
  ended : Bool := false
  vlfsr : BitVec 32 := 0
  deriving DecidableEq, Repr

/-- A write that a hold buffer holds (R169), or one that waits for its space (R171). -/
structure HeldWrite where
  pkt : Packet
  since : Nat
  deriving DecidableEq, Repr

/-- The hold buffer of one die (R166, R169 to R171, R176): held writes in order of arrival, requests that wait, and, keyed
`core * 16 + unit`, the epochs from which on it discards a producer's arrivals until REOPEN, and the highest epoch that the
producer has reported CLEAN. -/
structure HoldBuf where
  held : List HeldWrite := []
  waiting : List HeldWrite := []
  shut : NMap (Option Nat) := []
  cleaned : NMap (Option Nat) := []
  deriving DecidableEq, Repr

/-! ## Memories (chapter 14) -/

/-- One merge-buffer entry (R462): its memory code, instance and word, the valid bytes, and when it was last written. -/
structure Merge where
  mem : Nat
  inst : Nat
  word : Nat
  bytes : NMap (Option Byte)
  at_ : Nat
  deriving DecidableEq, Repr

/-- The memories (R460): bytes keyed by memory code, instance and address, poison marks of 16-byte words, merge
entries, the times of the corrected reads of DRAM rows and the repaired rows (R471), the region each hub die's secure
scratch test has reached and the regions it has moved (R479), the target, base and length of the scrub passes that run by
MEM instance (R475), and the slices that a poisoned word makes not resident once their holds end (R469). -/
structure Memory where
  bytes : List Host.Cell := []
  poison : NMap Bool := []
  merge : List Merge := []
  rowHits : NMap (List Nat) := []
  repaired : List Nat := []
  secRegion : NMap Nat := []
  secMoved : NMap (List Nat) := []
  scrubs : NMap (Option (Nat × Nat × Nat)) := []
  spoiled : List Nat := []
  deriving DecidableEq, Repr

/-! ## Tiers and placement (chapter 06) -/

/-- A run of pool pages of one half-stack that are not free (R190, R192): pages, attribute (1 pinned, 2 reserved, 3 cached), the key of
the slice that stands in it, and, for pages set aside and not in use, the object they are set aside for. -/
structure PageRun where
  count : Nat
  kind : Nat
  slice : Option Nat
  owner : Option Nat
  deriving DecidableEq, Repr

/-- A placed object (R193 to R195, R210): its PLACE fields, DIE_MASK among them, the ordinals its slices live on, the window slots with their
layers and whether the layer has been held, the commands that hold or want a layer, and since when they
want it (R206), the slices homed again after a loss as number and ordinal, and whether a pinned slice is lost (R538). -/
structure Obj where
  policy : Nat
  pin : Bool
  job : Option Nat
  window : Nat
  layers : Nat
  srcKind : Nat
  nsid : Nat
  hreg : Nat
  workset : Nat
  srcOffset : Nat
  layerBytes : Nat
  sliceBytes : Nat
  mask : Nat
  ords : List Nat
  scratch : Nat
  slots : List (Nat × Bool)
  lastLayer : Nat
  layerHolds : List (Nat × Nat)
  wants : List (Nat × Nat)
  wantAt : List (Nat × Nat)
  placing : Option Nat
  teardown : Option Nat
  flush : Bool
  moved : List (Nat × Nat)
  lost : Bool
  deriving DecidableEq, Repr

/-- One slice that the pool knows of (R193, R198 to R202): its half-stack, first page when it has one, bytes loaded so
far, the commands that hold it, whether it counts as cached, since when, whether kernels wrote it, and whether it was
evicted before. -/
structure Slice where
  hs : Nat
  page : Option Nat
  loaded : Nat
  bytes : Nat
  holds : List Nat
  cached : Bool
  since : Nat
  dirty : Bool
  evicted : Bool
  stallFrom : Option Nat
  deriving DecidableEq, Repr

/-- A landing slot in use (R189): the slice, the offset in it, the bytes of the read, and those that have landed. -/
structure Landing where
  slice : Nat
  offset : Nat
  bytes : Nat
  landed : Nat
  deriving DecidableEq, Repr

/-- A slice that waits to be read (R198, R204), with the job the load is made for. -/
structure Load where
  slice : Nat
  job : Option Nat
  blocked : Option Nat
  deriving DecidableEq, Repr

/-- The placement engine: page runs keyed `ordinal * 12288 + first page`, objects keyed `ld * 65536 + OBJ_ID`, slices
keyed `(object * 4096 + layer) * 2^32 + slice`, landing slots keyed `die * 32 + slot`, and the loads that wait. -/
structure Tier where
  pages : NMap (Option PageRun) := []
  objs : NMap (Option Obj) := []
  slices : NMap (Option Slice) := []
  landing : NMap (Option Landing) := []
  loads : List Load := []
  deriving DecidableEq, Repr

/-- One namespace (R435 to R437): kind (0 block, 1 object, 2 table, 3 index), owner, access mask, size in bytes, the
serial number of its key (0: not encrypted, R562), the ATTR bytes 32 to 63, BAND_BASE (R377), the command that tears it
down, whether by secure discard, and whether its units have been discarded. -/
structure Ns where
  kind : Nat
  owner : Nat
  access : Nat
  size : Nat
  key : Nat
  attr : List Byte
  bandBase : Nat
  teardown : Option Nat
  secure : Bool
  clearing : Bool
  deriving DecidableEq, Repr

/-! ## Jobs, batches and tasks (chapter 07) -/

/-- An open job (R221 to R227): the fields of JOB_OPEN, the partition, the pages of its router table, image and batch
areas as ordinal and first page, the cores that hold the image, the turn pointers of R230 by entry index, the bytes of
its PIN_SCRATCH objects, and the JOB_OPEN or JOB_CLOSE that waits. -/
structure Job where
  dieMask : Nat
  coreSel : Nat
  nsid : Nat
  imgBytes : Nat
  imgOff : Nat
  entry : Nat
  layers : Nat
  experts : Nat
  rowBytes : Nat
  outBytes : Nat
  cores : List Nat
  tableHs : Nat
  tablePage : Nat
  imgPage : Nat
  areas : List (Nat × Nat)
  areaPages : Nat
  slotBytes : Nat
  slots : Nat
  loaded : List Nat
  turns : NMap Nat
  scratch : Nat
  opening : Option Nat
  closer : Option Nat
  deriving DecidableEq, Repr

/-- One record of a DISPATCH (R232), with the replica that the dispatcher chose for it (R230). -/
structure Rec where
  actRow : Nat
  outRow : Nat
  layer : Nat
  expert : Nat
  gate : Nat
  obj : Nat
  objLayer : Nat
  slice : Nat
  deriving DecidableEq, Repr

/-- An open DISPATCH (R231 to R236, R244, R245, R264): its command and admission number, its fields, its records, how many
have been routed, those that wait for a slot as the time they began to and their index, how many have completed, and whether it has
been cut, has met a rejected DMA, and may route. -/
structure Disp where
  n : Nat
  seq : Nat
  ld : Nat
  job : Nat
  pass : Nat
  fmt : Nat
  actScale : Nat
  outScale : Nat
  flush : Bool
  barrier : Bool
  src : Option Nat
  actAddr : Nat
  outAddr : Nat
  rank : Nat
  step : Nat
  recs : List Rec
  routed : Nat
  waiting : List (Nat × Nat)
  done : Nat
  lost : Nat
  cut : Bool
  reject : Bool
  go : Bool
  goFrom : Nat
  deriving DecidableEq, Repr

/-- A batch, from its first record to the end of its output copy (R235 to R242): its key, die, slot, the records in its token
slots as DISPATCH number and index, when it opened and its timer, and how far it has come: 0 open, 1 queued, 2 running,
3 copying. -/
structure Batch where
  id : Nat
  job : Nat
  key : List Nat
  hs : Nat
  slot : Nat
  entries : List (Nat × Nat)
  opened : Nat
  timer : Nat
  st : Nat
  timed : Bool
  taskSeq : Nat
  deriving DecidableEq, Repr

/-- A task that waits on a queue (R238, R327, R330, R335): its job, the ordinal it is queued on (none: any die of the job),
its kind (0 batch, 1 query, 2 side scan, 3 fold), the batch, query, side batch or handle it is for, since when, and, for
a PASS 2 batch, since when it waits for a reservation and whether one is granted (R266). -/
structure QTask where
  job : Nat
  ord : Option Nat
  kind : Nat
  ref : Nat
  since : Nat
  resvFrom : Option Nat
  deriving DecidableEq, Repr

/-- What a core runs: the kind and references of its task or run, its job, the ordinal it was queued on, and since when
(R238, R241, R266). -/
structure Task where
  kind : Nat
  refs : List Nat
  job : Nat
  ord : Nat
  since : Nat
  deriving DecidableEq, Repr

/-- The dispatcher, the batch units and their tasks: jobs by ID, open DISPATCHes in order of admission, batches, queued
tasks in order of release, tasks by core, TASK_SEQ by ordinal (R239), since when a core is idle, and the records
completed in the present pace interval by job (R246), the PIN_SCRATCH objects still to be written, as core and object
(R197), when the present or last reset began and when it ends, with the faults it has absorbed (R247, R250), the admission and what is
left of the turn of the DISPATCH whose records are routed (R233), since when records of a job wait for a slot, and up to when the
open spells of a job have been counted (R246). -/
structure Work where
  jobs : NMap (Option Job) := []
  disps : List Disp := []
  nextSeq : Nat := 0
  batches : List Batch := []
  nextBatch : Nat := 0
  queue : List QTask := []
  tasks : NMap (Option Task) := []
  taskSeq : NMap Nat := []
  idleFrom : NMap (Option Nat) := []
  pace : NMap Nat := []
  scratchDue : List (Nat × Nat) := []
  resetAt : Nat := 0
  resetEnd : Nat := 0
  resetFaults : List (Nat × Nat) := []
  turnOrder : Nat := 0
  turnLeft : Nat := 0
  slotFrom : NMap (Option Nat) := []
  timed : NMap Nat := []
  deriving DecidableEq, Repr

/-! ## Gradient reduction (chapter 08) -/

/-- An open shard (R255 to R258, R284): its fields, and the commands that read it or wait to close it. SHAPE lists rows and
columns of each matrix. -/
structure Shard where
  job : Nat
  ld : Nat
  sfmt : Nat
  count : Nat
  gfirst : Nat
  objs : List Nat
  shape : List (Nat × Nat)
  gquiet : NMap Nat
  ckpts : List Nat
  closer : Option Nat
  deriving DecidableEq, Repr

/-- A reduction (R259 to R263, R272, R274, R276, R279): its fields and parameter block; the sum pages of each expert as ordinal
and page; the rank-buffer pages; the rank pointers by ordinal; the live reservations as core, ordinal and bytes left; the
commands that wait; its phase: 1 accumulating, 2 updating, 3 ended; and the status and result it ended with. -/
structure Red where
  job : Nat
  shard : Nat
  ranks : Nat
  step : Nat
  first : Nat
  count : Nat
  timeoutMs : Nat
  params : List Byte
  sums : List (Nat × Nat)
  bufs : List (Nat × Nat)
  bufBytes : Nat
  ptrs : NMap Nat
  resv : List (Nat × Nat × Nat)
  opened : Nat
  phase : Nat
  poisoned : Bool
  commit : Option Nat
  commitFrom : Option Nat
  rankDone : List (Nat × Nat)
  endStatus : Nat
  endResult : Nat
  deriving DecidableEq, Repr

/-- A contribution that an adder holds (R166, R272, R274): its ordinal, reduction, rank, source core, epoch of an unverified
producer, scale, first element, codes, poisoned body flits, whether it has been released, and, for a statistics write, matrix,
N, SAT and AMAX in place of codes. -/
structure Contrib where
  ord : Nat
  red : Nat
  rank : Nat
  core : Nat
  epoch : Option Nat
  scale : F32
  elem : Nat
  codes : List Byte
  poison : List Nat
  released : Bool
  stat : List Nat
  deriving DecidableEq, Repr

/-- The context an adder keeps for a source core (R269). -/
structure Context where
  red : Nat
  rank : Nat
  matrix : Nat
  step : Nat
  scale : F32
  late : Bool
  deriving DecidableEq, Repr

/-- An adder block between two contributions (R273, R278): the job whose turn it is, what is left to each job of its quantum,
and the ns until it is free. -/
structure Adder where
  turn : Nat := 0
  left : NMap Nat := []
  busy : Nat := 0
  deriving DecidableEq, Repr

/-- The Tackle sequencers and adders: shards and reductions by ID, the job and step of every reduction that has ended,
contexts keyed `ordinal * 512 + core`, contributions in order of release (those not yet released after them), the
generators of the update engines by ordinal, and the adders by ordinal. -/
structure Tackle where
  shards : NMap (Option Shard) := []
  reds : NMap (Option Red) := []
  past : List (Nat × Nat × Nat) := []
  ctxs : NMap (Option Context) := []
  contribs : List Contrib := []
  lfsr : NMap Nat := []
  adders : NMap Adder := []
  deriving DecidableEq, Repr

/-! ## Embedding tables (chapter 09) -/

/-- A cached row (R294): the row, its bytes, whether they are poisoned, the open commands that used it, and whether a
prefetch brought it and nothing has used it. -/
structure CachedRow where
  row : Nat
  bytes : List Byte
  poison : Bool
  users : List Nat
  prefetched : Bool
  deriving DecidableEq, Repr

/-- An open embedding handle (R292 to R295): its fields, the dies it had when its last command was admitted, its pages, and
its caches by ordinal, oldest row first. -/
structure EmbHandle where
  job : Nat
  ld : Nat
  nsid : Nat
  gatherMib : Nat
  cacheMib : Nat
  dies : List Nat
  areas : List (Nat × Nat)
  caches : NMap (List CachedRow)
  closer : Option Nat
  deriving DecidableEq, Repr

/-- A GATHER or EMB_UPDATE under way (R298 to R309): its fields, entries as row and weight, bag offsets, dies, the distinct
rows read so far with their bytes and poison, the bags written, and its phase: 0 waiting under R309, 1 reading rows, 2
reducing, 3 applying. -/
structure EmbCmd where
  n : Nat
  h : Nat
  update : Bool
  prefetch : Bool
  mean : Bool
  opt : Nat
  fmt : Nat
  entries : List (Nat × F32)
  offs : List Nat
  addr : Nat
  lr : F32
  eps : F32
  dies : List Nat
  rows : NMap (Option (List Byte × Bool))
  bags : List Nat
  poisoned : Bool
  fetched : Nat
  phase : Nat
  deriving DecidableEq, Repr

/-- The search and embedding coordinators' embedding side: handles and commands under way, and the round of each gather unit by
ordinal: its commands in turn, each with the pairs it may still have served (R303). -/
structure Emb where
  handles : NMap (Option EmbHandle) := []
  cmds : List EmbCmd := []
  rounds : NMap (List (Nat × Nat)) := []
  deriving DecidableEq, Repr

/-! ## Vector search (chapter 10) -/

/-- A filter bitmap slot (R325, R326): the term bytes, the generation it was built for, whether it is still being built
and since when, its last use, and the queries that use it. -/
structure Bitmap where
  terms : List Byte
  gen : Nat
  building : Bool
  since : Nat
  lastUse : Nat
  users : List Nat
  bits : List Byte
  deriving DecidableEq, Repr

/-- A side-list entry (R333, R334): its item, insert sequence number, vector record, and DEL_SEQ when deleted. -/
structure SideEntry where
  id : Nat
  seq : Nat
  vec : List Byte
  del : Option Nat
  deriving DecidableEq, Repr

/-- An open search handle (R318 to R320, R330, R333, R335): its fields and pages, the dies of its last command, bitmap slots,
side list, graph tombstones as item and DEL_SEQ, the open side batch and when it opened, the mutating commands in order,
the records of the one under way that wait to be durable, and the fold under way. -/
structure SrchHandle where
  job : Nat
  ld : Nat
  nsid : Nat
  slots : Nat
  sideUs : Nat
  areas : List (Nat × Nat × Nat)
  dies : List Nat
  bitmaps : NMap (Option Bitmap)
  side : List SideEntry
  tombs : List (Nat × Nat)
  batch : List Nat
  batchFrom : Nat
  mutating : List Nat
  fresh : List (Nat × List Byte)
  gone : List Nat
  folding : Option Nat
  foldSeq : Nat
  foldReady : Bool
  foldTxn : Nat
  folded : Nat
  applying : Bool
  closer : Option Nat
  deriving DecidableEq, Repr

/-- A query (R323 to R331, R335): its command and index, handle, snapshot, filter mode and bitmap slot, what its graph task
and its side batch have returned, the side list as it stood before a fold that has been applied meanwhile, and how far each is: `graph` 0 waits for a bitmap, 1 queued, 2 running, 3 done; `side`
0 none, 1 waiting, 2 running, 3 done. -/
structure Query where
  id : Nat
  n : Nat
  idx : Nat
  h : Nat
  snap : Nat
  mode : Nat
  slot : Option Nat
  graph : Nat
  side : Nat
  hits : List Hit
  nodes : Nat
  survivors : Nat
  sideHits : List Hit
  sideSeen : Nat
  sideFrom : Option Nat
  old : Option (List SideEntry) := none
  deriving DecidableEq, Repr

/-- A SEARCH under way: its fields, the queries still to answer, and those that came short. -/
structure SearchCmd where
  n : Nat
  h : Nat
  ld : Nat
  k : Nat
  left : Nat
  short : Nat
  answer : Nat
  terms : List Byte
  query : Nat
  stride : Nat
  deriving DecidableEq, Repr

/-- A released side batch: its handle, queries, and the dies whose scan has not ended (R330). -/
structure SideBatch where
  id : Nat
  h : Nat
  queries : List Nat
  dies : List Nat
  deriving DecidableEq, Repr

/-- A read that a core's search port has issued (R328): core, ring position, item, kind, the epoch its entry was written in,
and whether it has gone to a SHEAVE die. -/
structure PortReq where
  tag : Nat
  core : Nat
  slot : Nat
  item : Nat
  kind : Nat
  epoch : Nat
  sent : Bool
  deriving DecidableEq, Repr

/-- The search side of the coordinators: handles, commands, queries, side batches, the requests of the search ports, and by namespace
the side list and graph tombstones that a closed handle left (R314, R333). -/
structure Search where
  handles : NMap (Option SrchHandle) := []
  cmds : List SearchCmd := []
  queries : List Query := []
  nextQuery : Nat := 0
  sideBatches : List SideBatch := []
  nextBatch : Nat := 0
  ports : List PortReq := []
  kept : NMap (Option (List SideEntry × List (Nat × Nat))) := []
  nextTag : Nat := 0
  deriving DecidableEq, Repr

/-! ## Flash media (chapter 11) -/

/-- Where the data of a NAND read goes: unit `unit` of a READ command, a place in a landing slot, the write buffer as a
copy of a code word (R383), or the reconstruction of another read (R357). -/
inductive ReadDest where
  | cmd (n unit : Nat)
  | landing (die slot offset skip len : Nat)
  | copy (band unit wsn key : Nat)
  | member (id : Nat)
  deriving DecidableEq, Repr

/-- One read of a code word that a channel dispatcher has queued or issued (R365, R366): its serial number, SHEAVE
ordinal, map entry, class, destination, whether a LUN is serving it, and the member reads that its reconstruction
still waits for. -/
structure ReadReq where
  id : Nat
  ord : Nat
  loc : Nat
  cls : Nat
  dest : ReadDest
  busy : Bool
  recon : Option Nat
  deriving DecidableEq, Repr

/-- What a LUN is doing (R349, R353): a read by serial number; a program with its quad, word line and mode; an erase with
its quad, the mode it sets, the tBERS time run before the present spell, in ns, and the reads served in the window. -/
inductive LunJob where
  | read (id : Nat)
  | program (quad wl : Nat) (slc : Bool)
  | erase (quad : Nat) (slc : Bool) (ran served : Nat)
  deriving DecidableEq, Repr

/-- One LUN: its operation and when the present state began (R349, R353). -/
structure Lun where
  job : Option LunJob := none
  since : Nat := 0
  deriving DecidableEq, Repr

/-- A READ under way (R433, R434): the units it waits for, and the first that failed. -/
structure IoRead where
  n : Nat
  left : Nat
  moved : Nat
  firstBad : Option Nat
  deriving DecidableEq, Repr

/-- The media: LUNs by NAND die ID; queued reads; skip counters keyed `channel * 8 + class` (R366); erase-counter records
keyed `NAND die * 16384 + PBN` (R369); NEXT_WL of the raw-pool blocks, keyed likewise (R359, R360); refresh flags since the last
erase (R396); the ordinals at their storage-warn limit and those in the storage-hot response (R510); READs under way; the NAND dies
whose identification or training fails (R343); and by channel the temperature at the last training (R344). -/
structure Media where
  luns : NMap Lun := []
  reads : List ReadReq := []
  nextRead : Nat := 0
  skips : NMap Nat := []
  eclog : NMap Nat := []
  raw : NMap (Option Nat) := []
  flags : NMap Nat := []
  warm : List Nat := []
  hot : List Nat := []
  ios : List IoRead := []
  faulty : List Nat := []
  trained : NMap Nat := []
  deriving DecidableEq, Repr

/-! ## Flash translation (chapter 12) -/

/-- A code word as programmed (R346, R386): its data, the band, unit, KIND and WSN of its tag, and the namespace key
it is encrypted under, 0 for none (R562). -/
structure CodeWord where
  data : List Byte
  band : Nat
  unit : Nat
  kind : Nat
  wsn : Nat
  key : Nat
  deriving DecidableEq, Repr

/-- A code word in a write buffer (R349, R383, R387): the ordinal, the code word, the command and the transaction it
belongs to, the map entry a copy was taken from, whether it must go to SLC, the place it has been given, and whether its
group is DONE. A parity code word names its place from the start (R382). -/
structure BufCw where
  ord : Nat
  cw : CodeWord
  cmd : Option Nat
  txn : Nat
  old : Option Nat
  slc : Bool
  loc : Option Nat
  done : Bool
  deriving DecidableEq, Repr

/-- One superquad (R380): 0 free, 1 open, 2 closed, 3 victim of GC, 4 waiting for its erase, 5 raw pool; SLC; use (0
host, 1 relocation, 2 log, 3 system); order of closing; word lines whose parity is DONE; code words copied out of a victim. -/
structure SuperQuad where
  st : Nat := 0
  slc : Bool := false
  use : Nat := 0
  closed : Nat := 0
  parity : Nat := 0
  copied : Nat := 0
  deriving DecidableEq, Repr

/-- One journal record (R388): serial number, WSN, the WSN of the write or discard it carries (R387), type, flags, TXN bytes, payload, the page it was closed into, and the
copies of that page that are DONE. `cmd` waits for it to be durable. -/
structure JRec where
  n : Nat
  wsn : Nat
  change : Nat
  typ : Nat
  flags : Nat
  txn : Nat
  payload : List Byte
  page : Option Nat
  copies : Nat
  cmd : Option Nat
  deriving DecidableEq, Repr

/-- A map entry as it stands in the map or in the durable journal: its location in the form of R378, the WSN of the change
that set it, and whether its data is lost with two members of its stripe (R410). -/
structure MapEntry where
  loc : Nat := 0xFFFFFFFF
  wsn : Nat := 0
  lost : Bool := false
  deriving DecidableEq, Repr

/-- A transaction over SHEAVE dies (R391): participants, the prepares that are durable, and whether it has committed. -/
structure Txn where
  id : Nat
  parts : List Nat
  prepared : List Nat
  committed : Bool
  cmd : Nat
  deriving DecidableEq, Repr

/-- A secure discard under way (R404): the command, and the quads still to be erased as `NAND die * 4096 + quad`. -/
structure SecureReq where
  n : Nat
  quads : List Nat
  deriving DecidableEq, Repr

/-- A row or record of the row log or a side log (R386, R401, R402): band, row or item, WSN, and its bytes. -/
structure LogRow where
  band : Nat
  row : Nat
  wsn : Nat
  bytes : List Byte
  durable : Bool
  deriving DecidableEq, Repr

/-- The FTLs of the 56 ordinals: band table (255 unassigned), map and durable map keyed
`band * 1024 + unit`; write buffers; NAND contents keyed `ordinal * 2^32 + location`; journals by ordinal; superquads keyed
`(group * 32 + local die) * 4096 + quad`; NEXT_WL keyed `NAND die * 4096 + quad`; copy filters keyed likewise; pins
keyed `band * 16 + position`; row log and side log by ordinal; transactions; GC credit by group; the erases that are
ordered, as NAND die, quad, SLC; secure discards; WRITEs that wait for GC credit; the start WSN of the last complete checkpoint
cycle, and of the one under way, with whether its directory has been written; the groups in which GC runs; the blocks flagged for
refresh as NAND die and PBN; the planes by which the offsets of a quad decode, as a mask (R378); the merges of a band's rows whose LOG_TRIM is due, with the WSN through which it
trims (R401); where the copies of a map page stand, keyed `ordinal * 2^27 + page`, with the WSN of the first; and the root records of an
ordinal, keyed `ordinal * 2` for local NAND die 0 and one more for die 16: number, directory, journal head (R390). -/
structure Ftl where
  bands : NMap Nat := []
  map : NMap MapEntry := []
  durable : NMap MapEntry := []
  buf : List BufCw := []
  nand : NMap (Option CodeWord) := []
  journal : NMap (List JRec) := []
  nextRec : Nat := 0
  squads : NMap SuperQuad := []
  closes : Nat := 0
  nextWl : NMap Nat := []
  progress : NMap Nat := []
  filters : NMap Nat := []
  pins : NMap (List Nat) := []
  rowLog : NMap (List LogRow) := []
  sideLog : NMap (List LogRow) := []
  txns : List Txn := []
  credit : NMap Nat := []
  erases : List (Nat × Nat × Bool) := []
  secure : List SecureReq := []
  waitCredit : List (Nat × Nat) := []
  nextKey : Nat := 1
  ckpt : NMap Nat := []
  cycle : NMap (Option (Nat × Bool)) := []
  gcOn : List Nat := []
  flagged : List (Nat × Nat) := []
  quadPlanes : NMap Nat := []
  trims : List (Nat × Nat) := []
  pageAt : NMap (Nat × List Nat) := []
  roots : NMap (Nat × Nat × Nat) := []
  deriving DecidableEq, Repr

/-! ## Power (chapter 15) -/

/-- A hint for one core (R504 to R508): its number in order of receipt, the core, whether it is a HOIST, its class, when its
phase starts, its DURATION_US, when it ends once its phase has started, whether a SYNC HINT issued it, whether its voltage is
staged, and whether its phase has started. -/
structure Hint where
  n : Nat
  core : Nat
  hoist : Bool
  cls : Nat
  start : Nat
  dur : Nat
  stop : Option Nat
  sync : Bool
  staged : Bool
  started : Bool
  deriving DecidableEq, Repr

/-- What the power manager keeps beside its registers: hints; the class measured on a core (R500); thermal limits, and when they last took a step (R510); overlays
keyed `die * 32 + index` (R512); the half-stacks awake in PS3 (R517); the power state that a transition leads to, and the
POWER_STATE that waits for it (R513); when the power state began; the last recomputation and the last rise of the ceiling
(R501); by command, until when slow running has been counted (R502); the hardware limiter (R502); whether a junction holds the
trip (R511); and the input energy in units of 100 µs · W. -/
structure Power where
  hints : List Hint := []
  nextHint : Nat := 0
  measured : NMap Nat := []
  thermal : NMap Nat := []
  stepAt : NMap (Option Nat) := []
  overlays : NMap Nat := []
  awake : List Nat := []
  target : Nat := 0
  waiting : Option Nat := none
  since : Nat := 0
  capAt : Nat := 0
  lastRise : Nat := 0
  slow : NMap Nat := []
  limiter : Bool := false
  junction : Bool := false
  energy : Nat := 0
  deriving DecidableEq, Repr

/-- The sled (R490, R494, R495, R584, R594): whether PRSNT_N is mated; whether the device is in service (0), quiesced (1),
unpowered (2) or off until a power cycle (3); whether it has started up since power-on (R472); and the powered time of earlier
power-ons in ns (R498). -/
structure Sled where
  mated : Bool := true
  stage : Nat := 0
  up : Bool := false
  poweredNs : Nat := 0
  deriving DecidableEq, Repr

/-! ## Availability (chapter 16) -/

/-- What availability keeps beside its registers: the cores awaiting rotation (R222, R547), the cores whose self-test at
shutdown is running (R543), the half-stacks whose new controllers train (R537), the test records keyed `die * 64 + block` (R551),
how far a firmware update is (R529: 0 none, 1 the standby restarts, 2 the roles swap, 3 the old active die restarts, 4 the only
hub die restarts), the hub dies whose MHC restarts, the firmware bank of each die (R530), and when the active hub die last sent a
heartbeat (R525); the fused records that the dies answer with where they differ from their own (R35), keyed by die, and the dies that do not
answer. -/
structure Avail where
  awaiting : List Nat := []
  testing : List Nat := []
  training : List Nat := []
  tests : NMap Nat := []
  update : Nat := 0
  restarting : List Nat := []
  banks : NMap Nat := []
  beat : Nat := 0
  fused : NMap Nat := []
  silent : List Nat := []
  deriving DecidableEq, Repr

/-! ## Security (chapter 17) -/

/-- A lifecycle transition under way (R571): the state it leads to, the signer and the source, the owner's key it installs, the
command that requested it, and the state it leaves. -/
structure Transition where
  goal : Nat
  signer : Nat
  source : Nat
  owner : List Byte
  cmd : Option Nat
  old : Nat
  deriving DecidableEq, Repr

/-- What the root of trust keeps beside its registers: when the current nonce was issued (R568), token failures since NONCE was last
refused, and since when it is (R569); the owner's public key and the lifecycle entries (R553, R570); the token lines that the
monitor has loaded (R576); the staged image (R560); when the debug level ends (R574); the times of tamper events (R578);
whether the SHEAVE key slots are empty; the transition under way; whether FW_ACTIVATE runs, and the command that asked for it
(R567). -/
structure Sec where
  nonceAt : Option Nat := none
  fails : Nat := 0
  refuseFrom : Option Nat := none
  owner : List Byte := []
  token : NMap (List Byte) := []
  staged : List Byte := []
  debugEnd : Option Nat := none
  tampers : List Nat := []
  slotsEmpty : Bool := false
  going : Option Transition := none
  activating : Bool := false
  activator : Option Nat := none
  deriving DecidableEq, Repr

/-! ## Why a step stops -/

/-- A fault of the device. None of its commands stops it: the spec answers, logs or counts every error. -/
inductive Fault where
  /-- An access that no memory of R460 answers. Raised by no meaning. Safe. -/
  | outsideMemory
  deriving DecidableEq, Repr

/-- Why a step has no next state. -/
inductive Refusal where
  /-- Raised by an arm of `exec` whose command has no meaning yet. Safe. -/
  | notModelled (mnemonic : String)
  /-- The event names a die, port, core, engine, channel, LUN or other unit outside the ranges of R22: no such event
  can happen. Raised by every meaning that carries an identifier. Safe. -/
  | noSuchUnit
  deriving DecidableEq, Repr

/-! ## The state -/

/-- The device without the queue of commands. `free` is the model's own count of the free values used so far; `net` holds the packets
that units have sent and that have not been received, `counted` by address when a counter that time fills was last read (R118), `faults` the job faults that cores have reported and that the reset of the
compute plane has not answered yet, as core and cause. -/
structure Device where
  free : Nat := 0
  clocks : NMap MastClock := []
  regs : NMap Nat := []
  counted : NMap Nat := []
  log : List LogRecord := []
  logNext : Nat := 0
  net : List Packet := []
  out : List Output := []
  hif : HostIf := {}
  cmds : List Pending := []
  fab : Fabric := {}
  engines : NMap Engine := []
  cores : NMap Core := []
  holds : NMap HoldBuf := []
  mem : Memory := {}
  faults : List (Nat × Nat) := []
  tier : Tier := {}
  nss : NMap (Option Ns) := []
  work : Work := {}
  tkl : Tackle := {}
  emb : Emb := {}
  srch : Search := {}
  media : Media := {}
  ftl : Ftl := {}
  pwr : Power := {}
  sled : Sled := {}
  avl : Avail := {}
  sec : Sec := {}
  deriving DecidableEq, Repr

/-- The state: the device, and the queue of commands that wait, first in, first out. -/
structure State extends Device where
  pending : List Instr := []
  deriving DecidableEq, Repr

/-- The device right after reset: every register at its reset value (an empty register map reads the tables' reset
values), every memory filled with zeros (R472), nothing sent and nothing waiting. -/
def State.reset : State := {}

end Sys2Proof.Machine
end

