-- ==== Sys2Proof/Machine/Regs.lean ====
section
/-! DEFINITION. Registers: addresses (R2, R3), reset values, reading, writing and counting. The one home of every
register of the register space is `Device.regs`, keyed by its address. -/

namespace Sys2Proof.Machine

/-- The kind of a die by its position (R8): 0 SHEAVE, 1 SPAR, 2 MAST, as STAY_INFO codes it. -/
def dieKind (d : Nat) : Nat :=
  if 3 ≤ d % 10 ∧ d % 10 ≤ 6 then 1 else if d = 42 ∨ d = 52 ∨ d = 47 ∨ d = 57 then 2 else 0

/-- The SPAR ordinal of a die in columns 3 to 6 (R22). -/
def sparOrd (d : Nat) : Nat := d / 10 * 4 + (d % 10 - 3)

/-- The die of a SPAR ordinal (R22). -/
def sparDie (o : Nat) : Nat := o / 4 * 10 + 3 + o % 4

/-- The SHEAVE ordinal of a die: its rank among the SHEAVE dies in die-ID order (R22). -/
def sheaveOrd (d : Nat) : Nat := ((List.range d).filter (fun e => dieKind e = 0)).length

/-- The die of a SHEAVE ordinal (R22). -/
def sheaveDie (o : Nat) : Nat := ((List.range 100).filter (fun e => dieKind e = 0)).getD o 0

/-- The die that a core lies on (R22). -/
def coreDie (c : Nat) : Nat := sparDie (c / 10)

/-- The stack twin of a SPAR die (R16). -/
def twinOf (d : Nat) : Nat := if d % 10 = 3 ∨ d % 10 = 5 then d + 1 else d - 1

/-- The die at the other end of port `p` (0 E, 1 N, 2 W, 3 S), where the port is connected (R10, R11). -/
def peerOf (d p : Nat) : Option Nat :=
  let x := d % 10; let y := d / 10
  if p = 0 then (if x < 9 then some (d + 1) else none)
  else if p = 1 then (if y < 9 then some (d + 10) else none)
  else if p = 2 then (if 0 < x then some (d - 1) else none)
  else if p = 3 then (if 0 < y then some (d - 10) else none)
  else none

/-- The port at the other end of the stay. -/
def oppPort (p : Nat) : Nat := (p + 2) % 4

/-- The stay at a port (R10). -/
def stayAt (d p : Nat) : Nat :=
  let x := d % 10; let y := d / 10
  if p = 0 then y * 9 + x else if p = 2 then y * 9 + x - 1 else if p = 1 then 90 + y * 10 + x else 90 + (y - 1) * 10 + x

/-- The MAST dies in the order of SOURCE (R31): 42, 52, 47, 57. -/
def mastIndex (d : Nat) : Nat := if d = 42 then 0 else if d = 52 then 1 else if d = 47 then 2 else 3

/-- The reset value of STAY_PORT_STATUS (R72): a connected port is up. -/
def portStatusReset (d p : Nat) : Nat :=
  match peerOf d p with
  | some e => 2 * 2 ^ 28 + e * 2 ^ 13 + stayAt d p
  | none => 0x7F * 2 ^ 13 + 0x1FFF

/-- The reset values that the tables give "per die", "per core" or "per class", and those that the log entries name
where the spec gives none (fuses, calibration). `inst` is the whole instance field. -/
def specialReset (blk inst off : Nat) : Option Nat :=
  if blk = 1 then
    if off = 0 then
      some (dieKind inst * 2 ^ 12 + inst +
        ((List.range 4).filter (fun p => (peerOf inst p).isSome)).foldl (fun a p => a + 2 ^ (8 + p)) 0)
    else if 0x100 ≤ off ∧ off < 0x200 ∧ off % 0x40 = 0 then some (portStatusReset inst (off / 0x40 % 4))
    else none
  else if blk = 2 then (if off = 0 then some (inst + 0xF000) else if off = 0x10 then some 0xE4 else none)
  else if blk = 5 then
    if inst < 400 ∧ 0x10 ≤ off ∧ off < 0x20 then some (if off = 0x1C then 0x34800000 else 0x34000000)
    else if inst < 400 ∧ 0x20 ≤ off ∧ off < 0x30 then
      some (if off = 0x28 then 0 else if off = 0x2C then 0x00800000 else 0x2B800000)
    else if 400 ≤ inst ∧ off = 0 then some 500
    else none
  else if blk = 6 ∧ 0x200 ≤ inst ∧ off = 0 then some (inst - 0x200 + 1 * 2 ^ 6 + sparDie (inst - 0x200) * 2 ^ 8)
  else if blk = 12 ∧ inst < 56 ∧ off = 8 then some 1
  else if blk = 14 ∧ inst < 400 ∧ off = 0x28 then some (4 * 2 ^ 32)
  else if blk = 15 then
    if inst < 400 ∧ (off = 0 ∨ off = 4) then some (1450 + (if off = 0 then 1450 * 2 ^ 16 else 0))
    else if inst = 0x300 ∧ off = 0x1C then some 10
    else if inst = 0x300 ∧ off = 0x20 then some 1000
    else none
  else if blk = 18 ∧ off = 0 then some (0x4C * 2 ^ 3)
  else none

/-- The row of a table that an offset falls on, with its position in an array of registers. -/
def findRow : List RegRow → Nat → Option (RegRow × Nat)
  | [], _ => none
  | r :: rs, off =>
    if r.off ≤ off ∧ (r.stride = 0 ∧ off = r.off ∨
        r.stride ≠ 0 ∧ (off - r.off) % r.stride = 0 ∧ (off - r.off) / r.stride < r.count) then
      some (r, if r.stride = 0 then 0 else (off - r.off) / r.stride)
    else findRow rs off

/-- Whether a die-indexed table has an instance on die `d`: hold-buffer registers stand on SPAR and MAST dies only
(R183), SEC hub registers and the rows marked `hub` on dies 42 and 52. -/
def rowOnDie (t : RegTable) (r : RegRow) (d : Nat) : Bool :=
  if r.hub then d == 42 || d == 52
  else if t.block = 5 ∧ t.base = 0x400 then dieKind d != 0
  else true

/-- The tables of a block searched for an instance and an offset. -/
def findReg : List RegTable → Nat → Nat → Option (RegTable × RegRow × Nat)
  | [], _, _ => none
  | t :: ts, inst, off =>
    if t.base ≤ inst ∧ inst < t.base + t.count then
      match findRow t.rows off with
      | some (r, k) => if rowOnDie t r (inst - t.base) then some (t, r, k) else findReg ts inst off
      | none => findReg ts inst off
    else findReg ts inst off

/-- The register that an address names (R2, R3): its table, row and array position. -/
def regAt (addr : Nat) : Option (RegTable × RegRow × Nat) :=
  findReg (regTables (addr / 2 ^ 24)) (addr / 2 ^ 12 % 2 ^ 12) (addr % 2 ^ 12)

/-- The position of an address in its table: the register as `Reg` names it, the instance counted from the table's base, and the
place in an array. -/
structure RegAt where
  reg : Nat
  i : Nat
  k : Nat
  deriving DecidableEq, Repr

/-- The position of an address that `regAt` finds. -/
def posOf (addr : Nat) (t : RegTable) (r : RegRow) (k : Nat) : RegAt :=
  let i := addr / 2 ^ 12 % 2 ^ 12 - t.base
  { reg := addr - i * 0x1000 - k * r.stride, i, k }

/-- The die that an instance lies on, for those that a fence takes out (R22, R24). -/
def instDie (t : RegTable) (i : Nat) : Option Nat :=
  let b := t.block
  if b = 1 then some i
  else if b = 2 ∨ b = 4 then some (coreDie i)
  else if b = 3 then some (coreDie (i / 4))
  else if b = 5 then some (if t.base = 0 then coreDie i else i)
  else if (b = 7 ∨ b = 9) ∧ t.base = 0x100 then some (sparDie i)
  else if b = 8 ∧ (t.base = 0x100 ∨ t.base = 0x180) then some (sparDie i)
  else if b = 0x0B then some (sheaveDie (if t.base = 0 then i / 4 else if t.base = 0x100 then i else i / 32))
  else if b = 0x0C ∧ t.base = 0 then some (sheaveDie i)
  else if b = 0x0E ∨ b = 0x0F then (if t.base = 0 then some (coreDie i) else if t.base = 0x200 then some i else none)
  else if b = 0x11 ∧ t.base = 0x200 then some i
  else none

/-- The registers that the active hub die answers reads of for a fenced die, with the bits of STATE and what they read (R24). -/
def fencedReads : List (Nat × Nat × Nat) :=
  [(Reg.CORE_STATE, 2, 0), (Reg.FTL_DIE_STATUS, 1, 2), (Reg.MEDIA_CH_STATUS, 2, 4), (Reg.MEDIA_LUN_STATUS, 3, 7)]

/-- The reset value of the register at an address. -/
def regReset (addr : Nat) : Nat :=
  match specialReset (addr / 2 ^ 24) (addr / 2 ^ 12 % 2 ^ 12) (addr % 2 ^ 12) with
  | some v => v
  | none => match regAt addr with
    | some (_, r, _) => r.reset
    | none => 0

/-- The largest value of the register at an address (R2). -/
def regMax (addr : Nat) : Nat :=
  match regAt addr with
  | some (_, r, _) => if r.wide then 2 ^ 64 - 1 else 2 ^ 32 - 1
  | none => 2 ^ 64 - 1

/-- The address of instance `i` of register `r`. -/
def regAddr (r i : Nat) : Nat := r + i * 0x1000

/-- The value of register `r` of instance `i`. -/
def Device.rd (s : Device) (r i : Nat) : Nat := nget (regReset (regAddr r i)) s.regs (regAddr r i)

/-- The state with register `r` of instance `i` holding `v`. -/
def Device.wr (s : Device) (r i v : Nat) : Device :=
  { s with regs := nset (regReset (regAddr r i)) s.regs (regAddr r i) v }

/-- Bits `hi` to `lo` of a register. -/
def Device.rdf (s : Device) (r i hi lo : Nat) : Nat := bits (s.rd r i) hi lo

/-- The state with bits `hi` to `lo` of a register replaced. -/
def Device.wrf (s : Device) (r i hi lo v : Nat) : Device := s.wr r i (setBits (s.rd r i) hi lo v)

/-- The state with bits of a sticky register set. -/
def Device.orr (s : Device) (r i v : Nat) : Device := s.wr r i (s.rd r i ||| v)

/-- The state with a counter raised by `n`; counters saturate at all ones (R70 and the other block rules). -/
def Device.inc (s : Device) (r i n : Nat) : Device :=
  s.wr r i (min (s.rd r i + n) (regMax (regAddr r i)))

/-- The state with a counter lowered by `n`, not below 0. -/
def Device.dec (s : Device) (r i n : Nat) : Device := s.wr r i (s.rd r i - n)

/-- The state with a register raised to at least `v`. -/
def Device.peak (s : Device) (r i v : Nat) : Device := s.wr r i (max (s.rd r i) v)

/-- The state with the listed registers of one instance at 0. -/
def Device.zero (s : Device) (i : Nat) (rs : List Nat) : Device := rs.foldl (fun a r => a.wr r i 0) s

end Sys2Proof.Machine
end

