-- ==== Sys2Proof/Machine/Ops.lean ====
section
/-! DEFINITION. The named operations that the meanings share: identifiers and fences, time and the error log,
interrupts, packets, the memories and their merge buffers, and the command pipeline. -/

namespace Sys2Proof.Machine

/-! ## Outcomes -/

/-- What a command does to the device. -/
abbrev Effect := Host.Outcome Device Fault Refusal

/-- The outcome of a step. -/
abbrev Out := Host.Outcome State Fault Refusal

/-- A command acts on the device and leaves the queue as it is. -/
def onDevice (s : State) (f : Device → Effect) : Out :=
  match f s.toDevice with
  | .next d => .next { toDevice := d, pending := s.pending }
  | .fault r => .fault r
  | .refused r => .refused r

/-- An event at a unit that exists has its effect; at one that does not, it cannot happen (R22, R23). -/
def atUnit (ok : Bool) (s : Device) : Effect := if ok then .next s else .refused .noSuchUnit

/-! ## Free values -/

/-- A fresh free value and the state after drawing it (log entry 2). -/
def Device.draw (s : Device) : Nat × Device := (Config.freeNat s.free, { s with free := s.free + 1 })

/-! ## Roles, fences and planes -/

/-- The active hub die: HIF_PORT_STATUS bit 7 (R13, R456). -/
def Device.hubDie (s : Device) : Nat := if s.rdf Reg.HIF_PORT_STATUS 0 7 7 = 0 then 42 else 52

/-- Whether a die is fenced: AVL_DIE_STATUS.STATE is 1 (R551). -/
def Device.fenced (s : Device) (d : Nat) : Bool := s.rdf Reg.AVL_DIE_STATUS d 1 0 == 1

/-- The MAST-T die that serves a job: T0 even jobs, T1 odd jobs, the other when one is fenced (R14). -/
def Device.coordDie (s : Device) (job : Nat) : Nat :=
  if job % 2 = 0 then (if s.fenced 47 then 57 else 47) else (if s.fenced 57 then 47 else 57)

/-- The compute plane is being reset: JOB_DEV_STATUS.RESETTING (R254). -/
def Device.resetting (s : Device) : Bool := s.rdf Reg.JOB_DEV_STATUS 0 0 0 == 1

/-- The in-service SPAR ordinals, rising. -/
def Device.spars (s : Device) : List Nat := (List.range 40).filter (fun o => !s.fenced (sparDie o))

/-- The die that serves the half-stack of a SPAR ordinal: its own die, or the twin after a handover (R18, R219). -/
def Device.hsDie (s : Device) (o : Nat) : Nat := s.rdf Reg.TIER_HS_STATUS o 14 8

/-- Whether a unit of a die belongs to the compute plane (R25, R43). -/
def unitCompute (d u : Nat) : Bool :=
  if dieKind d = 1 then u ≤ 10 || u == 13
  else (d == 47 || d == 57) && (u == 2 || u == 3)

/-- Whether a die implements a unit (R43). -/
def unitExists (d u : Nat) : Bool :=
  if dieKind d = 1 then u ≤ 15
  else if dieKind d = 0 then u ≤ 5 || u == 14 || u == 15
  else if d = 42 ∨ d = 52 then u == 0 || u == 1 || u == 14 || u == 15
  else u == 2 || u == 3 || u == 14 || u == 15

/-! ## Time and the error log -/

/-- The clock of a MAST die. -/
def Device.clock (s : Device) (src : Nat) : MastClock := nget {} s.clocks src

/-- The state with a MAST die's clock replaced. -/
def Device.setClock (s : Device) (src : Nat) (c : MastClock) : Device := { s with clocks := nset {} s.clocks src c }

/-- The counter of the active hub die, in ns (R30). -/
def Device.now (s : Device) : Nat := (s.clock (mastIndex s.hubDie)).counter

/-- The time value a MAST die stamps (R31): wall-clock time once it has an anchor. -/
def MastClock.value (c : MastClock) : Nat :=
  if c.anchored then (c.anchorUtc + (c.counter - c.anchorAt)) % 2 ^ 64 else c.counter % 2 ^ 64

/-- The time tag a MAST die stamps (R31). -/
def MastClock.tag (c : MastClock) (src : Nat) : Nat := b2n c.anchored * 2 ^ 15 + src * 2 ^ 13 + c.generation % 2 ^ 13

/-- How far a counter may be from the time it has run for: 20 ppm (R30). -/
def oscBound (ran : Nat) : Nat := ran * 20 / 1000000

/-- A ns of a counter on its die's own oscillator (R30): it counts 0, 1 or 2, within 20 ppm of the time it has run for. -/
def MastClock.advance (c : MastClock) (v : Nat) : MastClock :=
  let ran := c.ran + 1
  { c with ran, counter := min (ran + oscBound ran) (max (ran - oscBound ran) (c.counter + (if oscBound ran = 0 then 1 else v % 3))) }

/-- One ns of the counter of a MAST die; how its oscillator drifts is a free value (log entry 153). -/
def Device.tickClock (s : Device) (i : Nat) : Device :=
  let c := s.clock i
  if oscBound (c.ran + 1) = 0 then s.setClock i (c.advance 0)
  else let d := s.draw; d.2.setClock i (c.advance d.1)

/-- The owner of a job (R252). -/
def Device.jobOwner (s : Device) (j : Nat) : Nat := s.rdf Reg.JOB_STATUS j 5 2

/-- The bound LDs. -/
def Device.boundLds (s : Device) : List Nat := (List.range 16).filter (fun i => s.rdf Reg.HIF_LD_STATUS i 0 0 == 1)

/-- One LD as the port keeps it. -/
def Device.ld (s : Device) (i : Nat) : LdState := nget {} s.hif.lds i

/-- The state with one LD replaced. -/
def Device.setLd (s : Device) (i : Nat) (l : LdState) : Device := { s with hif := { s.hif with lds := nset {} s.hif.lds i l } }

/-- The state with one more output. -/
def Device.emit (s : Device) (o : Output) : Device := { s with out := s.out ++ [o] }

/-- An event cause of one LD (R421): the bit is set, and MSI-X vector 64 is signalled unless the cause is masked. -/
def Device.raise (s : Device) (ld cause : Nat) : Device :=
  let l := s.ld ld
  let t := s.setLd ld { l with intCause := l.intCause ||| 2 ^ cause }
  if bit l.intMask cause then t else t.emit (.msix ld 64)

/-- An event cause of every bound LD. -/
def Device.raiseAll (s : Device) (cause : Nat) : Device := s.boundLds.foldl (fun a i => a.raise i cause) s

/-- A log record is stored (R31, R33, R186, R453): time value, time tag, type and sequence number of the stamping MAST
die, then sixteen bytes of the type's layout. It goes to the ring, and INT_CAUSE.ELOG is set where it is visible. The sequence numbers
of a die begin at 0 and go on at 0 after 2^32 - 1 (log entry 166). -/
def Device.logFrom (s : Device) (src typ : Nat) (body : List Byte) (viewer : Option Nat) : Device :=
  let c := s.clock src
  let bytes := natLe 8 c.value ++ natLe 2 (c.tag src) ++ natLe 2 typ ++ natLe 4 c.seq ++ body
  let s := s.setClock src { c with seq := (c.seq + 1) % 2 ^ 32 }
  let ring := (s.log ++ [⟨s.logNext, bytes, viewer⟩])
  let s := { s with log := ring.drop (ring.length - 65536), logNext := (s.logNext + 1) % 2 ^ 32 }
  match viewer with
  | some i => s.raise i 0
  | none => s.raiseAll 0

/-- A record stamped by the active hub die. -/
def Device.record (s : Device) (typ : Nat) (body : List Byte) (viewer : Option Nat) : Device :=
  s.logFrom (mastIndex s.hubDie) typ body viewer

/-- Who sees a record that names a job: the LD that owns it (R453). -/
def Device.jobViewer (s : Device) (job : Option Nat) : Option Nat := job.map s.jobOwner

/-- An alert cause of the sideband logic (R600). -/
def Device.alert (s : Device) (i : Nat) : Device := s.orr Reg.SB_ALERT 0 (2 ^ i)

/-! ## Packets -/

/-- The default route entry (R48, R74): XY for class 0, YX for class 1. -/
def defaultRoute (die dst : Nat) : Nat :=
  let x := die % 10; let y := die / 10; let dx := dst % 10; let dy := dst / 10
  let px := if x < dx then 0 else if dx < x then 2 else 4
  let py := if y < dy then 1 else if dy < y then 3 else 4
  let port0 := if px = 4 then py else px
  let port1 := if py = 4 then px else py
  let inj := b2n (¬(3 ≤ x ∧ x ≤ 6) ∧ 3 ≤ dx ∧ dx ≤ 6)
  inj * 2 ^ 30 + port1 * 2 ^ 27 + port0 * 2 ^ 24

/-- The route entry of a router for a destination (R49). -/
def Device.route (s : Device) (die dst : Nat) : Nat := nget (defaultRoute die dst) s.fab.route (die * 128 + dst)

/-- A packet with every optional field 0. -/
def pktPlain (typ vc srcDie srcUnit dstDie dstUnit addr : Nat) : Packet :=
  { typ, vc, cls := 0, dstDie, dstUnit, srcDie, srcUnit, hops := 0, len := 0, job := 0, jobV := false, spec := false,
    specEng := 0, specEpoch := 0, addr, tag := 0, lastBytes := 0, notify := false, ackReq := false, rsp := 0,
    body := [], poison := [] }

/-- The packet that a head flit describes, without its body (R41). -/
def headPacket (h : Word128) : Packet :=
  let v := h.toNat
  { typ := bits v 127 124, vc := bits v 123 122, cls := bits v 121 121, dstDie := bits v 120 114,
    dstUnit := bits v 113 110, srcDie := bits v 109 103, srcUnit := bits v 102 99, hops := bits v 98 94,
    len := bits v 93 87, job := bits v 86 81, jobV := bit v 80, spec := bit v 79, specEng := bits v 78 68,
    specEpoch := bits v 67 60, addr := bits v 59 20, tag := bits v 19 10, lastBytes := bits v 9 6, notify := bit v 5,
    ackReq := bit v 4, rsp := bits v 3 2, body := [], poison := [] }

/-- The head flit of a packet (R41). -/
def packHead (p : Packet) : Word128 :=
  BitVec.ofNat 128 (p.typ % 16 * 2 ^ 124 + p.vc % 4 * 2 ^ 122 + p.cls % 2 * 2 ^ 121 + p.dstDie % 128 * 2 ^ 114
    + p.dstUnit % 16 * 2 ^ 110 + p.srcDie % 128 * 2 ^ 103 + p.srcUnit % 16 * 2 ^ 99 + p.hops % 32 * 2 ^ 94 + p.len % 128 * 2 ^ 87
    + p.job % 64 * 2 ^ 81 + b2n p.jobV * 2 ^ 80 + b2n p.spec * 2 ^ 79 + p.specEng % 2048 * 2 ^ 68
    + p.specEpoch % 256 * 2 ^ 60 + p.addr % 2 ^ 40 * 2 ^ 20 + p.tag % 1024 * 2 ^ 10 + p.lastBytes % 16 * 2 ^ 6
    + b2n p.notify * 2 ^ 5 + b2n p.ackReq * 2 ^ 4 + p.rsp % 4 * 2 ^ 2)

/-- What a packet keeps of its head on its way: HOPS and CLASS change at the routers (R41, R49). -/
def headKey (p : Packet) : Word128 := packHead { p with hops := 0, cls := 0 }

/-- Whether two packets have the same head but for HOPS and CLASS. -/
def sameHead (p q : Packet) : Bool := headKey p == headKey q

/-- The body flits of a packet: LEN, and none for a READ_REQ (R42). -/
def bodyFlits (p : Packet) : Nat := if p.typ = 2 then 0 else p.len

/-- The flits of the response that a request asks for: a READ_RESP of LEN body flits, or a WRITE_ACK (R42). -/
def responseFlits (p : Packet) : Nat := if p.typ = 2 then p.len + 1 else if p.typ = 1 ∧ p.ackReq then 1 else 0

/-- The key of an input buffer (R55). -/
def bufKey (die inp vc cls : Nat) : Nat := ((die * 8 + inp) * 4 + vc) * 2 + cls

/-- A packet enters the local injection port of its source router (R49, R55), which its unit does once it has reserved the space
of the response (R56). One to a unit of its own die crosses no router port (log entry 151). -/
def Fabric.inject (f : Fabric) (p : Packet) : Fabric :=
  let u := p.srcDie * 16 + p.srcUnit
  let f := if responseFlits p = 0 then f
    else { f with reserved := nset 0 f.reserved u (nget 0 f.reserved u + responseFlits p) }
  if p.srcDie = p.dstDie then f
  else
    let k := bufKey p.srcDie 4 p.vc p.cls
    { f with
      bufs := nset [] f.bufs k (nget [] f.bufs k ++ [{ head := packHead p, ord := 0, rest := true, cls := p.cls }]),
      fly := f.fly ++ [headKey p] }

/-- A unit sends a packet: its class is the one the source router's entry gives at injection (R49), and it is in flight
until its destination receives it. -/
def Device.send (s : Device) (p : Packet) : Device :=
  let p := { p with cls := bits (s.route p.srcDie p.dstDie) 30 30 }
  { s with net := s.net ++ [p], fab := s.fab.inject p }

/-- The flits of response space that an answer fills (R56). -/
def answerFlits (p : Packet) : Nat := if p.typ = 3 then p.len + 1 else if p.typ = 4 then 1 else 0

/-- The packet is no longer in flight; an answer fills the space that its requester has reserved (R56). -/
def Device.receive (s : Device) (p : Packet) : Device :=
  let u := p.dstDie * 16 + p.dstUnit
  { s with
    net := s.net.erase p,
    fab := if answerFlits p = 0 then s.fab
      else { s.fab with reserved := nset 0 s.fab.reserved u (nget 0 s.fab.reserved u - answerFlits p) } }

/-- Whether two packets go from one unit to another in one VC and class (R52). -/
def sameFlow (p q : Packet) : Bool :=
  p.srcDie == q.srcDie && p.srcUnit == q.srcUnit && p.dstDie == q.dstDie && p.dstUnit == q.dstUnit && p.vc == q.vc && p.cls == q.cls

/-- Whether a packet may land: its flits have left the routers, and no earlier packet of its flow is still in flight (R40, R52). One
that the device has not sent comes from outside the run (log entry 142). -/
def Device.mayLand (s : Device) (p : Packet) : Bool :=
  decide ((s.fab.fly.filter (fun h => h == headKey p)).length < max 1 (s.net.filter (sameHead p)).length)
    && match s.net.takeWhile (fun q => q != p) with
      | early => !(s.net.contains p && early.any (sameFlow p))

/-- The bytes a packet carries: LEN flits, the last cut to LAST_BYTES (R41). -/
def pktBytes (p : Packet) : Nat :=
  if p.len = 0 then 0 else p.len * 16 - (if p.lastBytes = 0 then 0 else 16 - p.lastBytes)

/-- The answer of a unit to a request: source and destination exchanged, TAG echoed (R42). -/
def pktReply (p : Packet) (typ rsp : Nat) : Packet :=
  { pktPlain typ 1 p.dstDie p.dstUnit p.srcDie p.srcUnit p.addr with
    tag := p.tag, rsp, job := p.job, jobV := p.jobV }

/-- A VERDICT or SQUASH packet of a kind, with the job that it is for (R172). -/
def verdictPacket (typ kind srcDie srcUnit dstDie dstUnit eng epoch : Nat) (job : Option Nat) : Packet :=
  { pktPlain typ 2 srcDie srcUnit dstDie dstUnit kind with specEng := eng, specEpoch := epoch, job := job.getD 0, jobV := job.isSome }

/-- The job that a packet is for (R41). -/
def pktJob (p : Packet) : Option Nat := if p.jobV then some p.job else none

/-- The acknowledgement of a write that asks for one (R54). -/
def Device.ack (s : Device) (p : Packet) (rsp : Nat) : Device := if p.ackReq then s.send (pktReply p 4 rsp) else s

/-- A packet is discarded (R70): counted, with its cause; a READ_REQ or ACK_REQ write is answered with RSP_STATUS 3
where the rule says so. The READ_RESP has the LEN that was asked for, filled with zeros (log entry 167). -/
def Device.discard (s : Device) (die : Nat) (p : Packet) (cause : Nat) (answer : Bool) : Device :=
  let s := s.inc Reg.STAY_DISCARD die 1
  let s := s.wr Reg.STAY_DISCARD_LAST die (p.typ % 16 + cause * 2 ^ 4 + p.srcDie % 128 * 2 ^ 7)
  if answer && (p.typ == 2) then s.send { pktReply p 3 3 with len := p.len, body := List.replicate (p.len * 16) 0 }
  else if answer then s.ack p 3 else s

/-! ## Memories -/

/-- The canonical form of the memories: cells and poison marks by rising key, none equal to what an unlisted one reads as. -/
def Memory.wf (m : Memory) : Bool := nwf (fun _ => (0 : Byte)) m.bytes && nwf (fun _ => false) m.poison

/-- The key of an address of one memory: memory code (R460), instance, byte address. Instances are cores for codes 0, 1
and 3, engines for code 2, SPAR ordinals for code 5, dies for the others. -/
def memKey (mem inst addr : Nat) : Nat := (mem * 4096 + inst) * 2 ^ 40 + addr

/-- The entry of a merge buffer for a word, if there is one (R462). -/
def Device.mergeAt (s : Device) (mem inst word : Nat) : Option Merge :=
  s.mem.merge.find? (fun m => m.mem = mem ∧ m.inst = inst ∧ m.word = word)

/-- One byte as a read sees it: the valid byte of a merge entry, else the stored byte (R462); a location that was filled
and never written reads 0 (R472). -/
def Device.byteAt (s : Device) (mem inst addr : Nat) : Byte :=
  match s.mergeAt mem inst (addr / 16) with
  | some m => (nget none m.bytes (addr % 16)).getD (nget 0 s.mem.bytes (memKey mem inst addr))
  | none => nget 0 s.mem.bytes (memKey mem inst addr)

/-- The bytes of a range. -/
def Device.readMem (s : Device) (mem inst addr n : Nat) : List Byte :=
  (List.range n).map (fun i => s.byteAt mem inst (addr + i))

/-- Whether a 16-byte word is poisoned (R459). -/
def Device.wordPoison (s : Device) (mem inst word : Nat) : Bool := nget false s.mem.poison (memKey mem inst (word * 16) / 16)

/-- The ordinals, within a range, of the 16-byte words that are poisoned. -/
def Device.poisonIn (s : Device) (mem inst addr n : Nat) : List Nat :=
  (List.range ((addr + n + 15) / 16 - addr / 16)).filter (fun i => s.wordPoison mem inst (addr / 16 + i))

/-- The state with a poison mark set or cleared. -/
def Device.markPoison (s : Device) (mem inst word : Nat) (b : Bool) : Device :=
  { s with mem := { s.mem with poison := nset false s.mem.poison (memKey mem inst (word * 16) / 16) b } }

/-- One stored byte replaced. -/
def Device.putByte (s : Device) (mem inst addr : Nat) (b : Byte) : Device :=
  { s with mem := { s.mem with bytes := nset 0 s.mem.bytes (memKey mem inst addr) b } }

/-- Whether a memory belongs to a core, so that the MEM core registers count for it (R483), and the instance there. -/
def memCoreInst (mem inst : Nat) : Option Nat :=
  if mem = 2 then some (inst / 4) else if mem = 0 ∨ mem = 1 ∨ mem = 3 then some inst else none

/-- The die whose MEM die registers count for a memory; the serving die for a half-stack. -/
def Device.memDieInst (s : Device) (mem inst : Nat) : Nat := if mem = 5 then s.hsDie inst else inst

/-- A MEM counter of the memory's instance raised by one: the core register, or the die register. -/
def Device.memCount (s : Device) (mem inst coreReg dieReg n : Nat) : Device :=
  match memCoreInst mem inst with
  | some c => s.inc coreReg c n
  | none => s.inc dieReg (s.memDieInst mem inst) n

/-- The MEM instance that a log record names (R488). -/
def Device.memInst (s : Device) (mem inst : Nat) : Nat :=
  match memCoreInst mem inst with
  | some c => c
  | none => 0x200 + s.memDieInst mem inst

/-- The entries a memory's merge buffer holds (R462), and which buffer of it a word uses: scratchpad banks and DRAM
controllers each have their own. 0: the memory has none. -/
def mergeBuffer (mem word : Nat) : Nat × Nat :=
  if mem = 0 then (4, word * 16 / 32 % 32)
  else if mem = 1 then (8, 0)
  else if mem = 4 then (16, 0)
  else if mem = 5 then (64, word * 16 / (12 * 2 ^ 30) % 2)
  else if mem = 6 ∨ mem = 7 ∨ mem = 8 ∨ mem = 9 then (8, 0)
  else (0, 0)

/-- The entry of a word is discarded. -/
def Device.dropMerge (s : Device) (m : Merge) : Device := { s with mem := { s.mem with merge := s.mem.merge.erase m } }

/-- The valid bytes of an entry go to the stored word. -/
def Device.applyMerge (s : Device) (m : Merge) : Device :=
  (List.range 16).foldl (fun a j => match nget none m.bytes j with
    | some b => a.putByte m.mem m.inst (m.word * 16 + j) b
    | none => a) s

/-- A partial entry is written out by a read-modify-write (R463): the poison of the stored word stays (R464, R466). -/
def Device.writeOut (s : Device) (m : Merge) : Device :=
  let s := (s.applyMerge m).dropMerge m
  let s := s.memCount m.mem m.inst Reg.MEM_CORE_MERGE_RMW Reg.MEM_DIE_MERGE_RMW 1
  if s.wordPoison m.mem m.inst m.word then
    s.memCount m.mem m.inst Reg.MEM_CORE_MERGE_POISON Reg.MEM_DIE_MERGE_POISON 1
  else s

/-- The entry a narrow write merges into: the one of its word, or a new one, with the bytes written. -/
def Device.mergeEntry (s : Device) (mem inst word : Nat) (bs : List (Nat × Byte)) : Merge :=
  let entry : Merge := match s.mergeAt mem inst word with
    | some m => { m with at_ := s.now }
    | none => ⟨mem, inst, word, [], s.now⟩
  { entry with bytes := bs.foldl (fun (a : NMap (Option Byte)) p => nset none a p.1 (some p.2)) entry.bytes }

/-- Room for the entry of a word: the entry it has is taken out; without one, the oldest entry of a full buffer is written
out (R462, R463). -/
def Device.mergeRoom (s : Device) (mem inst word : Nat) : Device :=
  match s.mergeAt mem inst word with
  | some m => s.dropMerge m
  | none =>
    let buf := mergeBuffer mem word
    let mine := s.mem.merge.filter (fun (m : Merge) => m.mem = mem ∧ m.inst = inst ∧ mergeBuffer mem m.word = buf)
    if mine.length < buf.1 then s else match mine.head? with
      | some m => s.writeOut m
      | none => s

/-- A narrow write merges into its word's entry, or takes an entry, writing out the oldest when none is free; an entry
that becomes full is written with no read and clears poison (R462, R463, R466). `pz`: the written bytes are poisoned. -/
def Device.mergeWrite (s : Device) (mem inst word : Nat) (bs : List (Nat × Byte)) (pz : Bool) : Device :=
  let entry := s.mergeEntry mem inst word bs
  let s := s.mergeRoom mem inst word
  if entry.bytes.length = 16 then (s.applyMerge entry).markPoison mem inst word pz
  else
    let s := if pz then s.markPoison mem inst word true else s
    { s with mem := { s.mem with merge := s.mem.merge ++ [entry] } }

/-- The bytes of one word are written: a whole word bypasses the merge buffer, discards its entry and sets or clears the
poison mark (R462, R466); a part of a word goes through the merge buffer. -/
def Device.writeWord (s : Device) (mem inst word : Nat) (bs : List (Nat × Byte)) (pz : Bool) : Device :=
  if bs.length = 16 then
    let s := match s.mergeAt mem inst word with
      | some m => s.dropMerge m
      | none => s
    (bs.foldl (fun a p => a.putByte mem inst (word * 16 + p.1) p.2) s).markPoison mem inst word pz
  else if (mergeBuffer mem word).1 = 0 then
    let s := bs.foldl (fun a p => a.putByte mem inst (word * 16 + p.1) p.2) s
    if pz then s.markPoison mem inst word true else s
  else s.mergeWrite mem inst word bs pz

/-- A range is written. `poison` lists the 16-byte chunks of the data that carry the mark; every word into which a byte
of such a chunk is written is poisoned (R467). -/
def Device.writeMem (s : Device) (mem inst addr : Nat) (data : List Byte) (poison : List Nat) : Device :=
  let n := data.length
  (List.range ((addr + n + 15) / 16 - addr / 16)).foldl (fun a i =>
    let w := addr / 16 + i
    let js := (List.range 16).filter (fun j => addr ≤ w * 16 + j ∧ w * 16 + j < addr + n)
    let bs := js.map (fun j => (j, data.getD (w * 16 + j - addr) 0))
    let pz := js.any (fun j => poison.contains ((w * 16 + j - addr) / 16))
    a.writeWord mem inst w bs pz) s

/-- A range of whole words is filled with code words of zero data (R472): bytes, marks and merge entries go. -/
def Device.clearMem (s : Device) (mem inst addr n : Nat) : Device :=
  let a := memKey mem inst addr
  { s with mem := { s.mem with
      bytes := s.mem.bytes.filter (fun e => decide (e.1 < a ∨ a + n ≤ e.1)),
      poison := s.mem.poison.filter (fun e => decide (e.1 * 16 < a ∨ a + n ≤ e.1 * 16)),
      merge := s.mem.merge.filter (fun m =>
        !(m.mem == mem && m.inst == inst && decide (addr ≤ m.word * 16) && decide (m.word * 16 < addr + n))) } }

/-- The body of a UNCORRECTABLE, POISON_COMMIT or other MEM record (R488). -/
def memBody (mem pass inst a b c : Nat) : List Byte :=
  natLe 1 mem ++ natLe 1 pass ++ natLe 2 inst ++ natLe 4 a ++ natLe 4 b ++ natLe 4 c

/-! ## Ryern commands -/

/-- Bytes `b` to `b + n - 1` of a slot as a little-endian number (R425). -/
def fld (slot : BitVec 512) (b n : Nat) : Nat := slot.toNat / 2 ^ (8 * b) % 2 ^ (8 * n)

/-- A slot with some bits of its byte `b` set to those of `v` (log entry 6). -/
def putFld (slot : BitVec 512) (b v : Nat) : BitVec 512 :=
  BitVec.ofNat 512 (setBits slot.toNat (8 * b + 7) (8 * b) v)

/-- The command as one of a row's opcode: the row names the command, whatever byte 0 of the slot holds (log entry 6). -/
def cmdAs (c : Cmd) (op : Nat) : Cmd := if fld c.slot 0 1 = op then c else { c with slot := putFld c.slot 0 op }

/-- The status codes of R5. -/
def St.ok : Nat := 0x0000
def St.okDelayed : Nat := 0x0001
def St.refusedCapacity : Nat := 0x0101
def St.refusedQos : Nat := 0x0102
def St.refusedPower : Nat := 0x0103
def St.mediaUncorrectable : Nat := 0x0201
def St.poisonConsumed : Nat := 0x0202
def St.notErased : Nat := 0x0203
def St.codePinned : Nat := 0x0301
def St.notOwner : Nat := 0x0302
def St.nsAbsent : Nat := 0x0303
def St.jobLost : Nat := 0x0401
def St.retryExhausted : Nat := 0x0402
def St.rankTimeout : Nat := 0x0403
def St.searchShort : Nat := 0x0501
def St.queueReset : Nat := 0x0601
def St.securityDenied : Nat := 0x0701
def St.lifecycleLocked : Nat := 0x0702
def St.invalidField : Nat := 0x0801

/-- The delay reason of a command: the one that held it longest, the lowest code among equals, 0 for none (R428). -/
def delayReason (waits : List (Nat × Nat)) : Nat :=
  let total := fun r => ((waits.filter (fun w => w.1 = r)).map (·.2)).foldl (· + ·) 0
  let held := (List.range 7).filter (fun r => r ≠ 0 ∧ waits.any (fun w => w.1 = r))
  held.foldl (fun best r => if best = 0 ∨ total best < total r then r else best) 0

/-- The state with one command of the pipeline replaced. -/
def Device.setCmd (s : Device) (p : Pending) : Device :=
  { s with cmds := s.cmds.map (fun q => if q.n = p.n then p else q) }

/-- The command with a serial number. -/
def Device.cmd (s : Device) (n : Nat) : Option Pending := s.cmds.find? (fun p => p.n = n)

/-- A command that has been started and whose meaning has not run: the first that came through this mailbox with this
slot. -/
def Device.startedCmd (s : Device) (c : Cmd) : Option Pending :=
  s.cmds.find? (fun p => p.ld = c.ld ∧ p.mb = c.mb ∧ p.slot = c.slot ∧ p.phase = .started ∧ !p.ran)

/-- The time for which every admission has been in use, so far (R446). -/
def Device.fullTime (s : Device) : Nat := s.hif.fullNs + (match s.hif.fullFrom with
  | some t => s.now - t
  | none => 0)

/-- HIF_ADMITTED has changed: the time for which every admission is in use runs or stops (R446). -/
def Device.showFull (s : Device) : Device :=
  let full := decide (s.rd Reg.HIF_ADMIT_MAX 0 ≤ s.rd Reg.HIF_ADMITTED 0)
  match s.hif.fullFrom with
  | some _ => if full then s else { s with hif := { s.hif with fullNs := s.fullTime, fullFrom := none } }
  | none => if full then { s with hif := { s.hif with fullFrom := some s.now } } else s

/-- A command of an LD takes an admission (R444). -/
def Device.countAdmission (s : Device) (ld : Nat) : Device :=
  (((s.inc Reg.HIF_ADMITTED 0 1).inc Reg.HIF_LD_ADMITTED_NOW ld 1).inc Reg.HIF_ADMISSIONS 0 1).showFull

/-- The meaning of a command begins: the started command of the pipeline takes it, or, when the sender names a command
that went through no mailbox, a new entry that starts now (log entry 5). Answers its serial number. -/
def Device.begin (s : Device) (c : Cmd) : Nat × Device :=
  match s.startedCmd c with
  | some p => (p.n, s.setCmd { p with ran := true })
  | none =>
    let p : Pending :=
      { n := s.hif.next, ld := c.ld, mb := c.mb, slot := c.slot, phase := .started, arrival := s.now,
        full := 0, mem := 0, held := none, waits := [], ran := true, order := s.hif.orders + 1, started := s.now,
        status := 0, reason := 0, result := 0, resultHi := 0, cut := false, silent := false }
    let t : Device := { s with cmds := s.cmds ++ [p], hif := { s.hif with next := s.hif.next + 1, orders := s.hif.orders + 1 } }
    (s.hif.next, t.countAdmission c.ld)

/-- The job that a command names (R227): in its slot, or through its handle. -/
def Device.cmdJob (s : Device) (slot : BitVec 512) : Option Nat :=
  let op := fld slot 0 1
  if (0x21 ≤ op ∧ op ≤ 0x2D) ∨ op = 0x32 then some (fld slot 16 1)
  else if op = 0x30 then (if bit (fld slot 19 1) 1 then some (fld slot 20 1) else none)
  else if 0x33 ≤ op ∧ op ≤ 0x37 then (nget none s.srch.handles (fld slot 16 1)).map (·.job)
  else none

/-- A command completes with POISON_CONSUMED (R468, R487, R488): counted, with a record that names its job; what the other
fields of the record hold is open. -/
def Device.poisonCommit (s : Device) (slot : BitVec 512) : Device :=
  let d := s.draw
  let job := s.cmdJob slot
  (d.2.inc Reg.MEM_DEV_POISON_COMMITS 0 1).record 0x0E03
    (memBody (d.1 % 256) 0 (d.1 / 2 ^ 8 % 2 ^ 16) (d.1 / 2 ^ 24 % 2 ^ 32) (d.1 / 2 ^ 56 % 256)
      (match job with | some j => j % 64 + 64 | none => 0)) (s.jobViewer job)

/-- SHARD_CLOSE, EMB_CLOSE and SRCH_CLOSE, which have not started while what they close is in use (R448). -/
def closesUse (slot : BitVec 512) : Bool := [0x25, 0x2B, 0x33].contains (fld slot 0 1)

/-- A command ends with a status and result (R5, R7, R428): a hold on it ends; OK with a delay reason is OK_DELAYED; a refusal on
arrival carries the reason that led to it. One that had not started ends its queued time now (R427). -/
def Device.finish (s : Device) (n status result : Nat) : Device :=
  match s.cmd n with
  | none => s
  | some p =>
    if p.phase = .ended then s else
    let held := p.held
    let p := match held with
      | some (r, t) => { p with held := none, waits := p.waits ++ [(r, s.now - t)] }
      | none => p
    let r := delayReason p.waits
    let st := if p.cut ∧ status = St.ok then St.queueReset else status
    let s := if st = St.poisonConsumed then s.poisonCommit p.slot else s
    let started := if p.phase = .started ∧ ¬(held.isSome ∧ closesUse p.slot) then p.started else s.now
    s.setCmd { p with phase := .ended, started, status := if st = St.ok ∧ r ≠ 0 then St.okDelayed else st, reason := r, result }

/-- The high half of a 64-bit result (R426). -/
def Device.setResultHi (s : Device) (n v : Nat) : Device :=
  match s.cmd n with
  | some p => s.setCmd { p with resultHi := v }
  | none => s

/-- A hold with a delay reason has lasted `ns` on a command (R428). -/
def Device.addWait (s : Device) (n reason ns : Nat) : Device :=
  match s.cmd n with
  | some p => s.setCmd { p with waits := p.waits ++ [(reason, ns)] }
  | none => s

/-- A command waits inside its meaning under a delay reason until something else ends. -/
def Device.hold (s : Device) (n reason : Nat) : Device :=
  match s.cmd n with
  | some p => s.setCmd { p with held := some (reason, s.now) }
  | none => s

/-- The wait of a command ends and counts for its delay reason. -/
def Device.unhold (s : Device) (n : Nat) : Device :=
  match s.cmd n with
  | some p => match p.held with
    | some (r, t) => s.setCmd { p with held := none, waits := p.waits ++ [(r, s.now - t)] }
    | none => s
  | none => s

/-- A job fault is reported for a core, or from 512 on for a job (R247): cause 1 an instruction fault, 2 exhausted retries, 3 poison. -/
def Device.reportFault (s : Device) (c cause : Nat) : Device := { s with faults := s.faults ++ [(c, cause)] }

end Sys2Proof.Machine
end

