-- ==== Sys2Proof/Machine/Route.lean ====
section
/-! DEFINITION. The stay routers (chapter 02): the head flit, the route tables, input buffers and credits, arbitration, the
links with their replay buffers, and what a failed port leaves. -/

namespace Sys2Proof.Machine

/-! ## The head flit -/

/-- Whether a VC is allowed for a TYPE (R42). -/
def vcAllowed (typ vc : Nat) : Bool :=
  if typ = 1 ∨ typ = 2 ∨ typ = 5 then vc == 0 || vc == 3
  else if typ = 3 ∨ typ = 4 then vc == 1
  else if typ = 6 then vc == 0
  else vc == 2

/-- Whether a LEN lies in the allowed range of a TYPE (R42). -/
def lenAllowed (typ len : Nat) : Bool :=
  if typ = 4 then len == 0
  else if typ = 7 ∨ typ = 8 ∨ typ = 9 then len ≤ 1
  else if typ = 10 then len ≤ 4
  else 1 ≤ len && len ≤ 64

/-- Why a router discards a head flit (R41, R42): cause 1 a reserved bit or TYPE, cause 2 a bad VC or LEN (log entry 8). -/
def headCause (h : Word128) : Option Nat :=
  let p := headPacket h
  if h.toNat % 4 ≠ 0 then some 1
  else if p.typ = 0 ∨ 11 ≤ p.typ then some 1
  else if !vcAllowed p.typ p.vc || !lenAllowed p.typ p.len then some 2
  else none

/-! ## Route tables -/

/-- The route entry replaced. -/
def Device.setRoute (s : Device) (die dst v : Nat) : Device :=
  { s with fab := { s.fab with route := nset (defaultRoute die dst) s.fab.route (die * 128 + dst) v } }

/-- The state of a port (R72). -/
def Device.portState (s : Device) (die port : Nat) : Nat :=
  s.rdf (Reg.STAY_PORT_STATUS + 0x40 * port) die 31 28

/-- A register of a port block (R71). -/
def portReg (r port : Nat) : Nat := r + 0x40 * port

/-- Whether the stay at a port works: connected, and FAILED at neither end. -/
def Device.stayWorks (s : Device) (die port : Nat) : Bool :=
  match peerOf die port with
  | some e => s.portState die port != 4 && s.portState e (oppPort port) != 4
  | none => false

/-- Whether the stays of a row run from column `a` to column `b` of row `y` all work. -/
def Device.rowRun (s : Device) (y a b : Nat) : Bool :=
  let lo := min a b
  (List.range (max a b - lo)).all (fun i => s.stayWorks (y * 10 + lo + i) 0)

/-- Whether the stays of a column run from row `a` to row `b` of column `x` all work. -/
def Device.colRun (s : Device) (x a b : Nat) : Bool :=
  let lo := min a b
  (List.range (max a b - lo)).all (fun i => s.stayWorks ((lo + i) * 10 + x) 1)

/-- Whether the class-1 (YX) route from `(x, y)` to a destination works. -/
def Device.yxWorks (s : Device) (x y dst : Nat) : Bool := s.colRun x y (dst / 10) && s.rowRun (dst / 10) x (dst % 10)

/-- Whether the class-0 (XY) route from `(x, y)` to a destination works. -/
def Device.xyWorks (s : Device) (x y dst : Nat) : Bool := s.rowRun y x (dst % 10) && s.colRun (dst % 10) y (dst / 10)

/-- Whether some route under the conditions of R50 joins two dies: along the row in class 0 to some column, then YX in
class 1. -/
def Device.reachable (s : Device) (a b : Nat) : Bool :=
  (List.range 10).any (fun c => s.rowRun (a / 10) (a % 10) c && s.yxWorks c (a / 10) b)

/-- The nearest column from which the class-1 route works, reached along the row in class 0, the east first. -/
def Device.switchColumn (s : Device) (die dst : Nat) : Option Nat :=
  let x := die % 10; let y := die / 10
  ((List.range 10).flatMap (fun d => [x + d] ++ (if d ≤ x then [x - d] else []))).find?
    (fun c => decide (c < 10) && s.rowRun y x c && s.yxWorks c y dst)

/-- A route entry that satisfies R50 on the working stays (log entry 9): the default route where it works; for class 0
otherwise, along the row to the nearest column from which YX works, changing to class 1 there. Where no class-1 route exists, packets
are injected in class 0 and PORT1 repeats PORT0; port code 7 only where no route exists at all (R51, R74). -/
def Device.newRoute (s : Device) (die dst : Nat) : Nat :=
  let x := die % 10; let y := die / 10
  let d := defaultRoute die dst
  let yx := s.yxWorks x y dst
  let entry := fun (sw : Bool) (port0 : Nat) =>
    b2n sw * 2 ^ 31 + (if yx then bits d 30 30 else 0) * 2 ^ 30 + (if yx then bits d 29 27 else port0) * 2 ^ 27 + port0 * 2 ^ 24
  if s.xyWorks x y dst then entry false (bits d 26 24)
  else match s.switchColumn die dst with
    | none => 7 * 2 ^ 27 + 7 * 2 ^ 24
    | some c => if c = x then entry true (bits d 29 27) else entry false (if x < c then 0 else 2)

/-- The working stays of a die. -/
def Device.workingStays (s : Device) (die : Nat) : Nat := ((List.range 4).filter (fun p => s.stayWorks die p)).length

/-- The dies in service. -/
def Device.diesInService (s : Device) : List Nat := (List.range 100).filter (fun d => !s.fenced d)

/-! ## Input buffers, credits and what waits (R38, R55) -/

/-- The flits that an input buffer holds for a VC and class (R55). -/
def vcCap (vc : Nat) : Nat := if vc = 0 then 64 else if vc = 2 then 8 else 32

/-- The flits in an input buffer. -/
def Device.flits (s : Device) (die inp vc cls : Nat) : List Flit := nget [] s.fab.bufs (bufKey die inp vc cls)

/-- An input buffer replaced. -/
def Device.setFlits (s : Device) (die inp vc cls : Nat) (l : List Flit) : Device :=
  { s with fab := { s.fab with bufs := nset [] s.fab.bufs (bufKey die inp vc cls) l } }

/-- The key of a link: the port of the die that sends on it. -/
def linkKey (die port : Nat) : Nat := die * 8 + port

/-- The flits that a port has sent and that the other end has not acknowledged (R58). -/
def Device.unacked (s : Device) (die port : Nat) : List Flit := nget [] s.fab.replay (linkKey die port)

/-- The credits a port has for a VC and class: places of the other end's buffer that neither a flit in it nor one on its way there
takes (R38, R55). A credit returns when a flit leaves the buffer. -/
def Device.credits (s : Device) (die port vc cls : Nat) : Nat :=
  match peerOf die port with
  | none => 0
  | some e =>
    let sent := (s.unacked die port).filter (fun f => (headPacket f.head).vc == vc && (headPacket f.head).cls == cls)
    vcCap vc - (s.flits e (oppPort port) vc cls).length - sent.length

/-- Whether a port has credits outstanding: flits on their way or in the other end's buffers (R65). -/
def Device.creditsOut (s : Device) (die port : Nat) : Bool :=
  match peerOf die port with
  | none => false
  | some e => !(s.unacked die port).isEmpty
      || (List.range 4).any (fun vc => (List.range 2).any (fun cls => !(s.flits e (oppPort port) vc cls).isEmpty))

/-- The output port and class of a packet at a router by its own entry (R49, R74); none for a class-1 packet that has no class-1
route any more (R69). -/
def Device.outPort (s : Device) (die : Nat) (p : Packet) : Option (Nat × Nat) :=
  let e := s.route die p.dstDie
  if p.cls = 0 ∧ bit e 31 = false then some (bits e 26 24, 0)
  else if s.fab.noYx.contains (die * 128 + p.dstDie) then none
  else some (bits e 29 27, 1)

/-- Where the flit at the front of an input buffer goes, as output and class: a head by its route, the others after it. Output 8 + n
is unit n of the local port. -/
def Device.courseOf (s : Device) (die inp vc cls : Nat) (f : Flit) : Option (Nat × Nat) :=
  if f.ord ≠ 0 then nget none s.fab.course (bufKey die inp vc cls)
  else
    let p := headPacket f.head
    match s.outPort die p with
    | some (out, c) => if out = 4 then some (8 + p.dstUnit, c) else some (out, c)
    | none => none

/-- The port of an output: the local port 4 for each of its units. -/
def outPortOf (out : Nat) : Nat := if out < 8 then out else 4

/-- The key of an output, and of a VC of it. -/
def outKey (die out : Nat) : Nat := die * 32 + out
def outVcKey (die out vc : Nat) : Nat := outKey die out * 4 + vc

/-- The packet part-way across an output in a VC and class (R55). -/
def Device.worm (s : Device) (die out vc cls : Nat) : Option (Nat × Word128 × Nat) :=
  nget none s.fab.worms (outVcKey die out vc * 2 + cls)

/-- The key of the share counts of an output, VC and input (R63). -/
def shareKey (die out vc inp : Nat) : Nat := ((die * 8 + out) * 4 + vc) * 8 + inp

/-- Whether another packet of the same VC, class and destination that a failed port held must leave this router first (R66, R67): one of
a replay buffer before one that waited, and both before any other. -/
def Device.mustWait (s : Device) (die vc cls : Nat) (f : Flit) : Bool :=
  (List.range 5).any (fun i => (s.flits die i vc cls).any (fun g =>
    g.ord == 0 && decide (f.again < g.again) && (headPacket g.head).dstDie == (headPacket f.head).dstDie))

/-- Whether an output takes a flit of a packet to a VC and class now: a stay port that is up, with a credit and a place in its replay buffer (R38,
R58, R66); the local port takes every flit (R56). An epoch of 1,024 flits that has ended must close first (R61). -/
def Device.outReady (s : Device) (die out vc cls : Nat) : Bool :=
  (decide (8 ≤ out) || (decide (out < 4) && s.portState die out == 2 && decide (0 < s.credits die out vc cls)
      && decide ((s.unacked die out).length < 64)))
    && decide (nget 0 s.fab.epochAt (shareKey die (outPortOf out) vc 0) < 1024)

/-- Whether the flit at the front of an input buffer may go to an output (R40, R55): the next flit of the packet that holds the output's VC
and class, or the head of a packet when none holds it. -/
def Device.mayGo (s : Device) (die inp vc cls out oc : Nat) (f : Flit) : Bool :=
  s.outReady die out vc oc && match s.worm die out vc oc with
    | some (k, _, _) => decide (f.ord ≠ 0) && k == inp * 2 + cls
    | none => f.ord == 0 && !s.mustWait die vc cls f

/-- The input buffers of a VC whose front flits wait for an output: input, class, class on the output, and the flit. -/
def Device.waitingAt (s : Device) (die out vc : Nat) : List (Nat × Nat × Nat × Flit) :=
  (List.range 5).flatMap (fun i => (List.range 2).filterMap (fun c =>
    match (s.flits die i vc c).head? with
    | some f => match s.courseOf die i vc c f with
      | some (o, oc) => if o = out then some (i, c, oc, f) else none
      | none => none
    | none => none))

/-- Those of them that may go now. -/
def Device.ready (s : Device) (die out vc : Nat) : List (Nat × Nat × Nat × Flit) :=
  (s.waitingAt die out vc).filter (fun w => s.mayGo die w.1 vc w.2.1 out w.2.2.1 w.2.2.2)

/-! ## Arbitration (R59 to R63) -/

/-- The flits that a VC may send in one round of the remainder (R59). -/
def vcQuantum (vc : Nat) : Nat := if vc = 0 then 8 else if vc = 1 then 6 else 2

/-- The VC after another in the round of VCs 0, 1 and 3. -/
def vcNext (vc : Nat) : Nat := if vc = 0 then 1 else if vc = 1 then 3 else 0

/-- Deficit round robin among VCs 0, 1 and 3 (R59): the VC whose turn it is while it has a flit and a part of its quantum left, else the next;
answers the VC and the turn after its flit. -/
def vcRound (has : Nat → Bool) : Nat → Nat × Nat → Option (Nat × Nat × Nat)
  | 0, _ => none
  | fuel + 1, (vc, left) =>
    if has vc ∧ left ≠ 0 then some (vc, vc, left - 1) else vcRound has fuel (vcNext vc, vcQuantum (vcNext vc))

/-- The VC that an output serves next (R59): VC2 first, but 1 flit in 8 while another VC waits; with the turn that follows. -/
def Device.pickVc (s : Device) (die out : Nat) : Option (Nat × Nat × Nat) :=
  let has := fun (vc : Nat) => !(s.ready die out vc).isEmpty
  let turn := nget (0, 8) s.fab.vcTurn (outKey die out)
  if has 2 ∧ (7 ≤ nget 7 s.fab.since2 (outKey die out) ∨ ¬(has 0 ∨ has 1 ∨ has 3)) then some (2, turn)
  else vcRound has 8 turn

/-- The flits that an input receives in each round of an output and VC (R60, R61). -/
def Device.quantum (s : Device) (die out vc inp : Nat) : Nat := 32 * nget 1 s.fab.weight (shareKey die (outPortOf out) vc inp)

/-- Deficit round robin in whole packets (R60): the input whose turn it is receives its quantum once in its turn and sends while its next packet
fits what it has; an input with nothing waiting keeps nothing. Answers the input, the turn and the deficits. -/
def drrPick (quantum : Nat → Nat) (len : Nat → Option Nat) (waits : Nat → Bool) : Nat → Nat × Bool → List Nat → Option (Nat × List Nat)
  | 0, _, _ => none
  | fuel + 1, (t, given), ds =>
    match len t with
    | some n =>
      let d := ds.getD t 0 + (if given then 0 else quantum t)
      if n ≤ d then some (t, ds.set t (d - n)) else drrPick quantum len waits fuel ((t + 1) % 5, false) (ds.set t d)
    | none => drrPick quantum len waits fuel ((t + 1) % 5, false) (if waits t then ds else ds.set t 0)

/-- The front of an input that has waited longest of its two classes. -/
def Device.longest (s : Device) (die vc : Nat) (l : List (Nat × Nat × Nat × Flit)) : Option (Nat × Nat × Nat × Flit) :=
  l.foldl (fun (b : Option (Nat × Nat × Nat × Flit)) w => match b with
    | none => some w
    | some v => if nget 0 s.fab.waited (bufKey die v.1 vc v.2.1) < nget 0 s.fab.waited (bufKey die w.1 vc w.2.1) then some w else some v) none

/-- The input buffer that an output serves in a VC (R55, R60): a packet that is part-way across goes on first; otherwise deficit round robin
chooses an input. Answers it with the state of the round. -/
def Device.pickInput (s : Device) (die out vc : Nat) : Option ((Nat × Nat × Nat × Flit) × Device) :=
  let l := s.ready die out vc
  match l.find? (fun w => w.2.2.2.ord != 0) with
  | some w => some (w, s)
  | none =>
    let k := outVcKey die out vc
    let at_ := fun (i : Nat) => s.longest die vc (l.filter (fun w => w.1 == i))
    let waits := s.waitingAt die out vc
    let ds := (List.range 5).map (fun i => nget 0 s.fab.deficit (k * 8 + i))
    match drrPick (s.quantum die out vc) (fun i => (at_ i).map (fun w => bodyFlits (headPacket w.2.2.2.head) + 1))
        (fun i => waits.any (fun w => w.1 == i)) 32 (nget (0, false) s.fab.turn k) ds with
    | none => none
    | some (i, ds) => (at_ i).map (fun w =>
        (w, { s with fab := { s.fab with
          turn := nset (0, false) s.fab.turn k (i, true),
          deficit := (List.range 5).foldl (fun (a : NMap Nat) j => nset 0 a (k * 8 + j) (ds.getD j 0)) s.fab.deficit } }))

/-- The flit at the front of an input buffer leaves it: a credit returns to the sender (R55). -/
def Device.popFlit (s : Device) (die inp vc cls : Nat) : Device :=
  match s.flits die inp vc cls with
  | [] => s
  | f :: l =>
    if f.rest ∧ f.ord < bodyFlits (headPacket f.head) then s.setFlits die inp vc cls ({ f with ord := f.ord + 1 } :: l)
    else s.setFlits die inp vc cls l

/-- A flit is granted on an output (R59, R61, R63): counted for its input, and a head sets the bit of its HOPS and ends its wait. -/
def Device.countGrant (s : Device) (die out inp vc cls : Nat) (f : Flit) (turn : Nat × Nat) : Device :=
  let port := outPortOf out
  let k := shareKey die port vc inp
  let o := shareKey die port vc 0
  let b := bufKey die inp vc cls
  let others := (s.waitingAt die out vc).filter (fun w => w.2.2.2.ord == 0 && !(w.1 == inp && w.2.1 == cls))
  let g := s.fab
  { s with fab := { g with
      vcTurn := nset (0, 8) g.vcTurn (outKey die out) turn,
      since2 := nset 7 g.since2 (outKey die out) (if vc = 2 then 0 else min 7 (nget 7 g.since2 (outKey die out) + 1)),
      granted := nset 0 g.granted k (nget 0 g.granted k + 1),
      outFlits := nset 0 g.outFlits o (nget 0 g.outFlits o + 1),
      epochAt := nset 0 g.epochAt o (nget 0 g.epochAt o + 1),
      hopNow := if f.ord = 0 then nset 0 g.hopNow k (nget 0 g.hopNow k ||| 2 ^ (headPacket f.head).hops) else g.hopNow,
      maxWait := if f.ord = 0 then nset 0 g.maxWait k (max (nget 0 g.maxWait k) (nget 0 g.waited b)) else g.maxWait,
      waited := others.foldl (fun (a : NMap Nat) w => nset 0 a (bufKey die w.1 vc w.2.1) (nget 0 a (bufKey die w.1 vc w.2.1) + 1))
        (nset 0 g.waited b 0) } }

/-- The packet that a granted flit belongs to holds the output's VC and class until its last flit has gone (R40, R55). -/
def Device.holdOutput (s : Device) (die out inp vc cls oc : Nat) (f : Flit) : Device :=
  let more := decide (f.ord < bodyFlits (headPacket f.head))
  { s with fab := { s.fab with
      worms := nset none s.fab.worms (outVcKey die out vc * 2 + oc)
        (if more then some (inp * 2 + cls, packHead { headPacket f.head with cls := oc }, f.ord + 1) else none),
      course := nset none s.fab.course (bufKey die inp vc cls) (if more then some (out, oc) else none) } }

/-- A flit leaves through a stay port with the class of the output: TX counted, and kept in the replay buffer with the next 8-bit sequence
number until it is acknowledged (R58). -/
def Device.transmit (s : Device) (die out inp cls oc : Nat) (f : Flit) : Device :=
  let k := linkKey die out
  let s := s.inc (portReg Reg.STAY_PORT_TX_FLITS out) die 1
  let q := nget 0 s.fab.linkSeq k
  let g : Flit := { seq := q, head := packHead { headPacket f.head with cls := oc }, ord := f.ord, again := f.again, inp, cls }
  { s with fab := { s.fab with
      replay := nset [] s.fab.replay k (nget [] s.fab.replay k ++ [g]), linkSeq := nset 0 s.fab.linkSeq k ((q + 1) % 256) } }

/-- The last flit of a packet has left the routers: its unit has all of it, with the HOPS and CLASS it arrived with (R41, R52). -/
def Device.landed (s : Device) (h : Word128) : Device :=
  let p := headPacket h
  let key := headKey p
  let old := s.net.find? (fun q => headKey q == key && !(q.hops == p.hops && q.cls == p.cls))
  { s with
    fab := { s.fab with fly := s.fab.fly.erase key },
    net := match old with
      | some q => s.net.replace q { q with hops := p.hops, cls := p.cls }
      | none => s.net }

/-- One flit is granted on an output, if one may go (R59, R60). -/
def Device.grantOne (s : Device) (die out : Nat) : Option Device :=
  match s.pickVc die out with
  | none => none
  | some (vc, turn) => match s.pickInput die out vc with
    | none => none
    | some ((inp, cls, oc, f), s) =>
      let s := s.countGrant die out inp vc cls f turn
      let s := (s.popFlit die inp vc cls).holdOutput die out inp vc cls oc f
      some (if out < 8 then s.transmit die out inp cls oc f
        else if f.ord = bodyFlits (headPacket f.head) then s.landed f.head else s)

/-- The outputs for which something waits at a router. -/
def Device.outputsWanted (s : Device) (die : Nat) : List Nat :=
  ((List.range 4).flatMap (fun vc => (List.range 5).flatMap (fun i => (List.range 2).filterMap (fun c =>
    match (s.flits die i vc c).head? with
    | some f => (s.courseOf die i vc c f).map (·.1)
    | none => none)))).eraseDups

/-- The flits waiting at a router. -/
def Device.flitsAt (s : Device) (die : Nat) : Nat :=
  ((s.fab.bufs.filter (fun e => e.1 / 64 == die)).map (fun e =>
    (e.2.map (fun f => if f.rest then bodyFlits (headPacket f.head) + 1 - f.ord else 1)).foldl (· + ·) 0)).foldl (· + ·) 0

/-- An output grants as long as a flit may go to it. -/
def Device.serve (die out : Nat) : Nat → Device → Device
  | 0, s => s
  | fuel + 1, s => match s.grantOne die out with
    | some t => Device.serve die out fuel t
    | none => s

/-- A router serves its outputs. -/
def Device.serveRouter (s : Device) (die : Nat) : Device :=
  (s.outputsWanted die).foldl (fun (a : Device) out => Device.serve die out (a.flitsAt die) a) s

/-- The dies whose routers hold flits. -/
def Device.busyRouters (s : Device) : List Nat := (s.fab.bufs.map (fun e => e.1 / 64)).eraseDups

/-- The routers send what credits and arbitration let them, until nothing more moves: a credit that one returns lets the next send
(R55). -/
def Device.flow : Nat → Device → Device
  | 0, s => s
  | fuel + 1, s =>
    let t := s.busyRouters.foldl (fun (a : Device) d => a.serveRouter d) s
    if t.fab.bufs = s.fab.bufs then t else Device.flow fuel t

/-- The routers at work, after a change of what waits (log entry 10). -/
def Device.pump (s : Device) : Device := Device.flow 64 s

/-- The flit slots of the nanosecond that begins at `n` (R38: 0.4 ns each). -/
def flitSlots (n : Nat) : Nat := 5 * (n + 1) / 2 - 5 * n / 2

/-- STAY_PORT_CREDIT_STALL counts the flit slots of a nanosecond for the ports where a flit waits and has no credit (R71). -/
def Device.countStalls (s : Device) : Device :=
  let n := flitSlots s.now
  s.busyRouters.foldl (fun (a : Device) d => (List.range 4).foldl (fun (a : Device) out =>
    if (List.range 4).any (fun vc => (a.waitingAt d out vc).any (fun w => a.credits d out vc w.2.2.1 == 0)) && a.portState d out == 2 then
      a.inc (portReg Reg.STAY_PORT_CREDIT_STALL out) d n
    else a) a) s

/-- One ns of the clocks and routers (R30): the four counters count on their dies' oscillators, and the routers go on. -/
def Device.tickNet (s : Device) : Device := ((List.range 4).foldl (fun a i => a.tickClock i) s.countStalls).pump

/-! ## Ejection -/

/-- What the local port of the destination die answers to a head flit: cause 2 for a VC or LEN that its TYPE does not allow (R42), cause 3
for a unit the die does not implement (R43), cause 4 for a write outside the exchange bank (R46), cause 5 for a compute-plane
unit in reset (R57). -/
def Device.ejectCause (s : Device) (die : Nat) (p : Packet) : Option Nat :=
  if !vcAllowed p.typ p.vc || !lenAllowed p.typ p.len then some 2
  else if !unitExists die p.dstUnit then some 3
  else if dieKind die = 1 ∧ p.dstUnit ≤ 9 ∧ p.typ = 1 ∧ (0x10000 ≤ p.addr ∨ 0x10000 < p.addr + pktBytes p) then some 4
  else if s.resetting ∧ unitCompute die p.dstUnit then some 5
  else none

/-! ## Failure of a port -/

/-- The flits of a packet leave the routers: every buffer, replay buffer, and what they hold. -/
def Fabric.purge (f : Fabric) (gone : Packet → Bool) : Fabric :=
  let keep := fun (g : Flit) => !gone (headPacket g.head)
  { f with
    bufs := (f.bufs.map (fun (e : Nat × List Flit) => (e.1, e.2.filter keep))).filter (fun e => e.2 ≠ []),
    replay := (f.replay.map (fun (e : Nat × List Flit) => (e.1, e.2.filter keep))).filter (fun e => e.2 ≠ []),
    course := f.course.filter (fun e => !(match e.2 with
      | some (o, c) => f.worms.any (fun w => w.1 == (e.1 / 64 * 32 + o) * 8 + e.1 / 2 % 4 * 2 + c && (match w.2 with
        | some (_, h, _) => gone (headPacket h)
        | none => false))
      | none => false)),
    worms := f.worms.filter (fun e => match e.2 with
      | some (_, h, _) => !gone (headPacket h)
      | none => true),
    arriving := f.arriving.filter (fun e => match e.2 with
      | some (h, _) => !gone (headPacket h)
      | none => true),
    fly := f.fly.filter (fun h => !gone (headPacket h)) }

/-- Packets in flight are lost, with their flits. -/
def Device.dropNet (s : Device) (gone : Packet → Bool) : Device :=
  { s with net := s.net.filter (fun p => !gone p), fab := s.fab.purge gone }

/-- The TRUNC notice to a unit (R68): MGMT, with the fields of the truncated packet's head. -/
def truncPacket (die : Nat) (p : Packet) (toDie toUnit : Nat) : Packet :=
  { pktPlain 0xA 2 die 14 toDie toUnit 0 with
    tag := p.tag, specEng := p.specEng, specEpoch := p.specEpoch, len := 1,
    body := natLe 16 (p.srcDie + p.srcUnit * 256 + p.dstDie * 2 ^ 16 + p.dstUnit * 2 ^ 24 + p.typ * 2 ^ 32) }

/-- A packet is truncated from body flit `ord - 1` on (R68): its copy carries poison there, and the source unit is told; the requester
too when it is a READ_RESP. The packet as it was sent is kept until its unit has acted. -/
def Device.truncate (s : Device) (die port : Nat) (h : Word128) (ord : Nat) : Device :=
  let p := headPacket h
  let s := s.inc (portReg Reg.STAY_PORT_TRUNCATED port) die 1
  let s := s.orr (portReg Reg.STAY_PORT_ERR port) die 0x20
  let s : Device := { s with
    fab := { s.fab with cut := s.fab.cut ++ s.net.filter (fun q => sameHead p q && !s.fab.cut.any (sameHead q)) },
    net := s.net.map (fun (q : Packet) =>
      if sameHead p q then { q with poison := rangeFrom (ord - 1) (bodyFlits q - (ord - 1)) } else q) }
  let s := s.send (truncPacket die p p.srcDie p.srcUnit)
  if p.typ = 3 then s.send (truncPacket die p p.dstDie p.dstUnit) else s

/-- The head of a packet after one more stay (R41). -/
def nextHop (h : Word128) : Word128 := let p := headPacket h; packHead { p with hops := min 31 (p.hops + 1) }

/-- The upstream router drops what is left of a packet at an input (R68): the flits in the buffer, and those still to arrive. -/
def Device.dropRest (s : Device) (die inp vc cls : Nat) (h : Word128) : Device :=
  let b := bufKey die inp vc cls
  let left := (s.flits die inp vc cls).filter (fun f => f.ord == 0 || !sameHead (headPacket f.head) (headPacket h))
  let s := s.setFlits die inp vc cls left
  { s with fab := { s.fab with
      course := nset none s.fab.course b none,
      dropping := match nget none s.fab.arriving b with
        | some (a, _) => if left.isEmpty then nset none s.fab.dropping b (some a) else s.fab.dropping
        | none => s.fab.dropping } }

/-- A packet part-way across a port that fails (R68): the downstream router completes it with poison code words, and the rest is dropped.
`inp` and `cls` are where its rest comes from, if it has not all been sent. -/
def Device.cutPacket (s : Device) (die port : Nat) (h : Word128) (ord : Nat) (from_ : Option (Nat × Nat)) : Device :=
  let p := headPacket h
  let s := s.truncate die port h ord
  let s := match from_ with
    | some (inp, cls) => s.dropRest die inp p.vc cls h
    | none => s
  match peerOf die port with
  | none => s
  | some e =>
    let k := bufKey e (oppPort port) p.vc p.cls
    let dropped := (nget none s.fab.dropping k).isSome
    let s : Device := { s with fab := { s.fab with
      dropping := nset none s.fab.dropping k none, arriving := nset none s.fab.arriving k none } }
    if dropped then s
    else s.setFlits e (oppPort port) p.vc p.cls
      (s.flits e (oppPort port) p.vc p.cls ++ [{ head := nextHop h, ord, rest := true, inp := oppPort port, cls := p.cls }])

/-- The packets part-way across a port: those whose head the other end has taken and whose last flit it has not, with the first ordinal
it has not taken, and where the flits still to be sent come from. -/
def Device.partWay (s : Device) (die port : Nat) : List (Word128 × Nat × Option (Nat × Nat)) :=
  let out := s.unacked die port
  let sent := ((out.filter (fun f => f.ord != 0)).map (·.head)).eraseDups
  let open_ := (List.range 8).filterMap (fun i => s.worm die port (i / 2) (i % 2))
  let heads := (sent ++ open_.map (fun w => w.2.1)).eraseDups
  heads.filterMap (fun h =>
    if out.any (fun f => f.ord == 0 && sameHead (headPacket f.head) (headPacket h)) then none
    else
      let w := open_.find? (fun w => sameHead (headPacket w.2.1) (headPacket h))
      let first := match out.find? (fun f => sameHead (headPacket f.head) (headPacket h)) with
        | some f => f.ord
        | none => match w with
          | some w => w.2.2
          | none => 0
      some (h, first, w.map (fun w => (w.1 / 2, w.1 % 2))))

/-- What a failed port has sent and the other end has not taken goes back to the front of the buffers it came from, to be sent again
first (R66, R67). -/
def Device.unsend (s : Device) (die port : Nat) : Device :=
  let back := s.unacked die port
  let s := back.reverse.foldl (fun (a : Device) f =>
    let p := headPacket f.head
    let g : Flit := { head := packHead { p with cls := f.cls }, ord := f.ord, again := 2, inp := f.inp, cls := f.cls }
    let a := a.setFlits die f.inp p.vc f.cls (g :: a.flits die f.inp p.vc f.cls)
    { a with fab := { a.fab with course := nset none a.fab.course (bufKey die f.inp p.vc f.cls) none } }) s
  { s with fab := { s.fab with
      replay := nset [] s.fab.replay (linkKey die port) [], nak := nset none s.fab.nak (linkKey die port) none,
      replays := nset (0, 0) s.fab.replays (linkKey die port) (0, 0),
      worms := s.fab.worms.filter (fun e => e.1 / 8 ≠ outKey die port) } }

/-- The packets that wait for a failed port are marked as held (R66). -/
def Device.markHeld (s : Device) (die port : Nat) : Device :=
  { s with fab := { s.fab with bufs := s.fab.bufs.map (fun (e : Nat × List Flit) =>
      if e.1 / 64 = die then
        (e.1, e.2.map (fun f => match s.outPort die (headPacket f.head) with
          | some (o, _) => if o = port then { f with again := max f.again 1 } else f
          | none => f))
      else e) } }

/-- A port becomes FAILED (R65, R66 steps 1 and 2): its packets and replay buffer are held, packets part-way across are
truncated, and a FAIL notice goes to the active hub die. `err` are further bits of STAY_PORT_ERR. -/
def Device.portFail (s : Device) (die port err : Nat) : Device :=
  if s.portState die port = 4 ∨ (peerOf die port).isNone then s else
  let s := s.wrf (portReg Reg.STAY_PORT_STATUS port) die 31 28 4
  let s := s.orr (portReg Reg.STAY_PORT_ERR port) die (0x10 + err)
  let cut := s.partWay die port
  let s := cut.foldl (fun (a : Device) c => a.cutPacket die port c.1 c.2.1 c.2.2) s
  let k := linkKey die port
  let s : Device := { s with fab := { s.fab with
    replay := nset [] s.fab.replay k ((s.unacked die port).filter (fun f =>
      !cut.any (fun c => sameHead (headPacket c.1) (headPacket f.head)))) } }
  let s := (s.unsend die port).markHeld die port
  let s : Device := { s with fab := { s.fab with holding := if s.fab.holding.contains die then s.fab.holding else s.fab.holding ++ [die] } }
  s.send { pktPlain 0xA 2 die 14 s.hubDie 0 port with len := 0 }

/-- The held packets of a router for which no class-1 route is left are completed with poison code words and reported (R69). -/
def Device.poisonHeld (s : Device) (die : Nat) : Device :=
  let lost := ((s.fab.bufs.filter (fun e => e.1 / 64 == die)).flatMap (fun e =>
    (e.2.filter (fun f => f.ord == 0 && (headPacket f.head).cls == 1 && (s.outPort die (headPacket f.head)).isNone)).map (·.head))).eraseDups
  let port := ((List.range 4).find? (fun p => s.portState die p == 4)).getD 0
  lost.foldl (fun (a : Device) h =>
    let a := a.truncate die port h 1
    { a with fab := a.fab.purge (sameHead (headPacket h)) }) s

end Sys2Proof.Machine
end

