-- ==== Sys2Proof/Machine/Float.lean ====
section
/-! DEFINITION. The number formats and the arithmetic of chapter 04: exact values, rounding, narrowing conversion, the
stochastic generator, and the fp32 operations. Every finite value is an exact integer multiple of 2^-149. -/

namespace Sys2Proof.Machine

/-- An exact value: NaN, an infinity, or a finite magnitude in units of 2^-149 with its sign (R123, R125). -/
inductive FV where
  | nan
  | inf (neg : Bool)
  | fin (neg : Bool) (m : Nat)
  deriving DecidableEq, Repr

/-- A floating-point format: exponent bits, mantissa bits, bias, and the largest finite code (R123). -/
structure FloatFmt where
  eb : Nat
  mb : Nat
  bias : Nat
  top : Nat
  deriving DecidableEq, Repr

/-- The floating-point formats by their codes (R100, R123). -/
def floatFmt : Nat → FloatFmt
  | 0 => ⟨4, 3, 7, 0x7E⟩
  | 1 => ⟨5, 2, 15, 0x7B⟩
  | 2 => ⟨2, 1, 1, 0x7⟩
  | 5 => ⟨8, 7, 127, 0x7F7F⟩
  | 6 => ⟨5, 10, 15, 0x7BFF⟩
  | _ => ⟨8, 23, 127, 0x7F7FFFFF⟩

/-- The bits of a format's elements (R123). -/
def fmtBits : Nat → Nat
  | 0 => 8 | 1 => 8 | 2 => 4 | 3 => 8 | 4 => 4 | 5 => 16 | 6 => 16 | _ => 32

/-- The bytes that `n` elements of a format take (R79). -/
def fmtBytes (fmt n : Nat) : Nat := (n * fmtBits fmt + 7) / 8

/-- The magnitude of a code without its sign, in units of 2^-149. -/
def floatMag (f : FloatFmt) (c : Nat) : Nat :=
  let e := c / 2 ^ f.mb; let m := c % 2 ^ f.mb
  if e = 0 then m * 2 ^ (150 - f.bias - f.mb) else (2 ^ f.mb + m) * 2 ^ (149 + e - f.bias - f.mb)

/-- The value of a code of a format (R123, R124). -/
def decodeFmt (fmt code : Nat) : FV :=
  if fmt = 3 ∨ fmt = 4 then
    let i := signed (fmtBits fmt) code
    .fin (i < 0) (i.natAbs * 2 ^ 149)
  else
    let f := floatFmt fmt
    let w := 1 + f.eb + f.mb
    let neg := bit code (w - 1)
    let c := code % 2 ^ (w - 1)
    if c ≤ f.top then .fin neg (floatMag f c)
    else if fmt ≠ 0 ∧ c % 2 ^ f.mb = 0 then .inf neg
    else .nan

/-- The value of an fp32 code. -/
def f32Val (x : F32) : FV := decodeFmt 7 x.toNat

/-- The canonical fp32 NaN. -/
def f32NaN : F32 := 0x7FC00000

/-- An fp32 infinity. -/
def f32Inf (neg : Bool) : F32 := if neg then 0xFF800000 else 0x7F800000

/-- How a rounding resolves a remainder. -/
inductive Rnd where
  | nearest | up
  deriving DecidableEq, Repr

/-- `m / 2^sh` rounded: to nearest with ties to even, or up. -/
def roundShift (r : Rnd) (m sh : Nat) : Nat :=
  let q := m / 2 ^ sh; let rem := m % 2 ^ sh
  match r with
  | .up => if rem = 0 then q else q + 1
  | .nearest =>
    if 2 * rem < 2 ^ sh then q else if 2 ^ sh < 2 * rem then q + 1 else if sh = 0 then q else q + q % 2

/-- The fp32 code of a magnitude `m * 2^-u`, with `149 ≤ u`, rounded once (R132). -/
def encodeF32 (r : Rnd) (neg : Bool) (m u : Nat) : F32 :=
  let sh := max (m.log2 - 23) (u - 149)
  let (q, e) := if m.log2 < 23 ∧ u = 149 then (m, 0) else (roundShift r m sh, sh - (u - 149))
  let code := if q < 2 ^ 23 then q else (e + 1) * 2 ^ 23 + (q - 2 ^ 23)
  let code := if 0x7F800000 ≤ code then 0x7F800000 else code
  BitVec.ofNat 32 (b2n neg * 2 ^ 31 + code)

/-- The fp32 code of an exact signed sum in units of `2^-u`, rounded to nearest; `zneg` is the sign of a zero. -/
def encodeInt (r : Rnd) (i : Int) (u : Nat) (zneg : Bool) : F32 :=
  encodeF32 r (if i = 0 then zneg else decide (i < 0)) i.natAbs u

/-- The fp32 code of a value. -/
def encodeVal : FV → F32
  | .nan => f32NaN
  | .inf n => f32Inf n
  | .fin n m => encodeF32 .nearest n m 149

/-- The signed magnitude of a finite value. -/
def finInt (neg : Bool) (m : Nat) : Int := if neg then -(m : Int) else m

/-- Exact sum of two values, rounded once (IEEE 754 rules for NaN, infinities and zeros). -/
def addV (r : Rnd) : FV → FV → F32
  | .nan, _ => f32NaN
  | _, .nan => f32NaN
  | .inf a, .inf b => if a = b then f32Inf a else f32NaN
  | .inf a, _ => f32Inf a
  | _, .inf b => f32Inf b
  | .fin a m, .fin b k => encodeInt r (finInt a m + finInt b k) 149 (a && b)

/-- The negated value. -/
def negV : FV → FV
  | .nan => .nan
  | .inf a => .inf (!a)
  | .fin a m => .fin (!a) m

/-- The absolute value. -/
def absV : FV → FV
  | .nan => .nan
  | .inf _ => .inf false
  | .fin _ m => .fin false m

/-- An exact product in units of 2^-298. -/
inductive PV where
  | nan
  | inf (neg : Bool)
  | fin (neg : Bool) (m : Nat)
  deriving DecidableEq, Repr

/-- The exact product of two values (R131, R133): infinity times zero is NaN. -/
def mulV : FV → FV → PV
  | .nan, _ => .nan
  | _, .nan => .nan
  | .inf a, .inf b => .inf (a != b)
  | .inf a, .fin b m => if m = 0 then .nan else .inf (a != b)
  | .fin a m, .inf b => if m = 0 then .nan else .inf (a != b)
  | .fin a m, .fin b k => .fin (a != b) (m * k)

/-- A product rounded to fp32. -/
def encodeProd (r : Rnd) : PV → F32
  | .nan => f32NaN
  | .inf n => f32Inf n
  | .fin n m => encodeF32 r n m 298

/-- fp32 addition, to nearest even. -/
def fadd (a b : F32) : F32 := addV .nearest (f32Val a) (f32Val b)
/-- fp32 subtraction. -/
def fsub (a b : F32) : F32 := addV .nearest (f32Val a) (negV (f32Val b))
/-- fp32 multiplication. -/
def fmul (a b : F32) : F32 := encodeProd .nearest (mulV (f32Val a) (f32Val b))

/-- Fused multiply-add of values: the exact product and addend, rounded once. -/
def fmaV (r : Rnd) (p : PV) (d : FV) : F32 :=
  match p, d with
  | .nan, _ => f32NaN
  | _, .nan => f32NaN
  | .inf a, .inf b => if a = b then f32Inf a else f32NaN
  | .inf a, _ => f32Inf a
  | _, .inf b => f32Inf b
  | .fin a m, .fin b k => encodeInt r (finInt a m + finInt b (k * 2 ^ 149)) 298 (a && b)

/-- fp32 fused multiply-add `a * b + d`. -/
def ffma (a b d : F32) : F32 := fmaV .nearest (mulV (f32Val a) (f32Val b)) (f32Val d)

/-- The absolute value of an fp32 code: the sign bit cleared; a NaN becomes the canonical NaN. -/
def fabs (a : F32) : F32 := encodeVal (absV (f32Val a))

/-- fp32 division, correctly rounded to nearest even. -/
def fdiv (a b : F32) : F32 :=
  match f32Val a, f32Val b with
  | .nan, _ => f32NaN
  | _, .nan => f32NaN
  | .inf _, .inf _ => f32NaN
  | .inf x, .fin y _ => f32Inf (x != y)
  | .fin x _, .inf y => encodeF32 .nearest (x != y) 0 149
  | .fin x m, .fin y k =>
    if k = 0 then (if m = 0 then f32NaN else f32Inf (x != y))
    else
      let n := m * 2 ^ 700
      encodeF32 .nearest (x != y) (2 * (n / k) + (if n % k = 0 then 0 else 1)) 701

/-- The integer square root by Newton steps from above, `fuel` of them. -/
def isqrtLoop : Nat → Nat → Nat → Nat
  | 0, _, x => x
  | fuel + 1, n, x =>
    let y := (x + n / x) / 2
    if y < x then isqrtLoop fuel n y else x

/-- The integer square root. -/
def isqrt (n : Nat) : Nat := if n = 0 then 0 else isqrtLoop 1200 n (2 ^ (n.log2 / 2 + 1))

/-- fp32 square root, correctly rounded to nearest even. -/
def fsqrt (a : F32) : F32 :=
  match f32Val a with
  | .nan => f32NaN
  | .inf n => if n then f32NaN else f32Inf false
  | .fin n m =>
    if m = 0 then encodeF32 .nearest n 0 149
    else if n then f32NaN
    else
      let v := m * 2 ^ 451
      let q := isqrt v
      encodeF32 .nearest false (2 * q + (if q * q = v then 0 else 1)) 301

/-- Whether a value is finite. -/
def finite? : FV → Bool
  | .fin _ _ => true
  | _ => false

/-- Whether an fp32 code is a NaN. -/
def isNaN (a : F32) : Bool := f32Val a == .nan

/-- The larger of two values, +0 above -0; NaN when either is (R106). -/
def maxV (a b : F32) : F32 :=
  match f32Val a, f32Val b with
  | .nan, _ => f32NaN
  | _, .nan => f32NaN
  | .inf true, _ => b
  | _, .inf true => a
  | .inf false, _ => a
  | _, .inf false => b
  | .fin x m, .fin y k =>
    if finInt x m < finInt y k then b else if finInt y k < finInt x m then a else if x then b else a

/-- The smaller of two values, -0 below +0; NaN when either is (R106). -/
def minV (a b : F32) : F32 :=
  match f32Val a, f32Val b with
  | .nan, _ => f32NaN
  | _, .nan => f32NaN
  | .inf false, _ => b
  | _, .inf false => a
  | .inf true, _ => a
  | _, .inf true => b
  | .fin x m, .fin y k =>
    if finInt x m < finInt y k then a else if finInt y k < finInt x m then b else if x then a else b

/-- The larger of a register's absolute maximum and the magnitude of a value; a NaN changes nothing (R104, R144). -/
def raiseAmax (reg v : F32) : F32 := if isNaN v then reg else maxV reg (fabs v)

/-! ## Narrowing conversion -/

/-- What a conversion gives: the code, and what it counts as (R127). -/
structure Narrow where
  code : Nat
  sat : Bool
  nan : Bool
  deriving DecidableEq, Repr

/-- The code of a magnitude `q * 2^(sh + base)` of a floating format, `base` the exponent of its smallest subnormal. -/
def packFloat (f : FloatFmt) (q sh : Nat) : Nat := if q < 2 ^ f.mb then q else (sh + 1) * 2 ^ f.mb + (q - 2 ^ f.mb)

/-- One rounding of a magnitude to a multiple of `2^sh`: to nearest even, or stochastic with the draw `r` (R126, R128). -/
def roundDraw (draw : Option Nat) (m sh : Nat) : Nat :=
  match draw with
  | none => roundShift .nearest m sh
  | some r => m / 2 ^ sh + (if r < 2 ^ 16 * (m % 2 ^ sh) / 2 ^ sh then 1 else 0)

/-- The narrowing conversion of an fp32 value to a format (R126 to R128); `draw` is the 16-bit draw in stochastic mode.
A conversion to FP32 is exact. -/
def narrow (fmt : Nat) (draw : Option Nat) (x : F32) : Narrow :=
  let w := fmtBits fmt
  if fmt = 7 then (if isNaN x then ⟨0x7FC00000, false, true⟩ else ⟨x.toNat, false, false⟩)
  else if fmt = 3 ∨ fmt = 4 then
    let lim := fun (neg : Bool) => 2 ^ (w - 1) - b2n (!neg)
    let code := fun (neg : Bool) (k : Nat) => if neg then (2 ^ w - k) % 2 ^ w else k
    match f32Val x with
    | .nan => ⟨0, false, true⟩
    | .inf n => ⟨code n (lim n), true, false⟩
    | .fin n m =>
      let q := roundDraw draw m 149
      let out := match draw with
        | none => decide (lim n < q)
        | some _ => decide (lim n * 2 ^ 149 < m)
      if out then ⟨code n (lim n), true, false⟩ else ⟨code n q, false, false⟩
  else
    let f := floatFmt fmt
    let sgn := fun (neg : Bool) => b2n neg * 2 ^ (w - 1)
    let base := 150 - f.bias - f.mb
    match f32Val x with
    | .nan => ⟨if fmt = 0 ∨ fmt = 1 then 0x7F else if fmt = 2 then 0 else if fmt = 5 then 0x7FC0 else 0x7E00, false, true⟩
    | .inf n => ⟨sgn n + (if fmt = 0 ∨ fmt = 2 then f.top else f.top / 2 ^ f.mb * 2 ^ f.mb + 2 ^ f.mb), true, false⟩
    | .fin n m =>
      let sh := max (m.log2 - f.mb) base
      let q := roundDraw draw m sh
      let out := match draw with
        | none => decide (floatMag f f.top < q * 2 ^ sh)
        | some _ => decide (floatMag f f.top < m)
      if out then ⟨sgn n + f.top, true, false⟩ else ⟨sgn n + packFloat f q (sh - base), false, false⟩

/-! ## The stochastic-rounding generator -/

/-- One step of the generator (R129). -/
def lfsrStep (s : BitVec 32) : BitVec 32 := if s.getLsbD 0 then (s >>> 1) ^^^ 0x80200003#32 else s >>> 1

/-- `n` steps of the generator. -/
def lfsrSteps : Nat → BitVec 32 → BitVec 32
  | 0, s => s
  | n + 1, s => lfsrSteps n (lfsrStep s)

/-- A draw: 16 steps, then bits [15:0] of the state (R129). -/
def lfsrDraw (s : BitVec 32) : Nat × BitVec 32 := let t := lfsrSteps 16 s; (t.toNat % 2 ^ 16, t)

/-- A seed; 0 is replaced by 1 (R129). -/
def lfsrSeed (x : BitVec 32) : BitVec 32 := if x = 0 then 1 else x

/-! ## The step of a MAC -/

/-- The exact sum of products and an accumulator, rounded once (R132, R133): NaN from any NaN or from infinities of
opposite signs, an infinity from any infinity. `acc` is absent in the first step under INIT. -/
def macSum (prods : List PV) (acc : Option F32) : F32 :=
  let av := acc.map f32Val
  let infs := prods.filterMap (fun p => match p with | .inf n => some n | _ => none)
  let infs := infs ++ (match av with | some (.inf n) => [n] | _ => [])
  if prods.any (· == .nan) || av == some .nan then f32NaN
  else if infs.any (· == true) && infs.any (· == false) then f32NaN
  else if infs.any (fun _ => true) then f32Inf (infs.headD false)
  else
    let fins := prods.filterMap (fun p => match p with | .fin n m => some (n, m) | _ => none)
    let fins := fins ++ (match av with | some (.fin n m) => [(n, m * 2 ^ 149)] | _ => [])
    encodeInt .nearest (fins.foldl (fun t p => t + finInt p.1 p.2) 0) 298 (fins.all (·.1) && !fins.isEmpty)

/-- The exact sum of fp32 values, rounded once (R152, R155). -/
def sumExact (vs : List FV) : F32 :=
  let infs := vs.filterMap (fun p => match p with | .inf n => some n | _ => none)
  if vs.any (· == .nan) then f32NaN
  else if infs.any (· == true) && infs.any (· == false) then f32NaN
  else if infs.any (fun _ => true) then f32Inf (infs.headD false)
  else
    let fins := vs.filterMap (fun p => match p with | .fin n m => some (n, m) | _ => none)
    encodeInt .nearest (fins.foldl (fun t p => t + finInt p.1 p.2) 0) 149 (fins.all (·.1) && !fins.isEmpty)

/-- The rescale of the drain (R137): four fp32 operations on exact operands, each rounded once, the last fused. -/
def rescale (mul bias corr wzp acc : F32) (tsum : Int) : F32 :=
  let p := encodeProd .nearest (mulV (f32Val wzp) (.fin (decide (tsum < 0)) (tsum.natAbs * 2 ^ 149)))
  let d := fsub acc corr
  let e := fsub d p
  ffma mul e bias

/-- The tolerance of the sum check (R155): TOL_REL × n × (A + |C|) + TOL_ABS, each operation rounded up. -/
def tolerance (rel ab a c : F32) (n : Nat) : F32 :=
  let t1 := encodeProd .up (mulV (f32Val rel) (.fin false (n * 2 ^ 149)))
  let t2 := addV .up (f32Val a) (absV (f32Val c))
  let t3 := encodeProd .up (mulV (f32Val t1) (f32Val t2))
  addV .up (f32Val t3) (f32Val ab)

/-- Whether a slot passes the sum check (R155, R157), and whether it passes as non-finite. -/
def slotPasses (c s t : F32) : Bool × Bool :=
  match f32Val c, f32Val s with
  | .nan, .nan => (true, true)
  | .inf a, .inf b => (a == b, a == b)
  | .fin a m, .fin b k => match f32Val t with
    | .fin _ tm => (decide ((finInt a m - finInt b k).natAbs ≤ tm), false)
    | .inf _ => (true, false)
    | .nan => (false, false)
  | _, _ => (false, false)

/-- The fp32 value of an integer, rounded once. -/
def intF32 (i : Int) : F32 := encodeInt .nearest (i * 2 ^ 149) 149 false

/-! ## Operations that are accurate to within 2 ulp (R106)

The exact result lies between two numbers in units of 2^-256, which stand one relative error of 2^-200 apart or less; every code
within 2 ulp of some number between them is one that the device may give. -/

/-- One, in units of 2^-256. -/
def fixOne : Nat := 2 ^ 256

/-- The fp32 code next below a magnitude `m * 2^-149`, and the distance of the codes there in units of 2^-149. -/
def floorCode (m : Nat) : Nat × Nat :=
  let sh := m.log2 - 23
  if m < 2 ^ 24 then (m, 1) else ((sh + 1) * 2 ^ 23 + m / 2 ^ sh - 2 ^ 23, 2 ^ sh)

/-- The fp32 codes within 2 ulp of a number between `lo` and `hi`, in units of 2^-256; an ulp is the distance
of the codes above `hi`, and one past the largest finite code is infinity (R127). -/
def within2 (lo hi : Nat) : List Nat :=
  let base := (floorCode (lo / 2 ^ 107)).1
  let far := 2 * (floorCode (hi / 2 ^ 107)).2 * 2 ^ 107
  let near (k : Nat) : Bool :=
    decide (lo ≤ floatMag (floatFmt 7) k * 2 ^ 107 + far) && decide (floatMag (floatFmt 7) k * 2 ^ 107 ≤ hi + far)
  (((List.range 10).map (base + ·)).filter (5 ≤ ·)).map (· - 5) |>.filter near |>.map (min 0x7F800000)

/-- e to the power `m * 2^-149`, for a power below 256, in units of 2^-256, rounded down: the power series at a 2^16th of the power,
squared 16 times. -/
def expDown (m : Nat) : Nat :=
  let y := m * 2 ^ 91
  let sum := (List.range 40).foldl (fun (a : Nat × Nat) k =>
    let t := a.1 * y / (fixOne * (k + 1))
    (t, a.2 + t)) (fixOne, fixOne)
  (List.range 16).foldl (fun a _ => a * a / fixOne) sum.2

/-- A number no less than the exact one that `expDown` gave. -/
def expUp (e : Nat) : Nat := e + e / 2 ^ 200 + 2 ^ 20

/-- The codes that EXP may give for a finite value; for any other the spec states no result. -/
def expCodes : FV → List Nat
  | .fin neg m =>
    if 2 ^ 157 ≤ m then (if neg then within2 0 1 else [0x7F800000])
    else
      let e := expDown m
      if neg then within2 (fixOne * fixOne / expUp e) (fixOne * fixOne / e + 1) else within2 e (expUp e)
  | _ => []

/-- The codes that RECIP may give for a finite value that is not zero. -/
def recipCodes : FV → List Nat
  | .fin neg m => if m = 0 then [] else (within2 (2 ^ 405 / m) (2 ^ 405 / m + 1)).map (· + b2n neg * 2 ^ 31)
  | _ => []

/-- The codes that RSQRT may give for a finite value above zero. -/
def rsqrtCodes : FV → List Nat
  | .fin false m => if m = 0 then [] else within2 (isqrt (2 ^ 661 / m)) (isqrt (2 ^ 661 / m) + 1)
  | _ => []

/-- The codes that SIGMOID may give for a finite value. -/
def sigmoidCodes : FV → List Nat
  | .fin neg m =>
    if 2 ^ 157 ≤ m then (if neg then within2 0 1 else within2 (fixOne - 1) fixOne)
    else
      let e := expDown m
      if neg then within2 (fixOne * fixOne / (fixOne + expUp e)) (fixOne * fixOne / (fixOne + e) + 1)
      else within2 (e * fixOne / (fixOne + e)) (expUp e * fixOne / (fixOne + expUp e) + 1)
  | _ => []

/-- The code of a list that a free value picks; the free value itself where the list is empty. -/
def pickCode (free : F32) (l : List Nat) : F32 :=
  if l.isEmpty then free else BitVec.ofNat 32 (l.getD (free.toNat % l.length) 0)

/-- EXP (R106). -/
def fexp (a : F32) : F32 := pickCode (Config.exp a) (expCodes (f32Val a))
/-- RECIP (R106). -/
def frecip (a : F32) : F32 := pickCode (Config.recip a) (recipCodes (f32Val a))
/-- RSQRT (R106). -/
def frsqrt (a : F32) : F32 := pickCode (Config.rsqrt a) (rsqrtCodes (f32Val a))
/-- SIGMOID (R106). -/
def fsigmoid (a : F32) : F32 := pickCode (Config.sigmoid a) (sigmoidCodes (f32Val a))

end Sys2Proof.Machine
end

