-- ==== Sys2Proof/Machine/CoreOps.lean ====
section
/-! DEFINITION. A core beside its instructions (chapters 03 and 05): its memories, semaphores, scoreboard, epochs and
checkpoints, the dependency table, restores and squashes, verdicts and retirement, and the hold buffers. -/

namespace Sys2Proof.Machine

/-! ## Cores and engines -/

/-- One core. -/
def Device.core (s : Device) (c : Nat) : Core := nget {} s.cores c

/-- The state with one core replaced. -/
def Device.setCore (s : Device) (c : Nat) (k : Core) : Device := { s with cores := nset {} s.cores c k }

/-- One engine. -/
def Device.engine (s : Device) (e : Nat) : Engine := nget {} s.engines e

/-- The state with one engine replaced. -/
def Device.setEngine (s : Device) (e : Nat) (g : Engine) : Device := { s with engines := nset {} s.engines e g }

/-- The unit of a core on its die (R43). -/
def coreUnit (c : Nat) : Nat := c % 10

/-- The core that a unit 0 to 9 of a SPAR die names. -/
def unitCore (die u : Nat) : Nat := sparOrd die * 10 + u

/-- The job of a running core: CORE_STATE.JOB with JOB_V (R119). -/
def Device.coreJob (s : Device) (c : Nat) : Option Nat :=
  if s.rdf Reg.CORE_STATE c 10 10 = 1 then some (s.rdf Reg.CORE_STATE c 9 4) else none

/-- Bits `hi` to `lo` of a unit instruction. -/
def ifld (i : Word128) (hi lo : Nat) : Nat := bits i.toNat hi lo

/-! ## The core address space -/

/-- Whether a range lies in the core address space (R88). -/
def coreRange (a n : Nat) : Bool := a + n ≤ 0x310000

/-- The bytes of a range of the core address space (R88). -/
def Device.coreRead (s : Device) (c a n : Nat) : List Byte :=
  (List.range n).map (fun i =>
    if a + i < 0x300000 then s.byteAt 0 c (a + i) else s.byteAt 1 c (a + i - 0x300000))

/-- Whether the word of a core address is poisoned. -/
def Device.corePoison (s : Device) (c a : Nat) : Bool :=
  if a < 0x300000 then s.wordPoison 0 c (a / 16) else s.wordPoison 1 c ((a - 0x300000) / 16)

/-- The ring entries of the search port that a write of a core's exchange bank touches are requests, made in the core's
current epoch (R328). -/
def Device.notePorts (s : Device) (c a n : Nat) : Device :=
  let slots := (List.range 32).filter (fun k => decide (a < 0xF100 + 8 * k + 8) && decide (0xF100 + 8 * k < a + n))
  if slots.isEmpty then s else
  let e := s.rdf Reg.CORE_EPOCH c 7 0
  let old := s.srch.ports.filter (fun q => !(q.core == c && slots.contains q.slot && !q.sent))
  { s with srch := { s.srch with ports := old ++ slots.map (fun k => ⟨0, c, k, 0, 0, e, false⟩) } }

/-- A range of the exchange bank is written from the core's side. -/
def Device.bankStore (s : Device) (c a : Nat) (data : List Byte) (poison : List Nat) : Device :=
  (s.writeMem 1 c a data poison).notePorts c a data.length

/-- A range of the core address space is written (R88): what lies below 0x30_0000 in the scratchpad, the rest in the exchange bank. -/
def Device.coreWrite (s : Device) (c a : Nat) (data : List Byte) (poison : List Nat) : Device :=
  if 0x300000 ≤ a then s.bankStore c (a - 0x300000) data poison
  else if a + data.length ≤ 0x300000 then s.writeMem 0 c a data poison
  else
    let n := 0x300000 - a
    (s.writeMem 0 c a (data.take n) (poison.filter (· * 16 < n))).bankStore c 0 (data.drop n)
      ((poison.filter (n ≤ · * 16)).map (· - n / 16))

/-- The code of element `k` of a sequence that starts at a core address (R79). -/
def Device.coreElem (s : Device) (c a fmt k : Nat) : Nat :=
  let w := fmtBits fmt
  if w = 4 then leNat (s.coreRead c (a + k / 2) 1) / 2 ^ (4 * (k % 2)) % 16
  else leNat (s.coreRead c (a + k * (w / 8)) (w / 8))

/-- Whether element `k` lies in a poisoned word (R467). -/
def Device.elemPoison (s : Device) (c a fmt k : Nat) : Bool := s.corePoison c (a + k * fmtBits fmt / 8)

/-- The bytes of a list of element codes (R79). `high` are bits [7:4] of the last byte where an odd number of 4-bit elements leaves them. -/
def packHigh (fmt high : Nat) : List Nat → List Byte
  | [] => []
  | [a] => if fmtBits fmt = 4 then [BitVec.ofNat 8 (a % 16 + 16 * (high % 16))] else natLe (fmtBits fmt / 8) a
  | a :: b :: rest =>
    if fmtBits fmt = 4 then BitVec.ofNat 8 (a % 16 + 16 * (b % 16)) :: packHigh fmt high rest
    else natLe (fmtBits fmt / 8) a ++ natLe (fmtBits fmt / 8) b ++ packHigh fmt high rest

/-- The bytes of a list of element codes; 0 after an odd number of 4-bit ones (R79, log entry 161). -/
def packElems (fmt : Nat) (codes : List Nat) : List Byte := packHigh fmt 0 codes

/-! ## Faults -/

/-- An instruction fault (R111): the cause and the instruction are recorded, the core stops issuing, and a job fault is
reported. `cause` is the bit of CORE_FAULT (R120). CORE_FAULT_INFO takes OP and ENG from bits [123:120] and [119:118] of every
instruction, and names the sequencer as queue 6 (log entry 156). -/
def Device.instrFault (s : Device) (c cause : Nat) (i : Word128) (queue : Nat) : Device :=
  let s := s.orr Reg.CORE_FAULT c (2 ^ cause)
  let s := s.wr Reg.CORE_FAULT_INFO c (ifld i 127 124 + ifld i 123 120 * 16 + ifld i 119 118 * 2 ^ 8 + queue % 8 * 2 ^ 10)
  let s := s.wrf Reg.CORE_STATE c 3 3 1
  { s with faults := s.faults ++ [(c, 1)] }

/-! ## Semaphores -/

/-- A semaphore's register. -/
def semReg (k : Nat) : Nat := Reg.CORE_SEM + 4 * k

/-- The value of a semaphore. -/
def Device.sem (s : Device) (c k : Nat) : Nat := s.rdf (semReg k) c 15 0

/-- A semaphore is raised by `n`; one that would pass 65,535 holds, sets OVERFLOW and raises an instruction fault
(R94). Semaphores 0 to 15 take a trailer's or a POST's increment too (log entry 164). -/
def Device.postSem (s : Device) (c k n : Nat) (i : Word128) (queue : Nat) : Device :=
  if s.sem c k + n ≤ 65535 then s.wrf (semReg k) c 15 0 (s.sem c k + n)
  else (s.wr (semReg k) c (0x1FFFF)).instrFault c 4 i queue

/-- Whether the wait of a trailer is met (R94, R99). -/
def Device.waitMet (s : Device) (c : Nat) (i : Word128) : Bool := ifld i 26 19 ≤ s.sem c (ifld i 31 27)

/-- The semaphore of a trailer is reduced by its need at issue (R94). -/
def Device.takeSem (s : Device) (c : Nat) (i : Word128) : Device :=
  if ifld i 26 19 = 0 then s
  else s.wrf (semReg (ifld i 31 27)) c 15 0 (s.sem c (ifld i 31 27) - ifld i 26 19)

/-- The semaphore that a trailer posts at completion (R99). -/
def Device.postTrailer (s : Device) (c : Nat) (i : Word128) : Device :=
  if ifld i 18 18 = 1 then s.postSem c (ifld i 17 13) 1 i 6 else s

/-! ## The layout of unit instructions -/

/-- The reserved bits of a unit instruction that must be 0 (R99, R101, R105, R107, R109), as bit ranges. -/
def reservedBits (i : Word128) : List (Nat × Nat) :=
  let u := ifld i 127 124; let op := ifld i 123 120
  (12, 0) ::
  (if u = 1 then
    (if op = 1 then [(117, 116), (111, 108), (92, 70), (35, 32)]
     else if op = 2 then [(35, 32)] else [(33, 32)])
   else if u = 2 then [(36, 32)]
   else if u = 3 then (33, 32) :: (if op = 1 then [(119, 109), (108, 91)] else [])
   else if op = 3 then [(98, 32)] else if op = 4 then [] else [(119, 32)])

/-- Elements per lane per cycle of a pair of weight and operand format, and the greatest K_LEN (R78). -/
def pairEpc (w a : Nat) : Option (Nat × Nat) :=
  let w8 := w == 0 || w == 1; let a8 := a == 0 || a == 1
  if w8 && a8 then some (8, 256)
  else if w = 2 ∧ a = 2 then some (16, 512)
  else if w = 2 ∧ a8 then some (8, 512)
  else if w8 && a == 2 then some (8, 256)
  else if w = 3 ∧ a = 3 then some (8, 256)
  else if w = 4 ∧ a = 4 then some (16, 512)
  else if w = 4 ∧ a = 3 then some (8, 512)
  else if w = 3 ∧ a = 4 then some (8, 256)
  else if w = 5 ∧ a = 5 ∨ w = 6 ∧ a = 6 then some (2, 128)
  else none

/-- The format class of a pair (R156). -/
def pairClass (w a : Nat) : Nat :=
  if w = 2 ∨ a = 2 then 1 else if w = 3 ∨ w = 4 then 2 else if w = 5 ∨ w = 6 then 3 else 0

/-- Whether a vector operation exists (R106). -/
def vopOk (v : Nat) : Bool := (1 ≤ v && v ≤ 0x0D) || (0x10 ≤ v && v ≤ 0x12)

/-- Whether a vector operation reads b (R106). -/
def vopReadsB (v : Nat) : Bool := (1 ≤ v && v ≤ 6) || v == 0x0C

/-- Whether a vector operation is a reduction. -/
def vopReduces (v : Nat) : Bool := 0x10 ≤ v && v ≤ 0x12

/-- The element count of a vector instruction (R105). -/
def vecN (i : Word128) : Nat := if ifld i 52 37 = 0 then 65536 else ifld i 52 37

/-- The byte length of a DMA instruction (R107). -/
def dmaBytes (i : Word128) : Nat := (if ifld i 51 36 = 0 then 65536 else ifld i 51 36) * 32

/-- The ranges of the core address space that a unit instruction reads and writes (R98), as address and length. -/
def instrRanges (i : Word128) : List (Nat × Nat) × List (Nat × Nat) :=
  let u := ifld i 127 124; let op := ifld i 123 120
  if u = 1 ∧ op = 1 then ([(ifld i 69 48, (ifld i 100 93 - 1) * ifld i 47 36 * 32 + 256)], [])
  else if u = 1 ∧ op = 2 then
    ([(ifld i 69 48, (ifld i 86 80 - 1) * ifld i 47 36 * 32 + fmtBytes (ifld i 111 108) (ifld i 79 70))], [])
  else if u = 1 then
    ([(ifld i 47 34 * 256 + ifld i 109 103 * 16, ifld i 102 95 * 16)],
     [(ifld i 81 60, (ifld i 88 82 - 1) * ifld i 59 48 * 32 + fmtBytes (ifld i 117 114) (ifld i 102 95))])
  else if u = 2 then
    let v := ifld i 123 118; let n := vecN i
    let d := (ifld i 69 53 * 32, if vopReduces v then 4 else fmtBytes (ifld i 109 106) n)
    ((ifld i 103 87 * 32, fmtBytes (ifld i 117 114) n)
      :: (if vopReadsB v then [(ifld i 86 70 * 32, fmtBytes (ifld i 113 110) (if ifld i 104 104 = 1 then 1 else n))] else [])
      ++ (if v = 4 then [d] else []), [d])
  else if u = 3 then
    let l := (ifld i 68 52 * 32, dmaBytes i)
    if op = 1 then ([l], [(ifld i 90 69, dmaBytes i)]) else if op = 2 then ([l], []) else ([], [l])
  else ([], [])

/-- A reserved value in a SYNC HINT (R504): KIND 0 or 3, CLASS above 4, a HOIST of no duration, a reserved bit. -/
def hintBad (i : Word128) : Bool :=
  ifld i 119 118 == 0 || ifld i 119 118 == 3 || decide (4 < ifld i 117 115)
    || (ifld i 119 118 == 1 && ifld i 113 96 == 0) || ifld i 79 32 != 0

/-- Why a unit instruction is malformed (R99 to R111): the bit of CORE_FAULT, in the order unit, reserved bits and
fields, formats, addresses. -/
def malformed (i : Word128) : Option Nat :=
  let u := ifld i 127 124; let op := ifld i 123 120; let v := ifld i 123 118
  if u = 0 ∨ 4 < u ∨ (u = 1 ∧ (op = 0 ∨ 3 < op)) ∨ (u = 2 ∧ !vopOk v) ∨ (u = 3 ∧ (op = 0 ∨ 3 < op))
      ∨ (u = 4 ∧ (op = 0 ∨ 5 < op)) then some 6
  else if (reservedBits i).any (fun r => ifld i r.1 r.2 != 0) then some 1
  else
    let rowBad := fun (f n : Nat) => decide (n = 0 ∨ 128 < n ∨ 128 < f + n)
    let tokBad := fun (f n : Nat) => decide (n = 0 ∨ 64 < n ∨ 64 < f + n)
    let field :=
      if u = 1 ∧ op = 1 then rowBad (ifld i 107 101) (ifld i 100 93) || ifld i 47 36 == 0
      else if u = 1 ∧ op = 2 then
        rowBad (ifld i 107 101) (ifld i 100 93) || tokBad (ifld i 92 87) (ifld i 86 80) || ifld i 47 36 == 0
          || ifld i 79 70 == 0
          || (match pairEpc (ifld i 115 112) (ifld i 111 108) with | some (_, k) => decide (k < ifld i 79 70) | none => false)
      else if u = 1 then
        rowBad (ifld i 109 103) (ifld i 102 95) || tokBad (ifld i 94 89) (ifld i 88 82) || ifld i 59 48 == 0
          || (fmtBits (ifld i 117 114) == 4 && ifld i 102 95 % 2 == 1)
      else if u = 3 then (op != 1 && decide (99 < ifld i 119 113)) || (op == 2 && ifld i 112 109 == 13 && ifld i 34 34 == 0)
      else if u = 4 ∧ op = 4 then hintBad i
      else false
    let fmt :=
      if u = 1 ∧ op = 1 then decide (6 < ifld i 115 112)
      else if u = 1 ∧ op = 2 then (pairEpc (ifld i 115 112) (ifld i 111 108)).isNone
      else if u = 1 then decide (7 < ifld i 117 114)
      else if u = 2 then decide (7 < ifld i 117 114 ∨ 7 < ifld i 113 110 ∨ 7 < ifld i 109 106)
      else false
    let rs := (instrRanges i).1 ++ (instrRanges i).2
    let addr := rs.any (fun r => !coreRange r.1 r.2)
      || (u == 1 && op != 3 && ifld i 69 48 % 32 != 0)
      || (u == 1 && op == 3 && (ifld i 81 60 % 32 != 0
            || decide (0x300000 < ifld i 47 34 * 256 + (ifld i 109 103 + ifld i 102 95) * 16)))
      || (u == 3 && ifld i 108 69 % 32 != 0)
    if field then some 1 else if fmt then some 0 else if addr then some 2 else none

/-- The queue of a unit instruction (R97): 0 to 3 the logical engines, 4 the vector unit, 5 the DMA mover, 6 the
sequencer itself. -/
def queueOf (i : Word128) : Nat :=
  let u := ifld i 127 124
  if u = 1 then ifld i 119 118 else if u = 2 then 4 else if u = 3 then 5 else 6

/-! ## Scoreboard -/

/-- Whether two ranges overlap. -/
def overlap (a b : Nat × Nat) : Bool := decide (a.1 < b.1 + b.2) && decide (b.1 < a.1 + a.2)

/-- Whether a new instruction must wait for an earlier one (R98). -/
def conflicts (old new : Word128) : Bool :=
  let (ro, wo) := instrRanges old; let (rn, wn) := instrRanges new
  wo.any (fun a => (rn ++ wn).any (overlap a)) || ro.any (fun a => wn.any (overlap a))

/-- The physical engine ID of a logical engine of a core (R101, CORE_ENG_MAP). -/
def Device.physEngine (s : Device) (c l : Nat) : Nat := c * 4 + s.rdf Reg.CORE_ENG_MAP c (2 * l + 1) (2 * l)

/-- The instructions that wait in a queue (R97). -/
def Device.queued (s : Device) (c q : Nat) : List Placed := (s.core c).board.filter (fun p => p.queue == q && !p.issued)

/-- ENG_STATUS.QUEUE_DEPTH of the core's engines follows the queues that each serves, up to 8 (R122, log entry 155). -/
def Device.showQueues (s : Device) (c : Nat) : Device :=
  (rangeFrom (c * 4) 4).foldl (fun a e =>
    let n := (((List.range 4).filter (fun l => a.physEngine c l == e)).map (fun l => (a.queued c l).length)).foldl (· + ·) 0
    a.wrf Reg.ENG_STATUS e 6 3 (min 8 n)) s

/-- A unit instruction takes its place on the scoreboard and in its queue (R97, R98). Answers its sequence number. -/
def Device.place (s : Device) (c : Nat) (i : Word128) : Nat × Device :=
  let k := s.core c
  let p : Placed := ⟨k.nextSeq, i, queueOf i, s.rdf Reg.CORE_EPOCH c 7 0, false⟩
  (k.nextSeq, (s.setCore c { k with board := k.board ++ [p], nextSeq := k.nextSeq + 1 }).showQueues c)

/-- Whether a core executes nothing: it has stopped after a fault (R111), or its plane is in reset (R247). -/
def Device.faulted (s : Device) (c : Nat) : Bool := s.rdf Reg.CORE_STATE c 3 3 == 1 || s.resetting

/-- Whether a core is halted by debug, or told to halt (R575). -/
def Device.halted (s : Device) (c : Nat) : Bool := (s.core c).halting || s.rdf Reg.CORE_STATE c 2 0 == 3

/-- Whether the sequencer stands still: at a SYNC that it cannot execute yet, at a CKPT or END that waits for an epoch (R109, R113), or
halted by debug (R575). -/
def Device.seqWaits (s : Device) (c : Nat) : Bool :=
  let k := s.core c
  k.atSync.isSome || k.ckptWait.isSome || k.ending.isSome || s.halted c

/-- Whether the sequencer may place an instruction: it does not stand still, and its queue of 8 and the scoreboard of 48 have room (R97). -/
def Device.mayPlace (s : Device) (c : Nat) (i : Word128) : Bool :=
  !s.seqWaits c && decide ((s.core c).board.length < 48) && decide ((s.queued c (queueOf i)).length < 8)

/-- The first entry of the scoreboard that holds an instruction and has not issued. -/
def Device.findPlaced (s : Device) (c : Nat) (i : Word128) : Option Placed :=
  (s.core c).board.find? (fun p => p.instr = i ∧ !p.issued)

/-- Whether a core may not send to a unit yet, because REOPEN_ACK has not come (R175 step 4). -/
def Device.reopening (s : Device) (c die u : Nat) : Bool := (s.core c).reopenWait.any (fun w => w.1 == die * 16 + u)

/-- Whether an engine instruction may issue beside what its physical engine runs (R81, R83): for a MAC with SWAP no WLOAD of the engine
runs, for a DRAIN no earlier MAC and no earlier DRAIN of it. -/
def Device.engineFree (s : Device) (c : Nat) (p : Placed) : Bool :=
  let op := ifld p.instr 123 120
  let runs := fun (o : Nat) => (s.core c).board.any (fun q => q.issued && decide (q.queue < 4)
    && s.physEngine c q.queue == s.physEngine c p.queue && ifld q.instr 123 120 == o)
  !((op == 2 && ifld p.instr 117 117 == 1 && runs 1) || (op == 3 && (runs 2 || runs 3)))

/-- Whether a placed instruction could issue (R81, R83, R97, R98, R175): at the head of its queue, its wait met, no earlier
conflicting instruction incomplete, its engine free for it, and no unit that it sends to reopening. -/
def Device.canIssue (s : Device) (c : Nat) (p : Placed) : Bool :=
  s.waitMet c p.instr
    && (s.core c).board.all (fun q =>
        !(decide (q.seq < p.seq)) || (q.queue != p.queue || q.issued) && !conflicts q.instr p.instr)
    && (decide (4 ≤ p.queue) || s.engineFree c p)
    && !(p.queue == 5 && ifld p.instr 123 120 != 1 && s.reopening c (ifld p.instr 119 113) (ifld p.instr 112 109))

/-- Whether a placed instruction may issue: an engine that serves two queues takes from them in turn (R182, log entry 155). -/
def Device.mayIssue (s : Device) (c : Nat) (p : Placed) : Bool :=
  let e := s.physEngine c p.queue
  s.canIssue c p && !(decide (p.queue < 4) && (s.engine e).served == some p.queue
    && (List.range 4).any (fun l => l != p.queue && s.physEngine c l == e && (s.queued c l).any (fun q => s.canIssue c q)))

/-- An instruction issues: its semaphore is taken and its entry is marked (R81, R94). -/
def Device.issue (s : Device) (c : Nat) (p : Placed) : Device :=
  let s := s.takeSem c p.instr
  let s := if p.queue < 4 then
      let e := s.physEngine c p.queue
      s.setEngine e { s.engine e with served := some p.queue }
    else s
  let k := s.core c
  (s.setCore c { k with board := k.board.map (fun q => if q.seq = p.seq then { q with issued := true } else q) }).showQueues c

/-- A unit instruction of the row named comes to the head of its queue (R97 to R99, R111): malformed, it is an
instruction fault; not allowed to issue yet, it waits on the scoreboard; else it issues and `run` is its effect. One
that no place event put there takes its place first, which the sequencer's stall may hold up (log entry 158). -/
def Device.runUnit (s : Device) (c : Nat) (i : Word128) (run : Device → Placed → Device) : Device :=
  if s.faulted c then s
  else match malformed i with
    | some cause => s.instrFault c cause i (queueOf i)
    | none =>
      let at_ := match s.findPlaced c i with
        | some p => some (p.seq, s)
        | none => if s.mayPlace c i then some (s.place c i) else none
      match at_ with
      | none => s.inc Reg.CORE_SEQ_WAIT c 1
      | some (seq, s) => match (s.core c).board.find? (fun p => p.seq = seq) with
        | none => s
        | some p => if s.mayIssue c p then run (s.issue c p) p else s

/-! ## Epochs -/

/-- Whether epoch `a` is at or above `b` in the modulo-256 order (R112, R167). -/
def epochGe (a b : Nat) : Bool := (a + 256 - b % 256) % 256 < 128

/-- CORE_EPOCH.OPEN follows the open epochs (R118). -/
def Device.showEpochs (s : Device) (c : Nat) : Device :=
  s.wrf Reg.CORE_EPOCH c 18 16 ((s.core c).epochs.length)

/-- The current epoch of a core. -/
def Device.epoch (s : Device) (c : Nat) : Nat := s.rdf Reg.CORE_EPOCH c 7 0

/-- A checkpoint is saved and its epoch opens (R112). -/
def Device.openEpoch (s : Device) (c e : Nat) : Device :=
  let k := s.core c
  let ck : Checkpoint := ⟨e, k.iaddr, k.sregs, (List.range 32).map (fun i => s.rd (semReg i) c), k.nextArrival⟩
  let s := s.setCore c { k with ckpts := k.ckpts ++ [ck], epochs := k.epochs ++ [⟨e, false, 0, 0, [], []⟩], ckptWait := none }
  let s := s.wrf Reg.CORE_EPOCH c 7 0 e
  (s.inc Reg.CORE_CKPTS c 1).showEpochs c

/-- The unreleased inputs that a core has consumed in an epoch and earlier ones, as producer and epoch (R167). -/
def Core.inputs (k : Core) (epoch : Nat) : List (Nat × Nat) :=
  (k.deps.filter (fun d => epochGe epoch d.2.loc)).flatMap (fun d => d.2.epochs.map (fun e => (d.1, e)))

/-- Whether a producer has reported an epoch CLEAN to a core (R167). -/
def Core.released (k : Core) (producer epoch : Nat) : Bool :=
  match (nget {} k.deps producer : Dep).cleaned with
  | some x => epochGe x epoch
  | none => false

/-- The current epoch closes: its checks and consumed inputs are fixed (R163). -/
def Device.closeEpoch (s : Device) (c : Nat) : Device :=
  let k := s.core c
  s.setCore c { k with epochs := k.epochs.map (fun e =>
    if e.num = s.epoch c then { e with closed := true, inputs := k.inputs e.num } else e) }

/-- A waiting CKPT goes on when an epoch may be open (R112, R113). -/
def Device.resumeCkpt (s : Device) (c : Nat) : Device :=
  let k := s.core c
  match k.ckptWait with
  | none => s
  | some i =>
    if k.epochs.length < s.rdf Reg.CORE_RUNAHEAD c 2 0 then (s.openEpoch c ((s.epoch c + 1) % 256)).postTrailer c i else s

/-- TLT_DEP_PENDING follows the dependency table (R183). -/
def Device.showDeps (s : Device) (c : Nat) : Device :=
  s.wr Reg.TLT_DEP_PENDING c (((s.core c).deps.filter (fun d => !d.2.epochs.isEmpty)).length)

/-- The highest of a list of epochs in the modulo order. -/
def highEpoch : List Nat → Option Nat
  | [] => none
  | e :: es => some (es.foldl (fun h x => if epochGe x h then x else h) e)

/-- An arrival with SPEC 1 is recorded in the dependency table (R167); the core's own only for the count of R176. -/
def Device.recordDep (s : Device) (c producer epoch : Nat) : Device :=
  let k := s.core c
  if k.released producer epoch then s
  else
    let d : Dep := nget {} k.deps producer
    let d := { d with landed := d.landed ++ [epoch] }
    let d := if producer = c then d
      else { d with epochs := if d.epochs.contains epoch then d.epochs else d.epochs ++ [epoch],
                    loc := if d.epochs.isEmpty then s.epoch c else d.loc }
    (s.setCore c { k with deps := nset {} k.deps producer d }).showDeps c

/-- A CLEAN from a producer empties its entry, or removes the epochs it covers (R167). -/
def Device.cleanDep (s : Device) (c producer epoch : Nat) : Device :=
  let k := s.core c
  let d : Dep := nget {} k.deps producer
  let d := { d with epochs := d.epochs.filter (fun e => !epochGe epoch e),
                    landed := d.landed.filter (fun e => !epochGe epoch e),
                    cleaned := match d.cleaned with
                      | some x => some (if epochGe epoch x then epoch else x)
                      | none => some epoch }
  (s.setCore c { k with deps := nset {} k.deps producer d }).showDeps c

/-- Whether the arrivals of a producer's epoch are being discarded since a squash (R176). -/
def shutFor (m : NMap (Option Nat)) (producer epoch : Nat) : Bool :=
  match nget none m producer with
  | some e => epochGe epoch e
  | none => false

/-- The epoch from which on arrivals are discarded after a further SQUASH_FROM: the lower of the two. -/
def lowerShut (m : NMap (Option Nat)) (k epoch : Nat) : Nat :=
  match nget none m k with
  | some e => if epochGe epoch e then e else epoch
  | none => epoch

/-- A packet with SPEC 1 sets the bit of its destination in the consumer bitmap of its epoch (R168). -/
def Device.noteConsumer (s : Device) (c epoch die unit : Nat) : Device :=
  let k := s.core c
  let t := die * 16 + unit
  s.setCore c { k with epochs := k.epochs.map (fun e =>
    if e.num = epoch ∧ !e.consumers.contains t then { e with consumers := e.consumers ++ [t] } else e) }

/-! ## Restores and squashes -/

/-- The engines of a core stop (R115 step 3), and their lane registers hold no tile: ENG_STATUS shows nothing busy and nothing loaded. What
the accumulators, latches and lane bytes go on holding is what they held (R116, log entry 163). -/
def Device.clearTiles (s : Device) (c : Nat) : Device :=
  (rangeFrom (c * 4) 4).foldl (fun a e =>
    ((a.setEngine e { a.engine e with tiles := [] }).wrf Reg.ENG_STATUS e 2 0 0).wrf Reg.ENG_STATUS e 9 7 0) s

/-- What an engine keeps when its lane registers, accumulators and latches lose their contents: what its tests have found. -/
def Engine.blank (g : Engine) : Engine := { region := g.region, standIn := g.standIn, retireNext := g.retireNext }

/-- The engines of a core hold nothing (R116, R480). -/
def Device.blankEngines (s : Device) (c : Nat) : Device :=
  (rangeFrom (c * 4) 4).foldl (fun a e =>
    ((a.setEngine e (a.engine e).blank).wrf Reg.ENG_STATUS e 2 0 0).wrf Reg.ENG_STATUS e 9 7 0) s

/-- CORE_ENG_MAP with each retired engine's logical engine on the next physical engine in service (R182). -/
def mapAround (present map : Nat) : Nat :=
  (List.range 4).foldl (fun m l =>
    let p := bits map (2 * l + 1) (2 * l)
    let q := ((rangeFrom 0 4).map (fun i => (p + i) % 4)).find? (fun q => bit present q)
    setBits m (2 * l + 1) (2 * l) (q.getD p)) 0

/-- The body of a Telltale record (R186). -/
def tltBody (core engine epoch check attempt slot job : Nat) (c s : F32) : List Byte :=
  natLe 2 core ++ natLe 1 engine ++ natLe 1 epoch ++ natLe 1 check ++ natLe 1 attempt ++ natLe 1 slot ++ natLe 1 job
    ++ natLe 4 c.toNat ++ natLe 4 s.toNat

/-- An engine is retired (R182): shown in its registers, its logical engine mapped on, and logged with the epoch, CHECK and retry count
of the site whose FAILs retired it (log entry 160). -/
def Device.retireEngine (s : Device) (e epoch check attempt : Nat) : Device :=
  let c := e / 4
  if s.rdf Reg.ENG_STATUS e 11 11 = 1 then s else
  let s := s.wrf Reg.ENG_STATUS e 11 11 1
  let s := s.wrf Reg.CORE_INFO c (12 + e % 4) (12 + e % 4) 0
  let s := s.wr Reg.CORE_ENG_MAP c (mapAround (s.rdf Reg.CORE_INFO c 15 12) (s.rd Reg.CORE_ENG_MAP c))
  let job := s.coreJob c
  s.record 0x0504 (tltBody c (e % 4) epoch check attempt 0xFF (job.getD 0) 0 0) (s.jobViewer job)

/-- Engines whose lane test failed are retired at the next kernel start or restore (R478). -/
def Device.retireWaiting (s : Device) (c : Nat) : Device :=
  (List.range 4).foldl (fun a e =>
    let g := a.engine (c * 4 + e)
    if g.retireNext then (a.setEngine (c * 4 + e) { g with retireNext := false }).retireEngine (c * 4 + e) (a.epoch c) 0 0 else a) s

/-- A core notifies a consumer of the epochs it discards (R175): SQUASH_FROM, then a probe, which is itself a packet of the epoch
(R168). -/
def Device.squashUnit (s : Device) (c epoch t : Nat) : Device :=
  let die := coreDie c; let u := coreUnit c
  let tag := (s.core c).nextTag % 1024
  let job := s.coreJob c
  let s := s.send (verdictPacket 8 1 die u (t / 16) (t % 16) (c * 4) epoch job)
  let s := s.inc Reg.TLT_SQUASH_OUT c 1
  let s := s.send { pktPlain 2 0 die u (t / 16) (t % 16) 0 with
    len := 1, spec := true, specEng := c * 4, specEpoch := epoch, tag := tag, job := job.getD 0, jobV := job.isSome }
  let s := s.noteConsumer c epoch (t / 16) (t % 16)
  let k := s.core c
  s.setCore c { k with
    nextTag := k.nextTag + 1, reopenWait := (k.reopenWait.filter (fun w => w.1 ≠ t)) ++ [(t, epoch)],
    dma := k.dma ++ [⟨tag, 0, t / 16, t % 16, 0, 0, 16, true, true, true⟩] }

/-- Whether an arrival came from epoch `m` or later of producer `q`. -/
def Arrival.ofSquashed (x : Arrival) (q m : Nat) : Bool :=
  match x.producer with
  | some (p, e) => p == q && epochGe e m
  | none => false

/-- Checkpoint `n` is restored (R115): queues and scoreboard emptied, registers and semaphores taken back, epochs `n`
and later discarded and `n` reopened, and the consumers of the discarded epochs notified (R175). Arrivals from the core's own
discarded epochs are not valid, nor are those that a producer has withdrawn, which the core holds no more (R176). -/
def Device.restore (s : Device) (c n : Nat) : Device :=
  let k := s.core c
  match k.ckpts.find? (fun ck => ck.epoch = n) with
  | none => s
  | some ck =>
    let lost := (k.epochs.filter (fun e => epochGe e.num n)).flatMap (·.consumers)
    let k' : Core := { k with
      board := [], iaddr := ck.iaddr, sregs := ck.sregs,
      ckpts := k.ckpts.filter (fun x => !epochGe x.epoch n || x.epoch == n),
      epochs := (k.epochs.filter (fun e => !epochGe e.num n)) ++ [⟨n, false, 0, 0, [], []⟩],
      deps := k.deps.map (fun d => (d.1, { d.2 with loc := if epochGe d.2.loc n then n else d.2.loc })),
      drains := k.drains.filter (fun d => !epochGe d.epoch n),
      dma := k.dma.filter (·.probe), atSync := none, ckptWait := none, ending := none }
    let s := s.setCore c k'
    let ports := s.srch.ports.filter (fun (q : PortReq) => !(q.core == c && !q.sent && epochGe q.epoch n))
    let s : Device := { s with srch := { s.srch with ports := ports } }
    let s := (List.range 32).foldl (fun a i =>
      let v := ck.sems.getD i 0
      let extra := if i < 16 then
          (k.arrivals.filter (fun x => decide (ck.arrivals ≤ x.n) && x.sem == i && !x.ofSquashed c n)).length
        else 0
      a.wr (semReg i) c (if v % 65536 + extra ≤ 65535 then v + extra else 0x1FFFF)) s
    let s := s.wrf Reg.CORE_EPOCH c 7 0 n
    let s := (s.inc Reg.CORE_SQUASHES c 1).showEpochs c
    let s := ((s.clearTiles c).retireWaiting c).showQueues c
    (lost.eraseDups).foldl (fun a t => a.squashUnit c n t) s

/-- A squash order or a failing verdict for epoch `n` of a core: absorbed when the epoch is no longer open (R177,
R178). -/
def Device.squashTo (s : Device) (c n : Nat) : Device :=
  if (s.core c).epochs.any (fun e => e.num = n) then s.restore c n else s

/-! ## Verdicts -/

/-- The attempts at a failure site of a core (R179). -/
def Device.site (s : Device) (c epoch ordinal kind : Nat) : List Attempt :=
  match (s.core c).sites.find? (fun x => x.epoch = epoch ∧ x.ordinal = ordinal ∧ x.kind = kind) with
  | some x => x.tries
  | none => []

/-- The attempts at a failure site replaced; none removes the site. -/
def Device.setSite (s : Device) (c epoch ordinal kind : Nat) (tries : List Attempt) : Device :=
  let k := s.core c
  let rest := k.sites.filter (fun x => ¬(x.epoch = epoch ∧ x.ordinal = ordinal ∧ x.kind = kind))
  s.setCore c { k with sites := if tries.isEmpty then rest else rest ++ [⟨epoch, ordinal, kind, tries⟩] }

/-- The next check of an epoch takes its ordinal (R179). -/
def Device.takeOrdinal (s : Device) (c epoch : Nat) : Nat × Device :=
  let k := s.core c
  (((k.epochs.find? (fun x => x.num = epoch)).map (·.checks)).getD 0,
    s.setCore c { k with epochs := k.epochs.map (fun x => if x.num = epoch then { x with checks := x.checks + 1 } else x) })

/-- The engine map of the replay (R179): the logical engine that failed moves to the next physical engine in service, and
the one that was mapped there, the first of two (log entry 155), takes its place. -/
def Device.swapEngines (s : Device) (c logical : Nat) : Device :=
  let m := s.rd Reg.CORE_ENG_MAP c
  let at_ := fun (l : Nat) => bits m (2 * l + 1) (2 * l)
  let present := s.rdf Reg.CORE_INFO c 15 12
  let phys := at_ logical
  let next := (((rangeFrom 1 3).map (fun i => (phys + i) % 4)).find? (fun q => bit present q)).getD phys
  let other := ((List.range 4).find? (fun l => l ≠ logical ∧ at_ l = next)).getD logical
  let m := setBits m (2 * other + 1) (2 * other) phys
  s.wr Reg.CORE_ENG_MAP c (setBits m (2 * logical + 1) (2 * logical) next)

/-- A clean verdict of a DRAIN or check: one fewer awaited in its epoch. -/
def Device.verdictClean (s : Device) (c epoch : Nat) : Device :=
  let k := s.core c
  s.setCore c { k with epochs := k.epochs.map (fun e =>
    if e.num = epoch then { e with awaiting := e.awaiting - 1 } else e) }

/-- The FAILs of a site of an epoch that passed on engine `phys` are attributed (R182), and an engine whose count reaches
RETIRE_THRESHOLD is retired. -/
def Device.attribute (s : Device) (c epoch phys : Nat) (tries : List Attempt) : Device :=
  tries.foldl (fun a t =>
    if t.eng = phys ∨ 4 ≤ t.eng then a else
    let r := Reg.TLT_ENG_FAIL + 4 * t.eng
    let a := a.inc r c 1
    let thr := a.rdf Reg.TLT_VERDICT_CTL c 11 8
    if thr ≠ 0 ∧ thr ≤ a.rd r c then a.retireEngine (c * 4 + t.eng) epoch t.check tries.length else a) s

/-- A failing verdict at a site (R161, R179, R181): logged, the retry counter of the site raised; past RETRY_MAX the core stops
and reports a job fault, else the engine map changes for the logical engine that failed, if an engine did, and the epoch is restored. -/
def Device.verdictFail (s : Device) (c epoch ordinal kind : Nat) (t : Attempt) (logical : Option Nat) : Device :=
  let tries := s.site c epoch ordinal kind
  let job := s.coreJob c
  let body := tltBody c t.eng epoch t.check tries.length t.slot (job.getD 0) t.c t.s
  let s := s.record 0x0501 body (s.jobViewer job)
  let s := s.setSite c epoch ordinal kind (tries ++ [t])
  if s.rdf Reg.TLT_VERDICT_CTL c 3 0 ≤ tries.length then (s.record 0x0503 body (s.jobViewer job)).reportFault c 2
  else
    let s := s.peak Reg.TLT_RETRY_PEAK c (tries.length + 1)
    let s := match logical with
      | some l => s.swapEngines c l
      | none => s
    s.squashTo c epoch

/-- A failing check of the vector unit (2) or the sequencer (3) with its ordinal, for the epoch that is current (R159). -/
def Device.checkFail (s : Device) (c engine check ordinal : Nat) : Device :=
  (s.inc Reg.TLT_FAIL_OTHER c 1).verdictFail c (s.epoch c) ordinal check ⟨engine, check, 0xFF, 0, 0⟩ none

/-! ## Hold buffers -/

/-- The hold buffer of a die. -/
def Device.holdBuf (s : Device) (die : Nat) : HoldBuf := nget {} s.holds die

/-- The bytes a hold buffer has (R166). -/
def holdSpace (die : Nat) : Nat :=
  if dieKind die = 1 then 2 ^ 20 else if die = 42 ∨ die = 52 then 2 ^ 22 else 2 ^ 18

/-- The bytes held. -/
def heldBytes (b : HoldBuf) : Nat := (b.held.map (fun h => pktBytes h.pkt)).foldl (· + ·) 0

/-- The state with a hold buffer replaced, its registers following (R185). -/
def Device.setHold (s : Device) (die : Nat) (b : HoldBuf) : Device :=
  let s : Device := { s with holds := nset {} s.holds die b }
  let s := s.wr Reg.TLT_HOLD_BYTES die (heldBytes b)
  let s := s.peak Reg.TLT_HOLD_PEAK die (heldBytes b)
  s.wr Reg.TLT_HOLD_TAGS die ((b.held.map (fun h => (h.pkt.specEng / 4, h.pkt.specEpoch))).eraseDups.length)

/-- Where a released or committed write of a unit lands (R43, R45, R166): the memory code, instance and address; none for
host memory and units that keep no bytes. -/
def Device.unitMem (s : Device) (die u addr : Nat) : Option (Nat × Nat × Nat) :=
  if dieKind die = 1 then
    if u ≤ 9 then some (1, unitCore die u, addr)
    else if u = 10 then some (4, die, addr)
    else if u = 11 ∨ u = 12 then
      if addr < 0x600000000 then some (5, sparOrd die, addr)
      else some (5, sparOrd (twinOf die), addr - 0x600000000)
    else none
  else if die = 47 ∨ die = 57 then (if u = 2 ∨ u = 3 then some (9, die, addr) else none)
  else if dieKind die = 2 then (if u = 1 then some (7, die, addr) else none)
  else some (10, die, addr)

/-- A write takes effect at its unit (R54): the bytes land, poison marks with them; a core's write of DRAM marks the slice
that it changes (R209). A write of the MHC goes to host
memory, at the LD that JOB's owner is (R166). -/
def Device.applyWrite (s : Device) (p : Packet) : Device :=
  let data := p.body.take (pktBytes p)
  match s.unitMem p.dstDie p.dstUnit p.addr with
  | some (m, i, a) =>
    let s := s.writeMem m i a data p.poison
    if m = 5 ∧ p.spec then { s with tier := { s.tier with slices := s.tier.slices.map (fun e => (e.1, e.2.map (fun (x : Slice) =>
      match x.page with
      | some f => if x.hs = i ∧ overlap (f * 0x200000, x.bytes) (a, data.length) then { x with dirty := true } else x
      | none => x))) } }
    else s
  | none =>
    if dieKind p.dstDie = 2 ∧ p.dstUnit = 0 ∧ p.jobV then
      if !p.poison.isEmpty then s.reportFault (p.specEng / 4) 3
      else
        let base := s.jobOwner p.job * 2 ^ 64 + p.addr
        let mem := (List.range data.length).foldl (fun m i => nset 0 m (base + i) (data.getD i 0)) s.hif.hostMem
        { s with hif := { s.hif with hostMem := mem } }
    else s

/-- Whether a producer has reported an epoch CLEAN to a unit of a hold buffer (R169). -/
def HoldBuf.released (b : HoldBuf) (producer u epoch : Nat) : Bool :=
  match nget none b.cleaned (producer * 16 + u) with
  | some x => epochGe x epoch
  | none => false

/-- A SPEC write enters the hold buffer when there is space, and is acknowledged; else it waits (R169, R171). One that its CLEAN has
overtaken takes effect at once (R53); one that comes during a compute-plane reset is discarded (R178). -/
def Device.holdWrite (s : Device) (p : Packet) : Device :=
  let b := s.holdBuf p.dstDie
  if s.resetting || shutFor b.shut (p.specEng / 4 * 16 + p.dstUnit) p.specEpoch then s.ack p 0
  else if b.released (p.specEng / 4) p.dstUnit p.specEpoch then (s.applyWrite p).ack p 0
  else if !b.waiting.any (fun w => w.pkt.typ = 1) ∧ heldBytes b + pktBytes p ≤ holdSpace p.dstDie then
    (s.setHold p.dstDie { b with held := b.held ++ [⟨p, s.now⟩] }).ack p 0
  else s.setHold p.dstDie { b with waiting := b.waiting ++ [⟨p, s.now⟩] }

/-- Writes that waited for space enter, in order of arrival (R171). -/
def Device.admitWaiting (s : Device) (die : Nat) : Device :=
  let b := s.holdBuf die
  let ws := b.waiting.filter (fun w => w.pkt.typ = 1)
  let s := s.setHold die { b with waiting := b.waiting.filter (fun w => w.pkt.typ ≠ 1) }
  ws.foldl (fun a w => a.holdWrite w.pkt) s

/-- The bytes of the memory behind a unit that keeps bytes (R43, R45, R460). -/
def unitSpace (die u : Nat) : Nat :=
  if dieKind die = 1 then
    (if u ≤ 9 then 0x10000 else if u = 10 then 0x800000 else if u = 11 ∨ u = 12 then 0xC00000000 else 0)
  else if die = 47 ∨ die = 57 then (if u = 2 ∨ u = 3 then 0x800000 else 0)
  else if dieKind die = 2 then (if u = 1 then 0x1000000 else 0)
  else if u ≤ 5 then 0x600000 else 0

/-- Where the bytes of a request lie: memory, instance and address, alike for the two controllers of a half-stack (R45); for the host
memory behind the MHC the LD of its job is the instance (R166). -/
def Device.placeOf (s : Device) (p : Packet) : Nat × Nat × Nat :=
  match s.unitMem p.dstDie p.dstUnit p.addr with
  | some x => x
  | none => (32 + p.dstUnit, if dieKind p.dstDie = 2 then s.jobOwner p.job else p.dstDie, p.addr)

/-- The held writes that a read overlaps, in order of arrival (R170). -/
def Device.overHeld (s : Device) (p : Packet) : List HeldWrite :=
  let x := s.placeOf p
  (s.holdBuf p.dstDie).held.filter (fun h =>
    let y := s.placeOf h.pkt
    y.1 == x.1 && y.2.1 == x.2.1 && overlap (y.2.2, pktBytes h.pkt) (x.2.2, p.len * 16))

/-- Whether a read must wait for held writes of another source (R170). -/
def Device.readBlocked (s : Device) (p : Packet) : Bool :=
  (s.overHeld p).any (fun h => !(p.spec && h.pkt.specEng / 4 == p.specEng / 4))

/-- The gradient scales that a Tackle sequencer answers (R271): 32 bytes for each shard ID. -/
def Device.scaleBytes (s : Device) (addr n : Nat) : List Byte :=
  (rangeFrom addr n).map (fun a =>
    if a % 32 < 16 then (natLe 4 (s.rd (Reg.TKL_SHARD_GSCALE + 4 * (a % 32 / 4)) (a / 32))).getD (a % 4) 0 else 0)

/-- The bytes that a unit answers a read with before held writes are merged, and their poisoned words: its memory's (R460), a Tackle
sequencer's scales (R271), or free ones where the spec leaves them open (R43). -/
def Device.readBase (s : Device) (p : Packet) : List Byte × List Nat × Device :=
  let n := p.len * 16
  if dieKind p.dstDie = 2 ∧ p.dstUnit = 3 ∧ p.addr + n ≤ 64 * 32 then (s.scaleBytes p.addr n, [], s)
  else
    let free := let d := s.draw; (natLe n d.1, [], d.2)
    if (dieKind p.dstDie = 2 ∧ p.dstUnit = 3) ∨ unitSpace p.dstDie p.dstUnit < p.addr + n then free
    else match s.unitMem p.dstDie p.dstUnit p.addr with
      | none => free
      | some (m, i, a) =>
        let pz := s.poisonIn m i a n
        (s.readMem m i a n, pz, if pz.isEmpty then s else s.memCount m i Reg.MEM_CORE_POISON_READ Reg.MEM_DIE_POISON_READ pz.length)

/-- A held write merged over the bytes and marks of a read whose first byte lies at `a` (R170, R467). -/
def mergeHeld (a : Nat) (x : List Byte × List Nat) (h : Nat × Packet) : List Byte × List Nat :=
  let n := pktBytes h.2
  let here := fun (j : Nat) => decide (h.1 ≤ a + j) && decide (a + j < h.1 + n)
  let bad := fun (j : Nat) => here j && h.2.poison.contains ((a + j - h.1) / 16)
  ((List.range x.1.length).map (fun j => if here j then h.2.body.getD (a + j - h.1) 0 else x.1.getD j 0),
    (List.range (x.1.length / 16)).filter (fun w =>
      let js := rangeFrom (w * 16) 16
      js.any bad || (x.2.contains w && !js.all here)))

/-- A READ_REQ is answered (R42, R56): the data with its poison marks, held bytes of the reader's own core merged, and SPEC when such
bytes or a core's open epoch are in it (R165, R170); the reader is then a consumer of that epoch (R168). -/
def Device.answerRead (s : Device) (p : Packet) : Device :=
  let mine := s.overHeld p
  let (base, marks, s) := s.readBase p
  let (data, pz) := (mine.map (fun h => ((s.placeOf h.pkt).2.2, h.pkt))).foldl (mergeHeld (s.placeOf p).2.2) (base, marks)
  let r := { pktReply p 3 (if pz.isEmpty then 0 else 1) with len := p.len, body := data, poison := pz }
  let r := if !mine.isEmpty then { r with spec := true, specEng := p.specEng, specEpoch := (mine.getLast?.map (·.pkt.specEpoch)).getD 0 }
    else if dieKind p.dstDie = 1 ∧ p.dstUnit ≤ 9 then
      let c := unitCore p.dstDie p.dstUnit
      if (s.core c).epochs.isEmpty then r else { r with spec := true, specEng := c * 4, specEpoch := s.epoch c }
    else r
  if mine.isEmpty && r.spec then (s.send r).noteConsumer (r.specEng / 4) r.specEpoch r.dstDie r.dstUnit else s.send r

/-- Reads that waited on held writes are answered once none overlaps from another source (R170). -/
def Device.answerWaiting (s : Device) (die : Nat) : Device :=
  let b := s.holdBuf die
  b.waiting.foldl (fun a w =>
    if w.pkt.typ ≠ 2 ∨ a.readBlocked w.pkt then a
    else
      let b := a.holdBuf die
      let a := a.setHold die { b with waiting := b.waiting.erase w }
      (a.inc Reg.TLT_HOLD_READ_WAIT die (a.now - w.since)).answerRead w.pkt) s

/-- CLEAN raises what a hold buffer knows of a producer's epochs (R169). -/
def HoldBuf.noteClean (b : HoldBuf) (producer u epoch : Nat) : HoldBuf :=
  if b.released producer u epoch then b else { b with cleaned := nset none b.cleaned (producer * 16 + u) (some epoch) }

/-- A CLEAN releases the writes of a producer's epoch and earlier ones at a unit (R169): the held ones, then those that waited for
space, which are acknowledged now, in order of arrival; then RELEASE_ACK. -/
def Device.releaseHold (s : Device) (die u producer epoch : Nat) (job : Option Nat) : Device :=
  let b := s.holdBuf die
  let go := fun (h : HeldWrite) =>
    h.pkt.typ == 1 && h.pkt.dstUnit == u && h.pkt.specEng / 4 == producer && epochGe epoch h.pkt.specEpoch
  let s := s.setHold die ({ b with held := b.held.filter (fun h => !go h), waiting := b.waiting.filter (fun h => !go h) }.noteClean
    producer u epoch)
  let s := (b.held.filter go).foldl (fun a h => a.applyWrite h.pkt) s
  let s := (b.waiting.filter go).foldl (fun a h => (a.applyWrite h.pkt).ack h.pkt 0) s
  let s := s.send (verdictPacket 7 4 die u (coreDie producer) (coreUnit producer) (producer * 4) epoch job)
  (s.admitWaiting die).answerWaiting die

/-- Whether a unit holds nothing any more of the epochs that a SQUASH_FROM names (R177): the producer has reported them CLEAN, or they
have been withdrawn already. `shut`: from which epoch on the producer's arrivals are discarded; `any`: something of them is held. -/
def squashIdle (cleaned shut : Option Nat) (epoch : Nat) (any : Bool) : Bool :=
  (match cleaned with | some x => epochGe x epoch | none => false)
    || (!any && (match shut with | some x => epochGe epoch x | none => false))

/-- A SQUASH_FROM discards the held and waiting writes of a producer's epoch and later ones at a unit; those that had
not entered are acknowledged; arrivals are discarded until REOPEN (R169, R176). `more`: the unit holds other data of those epochs. -/
def Device.squashHold (s : Device) (die u producer epoch : Nat) (more : Bool) : Device :=
  let b := s.holdBuf die
  let gone := fun (h : HeldWrite) =>
    h.pkt.typ == 1 && h.pkt.dstUnit == u && h.pkt.specEng / 4 == producer && epochGe h.pkt.specEpoch epoch
  let key := producer * 16 + u
  if squashIdle (nget none b.cleaned key) (nget none b.shut key) epoch (more || b.held.any gone || b.waiting.any gone) then s
  else
    let late := b.waiting.filter gone
    let s := s.setHold die { b with
      held := b.held.filter (fun h => !gone h), waiting := b.waiting.filter (fun h => !gone h),
      shut := nset none b.shut key (some (lowerShut b.shut key epoch)) }
    let s := late.foldl (fun a h => a.ack h.pkt 0) s
    (s.admitWaiting die).answerWaiting die

/-- A producer enters a kernel, whose epochs count from 0 again (R112): what the cores and hold buffers know of its epochs that were CLEAN is
forgotten (log entry 159). -/
def Device.forgetClean (s : Device) (producer : Nat) : Device :=
  { s with
    cores := s.cores.map (fun (e : Nat × Core) => (e.1, { e.2 with deps := (e.2.deps.map (fun (d : Nat × Dep) =>
      if d.1 = producer then (d.1, { d.2 with cleaned := none }) else d)).filter (fun d => d.2 ≠ {}) })),
    holds := s.holds.map (fun (e : Nat × HoldBuf) => (e.1, { e.2 with cleaned := e.2.cleaned.filter (fun k => k.1 / 16 ≠ producer) })) }

end Sys2Proof.Machine
end

