-- ==== Sys2Proof/Machine/FtlOps.lean ====
section
/-! DEFINITION. Where namespace data stands (chapter 12): NAND addresses, erase-counter records, bands and units, the
write buffers, the map, the journal, the row and side logs, and reading and writing a namespace through them. -/

namespace Sys2Proof.Machine

/-! ## NAND addresses and erase-counter records -/

/-- Bytes of a code word's data and of a 256 KiB unit (R346, R377). -/
def cwBytes : Nat := 4096
def unitBytes : Nat := 262144

/-- The map entry that names no code word (R378). -/
def unmapped : Nat := 0xFFFFFFFF

/-- A map entry from its local NAND die, quad and offset (R378), and its fields. -/
def mkLoc (local_ quad off : Nat) : Nat := local_ + quad * 32 + off * 131072
def locDie (loc : Nat) : Nat := loc % 32
def locQuad (loc : Nat) : Nat := loc / 32 % 4096
def locOff (loc : Nat) : Nat := loc / 131072

/-- The NAND die ID of a local NAND die of a SHEAVE ordinal (R22, R378). -/
def nandDie (ord local_ : Nat) : Nat := ord * 32 + local_

/-- The erase-counter record of a block (R369). -/
def Device.ecRec (s : Device) (nd pbn : Nat) : Nat := nget 0 s.media.eclog (nd * 16384 + pbn)

/-- The state with an erase-counter record replaced. -/
def Device.setEc (s : Device) (nd pbn v : Nat) : Device :=
  { s with media := { s.media with eclog := nset 0 s.media.eclog (nd * 16384 + pbn) v } }

/-- STATE of a block, and whether it is retired: retired or factory bad (R369). -/
def Device.blkState (s : Device) (nd pbn : Nat) : Nat := bits (s.ecRec nd pbn) 39 32
def Device.blkRetired (s : Device) (nd pbn : Nat) : Bool := s.blkState nd pbn == 3 || s.blkState nd pbn == 6

/-- The in-service planes of a quad, rising (R340). -/
def Device.planes (s : Device) (nd quad : Nat) : List Nat := (List.range 4).filter (fun p => !s.blkRetired nd (quad * 4 + p))

/-- The planes by which the offsets of a quad decode (R378): those in service when it opened, of an erased quad those in service. -/
def Device.cwPlanes (s : Device) (nd quad : Nat) : List Nat :=
  let m := nget 0 s.ftl.quadPlanes (nd * 4096 + quad)
  if m = 0 then s.planes nd quad else (List.range 4).filter (bit m)

/-- Code words that a plane gives a word line: 4 for each page (R341, R378). -/
def planeCws (slc : Bool) : Nat := if slc then 4 else 12

/-- Code words in a word-line group (R341, R378). -/
def Device.groupCws (s : Device) (nd quad : Nat) (slc : Bool) : Nat := (s.cwPlanes nd quad).length * planeCws slc

/-- Where an offset of a quad lies (R378): its word line, its plane, and its place among the code words of the plane. -/
def Device.cwPos (s : Device) (nd quad : Nat) (slc : Bool) (off : Nat) : Nat × Nat × Nat :=
  let n := max 1 (s.groupCws nd quad slc)
  (off / n, (s.cwPlanes nd quad).getD (off % n / planeCws slc) 0, off % n % planeCws slc)

/-- The offset in a quad of a physical position, if its plane is there (R378, R381). -/
def Device.offAt (s : Device) (nd quad : Nat) (slc : Bool) (p : Nat × Nat × Nat) : Option Nat :=
  ((s.cwPlanes nd quad).idxOf? p.2.1).map (fun i => p.1 * s.groupCws nd quad slc + i * planeCws slc + p.2.2)

/-- The equivalent erase count of a block (R395). -/
def Device.equivCount (s : Device) (nd pbn : Nat) : Nat :=
  bits (s.ecRec nd pbn) 15 0 + ceilDiv (bits (s.ecRec nd pbn) 31 16) 10

/-- The RAIN group of an ordinal, its member position, and the ordinal of a position (R380). -/
def rainGroup (ord : Nat) : Nat := ord % 4
def rainPos (ord : Nat) : Nat := ord / 4
def rainOrd (g pos : Nat) : Nat := pos * 4 + g

/-- Whether an ordinal's SHEAVE die is in service, and the ordinals that are, rising. -/
def Device.ordUp (s : Device) (ord : Nat) : Bool := !s.fenced (sheaveDie ord)
def Device.ordsUp (s : Device) : List Nat := (List.range 56).filter s.ordUp

/-- The parity position of a superquad (R380). -/
def parityPos (t quad : Nat) : Nat := (quad + t) % 14

/-- The key of a superquad and the superquad itself. -/
def sqKey (g t quad : Nat) : Nat := (g * 32 + t) * 4096 + quad
def Device.squad (s : Device) (g t quad : Nat) : SuperQuad := nget {} s.ftl.squads (sqKey g t quad)
def Device.setSquad (s : Device) (g t quad : Nat) (x : SuperQuad) : Device :=
  { s with ftl := { s.ftl with squads := nset {} s.ftl.squads (sqKey g t quad) x } }

/-- The in-service members of a group, as ordinals, rising by position. -/
def Device.members (s : Device) (g : Nat) : List Nat := ((List.range 14).map (rainOrd g)).filter s.ordUp

/-- Whether a superquad holds the root records of its members: quad 0 of local NAND dies 0 and 16 (R390). -/
def rootQuad (t quad : Nat) : Bool := quad == 0 && t % 16 == 0

/-- Free superquads of a group (R392): erased and unassigned; two hold root records. -/
def Device.freeSquads (s : Device) (g : Nat) : Nat :=
  105982 - (s.ftl.squads.filter (fun e => e.1 / 131072 == g && e.2.st != 0)).length

/-- FTL_GRP_STATUS shows the free superquads and what follows from them (R392, R412). -/
def Device.showGroup (s : Device) (g : Nat) : Device :=
  let free := s.freeSquads g
  let s := s.wrf Reg.FTL_GRP_STATUS g 16 0 free
  let s := s.wrf Reg.FTL_GRP_STATUS g 17 17 (b2n (free < s.rdf Reg.FTL_GC_URGENT_CTL g 15 0))
  let s := s.wrf Reg.FTL_GRP_STATUS g 18 18 (b2n (free < s.rdf Reg.FTL_GC_URGENT_CTL g 31 16))
  let s := s.wrf Reg.FTL_GRP_STATUS g 24 21 (s.members g).length
  let s := s.wr Reg.FTL_SLC_USED g
    (s.ftl.squads.filter (fun e => e.1 / 131072 == g && e.2.st != 0 && e.2.slc)).length
  (s.members g).foldl (fun a o => a.wrf Reg.MEDIA_DIE_STATUS o 0 0 (s.rdf Reg.FTL_GRP_STATUS g 17 17)) s

/-! ## Namespaces, bands and units -/

/-- A namespace. -/
def Device.ns (s : Device) (id : Nat) : Option Ns := nget none s.nss id

/-- The state with a namespace replaced. -/
def Device.setNs (s : Device) (id : Nat) (x : Option Ns) : Device := { s with nss := nset none s.nss id x }

/-- The bytes a namespace occupies: its size rounded up to a multiple of 224 MiB (R376). -/
def nsRounded (size : Nat) : Nat := ceilDiv size 234881024 * 234881024

/-- The bands of a namespace (R377). -/
def Ns.bandCount (x : Ns) : Nat := ceilDiv x.size 234881024 * 56

/-- Band and unit of the code word at index `i` of a namespace (R377, R386). -/
def Ns.place (x : Ns) (i : Nat) : Nat × Nat :=
  let u := i / 64
  (x.bandBase + u / 896 * 56 + u % 56, u % 896 / 56 * 64 + i % 64)

/-- The code-word index in its namespace of a unit of a band. -/
def Ns.index (x : Ns) (band unit : Nat) : Nat :=
  ((band - x.bandBase) / 56 * 896 + unit / 64 * 56 + (band - x.bandBase) % 56) * 64 + unit % 64

/-- The namespace that a band belongs to. -/
def Device.bandNs (s : Device) (band : Nat) : Option (Nat × Ns) :=
  s.nss.findSome? (fun e => e.2.bind (fun x =>
    if x.bandBase ≤ band ∧ band < x.bandBase + x.bandCount then some (e.1, x) else none))

/-- Whether a band is mapped in code words (a block namespace) rather than extents (R376). -/
def Device.bandBlock (s : Device) (band : Nat) : Bool := match s.bandNs band with
  | some (_, x) => x.kind == 0
  | none => true

/-- The ordinal that stores a band (R377). -/
def Device.bandOrd (s : Device) (band : Nat) : Nat := nget 255 s.ftl.bands band

/-- The key of the map entry of a unit: the unit itself, or the first code word of its extent. -/
def Device.mapKey (s : Device) (band unit : Nat) : Nat :=
  band * 1024 + (if s.bandBlock band then unit else unit / 64 * 64)

/-- The map entry of a unit. -/
def Device.mapAt (s : Device) (band unit : Nat) : MapEntry := nget {} s.ftl.map (s.mapKey band unit)

/-- The location of the code word of a unit (R378). -/
def Device.unitLoc (s : Device) (band unit : Nat) : Nat :=
  let e := s.mapAt band unit
  if e.loc = unmapped then unmapped
  else if s.bandBlock band then e.loc else e.loc + unit % 64 * 131072

/-- The code word stored at a location. -/
def Device.stored (s : Device) (ord loc : Nat) : Option CodeWord := nget none s.ftl.nand (ord * 2 ^ 32 + loc)

/-- The newest write of a unit that its buffer holds and that the map does not show (R358, R387): a host write, or a unit
reconstructed for a new ordinal (R400). -/
def Device.buffered (s : Device) (band unit : Nat) : Option BufCw :=
  let w := (s.mapAt band unit).wsn
  (s.ftl.buf.filter (fun b => (b.cw.kind = 0 ∨ b.cw.kind = 1 ∧ b.old.isNone) ∧ b.cw.band = band ∧ b.cw.unit = unit ∧ b.txn = 0 ∧ w < b.cw.wsn)).foldl
    (fun best b => match best with
      | some x => if x.cw.wsn < b.cw.wsn then some b else some x
      | none => some b) none

/-- A read of a unit that needs no NAND (R358, R378): its data is in the write buffer, or it is unmapped. -/
def Device.unitHere (s : Device) (band unit : Nat) : Option (List Byte) :=
  match s.buffered band unit with
  | some b => some b.cw.data
  | none => if s.unitLoc band unit = unmapped ∧ !(s.mapAt band unit).lost then some (List.replicate cwBytes 0) else none

/-! ## Data at rest -/

/-- The tweak of the code word of a unit of a namespace (R563): its byte offset divided by 4,096, its data unit the 4,096 bytes of its
data; relocation keeps band and unit, and so the tweak. -/
def Ns.tweak (x : Ns) (band unit : Nat) : Nat := x.index band unit

/-- The tweak of a row-log row or side-log record at a byte offset of its namespace (R563): one data unit of its own length. -/
def logTweak (off : Nat) : Nat := 2 ^ 120 + off / 16

/-- Data under a key, 0 for none, and what a key makes of it again (R562). -/
def cipher (key tweak : Nat) (d : List Byte) : List Byte := if key = 0 then d else Config.xts key tweak d
def decipher (key tweak : Nat) (d : List Byte) : List Byte := if key = 0 then d else Config.xtsInv key tweak d

/-- The 4,096 bytes that a code word puts on the medium, over which RAIN parity is computed (R562). The rows and records of a log code
word are encrypted one by one where they are logged. -/
def Device.onMedium (s : Device) (c : CodeWord) : List Byte :=
  if 2 ≤ c.kind then c.data
  else match s.bandNs c.band with
    | some (_, x) => cipher c.key (x.tweak c.band c.unit) c.data
    | none => c.data

/-- What a read of a namespace makes of a code word (R562, R565): its data, unless the namespace's key is another by now. -/
def Device.opened (s : Device) (c : CodeWord) : List Byte :=
  match s.bandNs c.band with
  | some (_, x) => if x.key = c.key then c.data else decipher x.key (x.tweak c.band c.unit) (s.onMedium c)
  | none => c.data

/-- The data of a unit as it stands, wherever it lies. -/
def Device.unitData (s : Device) (band unit : Nat) : List Byte :=
  match s.unitHere band unit with
  | some d => d
  | none => match s.stored (s.bandOrd band) (s.unitLoc band unit) with
    | some c => s.opened c
    | none => List.replicate cwBytes 0

/-- The unit of a table namespace that a row lies in, as band and code word. -/
def Ns.rowUnit (x : Ns) (row : Nat) : Nat × Nat := x.place (row * max 1 (leNat ((x.attr.drop 4).take 2)) / cwBytes)

/-- Whether a logged row stands (R387): no write or discard of its unit has a higher WSN, in the map or in the write buffer. -/
def Device.rowStands (s : Device) (x : Ns) (r : LogRow) : Bool :=
  let p := x.rowUnit r.row
  decide ((s.mapAt p.1 p.2).wsn < r.wsn) && (match s.buffered p.1 p.2 with
    | some b => decide (b.cw.wsn < r.wsn)
    | none => true)

/-- The row-log rows of a table namespace laid over its bytes (R291, R387). -/
def Device.overlayRows (s : Device) (x : Ns) (off : Nat) (data : List Byte) : List Byte :=
  if x.kind ≠ 2 then data
  else
    let rb := max 1 (leNat ((x.attr.drop 4).take 2))
    s.ftl.rowLog.foldl (fun d e => e.2.foldl (fun d r =>
      if x.bandBase ≤ r.band ∧ r.band < x.bandBase + x.bandCount ∧ s.rowStands x r then
        (List.range rb).foldl (fun d j =>
          let a := r.row * rb + j
          if off ≤ a ∧ a < off + d.length then d.set (a - off) (r.bytes.getD j 0) else d) d
      else d) d) data

/-- Bytes of a namespace. -/
def Device.nsRead (s : Device) (nsid off n : Nat) : List Byte :=
  match s.ns nsid with
  | none => List.replicate n 0
  | some x =>
    let first := off / cwBytes
    let cnt := (off + n + cwBytes - 1) / cwBytes - first
    let all := ((List.range cnt).map (fun i => let p := x.place (first + i); s.unitData p.1 p.2)).flatten
    s.overlayRows x off ((all.drop (off % cwBytes)).take n)

/-! ## The write buffers -/

/-- A WSN of an ordinal is taken (R386): one that the command took at its admission, else the next. -/
def Device.takeWsn (s : Device) (ord : Nat) (cmd : Option Nat) : Nat × Device :=
  match (cmd.bind s.cmd).bind (fun p => (p.wsns.find? (fun w => w.1 = ord ∧ w.2.2 ≠ 0)).map (fun w => (p, w))) with
  | some (p, w) => (w.2.1, s.setCmd { p with wsns := p.wsns.map (fun y => if y.1 = ord then (ord, w.2.1 + 1, w.2.2 - 1) else y) })
  | none => (s.rd Reg.FTL_WSN ord, s.inc Reg.FTL_WSN ord 1)

/-- The WSNs that a command needs of each ordinal (R386): a WRITE one for each code word that it writes, whole extents among them; a
DISCARD, and an NS_FORMAT, one for the units it covers there. -/
def Device.wsnNeeds (s : Device) (slot : BitVec 512) : List (Nat × Nat) :=
  let op := fld slot 0 1
  match s.ns (fld slot 16 1) with
  | none => []
  | some x =>
    if op = 0x0A then (((rangeFrom x.bandBase x.bandCount).map s.bandOrd).eraseDups).map (fun o => (o, 1))
    else if (op ≠ 2 ∧ op ≠ 3) ∨ 67108864 < fld slot 28 4 ∨ x.size < fld slot 20 8 + fld slot 28 4 then []
    else
      let first := fld slot 20 8 / cwBytes
      let stop := first + fld slot 28 4 / cwBytes
      let step := if x.kind = 0 then 1 else 64
      let units := (rangeFrom (first / step) (ceilDiv stop step - first / step)).map (fun u => s.bandOrd (x.place (u * step)).1)
      units.eraseDups.map (fun o => (o, if op = 2 then units.count o * step else 1))

/-- The WSNs that a command takes at its admission (R386): ordinal, first, count. -/
def Device.reserveWsns (s : Device) (slot : BitVec 512) : List (Nat × Nat × Nat) × Device :=
  let need := s.wsnNeeds slot
  (need.map (fun w => (w.1, s.rd Reg.FTL_WSN w.1, w.2)), need.foldl (fun a w => a.inc Reg.FTL_WSN w.1 w.2) s)

/-- A code word enters the write buffer of an ordinal under a new WSN (R383, R386). -/
def Device.bufferCw (s : Device) (ord band unit kind key : Nat) (data : List Byte) (cmd : Option Nat) (txn : Nat)
    (old loc : Option Nat) (slc : Bool) : Device :=
  let (w, s) := s.takeWsn ord cmd
  { s with ftl := { s.ftl with buf := s.ftl.buf ++
      [{ ord, cw := ⟨data, band, unit, kind, w, key⟩, cmd, txn, old, slc, loc, done := false }] } }

/-- Code words `first` on of a namespace are written (R383): block units as they are; an extent that is written in part
is merged with its other code words. `new` gives the data of a written code word. -/
def Device.nsWriteCws (s : Device) (nsid : Nat) (first cnt : Nat) (new : Nat → List Byte) (cmd : Option Nat) (txn : Nat) : Device :=
  match s.ns nsid with
  | none => s
  | some x =>
    if x.kind = 0 then
      (rangeFrom first cnt).foldl (fun a i =>
        let p := x.place i
        a.bufferCw (a.bandOrd p.1) p.1 p.2 0 x.key (new i) cmd txn none none true) s
    else
      (rangeFrom (first / 64) ((first + cnt + 63) / 64 - first / 64)).foldl (fun a u =>
        let old := a
        (rangeFrom (u * 64) 64).foldl (fun a i =>
          let p := x.place i
          let d := if first ≤ i ∧ i < first + cnt then new i else old.unitData p.1 p.2
          a.bufferCw (a.bandOrd p.1) p.1 p.2 0 x.key d cmd txn none none false) a) s

/-- Bytes of a namespace are written; parts of code words are merged with the rest of them. -/
def Device.nsWrite (s : Device) (nsid off : Nat) (data : List Byte) (cmd : Option Nat) (txn : Nat) : Device :=
  if data.isEmpty then s else
  let first := off / cwBytes
  let cnt := (off + data.length + cwBytes - 1) / cwBytes - first
  let head := s.nsRead nsid (first * cwBytes) (off % cwBytes)
  let stop := off + data.length
  let tail := s.nsRead nsid stop ((first + cnt) * cwBytes - stop)
  let all := head ++ data ++ tail
  (s.nsWriteCws nsid first cnt (fun i => (all.drop ((i - first) * cwBytes)).take cwBytes) cmd txn).inc
    Reg.FTL_HOST_BYTES 0 data.length

/-- Whether a command still waits for a code word of its own to reach the medium (R384). -/
def Device.writesOpen (s : Device) (n : Nat) : Bool := s.ftl.buf.any (fun b => b.cmd == some n && !b.done)

/-! ## The journal -/

/-- A journal record is made (R388): it carries the die's WSN, or for MAP_CLEAR the WSN of its discard. -/
def Device.journalRaw (s : Device) (ord typ : Nat) (wsn : Option Nat) (payload : List Byte) (flags txn : Nat)
    (cmd : Option Nat) : Device :=
  let r : JRec :=
    { n := s.ftl.nextRec, wsn := if typ = 1 then s.rd Reg.FTL_WSN ord else wsn.getD (s.rd Reg.FTL_WSN ord),
      change := wsn.getD (s.rd Reg.FTL_WSN ord), typ, flags, txn, payload, page := none,
      copies := 0, cmd }
  ({ s with ftl := { s.ftl with
      journal := nset [] s.ftl.journal ord (nget [] s.ftl.journal ord ++ [r]), nextRec := s.ftl.nextRec + 1 } }).inc
    Reg.FTL_JRNL_RETAINED ord 32

/-- A journal record, which belongs to a transaction when `txn` is not 0 (R391). -/
def Device.journal (s : Device) (ord typ : Nat) (wsn : Option Nat) (payload : List Byte) (txn : Nat) (cmd : Option Nat) : Device :=
  s.journalRaw ord typ wsn payload (b2n (txn != 0)) txn cmd

/-- Whether a command still waits for a journal record to be durable. -/
def Device.journalOpen (s : Device) (n : Nat) : Bool :=
  s.ftl.journal.any (fun e => e.2.any (fun r => r.cmd == some n && r.copies < 2))

/-- The payloads of MAP_SET, MAP_CLEAR, the quad records, ECLOG and the others (R388). -/
def jMapSet (band entry new old : Nat) : List Byte := natLe 4 band ++ natLe 2 entry ++ natLe 4 new ++ natLe 4 old
def jMapClear (band first count : Nat) (secure : Bool) : List Byte :=
  natLe 4 band ++ natLe 2 first ++ natLe 2 count ++ natLe 1 (b2n secure)
def jQuad (local_ quad v : Nat) : List Byte := natLe 1 local_ ++ natLe 2 quad ++ natLe 2 v

/-- The TXN bytes of an ECLOG or RETIRE record. -/
def jBlock (local_ pbn : Nat) : Nat := local_ + pbn % 65536 * 256

/-- A block's record is changed and journalled (R369, R388). -/
def Device.ecChange (s : Device) (nd pbn v : Nat) : Device :=
  (s.setEc nd pbn v).journalRaw (nd / 32) 6 none (natLe 16 v) 0 (jBlock (nd % 32) pbn) none

/-- A block is retired with a cause (R397, R399, R388). -/
def Device.retire (s : Device) (nd pbn cause : Nat) : Device :=
  if s.blkRetired nd pbn then s else
  let s := s.ecChange nd pbn (setBits (s.ecRec nd pbn) 39 32 3)
  let s := (s.journalRaw (nd / 32) 15 none (natLe 1 cause) 0 (jBlock (nd % 32) pbn) none).inc Reg.FTL_RETIRED (nd / 32) 1
  s.inc Reg.MEDIA_LUN_RETIRED nd 1

/-- A map entry is set to a location under a WSN, and journalled (R387): a write that lost to a later one is neither
applied nor journalled, nor is a copy whose source has moved, which is counted. -/
def Device.mapSet (s : Device) (ord band entry new old wsn txn : Nat) (copy : Bool) : Device :=
  let k := band * 1024 + entry
  let e := nget {} s.ftl.map k
  if copy ∧ e.loc ≠ old then s.inc Reg.FTL_GC_CAS_LOST ord 1
  else if !copy ∧ wsn < e.wsn then s
  else
    let s := s.journal ord 1 (if copy then none else some wsn) (jMapSet band (if s.bandBlock band then entry else entry / 64) new
      (if copy then old else unmapped)) txn none
    if txn ≠ 0 then s
    else { s with ftl := { s.ftl with map := nset {} s.ftl.map k { loc := new, wsn := if copy then e.wsn else wsn } } }

/-- The units of a band range are unmapped by a discard (R386, R387, R403): one WSN for all of them on each ordinal, and
one MAP_CLEAR record for each run within a band. `units` are code-word indexes of the namespace. -/
def Device.discardCws (s : Device) (nsid first cnt : Nat) (secure : Bool) (cmd : Option Nat) : Device :=
  match s.ns nsid with
  | none => s
  | some x =>
    let cells := (rangeFrom first cnt).map x.place
    let ords := (cells.map (fun p => s.bandOrd p.1)).eraseDups
    ords.foldl (fun a o =>
      let (w, a) := a.takeWsn o cmd
      let mine := cells.filter (fun p => a.bandOrd p.1 = o)
      let bands := (mine.map (·.1)).eraseDups
      bands.foldl (fun a b =>
        let us := (mine.filter (fun p => p.1 = b)).map (·.2)
        let keys := (if x.kind = 0 then us else (us.filter (fun u => u % 64 = 0))).filter (fun u =>
          decide ((nget ({} : MapEntry) a.ftl.map (b * 1024 + u)).wsn ≤ w))
        let a := keys.foldl (fun (a : Device) u =>
          { a with ftl := { a.ftl with map := nset {} a.ftl.map (b * 1024 + u) { loc := unmapped, wsn := w } } }) a
        keys.foldl (fun a u =>
          if keys.contains (u - (if x.kind = 0 then 1 else 64)) ∧ u ≠ 0 then a
          else
            let step := if x.kind = 0 then 1 else 64
            let len := ((List.range (1024 / step)).takeWhile (fun j => keys.contains (u + j * step))).length
            a.journal o 2 (some w) (jMapClear b (u / step) len secure) 0 cmd) a) a) s

/-! ## Pins -/

/-- The key of an extent for pins, and whether a range of a namespace touches a code-pinned extent (R405). -/
def Device.pinned (s : Device) (nsid first cnt : Nat) : Bool :=
  match s.ns nsid with
  | none => false
  | some x => s.ftl.pins.any (fun e => !e.2.isEmpty &&
      (rangeFrom (first / 64) ((first + cnt + 63) / 64 - first / 64)).any (fun u =>
        let p := x.place (u * 64); p.1 * 16 + p.2 / 64 == e.1))

/-- A refusal by a pin is counted on the ordinals it touches (R405). -/
def Device.pinRefused (s : Device) (nsid first : Nat) : Device :=
  match s.ns nsid with
  | none => s
  | some x => s.inc Reg.FTL_PIN_REFUSED (s.bandOrd (x.place first).1) 1

/-- The extents of a byte range of a namespace are pinned for a job, or unpinned (R223, R405). -/
def Device.setPins (s : Device) (nsid off len job : Nat) (on : Bool) : Device :=
  match s.ns nsid with
  | none => s
  | some x =>
    (rangeFrom (off / unitBytes) ((off + len + unitBytes - 1) / unitBytes - off / unitBytes)).foldl (fun a u =>
      let p := x.place (u * 64)
      let k := p.1 * 16 + p.2 / 64
      let old := nget [] a.ftl.pins k
      let a := { a with ftl := { a.ftl with pins := nset [] a.ftl.pins k (if on then old ++ [job] else old.erase job) } }
      a.journal (a.bandOrd p.1) (if on then 8 else 9) none (natLe 4 p.1 ++ natLe 1 (p.2 / 64) ++ natLe 1 job) 0 none) s

/-! ## GC thresholds -/

/-- The groups that the bands of a range belong to. -/
def Device.rangeGroups (s : Device) (nsid first cnt : Nat) : List Nat :=
  match s.ns nsid with
  | none => []
  | some x => ((rangeFrom (first / 64) ((first + cnt + 63) / 64 - first / 64)).map
      (fun u => rainGroup (s.bandOrd (x.place (u * 64)).1))).eraseDups

/-- Whether a write to a range is refused: a group of it is below CRITICAL (R392). -/
def Device.belowCritical (s : Device) (nsid first cnt : Nat) : Bool :=
  (s.rangeGroups nsid first cnt).any (fun g => decide (s.freeSquads g < s.rdf Reg.FTL_GC_URGENT_CTL g 31 16))

end Sys2Proof.Machine
end

