-- ==== Sys2Proof/Machine/HostOps.lean ====
section
/-! DEFINITION. What a command reaches of its host (chapter 13): the answer window of an LD in the DRAM pool and its
registered host ranges. -/

namespace Sys2Proof.Machine

/-- The size of an LD's answer window in bytes (R415). -/
def Device.windowBytes (s : Device) (ld : Nat) : Nat := (s.ld ld).window.length * 0x200000

/-- The half-stack and address of a byte of a window (R415). -/
def Device.windowAt (s : Device) (ld off : Nat) : Nat × Nat :=
  let p := (s.ld ld).window.getD (off / 0x200000) 0
  (p / 12288, p % 12288 * 0x200000 + off % 0x200000)

/-- The spans of a window range, page by page: half-stack, address, position in the range, bytes. -/
def Device.windowSpans (s : Device) (ld off n : Nat) : List (Nat × Nat × Nat × Nat) :=
  let first := off / 0x200000
  (List.range ((off + n + 0x1FFFFF) / 0x200000 - first)).map (fun i =>
    let a := max off ((first + i) * 0x200000)
    let b := min (off + n) ((first + i + 1) * 0x200000)
    let w := s.windowAt ld a
    (w.1, w.2, a - off, b - a))

/-- Bytes of a window. -/
def Device.windowRead (s : Device) (ld off n : Nat) : List Byte :=
  ((s.windowSpans ld off n).map (fun x => s.readMem 5 x.1 x.2.1 x.2.2.2)).flatten

/-- Whether a range of a window holds a poisoned word. -/
def Device.windowPoison (s : Device) (ld off n : Nat) : Bool :=
  (s.windowSpans ld off n).any (fun x => !(s.poisonIn 5 x.1 x.2.1 x.2.2.2).isEmpty)

/-- Bytes are written into a window; `poison` lists their poisoned 16-byte chunks. -/
def Device.windowWrite (s : Device) (ld off : Nat) (data : List Byte) (poison : List Nat) : Device :=
  (s.windowSpans ld off data.length).foldl (fun a x =>
    a.writeMem 5 x.1 x.2.1 ((data.drop x.2.2.1).take x.2.2.2)
      ((poison.filter (fun p => x.2.2.1 / 16 ≤ p)).map (fun p => p - x.2.2.1 / 16))) s

/-- A registered range of an LD: base, length, access (R438). -/
def Device.hreg (s : Device) (ld h : Nat) : Option (Nat × Nat × Nat) := nget none (s.ld ld).hregs h

/-- Bytes of a host range (R209, R438). -/
def Device.hostRead (s : Device) (ld h off n : Nat) : List Byte :=
  match s.hreg ld h with
  | some (base, _, _) => (List.range n).map (fun i => nget 0 s.hif.hostMem (ld * 2 ^ 64 + base + off + i))
  | none => List.replicate n 0

/-- Bytes at a host address of an LD are written by CXL.io. -/
def Device.hostPut (s : Device) (ld addr : Nat) (data : List Byte) : Device :=
  let mem := (List.range data.length).foldl (fun m i => nset 0 m (ld * 2 ^ 64 + addr + i) (data.getD i 0)) s.hif.hostMem
  ({ s with hif := { s.hif with hostMem := mem } }).inc Reg.HIF_LD_DMA_BYTES ld data.length

/-- Bytes are written into a host range. -/
def Device.hostWrite (s : Device) (ld h off : Nat) (data : List Byte) : Device :=
  match s.hreg ld h with
  | some (base, _, _) => s.hostPut ld (base + off) data
  | none => s

/-- A buffer of a command: the answer window, or a registered range (R432). -/
structure Buf where
  ld : Nat
  hreg : Option Nat
  off : Nat
  deriving DecidableEq, Repr

/-- Whether a buffer of `n` bytes lies within the window or range. -/
def Device.bufFits (s : Device) (b : Buf) (n : Nat) : Bool :=
  match b.hreg with
  | none => decide (b.off + n ≤ s.windowBytes b.ld)
  | some h => match s.hreg b.ld h with
    | some (_, len, _) => decide (b.off + n ≤ len)
    | none => false

/-- Whether the range of a buffer is accessible to its LD with an access bit (0 read, 1 write); a window always is. -/
def Device.bufOwned (s : Device) (b : Buf) (acc : Nat) : Bool :=
  match b.hreg with
  | none => true
  | some h => match s.hreg b.ld h with
    | some (_, _, a) => bit a acc
    | none => false

/-- Bytes of a buffer; reading a host range moves CXL.io bytes (R447). -/
def Device.bufRead (s : Device) (b : Buf) (n : Nat) : List Byte :=
  match b.hreg with
  | none => s.windowRead b.ld b.off n
  | some h => s.hostRead b.ld h b.off n

/-- The bytes a read of a buffer moved over CXL.io are counted. -/
def Device.bufCount (s : Device) (b : Buf) (n : Nat) : Device :=
  match b.hreg with
  | none => s
  | some _ => s.inc Reg.HIF_LD_DMA_BYTES b.ld n

/-- Whether a buffer holds poison. -/
def Device.bufPoison (s : Device) (b : Buf) (n : Nat) : Bool :=
  match b.hreg with
  | none => s.windowPoison b.ld b.off n
  | some _ => false

/-- Bytes are written into a buffer at an offset. -/
def Device.bufWrite (s : Device) (b : Buf) (at_ : Nat) (data : List Byte) : Device :=
  match b.hreg with
  | none => s.windowWrite b.ld (b.off + at_) data []
  | some h => s.hostWrite b.ld h (b.off + at_) data

/-- Whether an LD may reach a namespace: its owner, or a bit of the access mask (R435). -/
def Ns.accessible (x : Ns) (ld : Nat) : Bool := x.owner == ld || bit x.access ld

/-- A namespace that a command may name: present, and not in the teardown of an NS_DELETE admitted before it (R406). -/
def Device.nsFor (s : Device) (n id : Nat) : Option Ns :=
  match s.ns id with
  | none => none
  | some x => match x.teardown with
    | none => some x
    | some m => match s.cmd m, s.cmd n with
      | some p, some q => if q.order < p.order then some x else none
      | _, _ => none

end Sys2Proof.Machine
end

