-- ==== Sys2Proof/Machine/TierOps.lean ====
section
/-! DEFINITION. The DRAM pool and the placement engine (chapter 06): pages, objects, slices, holds, eviction, layer
windows and loads. -/

namespace Sys2Proof.Machine

/-- Bytes of a pool page (R190). -/
def pageBytes : Nat := 0x200000

/-- Pool pages of a half-stack (R190). -/
def poolPages : Nat := 11776

/-- An object. -/
def Device.obj (s : Device) (key : Nat) : Option Obj := nget none s.tier.objs key

/-- The key of an object of an LD. -/
def objKey (ld id : Nat) : Nat := ld * 65536 + id

/-- The state with an object replaced; TIER_OBJECTS counts the descriptors in use (R218). -/
def Device.setObj (s : Device) (key : Nat) (o : Option Obj) : Device :=
  let t := nset none s.tier.objs key o
  ({ s with tier := { s.tier with objs := t } }).wr Reg.TIER_OBJECTS 0 t.length

/-- A slice. -/
def Device.slice (s : Device) (key : Nat) : Option Slice := nget none s.tier.slices key

/-- The state with a slice replaced. -/
def Device.setSlice (s : Device) (key : Nat) (x : Option Slice) : Device :=
  { s with tier := { s.tier with slices := nset none s.tier.slices key x } }

/-- The key of slice `k` of layer `l` of an object. -/
def sliceKey (obj l k : Nat) : Nat := (obj * 4096 + l) * 2 ^ 32 + k

/-- The object, layer and slice of a key. -/
def sliceObj (key : Nat) : Nat := key / 2 ^ 32 / 4096
def sliceLayer (key : Nat) : Nat := key / 2 ^ 32 % 4096
def sliceNo (key : Nat) : Nat := key % 2 ^ 32

/-- Slices per layer (R193). -/
def Obj.slicesPerLayer (o : Obj) : Nat := ceilDiv o.layerBytes o.sliceBytes

/-- Bytes of slice `k` of a layer: the last holds the remainder (R193). -/
def Obj.bytesOf (o : Obj) (k : Nat) : Nat := min o.sliceBytes (o.layerBytes - k * o.sliceBytes)

/-- Pages of slice `k` (R193). -/
def Obj.pagesOf (o : Obj) (k : Nat) : Nat := ceilDiv (o.bytesOf k) pageBytes

/-- The ordinal that slice `k` lives on (R194), or that it was homed on again (R538). -/
def Obj.home (o : Obj) (k : Nat) : Nat :=
  match o.moved.find? (fun m => m.1 = k) with
  | some m => m.2
  | none => o.ords.getD (k % max 1 o.ords.length) 0

/-- The pages of one layer at a position of the ordinal list. -/
def Obj.layerPages (o : Obj) (pos : Nat) : Nat :=
  let n := o.slicesPerLayer; let k := max 1 o.ords.length
  let cnt := (n + k - 1 - pos) / k
  if cnt = 0 then 0
  else if (n - 1) % k = pos then (cnt - 1) * ceilDiv o.sliceBytes pageBytes + o.pagesOf (n - 1)
  else cnt * ceilDiv o.sliceBytes pageBytes

/-- The pages that a placement pins or reserves on each of its half-stacks (R196). -/
def Obj.quota (o : Obj) (pos : Nat) : Nat :=
  if o.policy = 1 then (if o.pin then o.layers * o.layerPages pos else 0)
  else if o.policy = 2 then o.window * o.layerPages pos
  else if o.policy = 3 ∨ o.policy = 4 then o.workset / 2
  else 0

/-! ## Pages -/

/-- The attribute of a pool page (R192): 0 free, 1 pinned, 2 reserved, 3 cached; 4 a page that a lost half-stack's FTL reserve has taken
from the pool (R538). -/
def Device.pageKind (s : Device) (hs page : Nat) : Nat :=
  match s.tier.pages.find? (fun r => match r.2 with
      | some x => decide (r.1 ≤ hs * 12288 + page ∧ hs * 12288 + page < r.1 + x.count)
      | none => false) with
  | some (_, some x) => x.kind
  | _ => 0

/-- The gaps from page `start` on between the runs of a half-stack, as first page and count: both rise. -/
def gapsOf : List (Nat × Nat) → Nat → List (Nat × Nat)
  | [], start => if start < poolPages then [(start, poolPages - start)] else []
  | (a, c) :: rest, start => (if start < a then [(start, a - start)] else []) ++ gapsOf rest (max start (a + c))

/-- The free pages of a half-stack, as gaps in rising order. -/
def Device.gaps (s : Device) (hs : Nat) : List (Nat × Nat) :=
  gapsOf (s.tier.pages.filterMap (fun r =>
    if r.1 / 12288 = hs then r.2.map (fun x => (r.1 % 12288, x.count)) else none)) 0

/-- The lowest gap of `n` pages on a half-stack. -/
def Device.gap (s : Device) (hs n : Nat) : Option Nat := ((s.gaps hs).find? (fun g => decide (n ≤ g.2))).map (·.1)

/-- A run of pages begins at a page of a half-stack. -/
def Device.setRun (s : Device) (hs first : Nat) (r : Option PageRun) : Device :=
  { s with tier := { s.tier with pages := nset none s.tier.pages (hs * 12288 + first) r } }

/-- A run of pages is taken. -/
def Device.takePages (s : Device) (hs first n kind : Nat) (slice : Option Nat) : Device :=
  s.setRun hs first (some ⟨n, kind, slice, none⟩)

/-- A run of pages is freed. -/
def Device.freePages (s : Device) (hs first : Nat) : Device := s.setRun hs first none

/-- Free pages of a half-stack are set aside for an object, lowest first (R192, R196). -/
def Device.setAside (s : Device) (hs n kind key : Nat) : Device :=
  ((s.gaps hs).foldl (fun (acc : Nat × Device) g =>
    let m := min acc.1 g.2
    if m = 0 then acc else (acc.1 - m, acc.2.setRun hs g.1 (some ⟨m, kind, none, some key⟩))) (n, s)).2

/-- Pages that are set aside for an object and not in use are free again, as many as are asked for. -/
def Device.giveBack (s : Device) (hs n key : Nat) : Device :=
  (s.tier.pages.foldl (fun (acc : Nat × Device) e => match e.2 with
    | some r =>
      let m := min acc.1 r.count
      if e.1 / 12288 ≠ hs ∨ r.owner ≠ some key ∨ m = 0 then acc
      else (acc.1 - m, acc.2.setRun hs (e.1 % 12288) (if m = r.count then none else some { r with count := r.count - m }))
    | none => acc) (n, s)).2

/-- The pages of a half-stack's pool share that the FTL reserve of lost half-stacks has taken (R538). -/
def Device.relaid (s : Device) (hs : Nat) : Nat :=
  (s.tier.pages.map (fun e => match e.2 with
    | some r => if e.1 / 12288 = hs ∧ r.kind = 4 then r.count else 0
    | none => 0)).foldl (· + ·) 0

/-- The pool pages that a half-stack has left for objects and answer windows. -/
def Device.poolShare (s : Device) (hs : Nat) : Nat := poolPages - s.relaid hs

/-- TIER_HS_FREE shows the pages that are neither pinned, reserved nor cached (R192, R219). -/
def Device.showFree (s : Device) (hs : Nat) : Device :=
  s.wr Reg.TIER_HS_FREE hs (s.poolShare hs * pageBytes - s.rd Reg.TIER_HS_PINNED hs - s.rd Reg.TIER_HS_CACHED hs)

/-- Pages of a half-stack become pinned or reserved in the accounts (R196, R218 to R220). -/
def Device.chargePinned (s : Device) (hs n : Nat) (job : Option Nat) : Device :=
  let b := n * pageBytes
  let s := ((s.inc Reg.TIER_PINNED 0 b).inc Reg.TIER_HS_PINNED hs b).showFree hs
  match job with
  | some j => s.inc Reg.TIER_JOB_PINNED j b
  | none => s

/-- Pages leave the pinned and reserved accounts. -/
def Device.creditPinned (s : Device) (hs n : Nat) (job : Option Nat) : Device :=
  let b := n * pageBytes
  let s := ((s.dec Reg.TIER_PINNED 0 b).dec Reg.TIER_HS_PINNED hs b).showFree hs
  match job with
  | some j => s.dec Reg.TIER_JOB_PINNED j b
  | none => s

/-- Pages of a cached slice enter the accounts. -/
def Device.chargeCached (s : Device) (hs n : Nat) (job : Option Nat) : Device :=
  let b := n * pageBytes
  let s := ((s.inc Reg.TIER_CACHED 0 b).inc Reg.TIER_HS_CACHED hs b).showFree hs
  match job with
  | some j => s.inc Reg.TIER_JOB_CACHED j b
  | none => s

/-- Pages of a cached slice leave the accounts. -/
def Device.creditCached (s : Device) (hs n : Nat) (job : Option Nat) : Device :=
  let b := n * pageBytes
  let s := ((s.dec Reg.TIER_CACHED 0 b).dec Reg.TIER_HS_CACHED hs b).showFree hs
  match job with
  | some j => s.dec Reg.TIER_JOB_CACHED j b
  | none => s

/-- Whether pinning `n` pages on each listed half-stack would exceed a limit of R196. -/
def Device.pinExceeds (s : Device) (need : List (Nat × Nat)) : Bool :=
  need.any (fun x => decide (s.rd Reg.TIER_HS_PIN_LIMIT x.1 < s.rd Reg.TIER_HS_PINNED x.1 + x.2 * pageBytes))
    || decide (s.rd Reg.TIER_PIN_LIMIT 0 <
        s.rd Reg.TIER_PINNED 0 + ((need.map (·.2)).foldl (· + ·) 0) * pageBytes)

/-! ## Eviction -/

/-- The page count of a slice. -/
def Slice.pages (x : Slice) : Nat := ceilDiv x.bytes pageBytes

/-- The job of the object of a slice. -/
def Device.sliceJob (s : Device) (key : Nat) : Option Nat := (s.obj (sliceObj key)).bind (·.job)

/-- The age of a cached slice in ms (R201). -/
def Device.ageMs (s : Device) (x : Slice) : Nat := min ((s.now - x.since) / 1000000) 0xFFFFFFFF

/-- The cached slice that a half-stack evicts next (R200): no holds, the oldest, the lowest first page among equals, and
not of object `except_`. -/
def Device.victim (s : Device) (hs : Nat) (except_ : Option Nat) : Option (Nat × Slice) :=
  let c := s.tier.slices.filterMap (fun e => match e.2 with
    | some x => if x.hs = hs ∧ x.cached ∧ x.holds.isEmpty ∧ x.page.isSome ∧ except_ ≠ some (sliceObj e.1) then some (e.1, x) else none
    | none => none)
  c.foldl (fun best y => match best with
    | none => some y
    | some b => if s.ageMs b.2 < s.ageMs y.2 ∨ (s.ageMs y.2 = s.ageMs b.2 ∧ y.2.page.getD 0 < b.2.page.getD 0) then some y else some b) none

/-- The eviction of a slice of a half-stack is counted, and for its job by whose load it was for (R202, R218 to R220). -/
def Device.countEvict (s : Device) (key hs : Nat) (for_ : Option Nat) : Device :=
  let s' := (s.inc Reg.TIER_EVICTIONS 0 1).inc Reg.TIER_HS_EVICTIONS hs 1
  match s.sliceJob key with
  | some j => if for_ = some j then s'.inc Reg.TIER_JOB_EVICT_OWN j 1 else s'.inc Reg.TIER_JOB_EVICT_OTHER j 1
  | none => s'

/-- A cached slice is evicted for a load of a job (R200, R202). -/
def Device.evict (s : Device) (key : Nat) (x : Slice) (for_ : Option Nat) : Device :=
  let t := (s.freePages x.hs (x.page.getD 0)).creditCached x.hs x.pages (s.sliceJob key)
  (t.setSlice key (some { x with page := none, loaded := 0, cached := false, evicted := true })).countEvict key x.hs for_

/-- Cached slices are evicted until a gap of `n` pages is open on a half-stack (R200): its first page, none when no evictable slice
remains, and the state; `fuel` bounds the evictions. -/
def Device.makeRoom : Nat → Device → Nat → Nat → Option Nat → Option Nat → Option Nat × Device
  | 0, s, _, _, _, _ => (none, s)
  | fuel + 1, s, hs, n, for_, except_ =>
    match s.gap hs n with
    | some p => (some p, s)
    | none => match s.victim hs except_ with
      | none => (none, s)
      | some (k, x) => Device.makeRoom fuel (s.evict k x for_) hs n for_ except_

/-- Cached slices are evicted until the pinned, reserved and cached pages of a half-stack fit the pool (R200). -/
def Device.shrinkCache : Nat → Device → Nat → Option Nat → Device
  | 0, s, _, _ => s
  | fuel + 1, s, hs, for_ =>
    if s.rd Reg.TIER_HS_PINNED hs + s.rd Reg.TIER_HS_CACHED hs ≤ s.poolShare hs * pageBytes then s
    else match s.victim hs none with
      | none => s
      | some (k, x) => Device.shrinkCache fuel (s.evict k x for_) hs for_

/-- Pages for the FTL reserve of a lost half-stack are taken from the top of a half-stack's pool share (R538): the highest free ones,
and cached slices are evicted where too few are free. `fuel` bounds the evictions. -/
def Device.takeTop : Nat → Device → Nat → Nat → Device
  | 0, s, _, _ => s
  | fuel + 1, s, hs, n =>
    let free := s.gaps hs
    if (free.map (·.2)).foldl (· + ·) 0 < n then
      match s.victim hs none with
      | some (k, x) => Device.takeTop fuel (s.evict k x none) hs n
      | none => s
    else ((free.reverse.foldl (fun (acc : Nat × Device) g =>
      let m := min acc.1 g.2
      if m = 0 then acc else (acc.1 - m, acc.2.takePages hs (g.1 + g.2 - m) m 4 none)) (n, s)).2).showFree hs

/-! ## Loading -/

/-- Whether a slice is wholly resident. -/
def Slice.resident (x : Slice) : Bool := x.page.isSome && x.loaded == x.bytes

/-- The attribute of a slice's pages while it is loaded or held: pinned, reserved, or cached (R195). -/
def Obj.sliceKind (o : Obj) (cached : Bool) : Nat := if o.policy = 1 then (if o.pin then 1 else 3) else if cached then 3 else 2

/-- A load of a slice joins the queue, unless it is there. -/
def Device.queueLoad (s : Device) (key : Nat) (job : Option Nat) : Device :=
  if s.tier.loads.any (fun l => l.slice = key) then s
  else { s with tier := { s.tier with loads := s.tier.loads ++ [⟨key, job, none⟩] } }

/-- The slice entry of an object as it stands, or as one that is not resident. -/
def Device.sliceOr (s : Device) (key : Nat) (o : Obj) : Slice :=
  (s.slice key).getD ⟨o.home (sliceNo key), none, 0, o.bytesOf (sliceNo key), [], false, 0, false, false, none⟩

/-- The pages in use by held or loading slices of a working set on a half-stack (R199). -/
def Device.worksetUse (s : Device) (obj hs : Nat) : Nat :=
  (s.tier.slices.map (fun e => match e.2 with
    | some x => if sliceObj e.1 = obj ∧ x.hs = hs ∧ x.page.isSome ∧ !x.cached then x.pages else 0
    | none => 0)).foldl (· + ·) 0

/-- A cached slice goes into pages that are set aside for its object (R195, R199, R204): its own pages are reserved from now on, and
as many of those set aside are free. -/
def Device.uncache (s : Device) (key : Nat) (o : Obj) (x : Slice) : Device :=
  (((s.creditCached x.hs x.pages o.job).giveBack x.hs x.pages (sliceObj key)).takePages x.hs (x.page.getD 0) x.pages 2 (some key)).setSlice
    key (some { x with cached := false })

/-- Whether a slice fits in the working set of its object on its half-stack (R199); other policies have none. -/
def Device.fitsWorkset (s : Device) (key : Nat) (o : Obj) (x : Slice) : Bool :=
  (o.policy != 3 && o.policy != 4) || decide (s.worksetUse (sliceObj key) x.hs + x.pages ≤ o.workset / 2)

/-- Pages for a slice that is to be loaded or held (R199, R200): those that are set aside for its object, or, for an unpinned DRAM
object, pages of the cached pool, whose own slices a PLACE does not evict (R213). False when it must wait. -/
def Device.placeSlice (s : Device) (key : Nat) (o : Obj) (x : Slice) (job : Option Nat) : Bool × Device :=
  let own := sliceObj key
  if !s.fitsWorkset key o x && (x.page.isNone || x.cached) then (false, s)
  else if x.page.isSome then (true, if x.cached && o.policy == 3 then s.uncache key o x else s)
  else
    let cached := o.policy == 1 && !o.pin
    let kind := o.sliceKind cached
    let t := if cached then s else s.giveBack x.hs x.pages own
    match Device.makeRoom 12288 t x.hs x.pages job (if o.placing.isSome then some own else none) with
    | (none, t) => (false, if cached then t else t.setAside x.hs x.pages kind own)
    | (some p, t) =>
      let t := (t.takePages x.hs p x.pages kind (some key)).setSlice key
        (some { x with page := some p, loaded := 0, cached := cached, since := s.now })
      (true, if cached then t.chargeCached x.hs x.pages o.job else t)

/-! ## Holds -/

/-- A command resolves a slice (R198, R199, R208): it holds the slice, which is fetched when it is not resident; a cached slice of a
FLASH_DEMAND object goes into the working set, once it fits there. -/
def Device.resolve (s : Device) (n key : Nat) : Device :=
  match s.obj (sliceObj key) with
  | none => s
  | some o =>
    let x := s.sliceOr key o
    let there := x.resident
    let queued := s.tier.loads.any (fun l => l.slice == key)
    let x' := { x with
      holds := if x.holds.contains n then x.holds else x.holds ++ [n],
      stallFrom := if there ∨ o.policy ≠ 2 ∨ x.stallFrom.isSome then x.stallFrom else some s.now }
    let s := s.setSlice key (some x')
    let s := match o.job with
      | some j => if o.policy = 3 ∨ (o.policy = 1 ∧ !o.pin) then
          (if there then s.inc Reg.TIER_JOB_DEMAND_HIT j 1 else if queued then s else s.inc Reg.TIER_JOB_DEMAND_FETCH j 1) else s
      | none => s
    if there && !(x.cached && o.policy == 3) then s
    else if there && s.fitsWorkset key o x' then s.uncache key o x'
    else s.queueLoad key o.job

/-- The bytes of a HOST slice that kernels wrote go back to the host range through the MHC hold buffer, from which they are released
at once (R199, R209); a poisoned word is not written, which is a fault of the object's job (R468). -/
def Device.writeBackHost (s : Device) (key : Nat) (o : Obj) (x : Slice) : Device :=
  let ld := sliceObj key / 65536
  match nget none (s.ld ld).hregs o.hreg with
  | none => s
  | some (base, _, _) =>
    let off := o.srcOffset + sliceLayer key * o.layerBytes + sliceNo key * o.sliceBytes
    let data := s.readMem 5 x.hs (x.page.getD 0 * pageBytes) x.bytes
    let bad := s.poisonIn 5 x.hs (x.page.getD 0 * pageBytes) x.bytes
    let mem := (List.range x.bytes).foldl (fun m i =>
      if bad.contains (i / 16) then m else nset 0 m (ld * 2 ^ 64 + base + off + i) (data.getD i 0)) s.hif.hostMem
    let s := ({ s with hif := { s.hif with hostMem := mem } }).inc Reg.TIER_HOST_BYTES 0 x.bytes
    match o.job with
    | some j => if bad.isEmpty then s else s.reportFault (512 + j) 3
    | none => s

/-- A slice gives its pages up: they are set aside for its object again. -/
def Device.vacate (s : Device) (key : Nat) (o : Obj) (x : Slice) : Device :=
  match x.page with
  | some p => s.setRun x.hs p (some ⟨x.pages, o.sliceKind false, none, some (sliceObj key)⟩)
  | none => s

/-- A slice leaves the pages of its object (R199, R204): to the cached pool, with age 0, or, when it does not fit there, it is
evicted; free pages take the place of its own. -/
def Device.toCache (s : Device) (key : Nat) (o : Obj) (x : Slice) : Device :=
  if !x.resident then (s.vacate key o x).setSlice key (some { x with page := none, loaded := 0 })
  else if x.pages * pageBytes ≤ s.rd Reg.TIER_HS_FREE x.hs then
    let s := (s.takePages x.hs (x.page.getD 0) x.pages 3 (some key)).setAside x.hs x.pages (o.sliceKind false) (sliceObj key)
    (s.chargeCached x.hs x.pages o.job).setSlice key (some { x with cached := true, since := s.now })
  else ((s.vacate key o x).setSlice key (some { x with page := none, loaded := 0, evicted := true })).countEvict key x.hs o.job

/-- The last hold of a slice has ended (R199, R201, R217, R469): a demand slice leaves the working set; a HOST slice is written back
and dropped; a slice with a poisoned word is no longer resident. -/
def Device.holdsEnded (s : Device) (key : Nat) (o : Obj) (x : Slice) : Device :=
  let bad := s.mem.spoiled.contains key
  let s : Device := { s with mem := { s.mem with spoiled := s.mem.spoiled.filter (· ≠ key) } }
  if o.policy = 4 then
    let s := if x.dirty then s.writeBackHost key o x else s
    (s.vacate key o x).setSlice key none
  else if o.policy = 3 ∧ !x.cached then s.toCache key o (if bad then { x with loaded := 0 } else x)
  else
    let s : Device := { s with tier := { s.tier with loads := s.tier.loads.filter (fun l => !(o.policy == 3 && l.slice == key)) } }
    s.setSlice key (some { x with loaded := if bad ∧ !(o.policy = 1 ∧ o.pin) then 0 else x.loaded, since := s.now })

/-- The holds of a command on slices end (R199). -/
def Device.endSliceHolds (s : Device) (n : Nat) : Device :=
  s.tier.slices.foldl (fun a e => match a.slice e.1 with
    | some x =>
      if x.holds.contains n then
        let x' := { x with holds := x.holds.erase n }
        let a := a.setSlice e.1 (some x')
        match a.obj (sliceObj e.1) with
        | some o => if x'.holds.isEmpty then a.holdsEnded e.1 o x' else a
        | none => a
      else a
    | none => a) s

/-! ## Layer windows -/

/-- The slices of a layer leave their slot (R204): what is resident goes to the cached pool, and nothing more of it is loaded. -/
def Device.dropLayer (s : Device) (key : Nat) (o : Obj) (l : Nat) : Device :=
  s.tier.slices.foldl (fun a e => match a.slice e.1 with
    | some x =>
      if sliceObj e.1 = key ∧ sliceLayer e.1 = l ∧ !x.cached then
        let a : Device := { a with tier := { a.tier with loads := a.tier.loads.filter (fun q => q.slice ≠ e.1) } }
        a.toCache e.1 o x
      else a
    | none => a) s

/-- A layer is assigned to a slot: its slices are loaded in ascending order, those cached from earlier use without a
read (R204). -/
def Device.loadLayer (s : Device) (key : Nat) (o : Obj) (l : Nat) : Device :=
  (List.range o.slicesPerLayer).foldl (fun a k =>
    let sk := sliceKey key l k
    let x := a.sliceOr sk o
    let a := if x.cached then a.uncache sk o x else a.setSlice sk (some x)
    if x.resident then a else a.queueLoad sk o.job) s

/-- The first layer, in cyclic order from `l`, that the window does not hold (R205). -/
def nextOutside (count : Nat) (slots : List (Nat × Bool)) (l : Nat) : Nat :=
  (((List.range count).map (fun i => (l + i) % count)).find? (fun x => !slots.any (fun y => y.1 == x))).getD l

/-- Whether a window slot is freed (R205): its layer has been held, no admitted command holds it, and an admitted command
names another layer; or a command waits for a layer outside and none holds this one. -/
def slotFreed (o : Obj) (sl : Nat × Bool) : Bool :=
  let held := o.layerHolds.any (fun h => h.2 == sl.1)
  let other := o.layerHolds.any (fun h => h.2 != sl.1) || o.wants.any (fun h => h.2 != sl.1)
  !held && ((sl.2 && other) || !o.wants.isEmpty)

/-- The layer of a slot that has none. -/
def noLayer : Nat := 4096

/-- The layer that a freed slot takes (R205): from the first waiting command's layer that is outside, or the one that follows the layer
last assigned; the first, in cyclic order, that the window does not hold. -/
def Obj.nextLayer (o : Obj) : Nat :=
  nextOutside o.layers o.slots (match o.wants.find? (fun w => !o.slots.any (fun y => y.1 == w.2)) with
    | some w => w.2
    | none => (o.lastLayer + 1) % max 1 o.layers)

/-- The slices of a layer of an object that the open DISPATCH of a command names. -/
def Device.namedSlices (s : Device) (n key l : Nat) : List Nat :=
  ((s.work.disps.filter (fun d => d.n = n)).flatMap (fun d =>
    (d.recs.filter (fun r => objKey d.ld r.obj == key && r.objLayer == l)).map (·.slice))).eraseDups

/-- Every freed slot of a window gives its layer up, all at the same time, and takes a new one, in slot order (R205). -/
def Device.turnSlots (s : Device) (key : Nat) (o : Obj) : Device :=
  let freed := (List.range o.slots.length).filter (fun i => slotFreed o (o.slots.getD i (noLayer, false)))
  let s := freed.foldl (fun a i => a.dropLayer key o (o.slots.getD i (noLayer, false)).1) s
  let bare : Obj := { o with slots := freed.foldl (fun l i => l.set i (noLayer, false)) o.slots }
  let r : Device × Obj := freed.foldl (fun (acc : Device × Obj) i =>
    let l := acc.2.nextLayer
    let o' : Obj := { acc.2 with slots := acc.2.slots.set i (l, false), lastLayer := l }
    ((acc.1.setObj key (some o')).loadLayer key o' l, o')) (s, bare)
  r.1.setObj key (some r.2)

/-- The window of an object moves (R205, R206): every freed slot takes its new layer, and commands that waited for a layer
now inside hold it and resolve the slices they name there. -/
def Device.turnWindow (s : Device) (key : Nat) : Device :=
  match s.obj key with
  | none => s
  | some o =>
    if o.policy ≠ 2 then s else
    let s := s.turnSlots key o
    match s.obj key with
    | none => s
    | some o =>
      let there := fun (l : Nat) => o.slots.any (fun y => y.1 == l)
      let inside := o.wants.filter (fun w => there w.2)
      let left := o.wants.filter (fun w => !there w.2)
      let s := match o.job with
        | some j => s.inc Reg.TIER_JOB_WINDOW_STALL j
            (((o.wantAt.filter (fun (w : Nat × Nat) => !left.any (fun v => v.1 == w.1))).map (fun (w : Nat × Nat) => s.now - w.2)).foldl (· + ·) 0)
        | none => s
      let s := s.setObj key (some { o with
        wants := left, wantAt := o.wantAt.filter (fun w => left.any (fun v => v.1 == w.1)),
        layerHolds := o.layerHolds ++ inside,
        slots := o.slots.map (fun (y : Nat × Bool) => if inside.any (fun w => w.2 == y.1) then (y.1, true) else y) })
      inside.foldl (fun a w => (a.namedSlices w.1 key w.2).foldl (fun b k => b.resolve w.1 (sliceKey key w.2 k)) a) s

/-- A command names layers of an object at admission (R198, R205, R206): a window layer inside is held at once, one
outside is waited for. -/
def Device.nameLayer (s : Device) (n key l : Nat) : Device :=
  match s.obj key with
  | none => s
  | some o =>
    if o.policy ≠ 2 ∨ o.layerHolds.contains (n, l) ∨ o.wants.contains (n, l) then s
    else if o.slots.any (fun y => y.1 == l) then
      (s.setObj key (some { o with
        layerHolds := o.layerHolds ++ [(n, l)], slots := o.slots.map (fun (y : Nat × Bool) => if y.1 = l then (l, true) else y) })).turnWindow key
    else
      let from_ := if o.wantAt.any (fun w => w.1 == n) then o.wantAt else o.wantAt ++ [(n, s.now)]
      (s.setObj key (some { o with wants := o.wants ++ [(n, l)], wantAt := from_ })).turnWindow key

/-- The holds of a command on window layers end, and the windows move (R205). -/
def Device.endLayerHolds (s : Device) (n : Nat) : Device :=
  s.tier.objs.foldl (fun a e => match a.obj e.1 with
    | some o =>
      if o.layerHolds.any (fun h => h.1 == n) || o.wants.any (fun h => h.1 == n) then
        (a.setObj e.1 (some { o with layerHolds := o.layerHolds.filter (fun h => h.1 ≠ n),
                                     wants := o.wants.filter (fun h => h.1 ≠ n),
                                     wantAt := o.wantAt.filter (fun h => h.1 ≠ n) })).turnWindow e.1
      else a
    | none => a) s

/-- Whether any admitted command holds part of an object (R214). -/
def Device.objHeld (s : Device) (key : Nat) : Bool :=
  s.tier.slices.any (fun e => match e.2 with
    | some x => sliceObj e.1 == key && !x.holds.isEmpty
    | none => false) ||
  (match s.obj key with | some o => !o.layerHolds.isEmpty || !o.wants.isEmpty | none => false)

/-- Whether a half-stack is in service: TIER_HS_STATUS.STATE is 1 or 2 (R219). -/
def Device.hsUp (s : Device) (o : Nat) : Bool := s.rdf Reg.TIER_HS_STATUS o 7 6 != 0

/-- The pages that the slices of number `k` of an object pin or reserve where they live. -/
def Obj.slicePages (o : Obj) (k : Nat) : Nat :=
  if o.policy = 1 ∧ o.pin then o.layers * o.pagesOf k else if o.policy = 2 then o.window * o.pagesOf k else 0

/-- Whether an object has a working set, and the half-stacks on which only slices homed again need one (R199, R538). -/
def Obj.hasWorkset (o : Obj) : Bool := o.policy == 3 || o.policy == 4
def Obj.newWorksets (o : Obj) : List Nat := ((o.moved.map (·.2)).eraseDups).filter (fun h => !o.ords.contains h)

/-- The pages that an object pins or reserves, by half-stack in service: its quotas, and those of slices homed again (R538). -/
def Device.objCharges (s : Device) (o : Obj) : List (Nat × Nat) :=
  ((List.range o.ords.length).filter (fun i => s.hsUp (o.ords.getD i 0))).map (fun i => (o.ords.getD i 0, o.quota i))
    ++ (if o.hasWorkset then (o.newWorksets.filter s.hsUp).map (fun h => (h, o.workset / 2))
      else (o.moved.filter (fun m => s.hsUp m.2)).map (fun m => (m.2, o.slicePages m.1)))

/-- An object is released (R214): its pages, its quota and its descriptor. -/
def Device.releaseObj (s : Device) (key : Nat) : Device :=
  match s.obj key with
  | none => s
  | some o =>
    let s := s.tier.slices.foldl (fun a e => match a.slice e.1 with
      | some x =>
        if sliceObj e.1 = key then
          let a := if x.page.isSome then a.freePages x.hs (x.page.getD 0) else a
          let a := if x.page.isSome ∧ x.cached then a.creditCached x.hs x.pages o.job else a
          { a with tier := { a.tier with
              slices := nset none a.tier.slices e.1 none, loads := a.tier.loads.filter (fun q => q.slice ≠ e.1) } }
        else a
      | none => a) s
    let s := (s.objCharges o).foldl (fun a c => a.creditPinned c.1 c.2 o.job) s
    let s : Device := { s with tier := { s.tier with pages := s.tier.pages.filter (fun e => (e.2.bind (·.owner)) ≠ some key) } }
    s.setObj key none

end Sys2Proof.Machine
end

