-- ==== Sys2Proof/Machine/MediaOps.lean ====
section
/-! DEFINITION. Reads of flash (R357, R358, R362, R363, R365): the queue of the channel dispatchers and the delivery of
read data. -/

namespace Sys2Proof.Machine

/-- The channel of a NAND die (R22). -/
def chanOf (nd : Nat) : Nat := nd / 8

/-- The SPEC_ENG and SPEC_EPOCH bits that MEDIA_INFO takes (R362). -/
def mediaInfo (kind decode : Nat) (poison : Bool) (seq : Nat) : Nat × Nat :=
  (kind * 256 + decode * 32 + b2n poison * 16 + seq / 256 % 16, seq % 256)

/-- A MEDIA packet from a media engine or the FTL of a SHEAVE die: VC0 into the compute plane, VC3 otherwise (R362). -/
def mediaPacket (ord unit dstDie dstUnit addr tag kind decode seq : Nat) (bad : Bool) (data : List Byte) : Packet :=
  let info := mediaInfo kind decode bad seq
  let flits := (data.length + 15) / 16
  { pktPlain 5 (if unitCompute dstDie dstUnit then 0 else 3) (sheaveDie ord) unit dstDie dstUnit addr with
    tag, len := flits, lastBytes := data.length % 16, specEng := info.1, specEpoch := info.2,
    body := data ++ List.replicate (flits * 16 - data.length) 0,
    poison := if bad then List.range flits else [] }

/-- The address that a READ's data carries to the masthead controller: the command, and the byte in it. The spec leaves
the address space of that unit open (log entry 12). -/
def ioAddr (n off : Nat) : Nat := n % 16384 * 67108864 + off

/-- Read data reaches its destination (R188, R348, R362, R363, R434): into a landing slot with poison when it is
uncorrectable; to MAST-P, where an uncorrectable unit is only marked; as a copy into the write buffer. `decode` is the
highest step of R347, 7 for a reconstruction. -/
def Device.deliver (s : Device) (ord chan : Nat) (loc : Option Nat) (dest : ReadDest) (data : List Byte)
    (decode : Nat) (bad : Bool) : Device :=
  match dest with
  | .landing die slot offset skip len =>
    (List.range ((len + 1023) / 1024)).foldl (fun a i =>
      a.send (mediaPacket ord (chan % 4) die 10 (slot * unitBytes + offset + i * 1024) 0 0 decode i bad
        ((data.drop (skip + i * 1024)).take (min 1024 (len - i * 1024))))) s
  | .cmd n u =>
    if bad then
      s.send (mediaPacket ord (chan % 4) s.hubDie 0 (ioAddr n (u * cwBytes)) (n % 1024) 5 decode 0 false
        (natLe 16 (loc.getD 0)))
    else (List.range 4).foldl (fun a i =>
      a.send (mediaPacket ord (chan % 4) s.hubDie 0 (ioAddr n (u * cwBytes + i * 1024)) (n % 1024) 0 decode i false
        ((data.drop (i * 1024)).take 1024))) s
  | .copy b u _ k => if bad then s else s.bufferCw ord b u 1 k data none 0 loc none false
  | .member _ => s

/-- Whether a stripe of a lost ordinal has lost another member (R410): its data cannot be reconstructed. -/
def Device.groupLost (s : Device) (ord : Nat) : Bool :=
  (List.range 14).any (fun p => rainOrd (rainGroup ord) p != ord && !s.ordUp (rainOrd (rainGroup ord) p))

/-- A code word is to be read (R358, R365, R378, R400): served at once from the write buffer or as zeros when it is
unmapped; reconstructed when its SHEAVE die is out of service; queued for its channel otherwise. -/
def Device.readUnit (s : Device) (band unit cls : Nat) (dest : ReadDest) : Device :=
  let ord := s.bandOrd band
  match s.unitHere band unit with
  | some d => s.deliver ord 0 none dest d 0 false
  | none =>
    let loc := s.unitLoc band unit
    if (s.mapAt band unit).lost then s.deliver ord 0 (some loc) dest [] 7 true
    else if !s.ordUp ord then s.deliver ord 0 (some loc) dest (s.unitData band unit) 7 (s.groupLost ord)
    else
      let r : ReadReq := { id := s.media.nextRead, ord, loc, cls, dest, busy := false, recon := none }
      { s with media := { s.media with reads := s.media.reads ++ [r], nextRead := s.media.nextRead + 1 } }

/-- The code words of a byte range of a namespace are read into a landing slot (R188, R189). -/
def Device.readToSlot (s : Device) (nsid off n die slot : Nat) : Device :=
  match s.ns nsid with
  | none => s
  | some x =>
    let first := off / cwBytes
    (rangeFrom first ((off + n + cwBytes - 1) / cwBytes - first)).foldl (fun a i =>
      let p := x.place i
      let from_ := max off (i * cwBytes)
      let goal := min (off + n) ((i + 1) * cwBytes)
      a.readUnit p.1 p.2 1 (.landing die slot (from_ - off) (from_ - i * cwBytes) (goal - from_))) s

/-- The reads of a command that no LUN is serving are dropped, and those that one is serving are answered to nobody
(R450). -/
def Device.dropReads (s : Device) (p : ReadDest → Bool) : Device :=
  { s with media := { s.media with reads := s.media.reads.filter (fun r => !p r.dest) } }

end Sys2Proof.Machine
end

