-- ==== Sys2Proof/Machine/MemOps.lean ====
section
/-! DEFINITION. What reading a memory may find (chapter 14): corrected and uncorrectable words, the repair of DRAM rows,
poisoned slices and map pages, and scrub passes. -/

namespace Sys2Proof.Machine

/-- The slice whose pages hold a word of a half-stack, when the pages are not pinned (R469). -/
def Device.sliceAt (s : Device) (hs word : Nat) : Option Nat :=
  let page := hs * 12288 + word * 16 / pageBytes
  match s.tier.pages.find? (fun r => match r.2 with
      | some x => decide (r.1 ≤ page ∧ page < r.1 + x.count)
      | none => false) with
  | some (_, some x) => if x.kind = 1 then none else x.slice
  | _ => none

/-- A slice is noted as one that is not resident once its holds end (R217, R469). -/
def Device.noteSpoiled (s : Device) (key : Nat) : Device :=
  if s.mem.spoiled.contains key then s else { s with mem := { s.mem with spoiled := s.mem.spoiled ++ [key] } }

/-- The slice that holds a poisoned word is not resident once its holds end (R469). -/
def Device.spoil (s : Device) (key : Nat) : Device :=
  match s.slice key with
  | none => s
  | some x => if x.holds.isEmpty then s.setSlice key (some { x with loaded := 0 }) else s.noteSpoiled key

/-- A DRAM row is repaired (R471): it takes a spare row of its bank, permanently; with none left the die shows
HS_DEGRADED. -/
def Device.repairRow (s : Device) (hs word : Nat) : Device :=
  let row := Config.dramRow hs word
  let spares := Config.spareRows (Config.dramBank row)
  let used := (s.mem.repaired.filter (fun r => Config.dramBank r = Config.dramBank row)).length
  let d := s.hsDie hs
  let s : Device := { s with mem := { s.mem with rowHits := nset [] s.mem.rowHits row [] } }
  let s := if used < spares then
      ((({ s with mem := { s.mem with repaired := s.mem.repaired ++ [row] } } : Device).inc Reg.MEM_DIE_PPR_USED d 1).record 0x0E07
        (memBody 5 0 (0x200 + d) (word * 16 % 2 ^ 32) (word * 16 / 2 ^ 32 % 256) 0) none)
    else s
  if spares ≤ used + 1 then s.wrf Reg.MEM_DIE_STATUS d 4 4 1 else s

/-- A read finds a word that R458 classes as uncorrectable (R465): the location holds a poison code word from now on, with one
record and one count; a DRAM row is repaired (R471), its slice spoilt (R469), and a word of the map reserve, whose page the
FTL rebuilds, is clean again (R470, log entry 14). `job` is the job of the access. -/
def Device.badWord (s : Device) (mem inst word : Nat) (job : Option Nat) : Device :=
  let s := s.markPoison mem inst word true
  let s := s.memCount mem inst Reg.MEM_CORE_UNCORR Reg.MEM_DIE_UNCORR 1
  let s := match memCoreInst mem inst with
    | some _ => s
    | none => s.wr Reg.MEM_LAST_UE (s.memDieInst mem inst) (word * 16 + mem * 2 ^ 40)
  let s := s.record 0x0E02 (memBody mem 0 (s.memInst mem inst) (word * 16 % 2 ^ 32) (word * 16 / 2 ^ 32 % 256)
    (match job with | some j => j + 64 | none => 0)) (s.jobViewer job)
  if mem ≠ 5 then s else
  let s := match s.sliceAt inst word with
    | some key => s.spoil key
    | none => s
  let s := s.repairRow inst word
  if poolPages ≤ word * 16 / pageBytes ∨ s.pageKind inst (word * 16 / pageBytes) = 4 then s.markPoison mem inst word false else s

/-- Twenty-four hours, in ns. -/
def dayNs : Nat := 86400000000000

/-- A read corrects a word (R461): counted; a DRAM row with 64 corrected reads within 24 hours is repaired (R471). -/
def Device.goodWord (s : Device) (mem inst word : Nat) : Device :=
  let s := s.memCount mem inst Reg.MEM_CORE_CORRECTED Reg.MEM_DIE_CORRECTED 1
  if mem ≠ 5 then s else
  let row := Config.dramRow inst word
  let hits := (nget [] s.mem.rowHits row).filter (fun t => s.now < t + dayNs) ++ [s.now]
  if 64 ≤ hits.length then s.repairRow inst word
  else { s with mem := { s.mem with rowHits := nset [] s.mem.rowHits row hits } }

/-- Words of a memory are read in ascending order: the decoder corrects some, and finds others uncorrectable (R461, R465). -/
def Device.readWords (s : Device) (mem inst first count : Nat) (corrected bad : List Nat) : Device :=
  let s := (corrected.filter (fun w => decide (first ≤ w) && decide (w < first + count) && !bad.contains w)).foldl
    (fun a w => a.goodWord mem inst w) s
  (bad.filter (fun w => decide (first ≤ w) && decide (w < first + count))).foldl (fun a w => a.badWord mem inst w none) s

/-! ## Scrub passes -/

/-- The size of the memory that a target names at a MEM instance, in bytes, where the instance has it and it may be scrubbed
(R460, R475, R476). -/
def scrubSize (inst target : Nat) : Option Nat :=
  if inst < 400 then
    (if target = 0 then some 0x300000 else if target = 1 ∨ target = 3 then some 0x10000
     else if target = 2 then some (4 * 69632) else none)
  else
    let d := inst - 0x200
    if target = 4 then (if dieKind d = 1 then some 0x800000 else none)
    else if target = 5 then (if dieKind d = 1 then some 0x600000000 else none)
    else if target = 6 then (if dieKind d = 0 then none else some (holdSpace d))
    else if target = 7 then (if d = 42 ∨ d = 52 then some 0x1000000 else none)
    else if target = 8 then (if d = 42 ∨ d = 52 then some 0x800000 else none)
    else if target = 9 then (if d = 47 ∨ d = 57 then some 0x800000 else none)
    else if target = 10 then (if dieKind d = 0 then some 0x600000 else none)
    else none

/-- The instance of a memory that a target names at a MEM instance (R460); of the lane registers, the `k`-th engine. -/
def scrubInst (inst target k : Nat) : Nat :=
  if target = 2 then inst * 4 + k
  else if inst < 400 then inst
  else if target = 5 then sparOrd (inst - 0x200) else inst - 0x200

/-- The runs of words that a pass reads, as memory instance, first word and count: of the lane registers, all of every engine
(R475). -/
def scrubRuns (inst target base len : Nat) : List (Nat × Nat × Nat) :=
  if target = 2 then (List.range 4).map (fun k => (scrubInst inst 2 k, 0, 4352))
  else [(scrubInst inst target 0, base / 16, len / 16)]

/-- SCRUB_BUSY of the instance (R483, R484). -/
def Device.scrubBusy (s : Device) (inst : Nat) (b : Bool) : Device :=
  if inst < 400 then s.wrf Reg.MEM_CORE_STATUS inst 1 1 (b2n b) else s.wrf Reg.MEM_DIE_STATUS (inst - 0x200) 3 3 (b2n b)

/-- A scrub pass ends (R475, R476): its counts, END and its record. -/
def Device.scrubEnd (s : Device) (inst target corrected bad found end_ : Nat) : Device :=
  let s : Device := { s with mem := { s.mem with scrubs := nset none s.mem.scrubs inst none } }
  let s := (s.wrf Reg.MEM_SCRUB_STATUS_CORE inst 0 0 0).wrf Reg.MEM_SCRUB_STATUS_CORE inst 2 1 end_
  let sat := fun (w n : Nat) => min n (2 ^ w - 1)
  let s := s.wr Reg.MEM_SCRUB_SUM_CORE inst (sat 24 corrected + sat 24 bad * 2 ^ 24 + sat 16 found * 2 ^ 48)
  let s := s.scrubBusy inst false
  s.record 0x0E01 (memBody target (s.rdf Reg.MEM_SCRUB_STATUS_CORE inst 15 8) inst corrected bad
    (sat 16 found + end_ * 2 ^ 16)) none

/-- The poisoned words in the runs of a pass. -/
def Device.poisonFoundIn (s : Device) (target : Nat) (runs : List (Nat × Nat × Nat)) : Nat :=
  (runs.map (fun r => (s.poisonIn target r.1 (r.2.1 * 16) (r.2.2 * 16)).length)).foldl (· + ·) 0

/-- The first words of some runs. -/
def firstRuns (n : Nat) : List (Nat × Nat × Nat) → List (Nat × Nat × Nat)
  | [] => []
  | r :: rest => (r.1, r.2.1, min n r.2.2) :: firstRuns (n - r.2.2) rest

/-- A pass stops at the next word (R475, R476): how far it has come is a free value, and its counts are those up to there. -/
def Device.scrubAbort (s : Device) (inst target base len : Nat) : Device :=
  let runs := scrubRuns inst target base len
  let d := s.draw
  let done := firstRuns (d.1 % ((runs.map (·.2.2)).foldl (· + ·) 0 + 1)) runs
  d.2.scrubEnd inst target 0 0 (s.poisonFoundIn target done) 2

/-- A write of MEM_SCRUB_CTL (R475, R476): none when it is refused. A pass that starts takes the range of the registers and
writes out the merge entries in it; ABORT stops the pass that runs. -/
def Device.scrubCtl (s : Device) (inst value : Nat) : Option Device :=
  let target := bits value 7 4
  let base := s.rd Reg.MEM_SCRUB_BASE_CORE inst
  let len := s.rd Reg.MEM_SCRUB_LEN_CORE inst
  let busy := s.rdf Reg.MEM_SCRUB_STATUS_CORE inst 0 0 == 1
  if bit value 0 && (busy || (match scrubSize inst target with
      | none => true
      | some n => target != 2 && (base % 16 != 0 || len % 16 != 0 || len == 0 || decide (n < base + len)))) then none
  else
    let s := s.wrf Reg.MEM_SCRUB_CTL_CORE inst 7 4 target
    let s := if bit value 0 then
        let pass := (s.rdf Reg.MEM_SCRUB_STATUS_CORE inst 15 8 + 1) % 256
        let s := (s.wr Reg.MEM_SCRUB_STATUS_CORE inst (1 + pass * 2 ^ 8)).wr Reg.MEM_SCRUB_SUM_CORE inst 0
        let s : Device := { s with mem := { s.mem with scrubs := nset none s.mem.scrubs inst (some (target, base, len)) } }
        let runs := scrubRuns inst target base len
        (s.mem.merge.filter (fun m => m.mem = target ∧ runs.any (fun r =>
          r.1 == m.inst && decide (r.2.1 ≤ m.word) && decide (m.word < r.2.1 + r.2.2)))).foldl
          (fun a m => a.writeOut m) (s.scrubBusy inst true)
      else s
    if bit value 1 then match nget none s.mem.scrubs inst with
      | some (t, b, n) => some (s.scrubAbort inst t b n)
      | none => some s
    else some s

/-- The scrub passes over compute-plane memories are aborted by a compute-plane reset (R476). -/
def Device.abortScrubs (s : Device) : Device :=
  s.mem.scrubs.foldl (fun a e => match e.2 with
    | some (t, b, n) => if t ≤ 4 ∨ t = 9 then a.scrubAbort e.1 t b n else a
    | none => a) s

end Sys2Proof.Machine
end

