-- ==== Sys2Proof/Machine/Tier.lean ====
section
/-! DEFINITION. The events of the placement engine and the staging mover (chapter 06). -/

namespace Sys2Proof.Machine

/-- A landing slot of a die. -/
def Device.slot (s : Device) (die k : Nat) : Option Landing := nget none s.tier.landing (die * 32 + k)

/-- The state with a landing slot replaced. -/
def Device.setSlot (s : Device) (die k : Nat) (x : Option Landing) : Device :=
  { s with tier := { s.tier with landing := nset none s.tier.landing (die * 32 + k) x } }

/-- The bytes of a slice that reads under way will land. -/
def Device.landingBytes (s : Device) (key : Nat) : Nat :=
  (s.tier.landing.map (fun e => match e.2 with
    | some l => if l.slice = key then l.bytes else 0
    | none => 0)).foldl (· + ·) 0

/-- Where a slice begins in its object's source (R193, R210). -/
def Obj.sourceOf (o : Obj) (key : Nat) : Nat := o.srcOffset + sliceLayer key * o.layerBytes + sliceNo key * o.sliceBytes

/-- What a load is for, when it has bytes to read or pages to take on a half-stack. -/
def Device.loadOf (s : Device) (hs : Nat) (l : Load) : Option (Obj × Slice) :=
  match s.slice l.slice, s.obj (sliceObj l.slice) with
  | some x, some o =>
    if x.hs = hs ∧ (x.page.isNone ∨ x.cached ∧ o.policy = 3 ∨ x.loaded + s.landingBytes l.slice < x.bytes) then some (o, x) else none
  | _, _ => none

/-- A load waits for space (R200): from the first time it found none. -/
def Device.blockLoad (s : Device) (l : Load) : Device :=
  { s with tier := { s.tier with loads := s.tier.loads.map (fun q =>
      if q.slice = l.slice ∧ q.blocked.isNone then { q with blocked := some s.now } else q) } }

/-- A load has its pages: the time it waited for them is counted, and the bytes of a refetch (R200, R202). -/
def Device.unblockLoad (s : Device) (l : Load) (key : Nat) : Device :=
  let s := match l.blocked, l.job with
    | some t, some j => s.inc Reg.TIER_JOB_SPACE_WAIT j (s.now - t)
    | _, _ => s
  let s : Device := { s with tier := { s.tier with loads := s.tier.loads.map (fun q =>
      if q.slice = l.slice then { q with blocked := none } else q) } }
  match s.slice key with
  | some x =>
    if x.evicted then
      let s := s.setSlice key (some { x with evicted := false })
      match s.sliceJob key with
      | some j => s.inc Reg.TIER_JOB_REFETCH_BYTES j x.bytes
      | none => s
    else s
  | none => s

/-- A read of up to 256 KiB is issued into a reserved landing slot (R188, R189, R209). -/
def Device.issueRead (s : Device) (key : Nat) (o : Obj) (hs die k : Nat) : Device :=
  match s.slice key with
  | none => s
  | some x =>
    let at_ := x.loaded + s.landingBytes key
    let n := min unitBytes (x.bytes - at_)
    let s := s.setSlot die k (some ⟨key, at_, n, 0⟩)
    let used := (s.tier.landing.filter (fun e => e.1 / 32 == die)).length
    let s := if s.rdf Reg.TIER_HS_LANDING_PEAK hs 5 0 < used then s.wrf Reg.TIER_HS_LANDING_PEAK hs 5 0 used else s
    if o.srcKind = 1 then s.readToSlot o.nsid (o.sourceOf key + at_) n die k
    else
      let ld := sliceObj key / 65536
      let data := s.hostRead ld o.hreg (o.sourceOf key + at_) n
      let s := (s.inc Reg.TIER_HOST_BYTES 0 n).inc Reg.HIF_LD_DMA_BYTES ld n
      (List.range ((n + 1023) / 1024)).foldl (fun a i =>
        let d := (data.drop (i * 1024)).take 1024
        let flits := (d.length + 15) / 16
        a.send { pktPlain 1 0 s.hubDie 0 die 10 (k * unitBytes + i * 1024) with
          len := flits, lastBytes := d.length % 16, body := d ++ List.replicate (flits * 16 - d.length) 0 }) s

/-- A load leaves the queue. -/
def Device.dropLoad (s : Device) (key : Nat) : Device :=
  { s with tier := { s.tier with loads := s.tier.loads.filter (fun l => l.slice ≠ key) } }

/-- The loads of a half-stack in order: the first that has its pages or finds them goes on with landing slot `k` of the serving die;
one that finds none waits, and the next is tried (R200). A slice that is whole only moves. -/
def Device.tryLoads (ord die k : Nat) : List Load → Device → Device
  | [], s => s
  | l :: rest, s => match s.loadOf ord l with
    | none => Device.tryLoads ord die k rest s
    | some (o, x) => match s.placeSlice l.slice o x l.job with
      | (false, t) => Device.tryLoads ord die k rest (t.blockLoad l)
      | (true, t) => if x.resident then (t.unblockLoad l l.slice).dropLoad l.slice else (t.unblockLoad l l.slice).issueRead l.slice o ord die k

/-- The effect of SLICE_FETCH_ISSUE. -/
def onSliceFetchIssue (ord : Nat) (s : Device) : Device :=
  if !s.hsUp ord || s.resetting then s
  else match (List.range 32).find? (fun k => (s.slot (s.hsDie ord) k).isNone) with
    | none => s
    | some k => Device.tryLoads ord (s.hsDie ord) k s.tier.loads s

/-- SLICE_FETCH_ISSUE (R189, R199 to R203): the half-stack's next load takes pages, evicting if needed, and a landing
slot, and its next read is issued. With nothing to load, no free slot or no space, nothing happens yet. -/
def execSliceFetchIssue (ord : Nat) (s : State) : Out := onDevice s fun s =>
  atUnit (ord < 40) (onSliceFetchIssue ord s)

/-- What a PLACE returns when its object is placed (R213): the core address of a PIN_SCRATCH object, or the pages pinned,
loaded or reserved. -/
def Device.placeResult (s : Device) (key : Nat) (o : Obj) : Nat :=
  if o.policy = 0 then o.scratch
  else if o.policy = 1 ∧ !o.pin then
    (s.tier.slices.map (fun e => match e.2 with
      | some x => if sliceObj e.1 = key ∧ x.page.isSome then x.pages else 0
      | none => 0)).foldl (· + ·) 0
  else ((List.range o.ords.length).map o.quota).foldl (· + ·) 0

/-- A PLACE completes once none of its object's slices waits to be loaded, and the object is in every core (R213). -/
def Device.settlePlace (s : Device) (key : Nat) : Device :=
  match s.obj key with
  | none => s
  | some o => match o.placing with
    | none => s
    | some n =>
      if s.tier.loads.any (fun l => sliceObj l.slice == key) || s.work.scratchDue.any (fun d => d.2 == key)
        || (o.policy == 0 && s.resetting) then s
      else (s.setObj key (some { o with placing := none })).finish n St.ok (s.placeResult key o)

/-- A slice is whole (R201, R206): its load leaves the queue, its age begins, and the time its readers waited counts. -/
def Device.sliceLoaded (s : Device) (key : Nat) : Device :=
  match s.slice key with
  | none => s
  | some x =>
    if x.loaded < x.bytes then s else
    let s := s.dropLoad key
    let s := match x.stallFrom, s.sliceJob key with
      | some t, some j => s.inc Reg.TIER_JOB_WINDOW_STALL j (s.now - t)
      | _, _ => s
    let x' := { x with since := s.now, stallFrom := none }
    let s := s.setSlice key (some x')
    let s := match s.obj (sliceObj key) with
      | some o => if x'.holds.isEmpty && o.hasWorkset then s.holdsEnded key o x' else s
      | none => s
    s.settlePlace (sliceObj key)

/-- The effect of STAGING_MOVE. -/
def onStagingMove (ord k : Nat) (s : Device) : Device :=
  let die := s.hsDie ord
  match s.slot die k with
  | none => s
  | some l =>
    if l.landed < l.bytes then s else
    let data := s.readMem 4 die (k * unitBytes) l.bytes
    let bad := s.poisonIn 4 die (k * unitBytes) l.bytes
    let s := s.setSlot die k none
    match s.slice l.slice with
    | none => s
    | some x => match x.page with
      | none => s
      | some p =>
        let s := s.writeMem 5 x.hs (p * pageBytes + l.offset) data bad
        let s := s.setSlice l.slice (some { x with loaded := x.loaded + l.bytes })
        match s.obj (sliceObj l.slice) with
        | some o =>
          let s := if o.srcKind = 1 then s.inc Reg.TIER_FLASH_BYTES 0 l.bytes else s
          (if !bad.isEmpty && (o.policy == 2 || o.policy == 3) then s.noteSpoiled l.slice else s).sliceLoaded l.slice
        | none => s.sliceLoaded l.slice

/-- STAGING_MOVE (R188, R189, R213, R217): a landed slot is written to its slice's pages in DRAM, poison marks with it, and
the slot is free; a window or demand slice with a poisoned word is not resident once its holds end. -/
def execStagingMove (ord k : Nat) (s : State) : Out := onDevice s fun s =>
  atUnit (ord < 40 && k < 32) (onStagingMove ord k s)

/-- Bytes reach a landing slot of a staging buffer (R188, R189); bytes for a slot that is not in use are dropped. -/
def Device.landBytes (s : Device) (die addr : Nat) (data : List Byte) (poison : List Nat) : Device :=
  let k := addr / unitBytes
  match s.slot die k with
  | none => s
  | some l => (s.writeMem 4 die addr data poison).setSlot die k (some { l with landed := l.landed + data.length })

end Sys2Proof.Machine
end

