-- ==== Sys2Proof/Machine/JobOps.lean ====
section
/-! DEFINITION. Jobs, router tables, batches and tasks (chapter 07): what the job commands and the events of the batch
units share. -/

namespace Sys2Proof.Machine

/-! ## Jobs -/

/-- A job. -/
def Device.job (s : Device) (j : Nat) : Option Job := nget none s.work.jobs j

/-- The state with a job replaced. -/
def Device.setJob (s : Device) (j : Nat) (x : Option Job) : Device :=
  { s with work := { s.work with jobs := nset none s.work.jobs j x } }

/-- STATE of a job: 0 closed, 1 open, 2 teardown (R252). -/
def Device.jobState (s : Device) (j : Nat) : Nat := s.rdf Reg.JOB_STATUS j 1 0

/-- Whether a job is open, and whether it is in teardown. -/
def Device.jobOpen (s : Device) (j : Nat) : Bool := s.jobState j == 1
def Device.jobTeardown (s : Device) (j : Nat) : Bool := s.jobState j == 2

/-- JOB_DEV_STATUS counts the open jobs (R254). -/
def Device.showJobs (s : Device) : Device :=
  s.wrf Reg.JOB_DEV_STATUS 0 7 1 (((List.range 64).filter s.jobOpen).length)

/-- The job that another LD owns (R221): the check that every command naming a job makes. -/
def Device.jobNotOwned (s : Device) (ld j : Nat) : Bool := s.jobState j != 0 && s.jobOwner j != ld

/-- Whether a core is active (R222): in service, not in rotation and not awaiting it. -/
def Device.coreActive (s : Device) (c : Nat) : Bool :=
  !s.fenced (coreDie c) && s.rdf Reg.AVL_CORE_ROT c 16 16 == 0 && s.rdf Reg.CORE_STATE c 2 0 != 0
    && s.rdf Reg.CORE_STATE c 2 0 != 4 && !s.avl.awaiting.contains c

/-- What a core runs. -/
def Device.task (s : Device) (c : Nat) : Option Task := nget none s.work.tasks c

/-- The state with a core's task replaced. -/
def Device.setTask (s : Device) (c : Nat) (t : Option Task) : Device :=
  { s with work := { s.work with tasks := nset none s.work.tasks c t } }

/-- The in-service SPAR ordinals of a mask, rising (R194). -/
def Device.maskOrds (s : Device) (mask : Nat) : List Nat := (bitList 40 mask).filter (fun o => s.spars.contains o)

/-- The cores of a partition (R222). -/
def partition (mask sel : Nat) : List Nat :=
  (bitList 40 mask).flatMap (fun o => (bitList 10 sel).map (fun i => o * 10 + i))

/-- Whether a core could be given a task: idle or in retention, without a fault (R238, R480). -/
def Device.coreIdle (s : Device) (c : Nat) : Bool :=
  s.coreActive c && (s.task c).isNone && (s.rdf Reg.CORE_STATE c 2 0 == 1 || s.rdf Reg.CORE_STATE c 2 0 == 6)

/-! ## Pages of jobs, handles and reductions -/

/-- Pinned pages of one run on a half-stack (R225, R261, R292, R318), counted in a job. -/
def Device.pinRun (s : Device) (hs n : Nat) (job : Nat) : Option (Nat × Device) :=
  match Device.makeRoom 12288 s hs n (some job) none with
  | (some p, t) => some (p, (t.takePages hs p n 1 none).chargePinned hs n (some job))
  | (none, _) => none

/-- A pinned run is freed. -/
def Device.unpinRun (s : Device) (hs page n : Nat) (job : Nat) : Device :=
  (s.freePages hs page).creditPinned hs n (some job)

/-- Several pinned runs, each of `n` pages on a half-stack; none when one of them finds no space. -/
def Device.pinRuns (s : Device) (need : List (Nat × Nat)) (job : Nat) : Option (List (Nat × Nat) × Device) :=
  need.foldl (fun (acc : Option (List (Nat × Nat) × Device)) x => match acc with
    | none => none
    | some (l, a) => match a.pinRun x.1 x.2 job with
      | some (p, a) => some (l ++ [(x.1, p)], a)
      | none => none) (some ([], s))

/-- Bytes of pages of a half-stack are written. -/
def Device.putPages (s : Device) (hs page off : Nat) (data : List Byte) : Device :=
  s.writeMem 5 hs (page * pageBytes + off) data []

/-! ## Kernel images -/

/-- The image is loaded into the instruction buffer of cores (R96, R223). -/
def Device.loadImage (s : Device) (j : Nat) (cores : List Nat) : Device :=
  match s.job j with
  | none => s
  | some x =>
    let img := s.nsRead x.nsid x.imgOff x.imgBytes
    let s := cores.foldl (fun a c => a.writeMem 3 c 0 img []) s
    s.setJob j (some { x with loaded := (x.loaded ++ cores).eraseDups })

/-- A PIN_SCRATCH object is written into a core (R197). -/
def Device.writeScratch (s : Device) (key : Nat) (o : Obj) (c : Nat) : Device :=
  s.coreWrite c o.scratch (if o.srcKind = 1 then s.nsRead o.nsid o.srcOffset o.layerBytes
    else s.hostRead (key / 65536) o.hreg o.srcOffset o.layerBytes) []

/-- Every PIN_SCRATCH object of a job is written into a core (R197). -/
def Device.loadScratch (s : Device) (j c : Nat) : Device :=
  s.tier.objs.foldl (fun a e => match e.2 with
    | some o => if o.policy = 0 ∧ o.job = some j then a.writeScratch e.1 o c else a
    | none => a) s

/-! ## Router tables and replicas -/

/-- A replica descriptor (R228). -/
structure Replica where
  obj : Nat
  layer : Nat
  slice : Nat
  valid : Bool
  reserved : Bool
  deriving DecidableEq, Repr

/-- A descriptor from its 64 bits. -/
def replicaOf (v : Nat) : Replica :=
  ⟨bits v 15 0, bits v 27 16, bits v 47 28, bit v 63, bits v 62 48 != 0⟩

/-- The four descriptors of an entry of a job's router table (R228). -/
def Device.routerEntry (s : Device) (x : Job) (idx : Nat) : List Replica :=
  let b := s.readMem 5 x.tableHs (x.tablePage * pageBytes + idx * 32) 32
  (List.range 4).map (fun r => replicaOf (leNat ((b.drop (8 * r)).take 8)))

/-- Whether something that a command may be closing is still open to another: nothing closes it, or the closer was
admitted later (R214, R227, R295, R320). -/
def Device.openTo (s : Device) (closer : Option Nat) (n : Nat) : Bool :=
  match closer with
  | none => true
  | some m => match s.cmd m, s.cmd n with
    | some p, some q => decide (q.order < p.order)
    | _, _ => false

/-- Whether an object exists, is not in teardown for command `n`, and has the slice (R214, R229, R230). -/
def Device.replicaObj (s : Device) (n ld : Nat) (r : Replica) : Option Obj :=
  match s.obj (objKey ld r.obj) with
  | some o => if s.openTo o.teardown n ∧ !o.lost ∧ o.policy ≠ 0 ∧ r.layer < o.layers ∧ r.slice < o.slicesPerLayer then some o else none
  | none => none

/-- Whether a replica is usable (R230). -/
def Device.usable (s : Device) (n ld : Nat) (r : Replica) : Bool :=
  r.valid && (match s.replicaObj n ld r with
    | some o => s.hsUp (o.home r.slice)
    | none => false)

/-- The replica that an entry's next record takes, at or after the turn pointer, cyclically (R230). -/
def Device.pickReplica (s : Device) (n ld : Nat) (rs : List Replica) (turn : Nat) : Option (Nat × Replica) :=
  ((List.range 4).map (fun i => (turn + i) % 4)).findSome? (fun i => match rs[i]? with
    | some r => if s.usable n ld r then some (i, r) else none
    | none => none)

/-! ## DISPATCH records -/

/-- The fields of one record (R232), and whether its reserved bytes are 0. -/
def recFields (b : List Byte) : Rec × Bool :=
  (⟨leNat (b.take 4), leNat ((b.drop 4).take 4), leNat ((b.drop 8).take 2), leNat ((b.drop 10).take 2),
    leNat ((b.drop 12).take 2), 0, 0, 0⟩, leNat ((b.drop 14).take 2) == 0)

/-- A positive normal fp32 value (R143). -/
def posNormal (v : Nat) : Bool := decide (0x00800000 ≤ v) && decide (v < 0x7F800000)

/-- Whether a declared scale fits a format (R143, R231): a positive normal value for the scaled formats, 0 otherwise. -/
def scaleOk (fmt v : Nat) : Bool := if fmt ≤ 4 then posNormal v else v == 0

/-- The list buffer of a DISPATCH: window, or range HREG when SRC is 1. -/
def dispBuf (ld : Nat) (slot : BitVec 512) (units : Nat) : Buf :=
  ⟨ld, if fld slot 44 1 % 2 = 1 then some (fld slot 46 2) else none, units * 32⟩

/-- The records of a DISPATCH's list as they stand. -/
def Device.dispList (s : Device) (ld : Nat) (slot : BitVec 512) : List (Rec × Bool) :=
  let cnt := fld slot 20 4
  let raw := s.bufRead (dispBuf ld slot (fld slot 24 4)) (cnt * 16)
  (List.range cnt).map (fun i => recFields ((raw.drop (16 * i)).take 16))

/-- Every record checked and given a replica (R230, R233): none when one fails. Answers the records and the new turn
pointers. -/
def Device.chooseAll (s : Device) (n ld : Nat) (x : Job) (slot : BitVec 512) : Option (List Rec × NMap Nat) :=
  let actBuf := dispBuf ld slot (fld slot 28 4)
  (s.dispList ld slot).foldl (fun (acc : Option (List Rec × NMap Nat)) r => match acc with
    | none => none
    | some (l, turns) =>
      let q := r.1
      if !r.2 || !(decide (q.layer < x.layers)) || !(decide (q.expert < x.experts))
          || !s.bufFits { actBuf with off := actBuf.off + q.actRow * x.rowBytes } x.rowBytes
          || !s.bufFits ⟨ld, none, fld slot 32 4 * 32 + q.outRow * x.outBytes⟩ x.outBytes then none
      else
        let idx := q.layer * x.experts + q.expert
        match s.pickReplica n ld (s.routerEntry x idx) (nget 0 turns idx) with
        | none => none
        | some (i, rep) => some (l ++ [{ q with obj := rep.obj, objLayer := rep.layer, slice := rep.slice }],
            nset 0 turns idx ((i + 1) % 4))) (some ([], x.turns))

/-- The shard of a job one of whose SERVE slices a replica names, and the expert (R257, R265). -/
def Device.shardExpert (s : Device) (j obj slice : Nat) : Option (Nat × Nat) :=
  s.tkl.shards.findSome? (fun e => e.2.bind (fun x =>
    if x.job = j ∧ x.objs.getD 3 65536 = obj ∧ slice < x.count then some (e.1, slice) else none))

/-- The open reduction that covers an expert of a shard: accumulating or updating. -/
def Device.redOf (s : Device) (shard e : Nat) : Option (Nat × Red) :=
  s.tkl.reds.findSome? (fun r => r.2.bind (fun x =>
    if x.shard = shard ∧ (x.phase = 1 ∨ x.phase = 2) ∧ x.first ≤ e ∧ e < x.first + x.count then some (r.1, x) else none))

/-- The open reduction that a record's expert is in. -/
def Device.recRed (s : Device) (j : Nat) (r : Rec) : Option (Nat × Red) :=
  (s.shardExpert j r.obj r.slice).bind (fun p => s.redOf p.1 p.2)

/-- The open reduction that the expert of a record's SERVE slice is in, whichever job of the LD the shard belongs to (R265). -/
def Device.serveRed (s : Device) (ld : Nat) (r : Rec) : Option (Nat × Red) :=
  s.tkl.shards.findSome? (fun e => e.2.bind (fun x =>
    if x.ld = ld ∧ x.objs.getD 3 65536 = r.obj ∧ r.slice < x.count then s.redOf e.1 r.slice else none))

/-- Whether a rank of a reduction is done (R262). -/
def Device.rankIsDone (s : Device) (red rank : Nat) : Bool := bit (s.rd (Reg.TKL_RED_DONE + 4 * (rank / 32)) red) (rank % 32)

/-- The reduction holds of a DISPATCH (R265): PASS 1 with a record in an open reduction of another step; PASS 0 with a
SERVE slice whose reduction is in its update phase. -/
def Device.dispatchHeld (s : Device) (n ld : Nat) (slot : BitVec 512) : Bool :=
  let j := fld slot 16 1
  let pass := fld slot 18 1
  match s.job j with
  | none => false
  | some x => match s.chooseAll n ld x slot with
    | none => false
    | some (recs, _) =>
      if pass = 1 then recs.any (fun r => match s.recRed j r with
        | some (_, d) => d.step % 256 != fld slot 47 1
        | none => false)
      else if pass = 0 then recs.any (fun r => match s.serveRed ld r with
        | some (_, d) => d.phase == 2
        | none => false)
      else false

/-! ## Batches -/

/-- Open, queued and running figures of a die's batch unit (R253). -/
def Device.showBatches (s : Device) (o : Nat) : Device :=
  let mine := s.work.batches.filter (fun b => b.hs = o)
  let s := s.wr Reg.JOB_BU_OPEN o (mine.filter (fun b => b.st = 0)).length
  let s := s.wr Reg.JOB_BU_QUEUED o (s.work.queue.filter (fun q => q.ord = some o)).length
  let s := s.wr Reg.JOB_BU_RUNNING o
    (((rangeFrom (o * 10) 10).filter (fun c => (s.task c).isSome)).length)
  s.peak Reg.JOB_BU_SLOTS_PEAK o mine.length

/-- The key of a record's batch (R235, R264). -/
def batchKey (d : Disp) (r : Rec) : List Nat :=
  [d.job, r.obj, r.objLayer, r.slice, d.pass, d.fmt, d.actScale, d.outScale] ++ (if d.pass = 0 then [] else [d.rank, d.step])

/-- The home half-stack of a record's slice (R194). -/
def Device.recHome (s : Device) (d : Disp) (r : Rec) : Nat :=
  match s.obj (objKey d.ld r.obj) with
  | some o => o.home r.slice
  | none => 0

/-- A DISPATCH by its number. -/
def Device.disp (s : Device) (seq : Nat) : Option Disp := s.work.disps.find? (fun d => d.seq = seq)

/-- The state with a DISPATCH replaced. -/
def Device.setDisp (s : Device) (d : Disp) : Device :=
  { s with work := { s.work with disps := s.work.disps.map (fun e => if e.seq = d.seq then d else e) } }

/-- A batch by its number. -/
def Device.batch (s : Device) (id : Nat) : Option Batch := s.work.batches.find? (fun b => b.id = id)

/-- The state with a batch replaced. -/
def Device.setBatch (s : Device) (b : Batch) : Device :=
  { s with work := { s.work with batches := s.work.batches.map (fun e => if e.id = b.id then b else e) } }

/-- The address of a slot in its half-stack (R225, R240). -/
def Job.slotAddr (x : Job) (hs slot : Nat) : Nat :=
  match x.areas.find? (fun a => a.1 = hs) with
  | some a => a.2 * pageBytes + slot * x.slotBytes
  | none => 0

/-- A free slot of a job on a die. -/
def Device.freeSlot (s : Device) (j : Nat) (x : Job) (hs : Nat) : Option Nat :=
  if x.areas.any (fun a => a.1 == hs) then
    (List.range x.slots).find? (fun k => !s.work.batches.any (fun b => b.job == j && b.hs == hs && b.slot == k))
  else none

/-- A record is placed in a token slot (R235, R240): its table entry and its activation row. -/
def Device.fillSlot (s : Device) (x : Job) (d : Disp) (b : Batch) (idx : Nat) (r : Rec) : Device :=
  let t := b.entries.length
  let base := x.slotAddr b.hs b.slot
  let entry := natLe 4 idx ++ natLe 4 r.outRow ++ natLe 2 r.layer ++ natLe 2 r.expert ++ natLe 2 r.gate ++ natLe 2 0
    ++ natLe 4 d.seq ++ natLe 12 0
  let buf : Buf := ⟨d.ld, d.src, d.actAddr + r.actRow * x.rowBytes⟩
  let row := s.bufRead buf x.rowBytes
  let bad := if s.bufPoison buf x.rowBytes then List.range (x.rowBytes / 16) else []
  let s := s.bufCount buf x.rowBytes
  let s := s.writeMem 5 b.hs (base + t * 32) entry []
  let s := s.writeMem 5 b.hs (base + 0x800 + t * x.rowBytes) row bad
  (s.setBatch { b with entries := b.entries ++ [(d.seq, idx)] }).inc Reg.JOB_BU_ROW_BYTES b.hs x.rowBytes

/-- A batch is released as a task for a cause (R236, R238): 1 full, 2 flush, 3 timer, 4 pressure. A timer's batch counts
for delay reason 6 of its DISPATCHes (R244). -/
def Device.releaseBatch (s : Device) (b : Batch) (cause : Nat) : Device :=
  let reg := if cause = 1 then Reg.JOB_REL_FULL else if cause = 2 then Reg.JOB_REL_FLUSH
    else if cause = 3 then Reg.JOB_REL_TIMER else Reg.JOB_REL_PRESSURE
  let s := s.inc reg b.job 1
  let tseq := nget 0 s.work.taskSeq b.hs
  let s := s.setBatch { b with st := 1, timed := decide (cause = 3), taskSeq := tseq }
  let s : Device := { s with work := { s.work with
    taskSeq := nset 0 s.work.taskSeq b.hs ((tseq + 1) % 2 ^ 32),
    queue := s.work.queue ++ [⟨b.job, some b.hs, 0, b.id, s.now, none⟩] } }
  let s := if cause ≠ 3 then s else
    ((b.entries.map (·.1)).eraseDups).foldl (fun a q => match a.disp q with
      | some d => a.addWait d.n 6 (a.now - b.opened)
      | none => a) s
  s.showBatches b.hs

/-- From when a spell of a job that began at `t` is still to be counted (R246). -/
def Device.uncounted (s : Device) (j t : Nat) : Nat := max t (nget 0 s.work.timed j)

/-- The time in which a record of a job has waited for a slot and that has not been counted yet. -/
def Device.openSlotWait (s : Device) (j : Nat) : Nat :=
  match nget none s.work.slotFrom j with
  | some t => s.now - s.uncounted j t
  | none => 0

/-- Whether any record of a job waits for a slot (R252), and the time in which one does (R237). -/
def Device.showSlotWait (s : Device) (j : Nat) : Device :=
  let waits := s.work.disps.any (fun d => d.job == j && !d.waiting.isEmpty)
  let s := s.wrf Reg.JOB_STATUS j 7 7 (b2n waits)
  let since := fun (t : Option Nat) (a : Device) => ({ a with work := { a.work with slotFrom := nset none a.work.slotFrom j t } } : Device)
  if waits then (if (nget none s.work.slotFrom j).isNone then since (some s.now) s else s)
  else since none (s.inc Reg.JOB_SLOT_WAIT_NS j (s.openSlotWait j))

/-- A record goes to the batch of its key, opening one in a free slot when there is none (R235): none when it must wait. -/
def Device.batchRecord (s : Device) (x : Job) (d : Disp) (idx : Nat) (r : Rec) : Option Device :=
  let key := batchKey d r
  let hs := s.recHome d r
  let opened := match s.work.batches.find? (fun b => b.key = key ∧ b.hs = hs ∧ b.st = 0) with
    | some b => some (b, s)
    | none => match s.freeSlot d.job x hs with
      | none => none
      | some k =>
        let b : Batch := ⟨s.work.nextBatch, d.job, key, hs, k, [], s.now, s.rdf Reg.JOB_CTL d.job 15 0, 0, false, 0⟩
        let s : Device := { s with work := { s.work with batches := s.work.batches ++ [b], nextBatch := s.work.nextBatch + 1 } }
        some (b, s)
  match opened with
  | none => none
  | some (b, s) =>
    let s := (s.fillSlot x d b idx r).inc Reg.JOB_ROUTED 0 1
    some (match s.batch b.id with
      | some b => if b.entries.length = 64 then s.releaseBatch b 1 else s.showBatches hs
      | none => s)

/-- A waiting record releases the oldest open batch of its job on a die that has no queued or running task of the job
(R237). -/
def Device.pressure (s : Device) (j hs : Nat) : Device :=
  let waits := s.work.disps.any (fun d => d.job == j && d.waiting.any (fun w => match d.recs[w.2]? with
    | some r => s.recHome d r == hs
    | none => false))
  let busy := s.work.batches.any (fun b => b.job == j && b.hs == hs && (b.st == 1 || b.st == 2))
  if waits && !busy then
    match s.work.batches.find? (fun b => b.job = j ∧ b.hs = hs ∧ b.st = 0) with
    | some b => s.releaseBatch b 4
    | none => s
  else s

/-- Batches that hold records of a DISPATCH whose last record is routed and that flushes, or that has been cut, are
released (R236). -/
def Device.flushDisp (s : Device) (seq : Nat) : Device :=
  match s.disp seq with
  | none => s
  | some d =>
    if (d.flush ∧ d.routed = d.recs.length ∧ d.waiting.isEmpty) ∨ d.cut then
      (s.work.batches.filter (fun b => b.st = 0 ∧ b.entries.any (fun e => e.1 == seq))).foldl
        (fun a b => a.releaseBatch b 2) s
    else s

/-! ## The end of a DISPATCH -/

/-- Since when a BARRIER DISPATCH of a job waits (R245). -/
def Device.barrierFrom (s : Device) (j : Nat) : Option Nat :=
  (s.work.disps.find? (fun d => d.job = j ∧ !d.go)).map (·.goFrom)

/-- A spell of idle time of a core that began at `t` ends: it counts, and the part of it during which a barrier waited
(R246). -/
def Device.countIdle (s : Device) (j t : Nat) : Device :=
  let s := s.inc Reg.JOB_IDLE_NS j (s.now - s.uncounted j t)
  match s.barrierFrom j with
  | some g => s.inc Reg.JOB_BARRIER_WAIT_NS j (s.now - s.uncounted j (max t g))
  | none => s

/-- The idle and barrier time of the spells of a job that last, and its cores' busy time, so far as they have not been counted (R246). -/
def Device.openIdle (s : Device) (j : Nat) : Nat :=
  match s.job j with
  | some x => ((x.cores.filterMap (nget none s.work.idleFrom)).map (fun t => s.now - s.uncounted j t)).foldl (· + ·) 0
  | none => 0
def Device.openBarrier (s : Device) (j : Nat) : Nat :=
  match s.job j, s.barrierFrom j with
  | some x, some g => ((x.cores.filterMap (nget none s.work.idleFrom)).map (fun t => s.now - s.uncounted j (max t g))).foldl (· + ·) 0
  | _, _ => 0
def Device.openBusy (s : Device) (j : Nat) : Nat :=
  (s.work.tasks.map (fun e => match e.2 with
    | some t => if t.job = j then s.now - s.uncounted j t.since else 0
    | none => 0)).foldl (· + ·) 0

/-- The spells of a job that last are counted up to now (R246). -/
def Device.countOpen (s : Device) (j : Nat) : Device :=
  if s.jobState j = 0 then s else
  let t := (((s.inc Reg.JOB_BUSY_NS j (s.openBusy j)).inc Reg.JOB_IDLE_NS j (s.openIdle j)).inc Reg.JOB_BARRIER_WAIT_NS j
    (s.openBarrier j)).inc Reg.JOB_SLOT_WAIT_NS j (s.openSlotWait j)
  { t with work := { t.work with timed := nset 0 t.work.timed j s.now } }

/-- Since when a core is idle, set or cleared. -/
def Device.setIdle (s : Device) (c : Nat) (t : Option Nat) : Device :=
  { s with work := { s.work with idleFrom := nset none s.work.idleFrom c t } }

/-- When the last open DISPATCH of a job has gone, idle time stops counting; while one is open it counts (R246). -/
def Device.idleMark (s : Device) (j : Nat) : Device :=
  match s.job j with
  | none => s
  | some x =>
    let on := s.work.disps.any (fun d => d.job == j)
    x.cores.foldl (fun a c => match nget none a.work.idleFrom c with
      | none => if on && a.coreIdle c then a.setIdle c (some a.now) else a
      | some t => if on && a.coreIdle c then a else (a.setIdle c none).countIdle j t) s

/-- BARRIER_WAIT of a job (R252). -/
def Device.showBarrier (s : Device) (j : Nat) : Device := s.wrf Reg.JOB_STATUS j 6 6 (b2n (s.barrierFrom j).isSome)

/-- The open DISPATCHes of a job are counted (R251). -/
def Device.showDisps (s : Device) (j : Nat) : Device :=
  (s.wr Reg.JOB_DISPATCH_OPEN j (s.work.disps.filter (fun d => d.job = j)).length).idleMark j

/-- A DISPATCH completes once every record routed has been counted (R234, R244, R450): all of them, or, when it has been
cut, those that were routed. -/
def Device.settleDisp (s : Device) (seq : Nat) : Device :=
  match s.disp seq with
  | none => s
  | some d =>
    if d.done + d.lost = d.recs.length ∨ (d.cut ∧ d.done + d.lost = d.routed) then
      let s : Device := { s with work := { s.work with disps := s.work.disps.filter (fun e => e.seq ≠ seq) } }
      (s.finish d.n (if d.reject then St.invalidField else if d.cut then St.queueReset else St.ok) d.done).showDisps d.job
    else s

/-- Records that wait for slots of a die are tried again, oldest DISPATCH first (R237). -/
def Device.retryWaiting (s : Device) (j : Nat) : Device :=
  match s.job j with
  | none => s
  | some x =>
    let s := s.work.disps.foldl (fun a d0 =>
      if d0.job ≠ j then a
      else d0.waiting.foldl (fun a w => match a.disp d0.seq with
        | none => a
        | some d => match d.recs[w.2]? with
          | none => a
          | some r => match a.batchRecord x d w.2 r with
            | none => a
            | some t => match t.disp d.seq with
              | some d => ((t.setDisp { d with waiting := d.waiting.erase w }).addWait d.n 6 (t.now - w.1)) |>.flushDisp d.seq
              | none => t) a) s
    s.showSlotWait j

end Sys2Proof.Machine
end

