-- ==== Sys2Proof/Machine/PowerOps.lean ====
section
/-! DEFINITION. The operations of the power manager (chapter 15): voltages and frequency limits, hints, and the power
states. -/

namespace Sys2Proof.Machine

/-- The state with the power manager's part changed. -/
def Device.setPwr (s : Device) (f : Power → Power) : Device := { s with pwr := f s.pwr }

/-- A PWR record (R521). -/
def Device.pwrRecord (s : Device) (typ inst a b : Nat) : Device :=
  s.record typ (natLe 2 inst ++ natLe 2 a ++ natLe 2 b ++ natLe 10 0) none

/-! ## Service -/

/-- Whether the active hub die runs the command service: the device is in service, its hub die is neither fenced nor
restarting (R494, R495, R523, R531). -/
def Device.hubRuns (s : Device) : Bool :=
  s.sled.stage == 0 && !s.fenced s.hubDie && !s.avl.restarting.contains s.hubDie

/-- The power state: PWR_STATUS.PS (R513). -/
def Device.ps (s : Device) : Nat := s.rdf Reg.PWR_STATUS 0 1 0

/-- Whether the compute plane is tripped (R511). -/
def Device.tripped (s : Device) : Bool := s.rdf Reg.PWR_STATUS 0 6 6 == 1

/-- Whether an entry or exit of a power state is under way. -/
def Device.inTransition (s : Device) : Bool := s.rdf Reg.PWR_STATUS 0 2 2 == 1

/-! ## Operating points -/

/-- V(f) in quarters of a millivolt (R497). -/
def vOf (f : Nat) : Nat :=
  if f ≤ 1200 then 2200 + (f - 400)
  else if f ≤ 1300 then 3000 + (f - 1200) * 8 / 5
  else if f ≤ 1400 then 3160 + (f - 1300) * 2
  else 3360 + (f - 1400) * 12 / 5

/-- The powered hours of the sled (R498). -/
def Device.poweredHours (s : Device) : Nat := (s.sled.poweredNs + s.now) / 3600000000000

/-- The aged Fmax of a core (R498). -/
def Device.fmaxAged (s : Device) (c : Nat) : Nat :=
  let v := s.rd Reg.PWR_CORE_FMAX_FACTORY c
  let a := bits v 10 0; let e := bits v 26 16; let h := min 61362 s.poweredHours
  (a * 61362 - (a - e) * h) / (61362 * 25) * 25

/-- The stress frequency and voltage of a core in test rotation (R548), the voltage in quarters of a millivolt. -/
def Device.stressFreq (s : Device) (c : Nat) : Nat := s.fmaxAged c * 108 / 2500 * 25
def Device.stressVolt (s : Device) (c : Nat) : Nat := vOf (s.fmaxAged c) * 95 / 100

/-- Whether a core is in test rotation (R547). -/
def Device.rotating (s : Device) (c : Nat) : Bool := s.rdf Reg.CORE_STATE c 2 0 == 4

/-- The thermal limit of a core (R510). -/
def Device.thermalLimit (s : Device) (c : Nat) : Nat := nget 1450 s.pwr.thermal c

/-- The terms of R499 but the cap ceiling, in its order without it: the least of them. -/
def Device.otherLimits (s : Device) (c : Nat) : Nat :=
  let a := s.fmaxAged c
  max 400 (min (a - s.rdf Reg.PWR_CORE_DERATE c 8 0 - s.rdf Reg.PWR_DERATE_DEV 0 8 0) (s.thermalLimit c))

/-- The frequency limit of a core with the term that sets it, the first among equals (R499). A trip and the power states stop
the clocks, so their term is the lowest. -/
def Device.limitOf (s : Device) (c : Nat) : Nat × Nat :=
  if s.tripped || s.ps != 0 then (400, 4)
  else if s.rotating c then (s.stressFreq c, 5)
  else
    let a := s.fmaxAged c
    let terms := [a, a - s.rdf Reg.PWR_CORE_DERATE c 8 0 - s.rdf Reg.PWR_DERATE_DEV 0 8 0, s.rd Reg.PWR_CAP_CEIL 0, s.thermalLimit c]
    let low := terms.foldl min a
    (max 400 low, (terms.findIdx? (fun t => t == low)).getD 0)

/-- The overlay of a sensor or regulator of a die as its 7 bits (R512). -/
def Device.overlay (s : Device) (die idx : Nat) : Nat := nget 0 s.pwr.overlays (die * 32 + idx)

/-! ## Hints -/

/-- The staged adder of a HOIST of a class in mV (R506). -/
def hoistAdder (cls : Nat) : Nat := (if cls = 0 then 0 else 15 * cls - 5) - 15

/-- The voltage that is staged on a core in mV: the larger of its HOISTs (R506, R508). -/
def Device.stagedV (s : Device) (c : Nat) : Nat :=
  (s.pwr.hints.filter (fun h => h.core == c && h.hoist && h.staged)).foldl (fun m h => max m (hoistAdder h.cls)) 0

/-- The class that hints give a core (R508): among those that count, the one received last governs; a HOIST then gives the
highest class of the HOISTs. -/
def hintClass (hs : List Hint) : Option Nat :=
  match hs.foldl (fun (b : Option Hint) h => match b with
    | some x => if x.n < h.n then some h else b
    | none => some h) none with
  | some h => if h.hoist then some ((hs.filter (·.hoist)).foldl (fun m x => max m x.cls) 0) else some h.cls
  | none => none

/-- The class in force for a core: its hints', else the measured one (R500). `ahead`: announced phases count from 20 µs before
their start (R501). -/
def Device.coreClass (s : Device) (c : Nat) (ahead : Bool) : Nat :=
  (hintClass (s.pwr.hints.filter (fun h => h.core == c && (h.started || (ahead && decide (h.start ≤ s.now + 20000)))))).getD
    (nget 0 s.pwr.measured c)

/-- The voltage setpoint of a core at a frequency without staging, in quarters of a millivolt (R497, R512, R548). -/
def Device.setpoint (s : Device) (c f : Nat) : Nat :=
  if s.rotating c then s.stressVolt c
  else (Int.ofNat (vOf f) + 4 * signed 7 (s.overlay (coreDie c) (16 + c % 10))).toNat

/-- PWR_CORE_VOLT shows the setpoint at a frequency, the staged voltage and the class in force. -/
def Device.showVolt (s : Device) (c f : Nat) : Device :=
  s.wr Reg.PWR_CORE_VOLT c (s.setpoint c f / 4 % 2 ^ 10 + s.stagedV c % 2 ^ 10 * 2 ^ 10 + s.coreClass c false * 2 ^ 20)

/-- The frequency that the voltage of a core is set for. -/
def Device.voltFreq (s : Device) (c : Nat) : Nat := max 400 (max (s.rdf Reg.PWR_CORE_FREQ c 10 0) (s.rdf Reg.PWR_CORE_FREQ c 21 11))

/-- A core takes its limit (R499, R603): a lower frequency at once; a higher one once the voltage has risen. -/
def Device.applyLimit (s : Device) (c : Nat) : Device :=
  let l := s.limitOf c
  let now := s.rdf Reg.PWR_CORE_FREQ c 10 0
  let f := min now l.1
  (s.wr Reg.PWR_CORE_FREQ c (f + l.1 * 2 ^ 11 + l.2 * 2 ^ 22)).showVolt c l.1

/-- Every in-service core takes its limit. -/
def Device.applyLimits (s : Device) : Device :=
  (List.range 400).foldl (fun a c => if a.fenced (coreDie c) then a else a.applyLimit c) s

/-- The hints of a core have changed. -/
def Device.showHints (s : Device) (c : Nat) : Device := s.showVolt c (s.voltFreq c)

/-- A core receives a hint (R505 to R507): a HOIST with too little lead is staged at once; a REEF ends the HOISTs whose phase has
started and releases any staging. -/
def Device.addHint (s : Device) (c : Nat) (sync hoist : Bool) (cls dur lead : Nat) : Device :=
  let h : Hint := { n := s.pwr.nextHint, core := c, hoist, cls, start := s.now + lead * 1000, dur, stop := none, sync,
                    staged := hoist && decide (lead < 20), started := false }
  let old := if hoist then s.pwr.hints
    else (s.pwr.hints.filter (fun x => !(x.core == c && x.hoist && x.started))).map (fun (x : Hint) =>
      if x.core = c then { x with staged := false } else x)
  (s.setPwr (fun p => { p with hints := old ++ [h], nextHint := p.nextHint + 1 })).showHints c

/-- Whether a hint body is one that R504 does not allow. Body bit `i` is instruction bit 32 + `i`. -/
def hintBodyBad (b : Nat) : Bool :=
  bits b 87 86 == 0 || bits b 87 86 == 3 || decide (5 ≤ bits b 85 83) || (bits b 87 86 == 1 && bits b 81 64 == 0) || bits b 47 0 != 0

/-- A hint is taken for cores (R505 to R508): ignored in PS1, PS2 or a trip, else counted. -/
def Device.takeHint (s : Device) (cores : List Nat) (sync : Bool) (b : Nat) : Device :=
  if s.tripped || s.ps != 0 then s.inc Reg.PWR_HINTS_IGNORED 0 1
  else
    let hoist := bits b 87 86 == 1; let lead := bits b 63 48
    let s := if hoist then (let t := s.inc Reg.PWR_HINTS_HOIST 0 1; if lead < 20 then t.inc Reg.PWR_HINTS_LATE 0 1 else t)
      else s.inc Reg.PWR_HINTS_REEF 0 1
    cores.foldl (fun a c => a.addHint c sync hoist (bits b 85 83) (bits b 81 64) lead) s

/-- The kernel of a core has ended: the hints that its SYNC HINTs gave end (R507). -/
def Device.endSyncHints (s : Device) (c : Nat) : Device :=
  if s.pwr.hints.any (fun h => h.core == c && h.sync) then
    (s.setPwr (fun p => { p with hints := p.hints.filter (fun h => !(h.core == c && h.sync)) })).showHints c
  else s

/-! ## Power states -/

/-- The least power state in which what a command needs is at rest (R513, R516, R601): 1 for what the compute plane does, 3 for
what the storage plane does, none for the others. -/
def needsPlane (slot : BitVec 512) : Option Nat :=
  let op := fld slot 0 1
  if (0x20 ≤ op ∧ op ≤ 0x2D) ∨ (0x32 ≤ op ∧ op ≤ 0x37) ∨ (op = 0x30 ∧ fld slot 18 1 = 0) then some 1
  else if (1 ≤ op ∧ op ≤ 3) ∨ (0x08 ≤ op ∧ op ≤ 0x0C) ∨ op = 0x30 ∨ op = 0x31 ∨ op = 0x40 then some 3
  else none

/-- Whether the plane that a command needs is at rest, or on its way to rest. -/
def Device.asleep (s : Device) (slot : BitVec 512) : Bool :=
  match needsPlane slot with
  | none => false
  | some l => decide (l ≤ s.ps) || (s.inTransition && decide (l ≤ s.pwr.target))

/-- Whether the device is waking up. -/
def Device.waking (s : Device) : Bool := s.inTransition && s.pwr.target == 0

/-- An entry to or exit to a power state begins (R513). -/
def Device.beginPs (s : Device) (ps : Nat) : Device := (s.wrf Reg.PWR_STATUS 0 2 2 1).setPwr (fun p => { p with target := ps })

/-- A POWER_STATE whose entry is abandoned is refused, with the reason of power (R7, R518). -/
def Device.refusePower (s : Device) (n : Nat) : Device := (s.addWait n 3 0).finish n St.refusedPower 0

/-- The device wakes to PS0 (R516, R518): an entry under way is abandoned, and its POWER_STATE refused. -/
def Device.wake (s : Device) : Device :=
  if s.waking || (s.ps == 0 && !s.inTransition) then s
  else
    let s := match s.pwr.waiting with
      | some n => s.refusePower n
      | none => s
    (s.beginPs 0).setPwr (fun p => { p with waiting := none })

end Sys2Proof.Machine
end

