-- ==== Sys2Proof/Machine/Ryern.lean ====
section
/-! DEFINITION. How a Ryern command runs (chapter 13): the holds that keep one from starting (R250, R265, R309, R332, R335,
R448), the checks of R430, and the effect. -/

namespace Sys2Proof.Machine

/-- A command of the pipeline that was admitted before another and has not ended. -/
def earlier (q p : Pending) : Bool := q.order != 0 && decide (q.order < p.order) && q.phase != .ended

/-- The commands admitted before a command that have not ended and satisfy a test. -/
def Device.earlierCmds (s : Device) (n : Nat) (test : Pending → Bool) : List Pending :=
  match s.cmd n with
  | none => []
  | some p => s.cmds.filter (fun q => earlier q p && test q)

/-- Whether a command is in admission or execution: fetched and admitted, not ended. -/
def Pending.open_ (p : Pending) : Bool := p.order != 0 && p.phase != .ended

/-- The registered range that a command names, if it names one (R432, R231, R210). -/
def cmdHreg (slot : BitVec 512) : Option Nat :=
  let op := fld slot 0 1
  if op = 1 ∨ op = 2 then (if fld slot 17 1 % 2 = 1 then some (fld slot 18 2) else none)
  else if op = 0x23 then (if fld slot 44 1 % 2 = 1 then some (fld slot 46 2) else none)
  else if op = 0x30 then (if fld slot 24 1 = 2 then some (fld slot 26 2) else none)
  else none

/-- The commands whose admission a compute-plane reset stops (R247, R250, R601), by opcode; a PLACE only with POLICY
PIN_SCRATCH. -/
def resetHolds (slot : BitVec 512) : Bool :=
  let op := fld slot 0 1
  [0x20, 0x21, 0x22, 0x23, 0x27, 0x28, 0x2C, 0x2D, 0x34, 0x37].contains op || (op == 0x30 && fld slot 18 1 == 0)

/-- Whether a JOB_OPEN waits for a teardown or a shutdown self-test (R226, R448). -/
def Device.openHeld (s : Device) (slot : BitVec 512) : Bool :=
  let cores := partition (fld slot 20 5) (fld slot 18 2 % 1024)
  (List.range 64).any (fun j => s.jobTeardown j && (match s.job j with
    | some x => x.cores.any cores.contains
    | none => false))
  || ((List.range 64).all (fun j => s.jobState j != 0) && (List.range 64).any s.jobTeardown)
  || cores.any s.avl.testing.contains

/-- Whether an earlier command with one of the opcodes satisfies a test on its slot. -/
def Device.earlierOp (s : Device) (p : Pending) (ops : List Nat) (test : BitVec 512 → Bool) : Bool :=
  s.cmds.any (fun q => earlier q p && ops.contains (fld q.slot 0 1) && test q.slot)

/-- The namespace that an embedding handle names. -/
def Device.embNs (s : Device) (h : Nat) : Option Nat := (nget none s.emb.handles h).map (·.nsid)

/-- Whether a job is open to a command (R227). -/
def Device.jobOpenTo (s : Device) (n j : Nat) : Bool :=
  s.jobOpen j || (s.jobTeardown j && (match s.job j with
    | some x => x.closer.isSome && s.openTo x.closer n
    | none => false))

/-- The hold that keeps a command from starting, as its delay reason, 0 for a wait that carries none (R427, R428): a
compute-plane reset, a trip or a budget that holds compute work (R502, R511), recovery of the FTL (R408), an unfinished teardown or transition, a range in use, a reduction, an earlier EMB_UPDATE of the
namespace, an earlier mutating command of the index, a fold's apply phase. -/
def Device.heldBy (s : Device) (p : Pending) : Option Nat :=
  let slot := p.slot
  let op := fld slot 0 1
  if s.resetting && resetHolds slot then some (if s.rdf Reg.PWR_STATUS 0 6 6 = 1 then 3 else 4)
  else if s.waking && s.asleep slot then some 3
  else if s.rdf Reg.PWR_STATUS 0 5 5 = 1 ∧ [0x23, 0x27, 0x28, 0x2C, 0x2D, 0x34, 0x37].contains op then some 3
  else if op ≠ 0 ∧ op ≤ 3 ∧ s.rdf Reg.FTL_DEV_STATUS 0 0 0 = 0 then some 0
  else if (op = 0x08 ∧ fld slot 18 1 % 2 = 0) ∨ op = 0x0A then
    match s.ns (fld slot 16 1) with
    | some x => if x.teardown.isSome then some 4 else none
    | none => none
  else if op = 0x30 then
    match s.obj (objKey p.ld (fld slot 16 2)) with
    | some o => if o.teardown.isSome then some 4 else none
    | none => none
  else if op = 0x20 then (if s.openHeld slot then some 4 else none)
  else if op = 0x19 then (if s.rdf Reg.PWR_STATUS 0 2 2 = 1 then some 4 else none)
  else if op = 0x14 then
    if s.cmds.any (fun q => q.n != p.n && q.open_ && q.ld == p.ld && cmdHreg q.slot == some (fld slot 16 2)) then some 4
    else none
  else if op = 0x23 ∧ s.cmds.any (fun q => earlier q p && fld q.slot 0 1 == 0x22 && fld q.slot 16 1 == fld slot 16 1) then
    some 0
  else if op = 0x23 then
    if s.jobOpenTo p.n (fld slot 16 1 % 64) && s.jobOwner (fld slot 16 1 % 64) == p.ld && s.dispatchHeld p.n p.ld slot then some 5
    else none
  else if op = 0x2D then
    if s.earlierOp p [0x2D] (fun q => s.embNs (fld q 17 1) == s.embNs (fld slot 17 1) && (s.embNs (fld slot 17 1)).isSome) then some 0
    else none
  else if op = 0x35 ∨ op = 0x36 ∨ op = 0x37 then
    if s.earlierOp p [0x35, 0x36, 0x37] (fun q => fld q 16 1 == fld slot 16 1) then some 0 else none
  else if op = 0x34 then
    match nget none s.srch.handles (fld slot 16 1) with
    | some h => if h.applying then some 4 else none
    | none => none
  else none

/-- The header check of R430, first rank: reserved header bits and the row's reserved bytes must be 0 (R425). -/
def headerBad (slot : BitVec 512) (reserved : List Nat) : Bool :=
  fld slot 1 1 / 4 != 0 || fld slot 6 10 != 0 || reserved.any (fun b => fld slot b 1 != 0)

/-- The first failing check of a list, in the order of the ranks of R430. -/
def firstFail : List (Bool × Nat) → Option (Nat × Nat)
  | [] => none
  | (b, st) :: rest => if b then some (st, 0) else firstFail rest

/-- The namespace that a command names (R406, R578). -/
def cmdNs (slot : BitVec 512) : Option Nat :=
  let op := fld slot 0 1
  if (1 ≤ op ∧ op ≤ 3) ∨ (9 ≤ op ∧ op ≤ 0x0C) then some (fld slot 16 1)
  else if op = 0x20 then some (fld slot 25 1)
  else if op = 0x29 then some (fld slot 18 1)
  else if op = 0x2A ∨ op = 0x32 then some (fld slot 17 1)
  else if op = 0x30 ∧ fld slot 24 1 = 1 then some (fld slot 25 1)
  else none

/-- The lifecycle state: SEC_STATUS.LIFECYCLE (R570). -/
def Device.lifecycle (s : Device) : Nat := s.rdf Reg.SEC_STATUS 0 2 0

/-- Whether a command names an encrypted namespace while the key slots are empty (R575, R577, R578). -/
def Device.keyless (s : Device) (slot : BitVec 512) : Bool :=
  s.sec.slotsEmpty && (match cmdNs slot with
    | some id => match nget none s.nss id with
      | some x => x.key != 0
      | none => false
    | none => false)

/-- A Ryern command runs (R430, R431, R516, R572): a reserved bit or byte ends it with INVALID_FIELD; a command of the admin LD that
another LD issues ends with SECURITY_DENIED, and so does one that names an encrypted namespace without keys; a RETIRED device
serves three commands only; one that is held has not started (R448); then `check` names the first status that applies, in the
order of R430, and `note` counts the refusal; a command whose plane is at rest wakes it or is refused; and with none of these `body` is
its effect. -/
def ryernNote (s : Device) (c : Cmd) (op : Nat) (reserved : List Nat) (admin : Bool)
    (check : Device → Nat → Option (Nat × Nat)) (note : Device → Nat → Device) (body : Device → Nat → Device) : Effect :=
  let c := cmdAs c op
  if ¬(c.ld < 16 ∧ c.mb < 64) then .refused .noSuchUnit
  else
    let (n, t) := s.begin c
    if headerBad c.slot reserved then .next (t.finish n St.invalidField 0)
    else if (admin && c.ld != t.hif.admin) || t.keyless c.slot then .next (t.finish n St.securityDenied 0)
    else if t.lifecycle == 4 && op != 0x00 && op != 0x10 && op != 0x12 then .next (t.finish n St.lifecycleLocked 0)
    else match t.cmd n with
      | none => .next t
      | some p => match t.heldBy p with
        | some r => .next (t.setCmd { p with phase := .admitted, held := some (r, t.now), ran := false })
        | none =>
          let sleeps := t.asleep c.slot
          match check t n with
          | some (st, res) =>
            .next (if sleeps && st == St.refusedCapacity && t.rdf Reg.PWR_PS_CTL 0 0 0 == 0 then t.finish n St.refusedPower 0
              else (note t st).finish n st res)
          | none =>
            if !sleeps then .next (body t n)
            else if t.rdf Reg.PWR_PS_CTL 0 0 0 = 0 then .next (t.finish n St.refusedPower 0)
            else .next (t.wake.setCmd { p with phase := .admitted, held := some (3, t.now), ran := false })

/-- A Ryern command whose refusals count nowhere. -/
def ryern (s : Device) (c : Cmd) (op : Nat) (reserved : List Nat) (admin : Bool)
    (check : Device → Nat → Option (Nat × Nat)) (body : Device → Nat → Device) : Effect :=
  ryernNote s c op reserved admin check (fun t _ => t) body

/-- Bytes `a` to `b` of a slot. -/
def bytesOf (a b : Nat) : List Nat := rangeFrom a (b + 1 - a)

end Sys2Proof.Machine
end

