-- ==== Sys2Proof/Machine/Jobs.lean ====
section
/-! DEFINITION. The job commands and the events of the dispatcher (chapter 07): JOB_OPEN, JOB_CLOSE, ROUTE_WRITE,
DISPATCH, the routing of records, barriers, output copies and pace. -/

namespace Sys2Proof.Machine

/-! ## JOB_OPEN and JOB_CLOSE -/

/-- The slot size of R225. -/
def slotSize (row out : Nat) : Nat := ceilDiv (2048 + 64 * (row + out)) 65536 * 65536

/-- The field checks of a JOB_OPEN (R224, R225) that need no state. -/
def jobFieldsOk (slot : BitVec 512) : Bool :=
  let sel := fld slot 18 2; let img := fld slot 28 4; let row := fld slot 46 2; let out := fld slot 48 2
  let slots := fld slot 50 2 * 2 ^ 20 / slotSize row out
  decide (fld slot 16 1 ≤ 18) && decide (0 < sel) && decide (sel < 1024)
    && decide (64 ≤ img) && decide (img ≤ 65536) && img % 8 == 0 && fld slot 32 8 % 4096 == 0
    && fld slot 40 2 % 8 == 0 && decide (fld slot 40 2 < img)
    && decide (1 ≤ fld slot 42 2) && decide (fld slot 42 2 ≤ 4096) && decide (1 ≤ fld slot 44 2) && decide (fld slot 44 2 ≤ 4096)
    && decide (32 ≤ row) && decide (row ≤ 16384) && row % 32 == 0
    && decide (32 ≤ out) && decide (out ≤ 16384) && out % 32 == 0
    && decide (popCount 10 sel + 1 ≤ slots) && decide (slots ≤ 4095)

/-- Whether a byte range of a namespace cannot be read: a code word of it lies on a lost ordinal that cannot be
reconstructed (R410, R470). -/
def Device.nsLost (s : Device) (nsid off n : Nat) : Bool :=
  match s.ns nsid with
  | none => true
  | some x => (rangeFrom (off / cwBytes) ((off + n + cwBytes - 1) / cwBytes - off / cwBytes)).any (fun i =>
      let p := x.place i; let o := s.bandOrd p.1
      (s.mapAt p.1 p.2).lost || ((s.unitHere p.1 p.2).isNone && !s.ordUp o && s.groupLost o))

/-- Pages of the router table of a JOB_OPEN (R225). -/
def tablePages (slot : BitVec 512) : Nat := ceilDiv (fld slot 42 2 * fld slot 44 2 * 32) pageBytes

/-- What a JOB_OPEN pins on each half-stack, run by run (R225): the router table, the image page, the batch areas. -/
def Device.jobNeeds (s : Device) (slot : BitVec 512) : List (Nat × Nat) :=
  let ords := s.maskOrds (fld slot 20 5)
  let hs := ords.headD 0
  [(hs, tablePages slot), (hs, 1)] ++ ords.map (fun o => (o, ceilDiv (fld slot 50 2) 2))

/-- Pages needed on each half-stack in all. -/
def sumNeeds (need : List (Nat × Nat)) : List (Nat × Nat) :=
  ((need.map (·.1)).eraseDups).map (fun h => (h, ((need.filter (fun x => x.1 = h)).map (·.2)).foldl (· + ·) 0))

/-- The lowest free job ID. -/
def Device.freeJob (s : Device) : Option Nat := (List.range 64).find? (fun j => s.jobState j = 0)

/-- The checks of a JOB_OPEN in the order of R430 (R225). -/
def Device.jobOpenCheck (s : Device) (ld n : Nat) (slot : BitVec 512) : Option (Nat × Nat) :=
  let nsid := fld slot 25 1
  let cores := partition (fld slot 20 5) (fld slot 18 2)
  firstFail [
    ((s.nsFor n nsid).isNone, St.nsAbsent),
    (!(match s.ns nsid with | some x => x.accessible ld | none => false), St.notOwner),
    (!jobFieldsOk slot || (s.maskOrds (fld slot 20 5)).isEmpty
      || decide ((match s.ns nsid with | some x => x.size | none => 0) < fld slot 32 8 + fld slot 28 4), St.invalidField),
    (s.freeJob.isNone || (List.range 64).any (fun j => match s.job j with
        | some x => x.cores.any cores.contains
        | none => false)
      || s.pinExceeds (sumNeeds (s.jobNeeds slot)), St.refusedCapacity),
    (s.nsLost nsid (fld slot 32 8) (fld slot 28 4), St.mediaUncorrectable)]

/-- The JOB registers of a job instance (R251). -/
def jobRegs : List Nat :=
  [Reg.JOB_STATUS, Reg.JOB_CTL, Reg.JOB_DIE_MASK, Reg.JOB_CORES, Reg.JOB_SLOTS, Reg.JOB_DISPATCH_OPEN, Reg.JOB_RECORDS,
   Reg.JOB_TASKS, Reg.JOB_REL_FULL, Reg.JOB_REL_FLUSH, Reg.JOB_REL_TIMER, Reg.JOB_REL_PRESSURE, Reg.JOB_STEALS,
   Reg.JOB_BUSY_NS, Reg.JOB_IDLE_NS, Reg.JOB_BARRIER_WAIT_NS, Reg.JOB_SLOT_WAIT_NS, Reg.JOB_PACE_PPS, Reg.JOB_FREQ,
   Reg.JOB_LOST_COUNT]

/-- The effect of an accepted JOB_OPEN (R223, R225, R251). -/
def Device.jobOpenEffect (s : Device) (ld : Nat) (slot : BitVec 512) (n j : Nat) : Device :=
  match s.pinRuns (s.jobNeeds slot) j with
  | none => s.finish n St.refusedCapacity 0
  | some (runs, s) =>
    let size := slotSize (fld slot 46 2) (fld slot 48 2)
    let slots := fld slot 50 2 * 2 ^ 20 / size
    let cores := partition (fld slot 20 5) (fld slot 18 2)
    let x : Job :=
      { dieMask := fld slot 20 5, coreSel := fld slot 18 2, nsid := fld slot 25 1, imgBytes := fld slot 28 4,
        imgOff := fld slot 32 8, entry := fld slot 40 2, layers := fld slot 42 2, experts := fld slot 44 2,
        rowBytes := fld slot 46 2, outBytes := fld slot 48 2, cores, tableHs := (runs.headD (0, 0)).1,
        tablePage := (runs.headD (0, 0)).2, imgPage := (runs.getD 1 (0, 0)).2, areas := runs.drop 2,
        areaPages := ceilDiv (fld slot 50 2) 2, slotBytes := size, slots, loaded := [], turns := [], scratch := 0,
        opening := none, closer := none }
    let s := s.zero j jobRegs
    let s := s.wr Reg.JOB_STATUS j (1 + ld * 4)
    let s := s.wr Reg.JOB_CTL j (fld slot 52 2 + fld slot 16 1 * 2 ^ 16)
    let s := s.wr Reg.JOB_DIE_MASK j x.dieMask
    let s := s.wr Reg.JOB_CORES j (x.coreSel + cores.length * 2 ^ 10)
    let s := s.wr Reg.JOB_SLOTS j (slots + size / 65536 * 2 ^ 12)
    let s := (s.setJob j (some x)).showJobs
    let s := s.clearMem 5 x.tableHs (x.tablePage * pageBytes) (x.layers * x.experts * 32)
    let s := s.setPins x.nsid x.imgOff x.imgBytes j true
    let s := s.putPages x.tableHs x.imgPage 0 (s.nsRead x.nsid x.imgOff x.imgBytes)
    let s := s.loadImage j (cores.filter s.coreActive)
    s.finish n St.ok j

/-- The checks of JOB_OPEN. -/
def checkJobOpen (c : Cmd) (s : Device) (n : Nat) : Option (Nat × Nat) :=
  s.jobOpenCheck c.ld n c.slot

/-- The effect of JOB_OPEN. -/
def runJobOpen (c : Cmd) (s : Device) (n : Nat) : Device :=
  match s.freeJob with
    | some j => s.jobOpenEffect c.ld c.slot n j
    | none => s

/-- JOB_OPEN (R224 to R226). -/
def execJobOpen (c : Cmd) (s : State) : Out := onDevice s fun s =>
  ryern s c 0x20 ([17, 26, 27] ++ bytesOf 54 63) false (checkJobOpen c) (runJobOpen c)

/-- A slice count of an object in its job's accounts is dropped: the object belongs to no job from here on (R227). -/
def Device.orphanObj (s : Device) (key : Nat) (o : Obj) (j : Nat) : Device :=
  let pinned := ((s.objCharges o).map (·.2)).foldl (· + ·) 0
  let cached := (s.tier.slices.map (fun e => match e.2 with
    | some x => if sliceObj e.1 = key ∧ x.cached ∧ x.page.isSome then x.pages else 0
    | none => 0)).foldl (· + ·) 0
  ((s.dec Reg.TIER_JOB_PINNED j (pinned * pageBytes)).dec Reg.TIER_JOB_CACHED j (cached * pageBytes)).setObj key
    (some { o with job := none })

/-- Teardown of a job ends (R227): partition, router table, batch areas, image page and PIN_SCRATCH objects are
released, the image is unpinned, the JOB registers return to their reset values, and JOB_CLOSE completes. -/
def Device.endTeardown (s : Device) (j n : Nat) (x : Job) : Device :=
  let s := s.unpinRun x.tableHs x.tablePage (ceilDiv (x.layers * x.experts * 32) pageBytes) j
  let s := s.unpinRun x.tableHs x.imgPage 1 j
  let s := x.areas.foldl (fun a r => a.unpinRun r.1 r.2 x.areaPages j) s
  let s := s.tier.objs.foldl (fun a e => match e.2 with
    | some o => if o.job ≠ some j then a else if o.policy = 0 then a.releaseObj e.1 else a.orphanObj e.1 o j
    | none => a) s
  let s := s.setPins x.nsid x.imgOff x.imgBytes j false
  let s := x.cores.foldl (fun a c => a.setIdle c none) s
  let s : Device := { s with work := { s.work with
    batches := s.work.batches.filter (fun b => b.job ≠ j),
    pace := nset 0 s.work.pace j 0, slotFrom := nset none s.work.slotFrom j none, timed := nset 0 s.work.timed j 0,
    scratchDue := s.work.scratchDue.filter (fun d => !x.cores.contains d.1) } }
  (((s.setJob j none).zero j jobRegs).showJobs).finish n St.ok 0

/-- A job in teardown goes on (R227, R250, R286): once every command of it admitted before the JOB_CLOSE has ended, no
reduction of it is open, and no compute-plane reset runs. -/
def Device.settleClose (s : Device) (j : Nat) : Device :=
  match s.job j with
  | none => s
  | some x => match x.closer with
    | none => s
    | some n =>
      if s.resetting || !(s.earlierCmds n (fun q => s.cmdJob q.slot == some j)).isEmpty
          || s.tkl.reds.any (fun e => match e.2 with
            | some r => r.job == j && (r.phase == 1 || r.phase == 2)
            | none => false)
      then s else s.endTeardown j n x

/-- The checks of JOB_CLOSE. -/
def checkJobClose (c : Cmd) (s : Device) (_n : Nat) : Option (Nat × Nat) :=
  firstFail [(decide (fld c.slot 16 1 < 64) && s.jobNotOwned c.ld (fld c.slot 16 1), St.notOwner),
    (decide (64 ≤ fld c.slot 16 1) || !s.jobOpen (fld c.slot 16 1), St.invalidField)]

/-- The effect of JOB_CLOSE. -/
def runJobClose (c : Cmd) (s : Device) (n : Nat) : Device :=
  let j := fld c.slot 16 1
  match s.job j with
  | none => s
  | some x => (((s.setJob j (some { x with closer := some n })).wrf Reg.JOB_STATUS j 1 0 2).showJobs).settleClose j

/-- JOB_CLOSE (R221, R227). -/
def execJobClose (c : Cmd) (s : State) : Out := onDevice s fun s =>
  ryern s c 0x21 (bytesOf 17 63) false (checkJobClose c) (runJobClose c)

/-! ## ROUTE_WRITE -/

/-- The window buffer of the entries of a ROUTE_WRITE. -/
def routeBuf (ld : Nat) (slot : BitVec 512) : Buf := ⟨ld, none, fld slot 28 4 * 32⟩

/-- Whether a descriptor may be written (R229). -/
def Device.replicaOk (s : Device) (n ld : Nat) (x : Job) (r : Replica) : Bool :=
  !r.reserved && (!r.valid || (match s.replicaObj n ld r with
    | some o => bit x.dieMask (o.home r.slice)
    | none => false))

/-- The checks of a ROUTE_WRITE in the order of R430 (R229, R468). -/
def Device.routeCheck (s : Device) (ld n : Nat) (slot : BitVec 512) : Option (Nat × Nat) :=
  let j := fld slot 16 1
  let cnt := fld slot 24 4
  firstFail [(decide (j < 64) && s.jobNotOwned ld j, St.notOwner),
    (decide (64 ≤ j) || !s.jobOpenTo n j || (match s.job j with
      | none => true
      | some x => decide (cnt = 0) || decide (x.layers * x.experts < fld slot 20 4 + cnt)
          || !s.bufFits (routeBuf ld slot) (cnt * 32) || s.bufPoison (routeBuf ld slot) (cnt * 32)
          || (let raw := s.bufRead (routeBuf ld slot) (cnt * 32)
              (List.range (4 * cnt)).any (fun i => !s.replicaOk n ld x (replicaOf (leNat ((raw.drop (8 * i)).take 8))))))
      , St.invalidField)]

/-- A ROUTE_WRITE goes on once every DISPATCH of its job admitted before it has completed (R229, R230). -/
def Device.settleRoute (s : Device) (n : Nat) : Device :=
  match s.cmd n with
  | none => s
  | some p =>
    let j := fld p.slot 16 1
    if p.phase = .ended ∨ !(s.earlierCmds n (fun q => fld q.slot 0 1 == 0x23 && fld q.slot 16 1 == j)).isEmpty then s
    else match s.job j with
      | none => s
      | some x =>
        let first := fld p.slot 20 4; let cnt := fld p.slot 24 4
        let s := s.putPages x.tableHs x.tablePage (first * 32) (s.bufRead (routeBuf p.ld p.slot) (cnt * 32))
        let s := s.setJob j (some { x with turns := x.turns.filter (fun t => !(decide (first ≤ t.1) && decide (t.1 < first + cnt))) })
        s.finish n St.ok cnt

/-- The checks of ROUTE_WRITE. -/
def checkRouteWrite (c : Cmd) (s : Device) (n : Nat) : Option (Nat × Nat) :=
  s.routeCheck c.ld n c.slot

/-- The effect of ROUTE_WRITE. -/
def runRouteWrite (c : Cmd) (s : Device) (n : Nat) : Device :=
  s.settleRoute n

/-- ROUTE_WRITE (R229). -/
def execRouteWrite (c : Cmd) (s : State) : Out := onDevice s fun s =>
  ryern s c 0x22 (bytesOf 17 19 ++ bytesOf 32 63) false (checkRouteWrite c) (runRouteWrite c)

/-! ## DISPATCH -/

/-- The field checks of a DISPATCH that need no state (R231, R264). -/
def dispFieldsOk (slot : BitVec 512) : Bool :=
  let act := fld slot 19 1 % 16; let out := fld slot 19 1 / 16
  decide (fld slot 16 1 < 64) && decide (fld slot 17 1 < 4) && decide (fld slot 18 1 ≤ 2)
    && decide (act ≤ 6) && decide (out ≤ 7) && decide (1 ≤ fld slot 20 4) && decide (fld slot 20 4 ≤ 1048576)
    && scaleOk act (fld slot 36 4) && scaleOk out (fld slot 40 4) && decide (fld slot 44 1 ≤ 1)
    && (fld slot 18 1 == 0 || fld slot 44 1 == 0)

/-- Whether a PASS 2 record may be summed (R265). -/
def Device.passTwoOk (s : Device) (j : Nat) (slot : BitVec 512) (r : Rec) : Bool :=
  match s.recRed j r with
  | some (id, d) => d.step % 256 == fld slot 47 1 && decide (fld slot 46 1 < d.ranks) && !s.rankIsDone id (fld slot 46 1)
  | none => false

/-- The checks of a DISPATCH in the order of R430 (R231, R233, R257, R265, R468). -/
def Device.dispCheck (s : Device) (ld n : Nat) (slot : BitVec 512) : Option (Nat × Nat) :=
  let j := fld slot 16 1; let cnt := fld slot 20 4
  let list := dispBuf ld slot (fld slot 24 4)
  let recs : Option (List Rec) := match s.job j with
    | some x => if dispFieldsOk slot && s.jobOpenTo n j && s.bufFits list (cnt * 16) && !s.bufPoison list (cnt * 16) then
        (s.chooseAll n ld x slot).map (fun p => p.1) else none
    | none => none
  firstFail [
    ((decide (j < 64) && s.jobNotOwned ld j) || (fld slot 44 1 == 1 && !s.bufOwned list 0)
      || (fld slot 18 1 == 2 && (match recs with
        | some l => l.any (fun r => (s.shardExpert j r.obj r.slice).isNone)
        | none => false)), St.notOwner),
    (recs.isNone || (fld slot 18 1 == 2 && (match recs with
        | some l => l.any (fun r => !s.passTwoOk j slot r)
        | none => false)), St.invalidField),
    (decide (256 ≤ (s.work.disps.filter (fun d => d.job = j)).length) || decide (1024 ≤ s.work.disps.length),
      St.refusedCapacity)]

/-- A record's slice is named and resolved (R198, R205): a window layer that is outside is waited for. -/
def Device.resolveRec (s : Device) (n ld : Nat) (r : Rec) : Device :=
  let key := objKey ld r.obj
  let s := s.nameLayer n key r.objLayer
  match s.obj key with
  | some o => if o.policy = 2 ∧ !(o.layerHolds.contains (n, r.objLayer)) then s else s.resolve n (sliceKey key r.objLayer r.slice)
  | none => s

/-- Whether a DISPATCH of a job that was admitted before command `n` has not completed (R245). -/
def Device.barred (s : Device) (n j : Nat) : Bool :=
  !(s.earlierCmds n (fun q => fld q.slot 0 1 == 0x23 && fld q.slot 16 1 == j)).isEmpty

/-- The effect of an accepted DISPATCH (R230, R233, R245). -/
def Device.dispEffect (s : Device) (ld : Nat) (slot : BitVec 512) (n : Nat) : Device :=
  let j := fld slot 16 1
  match s.job j with
  | none => s
  | some x => match s.chooseAll n ld x slot with
    | none => s
    | some (recs, turns) =>
      let s := s.setJob j (some { x with turns })
      let barrier := bit (fld slot 17 1) 1
      let go := !barrier || !s.barred n j
      let list := dispBuf ld slot (fld slot 24 4)
      let d : Disp :=
        { n, seq := s.work.nextSeq, ld, job := j, pass := fld slot 18 1, fmt := fld slot 19 1, actScale := fld slot 36 4,
          outScale := fld slot 40 4, flush := bit (fld slot 17 1) 0, barrier, src := list.hreg, actAddr := fld slot 28 4 * 32,
          outAddr := fld slot 32 4 * 32, rank := fld slot 46 1, step := fld slot 47 1, recs, routed := 0, waiting := [],
          done := 0, lost := 0, cut := false, reject := false, go, goFrom := s.now }
      let s := s.bufCount list (fld slot 20 4 * 16)
      let s : Device := { s with work := { s.work with disps := s.work.disps ++ [d], nextSeq := (s.work.nextSeq + 1) % 2 ^ 32 } }
      let firsts := recs.foldl (fun (l : List Rec) r =>
        if l.any (fun q => q.obj = r.obj ∧ q.objLayer = r.objLayer ∧ q.slice = r.slice) then l else l ++ [r]) []
      let s := firsts.foldl (fun a r => a.resolveRec n ld r) s
      (s.showDisps j).showBarrier j

/-- The checks of DISPATCH. -/
def checkDispatch (c : Cmd) (s : Device) (n : Nat) : Option (Nat × Nat) := s.dispCheck c.ld n c.slot

/-- The effect of DISPATCH. -/
def runDispatch (c : Cmd) (s : Device) (n : Nat) : Device := s.dispEffect c.ld c.slot n

/-- DISPATCH (R231 to R233, R264, R265). -/
def execDispatch (c : Cmd) (s : State) : Out := onDevice s fun s =>
  ryernNote s c 0x23 (45 :: bytesOf 48 63) false (checkDispatch c)
    (fun t st => if st = St.notOwner ∧ fld c.slot 18 1 = 2 then t.inc Reg.TKL_DEV_NOT_OWNER 0 1 else t) (runDispatch c)

/-- A DISPATCH is cut (R234, R236, R450): it routes no further record, its waiting records are dropped, and the batches
that hold its records are released. `reject`: by a rejected host DMA. -/
def Device.cutDisp (s : Device) (seq : Nat) (reject : Bool) : Device :=
  match s.disp seq with
  | none => s
  | some d =>
    let s := s.setDisp { d with cut := true, reject, lost := d.lost + d.waiting.length, waiting := [] }
    ((s.flushDisp seq).showSlotWait d.job).settleDisp seq

/-! ## Routing -/

/-- Records of a job that wait at the dispatcher (R237). -/
def Device.waitingOf (s : Device) (j : Nat) : Nat :=
  ((s.work.disps.filter (fun d => d.job = j)).map (fun d => d.waiting.length)).foldl (· + ·) 0

/-- Whether an object holds a slice that the DISPATCH has asked for and that is not resolved yet (R199). -/
def Device.awaitsSlices (s : Device) (d : Disp) : Bool :=
  s.tier.objs.any (fun e => match e.2 with
    | some o => o.wants.any (fun w => w.1 == d.n)
    | none => false)

/-- Whether the dispatcher may route a record of a DISPATCH now (R233, R234, R237, R245). -/
def Device.mayRoute (s : Device) (d : Disp) : Bool :=
  !s.resetting && d.go && !d.cut && decide (d.routed < d.recs.length) && !s.awaitsSlices d && decide (s.waitingOf d.job < 4096)

/-- The place of a DISPATCH in the order of admission. -/
def Device.dispOrder (s : Device) (d : Disp) : Nat := ((s.cmd d.n).map (·.order)).getD 0

/-- The DISPATCH that the dispatcher takes records from, and how many of its 256 are left (R233): the one whose turn it is, or the next
in the order of admission that may route. -/
def Device.routeTurn (s : Device) : Option (Disp × Nat) :=
  let ready := s.work.disps.filter s.mayRoute
  let least := fun (l : List Disp) => l.foldl (fun (b : Option Disp) d => match b with
    | some e => if s.dispOrder d < s.dispOrder e then some d else b
    | none => some d) none
  match ready.find? (fun d => s.dispOrder d = s.work.turnOrder ∧ s.work.turnLeft ≠ 0) with
  | some d => some (d, s.work.turnLeft)
  | none => match least (ready.filter (fun d => decide (s.work.turnOrder < s.dispOrder d))) with
    | some d => some (d, 256)
    | none => (least ready).map (fun d => (d, 256))

/-- The effect of RECORD_ROUTE. -/
def onRecordRoute (seq : Nat) (s : Device) : Device :=
  match s.routeTurn with
  | none => s
  | some (d, left) => match s.job d.job, d.recs[d.routed]? with
    | some x, some r =>
      if d.seq ≠ seq then s
      else
        let s : Device := { s with work := { s.work with turnOrder := s.dispOrder d, turnLeft := left - 1 } }
        let hs := s.recHome d r
        let s := s.setDisp { d with routed := d.routed + 1 }
        let s := match s.batchRecord x { d with routed := d.routed + 1 } d.routed r with
          | some t => t
          | none => match s.disp seq with
            | some d' => s.setDisp { d' with waiting := d'.waiting ++ [(s.now, d.routed)] }
            | none => s
        ((s.showSlotWait d.job).pressure d.job hs).flushDisp seq
    | _, _ => s

/-- RECORD_ROUTE (R233, R235 to R237, R245): the next record of the DISPATCH whose turn it is goes to its batch unit, or waits at the
dispatcher for a slot. A DISPATCH that may not route, or whose turn it is not, routes nothing. -/
def execRecordRoute (seq : Nat) (s : State) : Out := onDevice s fun s =>
  .next (onRecordRoute seq s)

/-- The effect of BATCH_TIMER_EXPIRY. -/
def onBatchTimerExpiry (ord j slot : Nat) (s : Device) : Device :=
  match s.work.batches.find? (fun b => b.hs = ord ∧ b.job = j ∧ b.slot = slot ∧ b.st = 0 ∧ b.timer ≠ 0) with
  | some b => if s.resetting then s else s.releaseBatch b 3
  | none => s

/-- BATCH_TIMER_EXPIRY (R236): the batch in a slot of a job on a die is released when the timer it opened with has
run. -/
def execBatchTimerExpiry (ord j slot : Nat) (s : State) : Out := onDevice s fun s =>
  atUnit (ord < 40 && j < 64) (onBatchTimerExpiry ord j slot s)

/-- The effect of BARRIER_DISPATCH_START. -/
def onBarrierDispatchStart (seq : Nat) (s : Device) : Device :=
  match s.disp seq with
  | none => s
  | some d =>
    if d.go || s.barred d.n d.job then s
    else
      let s : Device := match s.job d.job with
        | some x => x.cores.foldl (fun (a : Device) c => match nget none a.work.idleFrom c with
            | some t => a.inc Reg.JOB_BARRIER_WAIT_NS d.job (a.now - a.uncounted d.job (max t d.goFrom))
            | none => a) s
        | none => s
      let s := s.setDisp { d with go := true }
      let s : Device := { s with work := { s.work with disps := s.work.disps.map (fun (e : Disp) =>
        if e.job = d.job ∧ !e.go then { e with goFrom := s.now } else e) } }
      s.showBarrier d.job

/-- BARRIER_DISPATCH_START (R245): a BARRIER DISPATCH routes once every DISPATCH of the job admitted before it has
completed. -/
def execBarrierDispatchStart (seq : Nat) (s : State) : Out := onDevice s fun s =>
  .next (onBarrierDispatchStart seq s)

/-- PACE_INTERVAL (R246): 1,000 ms of the active hub die's counter have passed. -/
def execPaceInterval (s : State) : Out := onDevice s fun s =>
  let s := (List.range 64).foldl (fun a j => if a.jobState j = 0 then a else a.wr Reg.JOB_PACE_PPS j (nget 0 a.work.pace j)) s
  .next { s with work := { s.work with pace := [] } }

/-! ## Output copies -/

/-- The core address, in its half-stack, of the output row of a token slot (R240). -/
def Job.outRowAt (x : Job) (b : Batch) (t : Nat) : Nat :=
  x.slotAddr b.hs b.slot + 0x800 + 64 * x.rowBytes + t * x.outBytes

/-- Whether the output row of a token slot is poisoned. -/
def Device.outPoisoned (s : Device) (x : Job) (b : Batch) (t : Nat) : Bool :=
  !(s.poisonIn 5 b.hs (x.outRowAt b t) x.outBytes).isEmpty

/-- The output rows of a batch go to the answer window, in token slot order; a poisoned row is not written (R242,
R468). -/
def Device.copyOut (s : Device) (b : Batch) : Device :=
  match s.job b.job with
  | none => s
  | some x =>
    (List.range b.entries.length).foldl (fun a t =>
      let e := b.entries.getD t (0, 0)
      match a.disp e.1 with
      | none => a
      | some d => match d.recs[e.2]? with
        | none => a
        | some r =>
          if a.outPoisoned x b t then a
          else (a.windowWrite d.ld (d.outAddr + r.outRow * x.outBytes) (a.readMem 5 b.hs (x.outRowAt b t) x.outBytes) []).inc
            Reg.JOB_BU_OUT_BYTES b.hs x.outBytes) (s.setBatch { b with st := 3 })

/-- The kernel of a batch's task has ended (R242): its outputs are copied, and it counts as a task ended. -/
def Device.batchEnd (s : Device) (id : Nat) : Device :=
  match s.batch id with
  | none => s
  | some b => (((s.inc Reg.JOB_TASKS b.job 1).copyOut b).showBatches b.hs).pressure b.job b.hs

/-- The records of a batch are counted as completed for their DISPATCHes (R242, R244, R246). -/
def Device.countRecords (s : Device) (b : Batch) : Device :=
  let n := b.entries.length
  let s := b.entries.foldl (fun a e => match a.disp e.1 with
    | some d => a.setDisp { d with done := d.done + 1 }
    | none => a) s
  let s := s.inc Reg.JOB_RECORDS b.job n
  let s : Device := { s with work := { s.work with pace := nset 0 s.work.pace b.job (nget 0 s.work.pace b.job + n) } }
  ((b.entries.map (·.1)).eraseDups).foldl (fun a q => a.settleDisp q) s

/-- The acknowledgements of an output copy have returned (R237, R242): a copy that met poison is a job fault; otherwise
the slot is free and its records count. -/
def Device.copyDone (s : Device) (b : Batch) : Device :=
  match s.job b.job with
  | none => s
  | some x =>
    if (List.range b.entries.length).any (s.outPoisoned x b) then s.reportFault (512 + b.job) 3
    else
      let s : Device := { s with work := { s.work with batches := s.work.batches.filter (fun e => e.id ≠ b.id) } }
      (((s.countRecords b).showBatches b.hs).retryWaiting b.job).pressure b.job b.hs

end Sys2Proof.Machine
end

