-- ==== Sys2Proof/Machine/TackleOps.lean ====
section
/-! DEFINITION. Gradient reduction and in-place update (chapter 08): shards, reductions, the adders and their rank
pointers, the update of a row, and what the commands of the chapter wait for. -/

namespace Sys2Proof.Machine

/-! ## Arithmetic beside chapter 04 -/

/-- Whether `a < b` as fp32 values; false when one is NaN. -/
def flt (a b : F32) : Bool :=
  match f32Val a, f32Val b with
  | .nan, _ => false
  | _, .nan => false
  | .inf x, .inf y => x && !y
  | .inf x, .fin _ _ => x
  | .fin _ _, .inf y => !y
  | .fin x m, .fin y k => decide (finInt x m < finInt y k)

/-- A value to the power `t`, rounded once (R280). -/
def fpow (a : F32) (t : Nat) : F32 :=
  match f32Val a with
  | .nan => f32NaN
  | .inf n => f32Inf n
  | .fin _ m => if t = 0 then 0x3F800000 else encodeF32 .nearest false (m ^ t) (149 * t)

/-- The largest finite value of a serving or gradient format as fp32 (R123). -/
def fmtMax (fmt : Nat) : F32 :=
  if fmt = 0 then 0x43E00000 else if fmt = 1 then 0x47600000 else if fmt = 2 then 0x40C00000
  else if fmt = 3 then 0x42FE0000 else 0x40E00000

/-- Whether the procedure of R145 leaves a scale unchanged and logs its slot: nothing was narrowed, or the largest magnitude is
infinite. -/
def adaptLogs (n : Nat) (amax : F32) : Bool := n == 0 || (match f32Val amax with | .inf _ => true | _ => false)

/-- A new declared scale and quiet count (R145). -/
def adapt (scale : F32) (quiet n sat : Nat) (amax fmax : F32) : F32 × Nat :=
  let grown := fmul (fmul scale (fdiv amax fmax)) 0x3FA00000
  let r :=
    if adaptLogs n amax then (scale, quiet)
    else if n < sat * 16384 then (grown, 0)
    else if flt amax (fdiv fmax 0x40800000) && flt 0 amax then
      (if quiet + 1 = 8 then (grown, 0) else (scale, quiet + 1))
    else (scale, 0)
  (minV (maxV r.1 0x00800000) 0x7E800000, r.2)

/-! ## Shards and reductions -/

/-- A shard and a reduction. -/
def Device.shard (s : Device) (i : Nat) : Option Shard := nget none s.tkl.shards i
def Device.red (s : Device) (i : Nat) : Option Red := nget none s.tkl.reds i

/-- TKL_DEV_STATUS counts open shards and reductions (R287). -/
def Device.showTkl (s : Device) : Device :=
  s.wr Reg.TKL_DEV_STATUS 0 ((s.tkl.shards.length) + (s.tkl.reds.filter (fun e => match e.2 with
    | some r => r.phase == 1 || r.phase == 2
    | none => false)).length * 2 ^ 7)

/-- The state with a shard or a reduction replaced. -/
def Device.setShard (s : Device) (i : Nat) (x : Option Shard) : Device :=
  ({ s with tkl := { s.tkl with shards := nset none s.tkl.shards i x } }).showTkl
def Device.setRed (s : Device) (i : Nat) (x : Option Red) : Device :=
  ({ s with tkl := { s.tkl with reds := nset none s.tkl.reds i x } }).showTkl

/-- EXPERT_ELEMS, ROWS_TOTAL, and the elements and rows before a matrix (R256). -/
def Shard.elems (x : Shard) : Nat := (x.shape.map (fun d => d.1 * d.2)).foldl (· + ·) 0
def Shard.rows (x : Shard) : Nat := (x.shape.map (·.1)).foldl (· + ·) 0
def Shard.elemsBefore (x : Shard) (m : Nat) : Nat := ((x.shape.take m).map (fun d => d.1 * d.2)).foldl (· + ·) 0
def Shard.rowsBefore (x : Shard) (m : Nat) : Nat := ((x.shape.take m).map (·.1)).foldl (· + ·) 0

/-- The bytes of a slice of object `k` (0 MASTER, 1 M1, 2 V, 3 SERVE) of a shard (R256). -/
def sliceBytesOf (sfmt elems rows k : Nat) : Nat :=
  if k = 0 then 2 * elems else if k = 3 then fmtBytes sfmt elems + 24 * rows else elems + 4 * rows

/-- Where slice `e` of object `k` of a shard stands: half-stack and address. -/
def Device.shardSlice (s : Device) (x : Shard) (k e : Nat) : Nat × Nat :=
  match s.slice (sliceKey (objKey x.ld (x.objs.getD k 0)) 0 e) with
  | some y => (y.hs, y.page.getD 0 * pageBytes)
  | none => (0, 0)

/-- The home half-stack of an expert (R256). -/
def Device.expertHome (s : Device) (x : Shard) (e : Nat) : Nat :=
  match s.obj (objKey x.ld (x.objs.getD 0 0)) with
  | some o => o.home e
  | none => 0

/-- The ordinals whose adders serve a reduction. -/
def Red.adders (r : Red) : List Nat := (r.sums.map (·.1)).eraseDups

/-- The rank pointer of an adder (R274). -/
def Red.ptr (r : Red) (o : Nat) : Nat := nget 0 r.ptrs o

/-- The lowest rank pointer over the dies (R276). -/
def Red.lowPtr (r : Red) : Nat := (r.adders.map r.ptr).foldl min r.ranks

/-- Whether every adder has reported complete (R274). -/
def Red.complete (r : Red) : Bool := r.adders.all (fun o => r.ptr o == r.ranks)

/-- Rank-buffer bytes of an adder that a reduction's contributions take, and its reservations there (R272). -/
def Device.bufHeld (s : Device) (o id : Nat) : Nat :=
  ((s.tkl.contribs.filter (fun c => c.ord = o ∧ c.red = id)).map (fun c => c.codes.length)).foldl (· + ·) 0
def Red.reserved (r : Red) (o : Nat) : Nat :=
  ((r.resv.filter (fun v => v.2.1 = o)).map (fun v => v.2.2)).foldl (· + ·) 0

/-- TKL_AD_BUF_USED and its peak follow the contributions (R287). -/
def Device.showAdder (s : Device) (o : Nat) : Device :=
  let n := ((s.tkl.contribs.filter (fun c => c.ord = o)).map (fun c => c.codes.length)).foldl (· + ·) 0
  (s.wr Reg.TKL_AD_BUF_USED o n).peak Reg.TKL_AD_BUF_PEAK o n

/-- Whether a reservation of a run may be granted (R272): `rank` is the run's. -/
def Device.mayReserve (s : Device) (o id rank : Nat) (r : Red) (elems : Nat) : Bool :=
  let free := r.bufBytes - (s.bufHeld o id + r.reserved o)
  if rank = r.ptr o then decide (elems ≤ free) else decide (2 * elems ≤ free)

/-- What an adder keeps between two contributions. -/
def Device.adder (s : Device) (o : Nat) : Adder := nget {} s.tkl.adders o

/-- The state with an adder replaced. -/
def Device.setAdder (s : Device) (o : Nat) (a : Adder) : Device := { s with tkl := { s.tkl with adders := nset {} s.tkl.adders o a } }

/-- A time that the spec gives no value for passes on a counter: a free value (log entry 2). -/
def Device.incFree (s : Device) (r i : Nat) : Device := let d := s.draw; d.2.inc r i d.1

/-! ## The adders -/

/-- A contribution is added to its sum elements (R273): each code is decoded, multiplied by the scale and rounded once,
added and rounded once; poison of a code word reaches its sum words. -/
def Device.addContrib (s : Device) (c : Contrib) : Device :=
  match s.red c.red with
  | none => s
  | some r => match s.shard r.shard with
    | none => s
    | some x =>
      let elems := max 1 x.elems
      let sum := r.sums.getD (c.elem / elems) (0, 0)
      let base := sum.2 * pageBytes + c.elem % elems * 4
      let n := c.codes.length
      let old := s.readMem 5 sum.1 base (4 * n)
      let oldBad := s.poisonIn 5 sum.1 base (4 * n)
      let new := (List.range n).flatMap (fun k =>
        let v := fmul (encodeVal (decodeFmt 1 (c.codes.getD k 0).toNat)) c.scale
        natLe 4 (fadd (BitVec.ofNat 32 (leNat ((old.drop (4 * k)).take 4))) v).toNat)
      let bad := (List.range ((4 * n + 15) / 16)).filter (fun i => oldBad.contains i || c.poison.contains (i / 4))
      let s := s.writeMem 5 sum.1 base new bad
      (s.inc Reg.TKL_JOB_ELEMS r.job n).inc Reg.TKL_AD_ELEMS c.ord n

/-- The pointer of an adder moves past every done rank of which it has no released contribution left to add (R274); `fuel`
bounds the moves. -/
def Device.advance : Nat → Device → Nat → Nat → Device
  | 0, s, _, _ => s
  | fuel + 1, s, o, id =>
    match s.red id with
    | none => s
    | some r =>
      let left := s.tkl.contribs.any (fun c => c.ord == o && c.red == id && c.released && c.rank == r.ptr o)
      if r.ptr o < r.ranks ∧ s.rankIsDone id (r.ptr o) ∧ !left then
        let r' := { r with ptrs := nset 0 r.ptrs o (r.ptr o + 1) }
        Device.advance fuel ((s.setRed id (some r')).wr Reg.TKL_RED_LOW_PTR id r'.lowPtr) o id
      else s

/-- Whether a contribution waits to be added (R274, R278): released, and of the rank that the pointer is at. -/
def Device.awaitsAdd (s : Device) (c : Contrib) : Bool :=
  c.released && (match s.red c.red with
    | some r => c.rank == r.ptr c.ord
    | none => false)

/-- The first contribution of a job that waits at an adder, in release order. -/
def Device.nextAdd (s : Device) (o j : Nat) : Option Contrib :=
  s.tkl.contribs.find? (fun c => c.ord == o && s.awaitsAdd c && (match s.red c.red with
    | some r => r.job == j
    | none => false))

/-- The jobs that wait at an adder, rising. -/
def Device.backlogged (s : Device) (o : Nat) : List Nat := (List.range 64).filter (fun j => (s.nextAdd o j).isSome)

/-- The turn passes to the next job that waits, which gains its quantum; a job that does not wait keeps none. -/
def Device.nextTurn (s : Device) (o : Nat) : Device :=
  let a := s.adder o
  let js := s.backlogged o
  let j := match js.find? (fun j => decide (a.turn < j)) with
    | some j => j
    | none => js.headD a.turn
  let left := a.left.filter (fun e => js.contains e.1)
  s.setAdder o { a with turn := j, left := nset 0 left j (nget 0 left j + 1024 * s.rdf Reg.TKL_JOB_WEIGHT j 4 0) }

/-- The contribution that an adder takes next (R278): deficit round robin over the jobs that wait, with a quantum of 1,024 elements
times TKL_JOB_WEIGHT; `fuel` bounds the turns. -/
def Device.pickAdd : Nat → Device → Nat → Option Contrib × Device
  | 0, s, _ => (none, s)
  | fuel + 1, s, o =>
    let a := s.adder o
    match s.nextAdd o a.turn with
    | some c =>
      if c.codes.length ≤ nget 0 a.left a.turn then
        (some c, s.setAdder o { a with left := nset 0 a.left a.turn (nget 0 a.left a.turn - c.codes.length) })
      else Device.pickAdd fuel (s.nextTurn o) o
    | none => if (s.backlogged o).isEmpty then (none, s.setAdder o { a with left := [], busy := 0 }) else Device.pickAdd fuel (s.nextTurn o) o

/-- One ns of an adder at work: its time counts, and so does that of the other jobs that wait (R278). -/
def Device.countAdd (s : Device) (o : Nat) : Device :=
  (((s.backlogged o).filter (· ≠ (s.adder o).turn)).foldl (fun a j => a.inc Reg.TKL_JOB_ADD_WAIT_NS j 1) s).inc Reg.TKL_AD_BUSY_NS o 1

/-- The adder of an ordinal goes on with a reduction. -/
def Device.advanceRed (s : Device) (o id : Nat) : Device :=
  match s.red id with
  | some r => (Device.advance (r.ranks + 1) s o id).showAdder o
  | none => s

/-- One ns of an adder (R273, R274, R278): 64 elements of the contribution it adds, then the next in turn. -/
def Device.tickAdder (s : Device) (o : Nat) : Device :=
  let a := s.adder o
  if 1 < a.busy then (s.setAdder o { a with busy := a.busy - 1 }).countAdd o
  else match Device.pickAdd 512 s o with
    | (some c, s) =>
      let s : Device := { s with tkl := { s.tkl with contribs := s.tkl.contribs.erase c } }
      let s := (s.addContrib c).setAdder o { s.adder o with busy := ceilDiv c.codes.length 64 }
      (s.countAdd o).advanceRed o c.red
    | (none, s) => s

/-- One ns of the adders: those at work, and those with a contribution to add. -/
def Device.tickAdders (s : Device) : Device :=
  if s.resetting then s
  else (((s.tkl.contribs.filter s.awaitsAdd).map (·.ord) ++ s.tkl.adders.map (·.1)).eraseDups).foldl (fun a o => a.tickAdder o) s

/-- The statistics of a contribution count for its reduction (R283): N and SAT summed, AMAX maximised. -/
def Device.countStat (s : Device) (c : Contrib) : Device :=
  match c.stat with
  | [m, n, sat, amax] =>
    let s := (s.inc (Reg.TKL_RED_N + 8 * m) c.red n).inc (Reg.TKL_RED_SAT + 4 * m) c.red sat
    let a := s.rd (Reg.TKL_RED_AMAX + 4 * m) c.red
    if flt (BitVec.ofNat 32 a) (BitVec.ofNat 32 amax) then s.wr (Reg.TKL_RED_AMAX + 4 * m) c.red amax else s
  | _ => s

/-- A contribution is released (R274): added at the pointer, or kept early; statistics count. -/
def Device.releaseContrib (s : Device) (c : Contrib) : Device :=
  if c.stat ≠ [] then
    ({ s with tkl := { s.tkl with contribs := s.tkl.contribs.erase c } } : Device).countStat c
  else
  let s : Device := { s with tkl := { s.tkl with
    contribs := s.tkl.contribs.erase c ++ [{ c with released := true, epoch := none }] } }
  let s := match s.red c.red with
    | some r => if r.ptr c.ord = c.rank then s else s.inc Reg.TKL_AD_EARLY c.ord 1
    | none => s
  s.advanceRed c.ord c.red

/-- A CLEAN releases the contributions of a producer's epoch and earlier ones at an adder (R169, R272). -/
def Device.releaseContribs (s : Device) (o producer epoch : Nat) : Device :=
  (s.tkl.contribs.filter (fun c => c.ord == o && !c.released && c.core == producer && (match c.epoch with
    | some e => epochGe epoch e
    | none => true))).foldl (fun a c => a.releaseContrib c) s

/-- Whether a contribution at an adder is an unreleased one of a producer's epoch or of a later one. -/
def Contrib.ofSquashed (c : Contrib) (o producer epoch : Nat) : Bool :=
  c.ord == o && !c.released && c.core == producer && (match c.epoch with
    | some e => epochGe e epoch
    | none => false)

/-- Whether an adder holds contributions that a SQUASH_FROM would discard. -/
def Device.holdsContribs (s : Device) (o producer epoch : Nat) : Bool := s.tkl.contribs.any (fun c => c.ofSquashed o producer epoch)

/-- A squash discards the contributions of a producer's epoch and later ones that are not released; the bytes are again
reserved for its run (R176, R277). -/
def Device.squashContribs (s : Device) (o producer epoch : Nat) : Device :=
  let gone := fun (c : Contrib) => c.ofSquashed o producer epoch
  let lost := s.tkl.contribs.filter gone
  let s : Device := { s with tkl := { s.tkl with contribs := s.tkl.contribs.filter (fun c => !gone c) } }
  (lost.foldl (fun a c => match a.red c.red with
    | some r => a.setRed c.red (some { r with resv := r.resv.map (fun v =>
        if v.1 = producer ∧ v.2.1 = o then (v.1, v.2.1, v.2.2 + c.codes.length) else v) })
    | none => a) s).showAdder o

/-! ## The end of a reduction -/

/-- The pages of a reduction are freed and its contributions dropped. -/
def Device.freeRed (s : Device) (id : Nat) (r : Red) : Device :=
  match s.shard r.shard with
  | none => s
  | some x =>
    let per := ceilDiv (4 * x.elems) pageBytes
    let s := r.sums.foldl (fun a p => a.unpinRun p.1 p.2 per r.job) s
    let s := r.bufs.foldl (fun a p => a.unpinRun p.1 p.2 (ceilDiv r.bufBytes pageBytes) r.job) s
    let s : Device := { s with tkl := { s.tkl with contribs := s.tkl.contribs.filter (fun c => c.red ≠ id) } }
    r.adders.foldl (fun a o => a.showAdder o) s

/-- A REDUCE_COMMIT completes once its reduction has ended, and the ID is free (R263, R276). -/
def Device.settleCommit (s : Device) (id : Nat) : Device :=
  match s.red id with
  | none => s
  | some r => match r.commit with
    | none => s
    | some n =>
      if r.phase ≠ 3 then s
      else
        let s := s.unhold n
        let s := if r.endStatus = St.rankTimeout then s.addWait n 5 0 else s.inc Reg.TKL_DEV_COMMITS 0 1
        let s := (s.setRed id none).wr Reg.TKL_RED_STATUS id 0
        s.finish n r.endStatus r.endResult

/-- STATUS of a reduction follows its phase (R287). -/
def Device.endRed (s : Device) (id : Nat) (r : Red) (status result : Nat) : Device :=
  let s := s.freeRed id r
  let s := s.wrf Reg.TKL_RED_STATUS id 1 0 3
  let s : Device := { s with tkl := { s.tkl with past := s.tkl.past ++ [(id, r.job, r.step)] } }
  s.setRed id (some { r with phase := 3, endStatus := status, endResult := result, sums := [], bufs := [], resv := [],
                             rankDone := [] })

/-- The body of a Tackle record (R288). -/
def tklBody (job red rank cause expert row src : Nat) : List Byte :=
  natLe 1 job ++ natLe 1 red ++ natLe 1 rank ++ natLe 1 cause ++ natLe 4 expert ++ natLe 4 row ++ natLe 4 src

/-- A reduction is abandoned (R276): nothing changes, its buffers are freed, and a record is logged. -/
def Device.abandonRed (s : Device) (id : Nat) (r : Red) : Device :=
  let s := s.record 0x0801 (tklBody r.job id r.lowPtr 0 0xFFFFFFFF 0xFFFFFFFF 0) (s.jobViewer (some r.job))
  s.endRed id r St.rankTimeout r.lowPtr

/-! ## The update of a row -/

/-- A draw of an update engine's generator (R129, R280). -/
def Device.engineDraw (s : Device) (key : Nat) : Nat × Device :=
  let d := lfsrDraw (BitVec.ofNat 32 (nget 1 s.tkl.lfsr key))
  (d.1, { s with tkl := { s.tkl with lfsr := nset 1 s.tkl.lfsr key d.2.toNat } })

/-- Values narrowed stochastically, one draw each, in ascending order (R280). -/
def Device.narrowAll (s : Device) (key fmt : Nat) (xs : List F32) : List Nat × Device :=
  xs.foldl (fun acc x => let d := acc.2.engineDraw key; (acc.1 ++ [(narrow fmt (some d.1) x).code], d.2)) ([], s)

/-- The parameters of a reduction (R260): the fp32 value at a byte of its block. -/
def Red.param (r : Red) (b : Nat) : F32 := BitVec.ofNat 32 (leNat ((r.params.drop b).take 4))

/-- The codes of a row at an address. -/
def Device.rowCodes (s : Device) (p : Nat × Nat) (fmt n : Nat) : List Nat :=
  let raw := s.readMem 5 p.1 p.2 (fmtBytes fmt n)
  (List.range n).map (fun k =>
    if fmtBits fmt = 4 then (raw.getD (k / 2) 0).toNat / 16 ^ (k % 2) % 16
    else leNat ((raw.drop (k * (fmtBits fmt / 8))).take (fmtBits fmt / 8)))

/-- The fp32 word at a place of a half-stack, and bytes put at one. -/
def Device.word32 (s : Device) (p : Nat × Nat) : F32 := BitVec.ofNat 32 (leNat (s.readMem 5 p.1 p.2 4))
def Device.putAt (s : Device) (p : Nat × Nat) (data : List Byte) : Device := s.writeMem 5 p.1 p.2 data []

/-- The largest magnitude of values. -/
def absMax (xs : List F32) : F32 := xs.foldl raiseAmax 0

/-- A scale measured from a row's largest magnitude (R280). -/
def rowScale (xs : List F32) : F32 := if absMax xs = 0 then 0x00800000 else fdiv (absMax xs) 0x43E00000

/-- The scale of a slot is left unchanged and the slot is logged (R145): the spec gives no record for it, so what tells its kind is
a free value (log entry 168). -/
def Device.logSlot (s : Device) (job id expert row : Nat) : Device :=
  let d := s.draw
  d.2.record (0x0800 + d.1 % 256) (tklBody job id 0 0 expert row 0) (s.jobViewer (some job))

/-- One row of an expert: its place in each slice, as half-stack and address. -/
structure RowAt where
  sum : Nat × Nat
  master : Nat × Nat
  m1 : Nat × Nat
  m1Scale : Nat × Nat
  v : Nat × Nat
  vScale : Nat × Nat
  codes : Nat × Nat
  rescale : Nat × Nat
  record : Nat × Nat
  deriving DecidableEq, Repr

/-- A place some bytes further on. -/
def past (p : Nat × Nat) (n : Nat) : Nat × Nat := (p.1, p.2 + n)

/-- Where row `i` of matrix `m` of expert `e` of a reduction stands (R256). -/
def Device.rowAt (s : Device) (x : Shard) (r : Red) (e m i : Nat) : RowAt :=
  let cols := (x.shape.getD m (0, 0)).2
  let el := x.elemsBefore m + i * cols
  let ri := x.rowsBefore m + i
  let sum := r.sums.getD (e - r.first) (0, 0)
  let mas := s.shardSlice x 0 e; let m1 := s.shardSlice x 1 e; let v := s.shardSlice x 2 e; let sv := s.shardSlice x 3 e
  let cb := fmtBytes x.sfmt x.elems
  ⟨(sum.1, sum.2 * pageBytes + 4 * el), past mas (2 * el), past m1 el, past m1 (x.elems + 4 * ri), past v el,
   past v (x.elems + 4 * ri), past sv (fmtBytes x.sfmt el), past sv (cb + 16 * ri), past sv (cb + 16 * x.rows + 8 * ri)⟩

/-- Whether a row meets a poison mark (R282). -/
def Device.rowPoisoned (s : Device) (x : Shard) (a : RowAt) (cols : Nat) : Bool :=
  [(a.sum, 4 * cols), (a.master, 2 * cols), (a.m1, cols), (a.m1Scale, 4), (a.v, cols), (a.vScale, 4),
   (a.codes, fmtBytes x.sfmt cols), (a.rescale, 16), (a.record, 8)].any (fun w => !(s.poisonIn 5 w.1.1 w.1.2 w.2).isEmpty)

/-- The new moments and weights of a row (R280): m, r and w for each element. -/
def rowMath (r : Red) (g w0 m0 r0 : F32) : F32 × F32 × F32 :=
  let one : F32 := 0x3F800000
  let b1 := r.param 4; let b2 := r.param 8
  let m := fadd (fmul b1 m0) (fmul (fsub one b1) g)
  let q := fsqrt (fadd (fmul (fmul b2 r0) r0) (fmul (fmul (fsub one b2) g) g))
  let u := fdiv (fdiv m (fsub one (fpow b1 r.step)))
    (fadd (fdiv q (fsqrt (fsub one (fpow b2 r.step)))) (r.param 12))
  (m, q, fsub w0 (fmul (r.param 0) (fadd u (fmul (r.param 16) w0))))

/-- The serving row, its rescale entry and its row record (R281). -/
def Device.serveRow (s : Device) (id : Nat) (x : Shard) (r : Red) (e m row : Nat) (a : RowAt) (ws : List F32) : Device :=
  let cols := ws.length
  let sw := s.word32 a.record
  let quiet := (s.byteAt 5 a.record.1 (a.record.2 + 4)).toNat
  let out := ws.map (fun w => narrow x.sfmt none (fdiv w sw))
  let sat := (out.filter (·.sat)).length
  let rs : Int := (out.map (fun c => signed 4 c.code)).foldl (· + ·) 0
  let zx := signed 8 (leNat ((r.params.drop (48 + m)).take 1))
  let s := s.putAt a.codes (packElems x.sfmt (out.map (·.code)))
  let corr : F32 := if x.sfmt = 4 then intF32 (zx * rs) else 0
  let bias := s.readMem 5 a.rescale.1 (a.rescale.2 + 4) 4
  let s := s.putAt a.rescale (natLe 4 (fmul sw (r.param (32 + 4 * m))).toNat ++ bias ++ natLe 4 corr.toNat ++ natLe 4 0)
  let amax := fdiv (absMax ws) sw
  let new := adapt sw quiet cols sat amax (fmtMax x.sfmt)
  let s := if adaptLogs cols amax then s.logSlot r.job id e row else s
  (s.putAt a.record (natLe 4 new.1.toNat ++ natLe 1 new.2 ++ natLe 3 0)).inc Reg.TKL_SHARD_SERVE_SAT r.shard sat

/-- An update engine rewrites one row (R280 to R282). -/
def Device.updateRow (s : Device) (id : Nat) (x : Shard) (r : Red) (e m i : Nat) : Device :=
  let a := s.rowAt x r e m i
  let cols := (x.shape.getD m (0, 0)).2
  let row := x.rowsBefore m + i
  if s.rowPoisoned x a cols then
    let s := (s.inc Reg.TKL_UE_POISON_ROWS a.master.1 1).record 0x0804 (tklBody r.job id 0 0 e row 0) (s.jobViewer (some r.job))
    match s.red id with
    | some r => s.setRed id (some { r with poisoned := true })
    | none => s
  else
    let gs := (List.range cols).map (fun k => fmul (s.word32 (past a.sum (4 * k))) (r.param 20))
    if gs.any (fun g => !finite? (f32Val g)) then
      (s.inc Reg.TKL_SHARD_NONFINITE_ROWS r.shard 1).record 0x0803 (tklBody r.job id 0 0 e row 0) (s.jobViewer (some r.job))
    else
      let dec := fun (fmt : Nat) (sc : F32) (c : Nat) => fmul (encodeVal (decodeFmt fmt c)) sc
      let w0 := (s.rowCodes a.master 5 cols).map (fun c => encodeVal (decodeFmt 5 c))
      let m0 := (s.rowCodes a.m1 0 cols).map (dec 0 (s.word32 a.m1Scale))
      let r0 := (s.rowCodes a.v 0 cols).map (dec 0 (s.word32 a.vScale))
      let out := (List.range cols).map (fun k => rowMath r (gs.getD k 0) (w0.getD k 0) (m0.getD k 0) (r0.getD k 0))
      let ms := out.map (·.1); let rs := out.map (·.2.1); let ws := out.map (·.2.2)
      let key := a.master.1 * 2 + a.master.2 / (12 * 2 ^ 30) % 2
      let sm := rowScale ms; let sr := rowScale rs
      let c1 := s.narrowAll key 5 ws
      let c2 := c1.2.narrowAll key 0 (ms.map (fun v => fdiv v sm))
      let c3 := c2.2.narrowAll key 0 (rs.map (fun v => fdiv v sr))
      let s := c3.2.putAt a.master (packElems 5 c1.1)
      let s := (s.putAt a.m1 (packElems 0 c2.1)).putAt a.m1Scale (natLe 4 sm.toNat)
      let s := (s.putAt a.v (packElems 0 c3.1)).putAt a.vScale (natLe 4 sr.toNat)
      (s.serveRow id x r e m row a ws).inc Reg.TKL_UE_PARAMS a.master.1 cols

/-- Every row of the range of a reduction is updated (R279). -/
def Device.updateAll (s : Device) (id : Nat) (x : Shard) (r : Red) : Device :=
  (rangeFrom r.first r.count).foldl (fun a e =>
    (List.range x.shape.length).foldl (fun a m =>
      (List.range (x.shape.getD m (0, 0)).1).foldl (fun a i => a.updateRow id x r e m i) a) a) s

/-- The gradient scales of a shard adapt at the start of the update phase (R145, R283); the statistics they are taken from are
then 0. -/
def Device.adaptGrads (s : Device) (id : Nat) (x : Shard) (r : Red) : Device :=
  (List.range x.shape.length).foldl (fun a m =>
    let n := a.rd (Reg.TKL_RED_N + 8 * m) id
    let amax := BitVec.ofNat 32 (a.rd (Reg.TKL_RED_AMAX + 4 * m) id)
    let new := adapt (BitVec.ofNat 32 (a.rd (Reg.TKL_SHARD_GSCALE + 4 * m) r.shard)) (nget 0 x.gquiet m)
      n (a.rd (Reg.TKL_RED_SAT + 4 * m) id) amax (fmtMax 1)
    let a := if adaptLogs n amax then a.logSlot r.job id 0xFFFFFFFF 0xFFFFFFFF else a
    let a := a.zero id [Reg.TKL_RED_N + 8 * m, Reg.TKL_RED_SAT + 4 * m, Reg.TKL_RED_AMAX + 4 * m]
    let a := a.wr (Reg.TKL_SHARD_GSCALE + 4 * m) r.shard new.1.toNat
    match a.shard r.shard with
    | some y => a.setShard r.shard (some { y with gquiet := nset 0 y.gquiet m new.2 })
    | none => a) s

/-! ## What an admission fixes -/

/-- The parameter block of a REDUCE_OPEN as a window buffer (R259, R260). -/
def paramBuf (ld : Nat) (slot : BitVec 512) : Buf := ⟨ld, none, fld slot 36 4 * 32⟩

/-- The parameter block as it stands, and whether it is poisoned. -/
def Device.readBlock (s : Device) (ld : Nat) (slot : BitVec 512) : List Byte × Bool :=
  (s.bufRead (paramBuf ld slot) 128, s.bufPoison (paramBuf ld slot) 128)

/-- Whether some rank of an accumulating reduction is not done yet (R263). -/
def Device.commitLate (s : Device) (id : Nat) : Bool :=
  match s.red id with
  | some r => r.phase == 1 && (List.range r.ranks).any (fun k => !s.rankIsDone id k)
  | none => false

/-- What the device takes down when it admits a command: the parameter block of a REDUCE_OPEN (R260), whether a REDUCE_COMMIT found a
rank not done (R263), and the snapshot of a SEARCH (R333). -/
def Device.noteAdmission (s : Device) (p : Pending) : Pending :=
  let op := fld p.slot 0 1
  if op = 0x26 then { p with block := some (s.readBlock p.ld p.slot) }
  else if op = 0x28 then { p with late := some (s.commitLate (fld p.slot 17 1)) }
  else if op = 0x34 then { p with snap := some (s.rd Reg.SRCH_H_SEQ (fld p.slot 16 1 % 64)) }
  else p

/-! ## What the commands wait for -/

/-- A command keeps the status it will end with until its writes are on the medium. -/
def Device.markCmd (s : Device) (n status result : Nat) : Device :=
  match s.cmd n with
  | some p => s.setCmd { p with status, result }
  | none => s

/-- A command whose data is on the medium ends with the status kept for it, or OK. -/
def Device.finishMarked (s : Device) (n result : Nat) : Device :=
  match s.cmd n with
  | some p => if p.status = 0 then s.finish n St.ok result else s.finish n p.status p.result
  | none => s

/-- Bytes go from DRAM to a namespace (R468): a 4 KiB unit that holds a poisoned word is not written; `bad` lists the
16-byte words that are poisoned. The first such unit is kept as the command's result. -/
def Device.nsWriteGood (s : Device) (nsid off : Nat) (data : List Byte) (bad : List Nat) (n : Nat) : Device :=
  if bad.isEmpty then s.nsWrite nsid off data (some n) 0
  else
    let units := (bad.map (fun w => w / 256)).eraseDups
    let s := s.markCmd n St.poisonConsumed (units.foldl min (units.headD 0))
    (List.range ((data.length + 4095) / 4096)).foldl (fun a u =>
      if units.contains u then a else a.nsWrite nsid (off + 4096 * u) ((data.drop (4096 * u)).take 4096) (some n) 0) s

/-- The earlier PASS 2 DISPATCHes that a RANK_DONE waits for have ended: the rank is done in every adder (R262). -/
def Device.settleRank (s : Device) (n : Nat) : Device :=
  match s.cmd n with
  | none => s
  | some p =>
    let j := fld p.slot 16 1; let id := fld p.slot 17 1; let rank := fld p.slot 18 1
    match s.red id with
    | none => s
    | some r =>
      if p.phase = .ended ∨ r.phase ≠ 1 ∨ !(s.earlierCmds n (fun q => fld q.slot 0 1 == 0x23 && fld q.slot 18 1 == 2
          && fld q.slot 16 1 == j && fld q.slot 46 1 == rank && fld q.slot 47 1 == r.step % 256)).isEmpty then s
      else if s.rankIsDone id rank then s.finish n St.invalidField 0
      else
        let s := s.setRed id (some { r with rankDone := r.rankDone.filter (fun d => d.1 ≠ n) })
        let s := s.orr (Reg.TKL_RED_DONE + 4 * (rank / 32)) id (2 ^ (rank % 32))
        (r.adders.foldl (fun a o => a.advanceRed o id) s).finish n St.ok 0

/-- A SHARD_CLOSE completes once no reduction and no CHECKPOINT of the shard is open (R258). -/
def Device.settleShard (s : Device) (sh : Nat) : Device :=
  match s.shard sh with
  | none => s
  | some x => match x.closer with
    | none => s
    | some n =>
      if !x.ckpts.isEmpty || s.tkl.reds.any (fun e => match e.2 with
          | some r => r.shard == sh && (r.phase == 1 || r.phase == 2)
          | none => false) then s
      else ((s.setShard sh none).wr Reg.TKL_SHARD_STATUS sh 0).finish n St.ok 0

/-- The offsets of the four blocks of a checkpoint, and its size (R285). -/
def Shard.blocks (x : Shard) : List Nat × Nat :=
  (List.range 4).foldl (fun acc k =>
    (acc.1 ++ [acc.2], acc.2 + ceilDiv (x.count * sliceBytesOf x.sfmt x.elems x.rows k) 4096 * 4096)) ([], 4096)

/-- The bytes of a checkpoint without padding after its last block. -/
def Shard.ckptBytes (x : Shard) : Nat :=
  x.blocks.1.getD 3 0 + x.count * sliceBytesOf x.sfmt x.elems x.rows 3

/-- The bytes of a block of a checkpoint, and its poisoned words. -/
def Device.ckptBlock (s : Device) (x : Shard) (k : Nat) : List Byte × List Nat :=
  let n := sliceBytesOf x.sfmt x.elems x.rows k
  let parts := (List.range x.count).map (fun e =>
    let a := s.shardSlice x k e
    (s.readMem 5 a.1 a.2 n, (s.poisonIn 5 a.1 a.2 n).map (fun w => e * n / 16 + w)))
  ((parts.map (·.1)).flatten, (parts.map (·.2)).flatten)

/-- The header of a checkpoint (R285). -/
def Device.ckptHeader (s : Device) (sh : Nat) (x : Shard) (body : List Byte) : List Byte :=
  let shape := (List.range 4).flatMap (fun m => let d := x.shape.getD m (0, 0); natLe 2 d.1 ++ natLe 2 d.2)
  let h := natLe 4 1 ++ natLe 4 (s.rd Reg.TKL_SHARD_LAST_STEP sh) ++ natLe 2 x.count ++ natLe 1 x.shape.length
    ++ natLe 1 x.sfmt ++ shape ++ (List.range 4).flatMap (fun m => natLe 4 (s.rd (Reg.TKL_SHARD_GSCALE + 4 * m) sh))
    ++ x.blocks.1.flatMap (natLe 8) ++ Config.sha512 body
  h ++ List.replicate (4096 - h.length) 0

/-- A CHECKPOINT goes on (R284, R285): it reads its shard once no reduction of it is in its update phase, and ends when
its bytes are on the medium. -/
def Device.settleCkpt (s : Device) (n : Nat) : Device :=
  match s.cmd n with
  | none => s
  | some p =>
    let sh := fld p.slot 17 1
    match s.shard sh with
    | none => s
    | some x =>
      if p.phase = .ended then s
      else if x.ckpts.contains n then
        if s.writesOpen n then s
        else
          let left := x.ckpts.erase n
          let s := (s.setShard sh (some { x with ckpts := left })).wrf Reg.TKL_SHARD_STATUS sh 7 7 (b2n (!left.isEmpty))
          (s.finishMarked n 0).settleShard sh
      else if s.tkl.reds.any (fun e => match e.2 with | some r => r.shard == sh && r.phase == 2 | none => false) then s
      else
        let s := s.unhold n
        let s := (s.setShard sh (some { x with ckpts := x.ckpts ++ [n] })).wrf Reg.TKL_SHARD_STATUS sh 7 7 1
        let blocks := (List.range 4).map (s.ckptBlock x)
        let nsid := fld p.slot 18 1; let off := fld p.slot 20 8
        let pad := fun (l : List Byte) => l ++ List.replicate (ceilDiv l.length 4096 * 4096 - l.length) 0
        let body := (blocks.map (·.1)).flatten
        let all := s.ckptHeader sh x body ++ (blocks.flatMap (fun b => pad b.1))
        let bad := (List.range 4).flatMap (fun k => (blocks.getD k ([], [])).2.map (fun w => x.blocks.1.getD k 0 / 16 + w))
        let s := s.nsWriteGood nsid off all bad n
        if bad.isEmpty then s else s.reportFault (512 + x.job) 3

end Sys2Proof.Machine
end

