-- ==== Sys2Proof/Machine/EmbOps.lean ====
section
/-! DEFINITION. Embedding tables (chapter 09): handles, shares and row caches, the lists of a GATHER or EMB_UPDATE, the
pooling of a bag, the new row of an update, and the row log. -/

namespace Sys2Proof.Machine

/-! ## Tables and handles -/

/-- DIM, ELEM_FMT, ROW_BYTES and ROW_COUNT of a table namespace (R289, R436). -/
def Ns.dim (x : Ns) : Nat := leNat (x.attr.take 2)
def Ns.elemFmt (x : Ns) : Nat := leNat ((x.attr.drop 2).take 1)
def Ns.rowBytes (x : Ns) : Nat := leNat ((x.attr.drop 4).take 2)
def Ns.rowCount (x : Ns) : Nat := leNat ((x.attr.drop 6).take 5)

/-- Whether rows carry a scale (R290), and the bytes of the elements and the scale. -/
def Ns.scaled (x : Ns) : Bool := x.elemFmt == 0 || x.elemFmt == 3
def Ns.rowUsed (x : Ns) : Nat := fmtBytes x.elemFmt x.dim + (if x.scaled then 4 else 0)

/-- An embedding handle. -/
def Device.embH (s : Device) (h : Nat) : Option EmbHandle := nget none s.emb.handles h

/-- The unit, as a position among the dies, that owns a row (R293). -/
def rowUnit (k r : Nat) : Nat := r * 0x9E3779B1 % 2 ^ 32 * k / 2 ^ 32

/-- The in-service ordinals of a job (R293, R319). -/
def Device.jobDies (s : Device) (j : Nat) : List Nat :=
  match s.job j with
  | some x => s.maskOrds x.dieMask
  | none => []

/-- EMB_DEV_STATUS and the unit registers follow the handles and commands (R312). -/
def Device.showEmb (s : Device) : Device :=
  let s := s.wr Reg.EMB_DEV_STATUS 0 (s.emb.handles.length + s.emb.cmds.length * 2 ^ 7)
  (List.range 40).foldl (fun a o =>
    a.wr Reg.EMB_GU_CACHE_ROWS o
      ((a.emb.handles.map (fun e => match e.2 with
        | some h => (nget [] h.caches o).length
        | none => 0)).foldl (· + ·) 0)) s

/-- The state with a handle replaced. -/
def Device.setEmbH (s : Device) (h : Nat) (x : Option EmbHandle) : Device :=
  ({ s with emb := { s.emb with handles := nset none s.emb.handles h x } }).showEmb

/-- A command under way. -/
def Device.embCmd (s : Device) (n : Nat) : Option EmbCmd := s.emb.cmds.find? (fun c => c.n = n)

/-- The state with a command under way replaced. -/
def Device.setEmbCmd (s : Device) (c : EmbCmd) : Device :=
  { s with emb := { s.emb with cmds := s.emb.cmds.map (fun d => if d.n = c.n then c else d) } }

/-! ## Lists -/

/-- The bag of an entry by its position (R297). -/
def bagOf (offs : List Nat) (i : Nat) : Nat := (offs.takeWhile (· ≤ i)).length - 1

/-- The distinct rows of a command, in the order of the list. -/
def EmbCmd.rowList (c : EmbCmd) : List Nat := (c.entries.map (·.1)).eraseDups

/-- The entries of a bag. -/
def EmbCmd.bag (c : EmbCmd) (b : Nat) : List (Nat × F32) :=
  (c.entries.drop (c.offs.getD b 0)).take (c.offs.getD (b + 1) 0 - c.offs.getD b 0)

/-- The rows of a bag, rising, each with its weight sum W (R300): exact, rounded once. -/
def bagPairs (entries : List (Nat × F32)) : List (Nat × F32) :=
  let rows := rising ((entries.map (·.1)).eraseDups)
  rows.map (fun r => (r, sumExact ((entries.filter (fun e => e.1 = r)).map (fun e => f32Val e.2))))

/-- The pairs of a command that a row forms (R298): one for each bag that names it, one in a PREFETCH. -/
def EmbCmd.rowPairs (c : EmbCmd) (r : Nat) : Nat :=
  if c.prefetch then 1 else ((List.range (c.offs.length - 1)).filter (fun b => (c.bag b).any (fun e => e.1 == r))).length

/-- The pairs of a command that a unit holds (R298). -/
def EmbCmd.unitPairs (c : EmbCmd) (u : Nat) : Nat :=
  if c.prefetch then (c.rowList.filter (fun r => rowUnit c.dies.length r = u)).length
  else ((List.range (c.offs.length - 1)).map (fun b =>
    ((bagPairs (c.bag b)).filter (fun p => rowUnit c.dies.length p.1 = u)).length)).foldl (· + ·) 0

/-- The pair tables in use (R312). -/
def Device.showPairs (s : Device) : Device :=
  (List.range 40).foldl (fun a o =>
    let n := (a.emb.cmds.map (fun c => match c.dies.idxOf? o with
      | some u => c.unitPairs u
      | none => 0)).foldl (· + ·) 0
    let out := (a.emb.cmds.map (fun c => match c.dies.idxOf? o with
      | some u => if c.phase = 1 then (c.rowList.filter (fun r =>
          rowUnit c.dies.length r == u && (nget none c.rows r).isNone)).length else 0
      | none => 0)).foldl (· + ·) 0
    ((a.wr Reg.EMB_GU_PAIRS o n).peak Reg.EMB_GU_PAIRS_PEAK o n).wr Reg.EMB_GU_READS_OUT o (min 4096 out)) s

/-- The duplicate counts of a command (R300). -/
def Device.countDups (s : Device) (c : EmbCmd) : Device :=
  c.rowList.foldl (fun a r =>
    let n := (c.entries.filter (fun e => e.1 = r)).length
    let a := a.peak Reg.EMB_H_DUP_MAX c.h (min n 16777216)
    if 16777216 < n then a.inc Reg.EMB_H_DUP_SAT c.h 1 else a) s

/-! ## Rows and caches -/

/-- The rows that a cache area holds (R294). -/
def cacheRoom (h : EmbHandle) (rb : Nat) : Nat := h.cacheMib * 2 ^ 20 / (rb + 16)

/-- A row in a handle's cache. -/
def EmbHandle.cached (h : EmbHandle) (o r : Nat) : Option CachedRow := (nget [] h.caches o).find? (fun c => c.row = r)

/-- The handle with one ordinal's cache replaced. -/
def EmbHandle.setCache (h : EmbHandle) (o : Nat) (l : List CachedRow) : EmbHandle := { h with caches := nset [] h.caches o l }

/-- A fresh row enters a cache, evicting the oldest row that no open command uses; when none can go, it is not cached, and
a PREFETCH counts it as dropped (R294, R310). -/
def Device.cacheRow (s : Device) (hid o : Nat) (rb : Nat) (row : CachedRow) : Device :=
  match s.embH hid with
  | none => s
  | some h =>
    let l := nget [] h.caches o
    if l.length < cacheRoom h rb then s.setEmbH hid (some (h.setCache o (l ++ [row])))
    else match (if cacheRoom h rb = 0 then none else l.find? (fun c => c.users.isEmpty)) with
      | some old =>
        let s := s.setEmbH hid (some (h.setCache o (l.erase old ++ [row])))
        if old.prefetched then s.inc Reg.EMB_H_PF_EVICT hid 1 else s
      | none => if row.prefetched then s.inc Reg.EMB_H_PF_DROP hid 1 else s

/-- Whether the code word of a row cannot be read or reconstructed. -/
def Device.rowLost (s : Device) (x : Ns) (r : Nat) : Bool :=
  let p := x.place (r * x.rowBytes / cwBytes)
  let o := s.bandOrd p.1
  (s.unitHere p.1 p.2).isNone && !s.ordUp o && s.groupLost o

/-- A distinct row reaches its unit (R294, R301): from the cache, or from flash, poisoned when the read failed. -/
def Device.fetchRow (s : Device) (c : EmbCmd) (x : Ns) (h : EmbHandle) (r : Nat) (bad : Bool) : Device :=
  let o := c.dies.getD (rowUnit c.dies.length r) 0
  match h.cached o r with
  | some y =>
    let l := (nget [] h.caches o).map (fun z => if z.row = r then
      { z with users := if z.users.contains c.n then z.users else z.users ++ [c.n], prefetched := z.prefetched && c.prefetch } else z)
    let s := s.setEmbH c.h (some (h.setCache o l))
    let s := if c.prefetch then s else (s.inc Reg.EMB_H_CACHE_HITS c.h 1).inc Reg.EMB_H_ROWS_READ c.h 1
    s.setEmbCmd { c with rows := nset none c.rows r (some (y.bytes, y.poison)) }
  | none =>
    let pz := bad || s.rowLost x r
    let data := s.nsRead h.nsid (r * x.rowBytes) x.rowBytes
    let s := (s.inc Reg.EMB_H_FLASH_READS c.h 1).inc Reg.EMB_H_ROWS_READ c.h 1
    let s := s.cacheRow c.h o x.rowBytes ⟨r, data, pz, [c.n], c.prefetch⟩
    s.setEmbCmd { c with rows := nset none c.rows r (some (data, pz)), fetched := c.fetched + 1 }

/-- The rows of a range of a namespace leave every cache (R310). -/
def Device.dropRows (s : Device) (nsid off n : Nat) : Device :=
  match s.ns nsid with
  | none => s
  | some x =>
    if x.kind ≠ 2 then s else
    let rb := max 1 x.rowBytes
    s.emb.handles.foldl (fun a e => match e.2 with
      | some h =>
        if h.nsid = nsid then a.setEmbH e.1 (some { h with
          caches := (h.caches.map (fun q => (q.1, q.2.filter (fun (z : CachedRow) =>
            !(decide (off < (z.row + 1) * rb) && decide (z.row * rb < off + n)))))).filter (fun q => !q.2.isEmpty) })
        else a
      | none => a) s

/-- A command no longer uses cached rows. -/
def Device.leaveRows (s : Device) (n : Nat) : Device :=
  s.emb.handles.foldl (fun a e => match e.2 with
    | some h => a.setEmbH e.1 (some { h with caches := h.caches.map (fun q =>
        (q.1, q.2.map (fun (z : CachedRow) => { z with users := z.users.erase n }))) })
    | none => a) s

/-- A GATHER or EMB_UPDATE is no longer under way: its rows are free, and it counts as completed when `done` (R311). -/
def Device.dropEmbCmd (s : Device) (n : Nat) (done : Bool) : Device :=
  match s.embCmd n with
  | none => s
  | some c =>
    let s : Device := { s with emb := { s.emb with cmds := s.emb.cmds.filter (fun d => d.n ≠ n) } }
    let s := if done then s.inc Reg.EMB_H_COMMANDS c.h 1 else s
    ((s.leaveRows n).showEmb).showPairs

/-! ## Pooling -/

/-- The value of element `k` of a row (R302): for E4M3 and INT8 the code times the row scale, rounded once. -/
def rowElem (x : Ns) (row : List Byte) (k : Nat) : F32 :=
  let w := max 1 (fmtBits x.elemFmt / 8)
  let v := encodeVal (decodeFmt x.elemFmt (leNat ((row.drop (k * w)).take w)))
  if x.scaled then fmul v (BitVec.ofNat 32 (leNat ((row.drop (x.dim * w)).take 4))) else v

/-- The rows of a bag that a unit has, and its partial sum for one element (R302). -/
def partialSum (x : Ns) (c : EmbCmd) (pairs : List (Nat × F32)) (k : Nat) : F32 :=
  pairs.foldl (fun acc p => match nget none c.rows p.1 with
    | some (row, _) => ffma p.2 (rowElem x row k) acc
    | none => acc) 0

/-- One element of the vector of a bag before conversion (R302). -/
def bagElem (x : Ns) (c : EmbCmd) (pairs : List (Nat × F32)) (len k : Nat) : F32 :=
  let units := (List.range c.dies.length).filter (fun u => pairs.any (fun p => rowUnit c.dies.length p.1 == u))
  let sum := units.foldl (fun acc u =>
    fadd acc (partialSum x c (pairs.filter (fun p => rowUnit c.dies.length p.1 = u)) k)) 0
  if c.mean ∧ len ≠ 0 then fdiv sum (intF32 len) else sum

/-- The vector of a bag is written to the answer window, unless a row of it carries poison (R302, R304, R310, R468). -/
def Device.writeBag (s : Device) (c : EmbCmd) (x : Ns) (ld b : Nat) : Device :=
  let pairs := bagPairs (c.bag b)
  let bad := pairs.any (fun p => match nget none c.rows p.1 with
    | some (_, pz) => pz
    | none => false)
  let s := pairs.foldl (fun a p => a.inc Reg.EMB_GU_FMA (c.dies.getD (rowUnit c.dies.length p.1) 0) x.dim) s
  if bad then s.setEmbCmd { c with bags := b :: c.bags, poisoned := true }
  else
    let len := c.offs.getD (b + 1) 0 - c.offs.getD b 0
    let codes := (List.range x.dim).map (fun k => (narrow c.fmt none (bagElem x c pairs len k)).code)
    (s.windowWrite ld (c.addr + b * fmtBytes c.fmt x.dim) (packElems c.fmt codes) []).setEmbCmd { c with bags := b :: c.bags }

/-! ## Updates -/

/-- The gradient of element `k` of a row (R307): over its bags in ascending order. -/
def rowGrad (c : EmbCmd) (grads : List (List F32)) (r k : Nat) : F32 :=
  (List.range (c.offs.length - 1)).foldl (fun acc b =>
    match (bagPairs (c.bag b)).find? (fun p => p.1 = r) with
    | some p =>
      let len := c.offs.getD (b + 1) 0 - c.offs.getD b 0
      let m : F32 := if c.mean then fdiv 0x3F800000 (intF32 len) else 0x3F800000
      fadd acc (fmul (fmul p.2 m) ((grads.getD b []).getD k 0))
    | none => acc) 0

/-- Free draws for a row's stochastic rounding. -/
def Device.draws (s : Device) (n : Nat) : List Nat × Device :=
  (List.range n).foldl (fun acc _ => let d := acc.2.draw; (acc.1 ++ [d.1 % 65536], d.2)) ([], s)

/-- The new row of an update (R307): elements, row scale, padding as it was, and the Adagrad accumulator. -/
def Device.newRow (s : Device) (c : EmbCmd) (x : Ns) (row : List Byte) (g : List F32) : List Byte × Device :=
  let a0 : F32 := BitVec.ofNat 32 (leNat (row.drop (x.rowBytes - 4)))
  let a1 := fadd a0 (fdiv (g.foldl (fun t v => fadd t (fmul v v)) 0) (intF32 x.dim))
  let ws := (List.range x.dim).map (fun k =>
    let xr := rowElem x row k
    let step := fmul c.lr (g.getD k 0)
    if c.opt = 0 then fsub xr step else fsub xr (fdiv step (fadd (fsqrt a1) c.eps)))
  let sc : F32 := if absMax ws = 0 then 0x00800000 else fdiv (absMax ws) (fmtMax x.elemFmt)
  let d := s.draws (if x.elemFmt = 7 then 0 else x.dim)
  let codes := (List.range x.dim).map (fun k =>
    let w := ws.getD k 0
    (narrow x.elemFmt (if x.elemFmt = 7 then none else some (d.1.getD k 0)) (if x.scaled then fdiv w sc else w)).code)
  let head := packElems x.elemFmt codes ++ (if x.scaled then natLe 4 sc.toNat else [])
  let body := head ++ row.drop head.length
  (if c.opt = 0 then body else body.take (x.rowBytes - 4) ++ natLe 4 a1.toNat, d.2)

/-- The gradients of the bags, and whether each is poisoned. -/
def Device.bagGrads (s : Device) (c : EmbCmd) (x : Ns) (ld : Nat) : List (List F32) × List Bool :=
  let n := fmtBytes c.fmt x.dim
  let w := max 1 (fmtBits c.fmt / 8)
  ((List.range (c.offs.length - 1)).map (fun b =>
      let raw := s.windowRead ld (c.addr + b * n) n
      (List.range x.dim).map (fun k => encodeVal (decodeFmt c.fmt (leNat ((raw.drop (k * w)).take w))))),
   (List.range (c.offs.length - 1)).map (fun b => s.windowPoison ld (c.addr + b * n) n))

/-! ## The row log and the side log -/

/-- Records go to a log of an ordinal (R386, R401, R402, R563): each encrypted after a 16-byte header that is not, in code words of KIND 2
or 3 in SLC, for a command or none (log entry 179). Each record is `(band, row or item, bytes)`. Answers the records with the WSN of the last code word
that holds them. -/
def Device.logRecords (s : Device) (o kind key : Nat) (n : Option Nat) (recs : List (Nat × Nat × List Byte)) : List LogRow × Device :=
  let w0 := s.rd Reg.FTL_WSN o
  let placed := recs.foldl (fun (acc : List LogRow × Nat) r =>
    let stop := acc.2 + 16 + r.2.2.length
    (acc.1 ++ [⟨r.1, r.2.1, w0 + (stop - 1) / cwBytes, r.2.2, false⟩], stop)) ([], 0)
  let enc := fun (r : LogRow) => match s.bandNs r.band with
    | some (_, x) => cipher x.key (logTweak (r.row * r.bytes.length)) r.bytes
    | none => r.bytes
  let bytes := placed.1.flatMap (fun r => natLe 4 r.band ++ natLe 4 r.row ++ natLe 8 r.wsn ++ enc r)
  let s := (List.range (ceilDiv bytes.length cwBytes)).foldl (fun a i =>
    let d := (bytes.drop (i * cwBytes)).take cwBytes
    a.bufferCw o 0x7FFFFFF 0 kind key (d ++ List.replicate (cwBytes - d.length) 0) n 0 none none true) s
  (placed.1, s)

/-- New rows join the row log of their bands' ordinals, each replacing an older row (R401). -/
def Device.appendRows (s : Device) (n : Nat) (x : Ns) (rows : List (Nat × List Byte)) : Device :=
  let recs := rows.map (fun r => ((x.place (r.1 * x.rowBytes / cwBytes)).1, r.1, r.2))
  ((recs.map (fun r => s.bandOrd r.1)).eraseDups).foldl (fun a o =>
    let q := a.logRecords o 2 x.key (some n) (recs.filter (fun r => a.bandOrd r.1 = o))
    let old := (nget [] q.2.ftl.rowLog o).filter (fun l => !q.1.any (fun y => y.band == l.band && y.row == l.row))
    { q.2 with ftl := { q.2.ftl with rowLog := nset [] q.2.ftl.rowLog o (old ++ q.1) } }) s

/-- The rows of a band that the row log holds. -/
def Device.loggedRows (s : Device) (band : Nat) : List LogRow :=
  s.ftl.rowLog.flatMap (fun e => e.2.filter (fun l => l.band = band))

/-- Whether the share of a die in the row-log index, one 56th of the 33,554,432 entries of R379, is three quarters full (R401). -/
def Device.rowIndexFull (s : Device) (o : Nat) : Bool := decide (3 * 33554432 ≤ 4 * (56 * (nget [] s.ftl.rowLog o).length))

/-- When a band's logged rows exceed a quarter of its rows, or its die's share of the index is three quarters full, the FTL rewrites
its extents with them applied; their MAP_SETs journalled, it trims the log (R401, `endTrims`). -/
def Device.mergeBand (s : Device) (nsid : Nat) (x : Ns) (band : Nat) : Device :=
  let l := s.loggedRows band
  if (4 * l.length * max 1 x.rowBytes ≤ 16 * unitBytes && !s.rowIndexFull (s.bandOrd band)) || s.ftl.trims.any (fun t => t.1 == band) then s
  else
    let us := (l.map (fun r => r.row * x.rowBytes / unitBytes)).eraseDups
    let s := us.foldl (fun a u =>
      a.nsWriteCws nsid (u * 64) 64 (fun i => a.nsRead nsid (i * cwBytes) cwBytes) none 0) s
    { s with ftl := { s.ftl with trims := s.ftl.trims ++ [(band, (l.map (·.wsn)).foldl max 0)] } }

/-- The apply phase of an EMB_UPDATE (R307, R308): new rows replace the cached ones and go to the row log; a poisoned row
keeps its old contents. -/
def Device.applyRows (s : Device) (c : EmbCmd) (x : Ns) (h : EmbHandle) : Device :=
  let grads := s.bagGrads c x h.ld
  let rowBad := fun (r : Nat) => (match nget none c.rows r with | some (_, pz) => pz | none => true)
    || (List.range (c.offs.length - 1)).any (fun b => grads.2.getD b false && (c.bag b).any (fun e => e.1 == r))
  let good := (rising c.rowList).filter (fun r => !rowBad r)
  let made : List (Nat × List Byte) × Device := good.foldl (fun (acc : List (Nat × List Byte) × Device) r =>
    let row := match nget none c.rows r with | some (b, _) => b | none => []
    let g := (List.range x.dim).map (rowGrad c grads.1 r)
    let q := acc.2.newRow c x row g
    (acc.1 ++ [(r, q.1)], q.2)) ([], s)
  let s := made.2
  let s := match s.embH c.h with
    | some h =>
      let renew := fun (z : CachedRow) => match made.1.find? (fun (m : Nat × List Byte) => m.1 = z.row) with
        | some m => { z with bytes := m.2 }
        | none => z
      s.setEmbH c.h (some { h with caches := h.caches.map (fun (e : Nat × List CachedRow) => (e.1, e.2.map renew)) })
    | none => s
  let s := s.appendRows c.n x made.1
  let s := s.inc Reg.EMB_H_ROWS_UPDATED c.h good.length
  let s := ((made.1.map (fun r => (x.place (r.1 * x.rowBytes / cwBytes)).1)).eraseDups).foldl (fun a b => a.mergeBand h.nsid x b) s
  let bad := decide (good.length < c.rowList.length)
  let s := s.setEmbCmd { c with phase := 3, poisoned := bad, fetched := good.length }
  if bad then s.markCmd c.n St.poisonConsumed good.length else s

/-- An EMB_UPDATE ends when every logged row is on the medium (R308). -/
def Device.settleEmb (s : Device) (n : Nat) : Device :=
  match s.embCmd n with
  | none => s
  | some c =>
    if c.phase ≠ 3 ∨ s.writesOpen n then s
    else
      let job := match s.embH c.h with | some h => h.job | none => 0
      let s := (s.dropEmbCmd n true).finishMarked n c.fetched
      if c.poisoned then s.reportFault (512 + job) 3 else s

/-- An EMB_CLOSE goes on once every GATHER and EMB_UPDATE of the handle admitted before it has ended (R295). -/
def Device.settleEmbClose (s : Device) (hid : Nat) : Device :=
  match s.embH hid with
  | none => s
  | some h => match h.closer with
    | none => s
    | some n =>
      if s.emb.cmds.any (fun c => c.h == hid) || !(s.earlierCmds n (fun q =>
          (fld q.slot 0 1 == 0x2C || fld q.slot 0 1 == 0x2D) && fld q.slot 17 1 == hid)).isEmpty then s
      else
        let s := h.areas.foldl (fun a p =>
          (a.unpinRun p.1 p.2 (ceilDiv h.gatherMib 2 + ceilDiv h.cacheMib 2) h.job)) s
        ((s.setEmbH hid none).wr Reg.EMB_H_STATUS hid 0).finish n St.ok 0

end Sys2Proof.Machine
end

