-- ==== Sys2Proof/Machine/SearchOps.lean ====
section
/-! DEFINITION. Vector search (chapter 10): index namespaces, distances, filter terms and bitmaps, handles, queries and
their answers, inserts and deletes, and the fold. -/

namespace Sys2Proof.Machine

/-! ## Index namespaces -/

/-- The attributes of an index namespace (R313, R436). -/
def Ns.vecFmt (x : Ns) : Nat := leNat ((x.attr.drop 2).take 1)
def Ns.distKind (x : Ns) : Nat := leNat ((x.attr.drop 3).take 1)
def Ns.codeM (x : Ns) : Nat := leNat ((x.attr.drop 4).take 1)
def Ns.degree (x : Ns) : Nat := leNat ((x.attr.drop 5).take 1)
def Ns.attrCols (x : Ns) : Nat := leNat ((x.attr.drop 6).take 1)
def Ns.capacity (x : Ns) : Nat := leNat ((x.attr.drop 8).take 5)
def Ns.sideMax (x : Ns) : Nat := leNat ((x.attr.drop 13).take 3)
def Ns.tombMax (x : Ns) : Nat := leNat ((x.attr.drop 16).take 4)

/-- The least power of two that is at least `n`. -/
def pow2Up (n : Nat) : Nat := if n ≤ 1 then 1 else 2 ^ ((n - 1).log2 + 1)

/-- VEC_BYTES and NODE_BYTES (R313). -/
def vecBytesOf (fmt dim cols : Nat) : Nat := pow2Up (fmtBytes fmt dim + 4 * cols)
def nodeBytesOf (degree : Nat) : Nat := pow2Up (8 + 5 * degree)
def Ns.vecBytes (x : Ns) : Nat := vecBytesOf x.vecFmt x.dim x.attrCols
def Ns.nodeBytes (x : Ns) : Nat := nodeBytesOf x.degree

/-- The sizes of the regions of an index, in order: HEADER, CODEBOOK, CODES, LIVE, COLUMNS, NODES, VECTORS (R314). -/
def indexRegions (dim codeM cols cap node vec : Nat) : List Nat :=
  [4096, 1024 * dim, cap * codeM, ceilDiv cap 8, cols * cap * 4, cap * node, cap * vec]

/-- Where a region begins, and the size of the whole (R314). -/
def regionStart (sizes : List Nat) (i : Nat) : Nat :=
  (sizes.take i).foldl (fun t n => ceilDiv (t + n) unitBytes * unitBytes) 0
def regionTotal (sizes : List Nat) : Nat := regionStart sizes 6 + sizes.getD 6 0

/-- The regions of an index namespace, and the start of one. -/
def Ns.regions (x : Ns) : List Nat := indexRegions x.dim x.codeM x.attrCols x.capacity x.nodeBytes x.vecBytes
def Ns.region (x : Ns) (i : Nat) : Nat := regionStart x.regions i

/-- The LIVE bit of a graph item (R314). -/
def Device.liveBit (s : Device) (nsid : Nat) (x : Ns) (id : Nat) : Bool :=
  bit ((s.nsRead nsid (x.region 3 + id / 8) 1).headD 0).toNat (id % 8)

/-! ## Distances -/

/-- The exact difference of two values. -/
def subV : FV → FV → FV
  | .nan, _ => .nan
  | _, .nan => .nan
  | .inf a, .inf b => if a = b then .nan else .inf a
  | .inf a, _ => .inf a
  | _, .inf b => .inf (!b)
  | .fin a m, .fin b k => let d := finInt a m - finInt b k; .fin (decide (d < 0)) d.natAbs

/-- The values of a vector's elements (R79). -/
def vecVals (fmt dim : Nat) (raw : List Byte) : List FV :=
  let w := max 1 (fmtBits fmt / 8)
  (List.range dim).map (fun k => decodeFmt fmt (leNat ((raw.drop (k * w)).take w)))

/-- The sum of products of two vectors, exact and rounded once (R316). -/
def dotExact (a b : List FV) : F32 := macSum (List.zipWith mulV a b) none

/-- The negation of an fp32 value. -/
def fneg (a : F32) : F32 := encodeVal (negV (f32Val a))

/-- The distance of a query and a stored vector (R316). -/
def distance (kind : Nat) (q x : List FV) : F32 :=
  if kind = 0 then macSum (List.zipWith (fun a b => let d := subV a b; mulV d d) q x) none
  else if kind = 1 then fneg (dotExact q x)
  else
    let xx := dotExact x x
    if flt 0 xx || isNaN xx then fsub 0x3F800000 (fdiv (dotExact q x) (fmul (fsqrt (dotExact q q)) (fsqrt xx)))
    else 0x3F800000

/-- The order of answers (R317): ascending distance, then ascending ID; NaN last. -/
def hitLe (a b : Hit) : Bool :=
  if isNaN a.dist then isNaN b.dist && decide (a.id ≤ b.id)
  else if isNaN b.dist then true
  else if flt a.dist b.dist then true
  else if flt b.dist a.dist then false
  else decide (a.id ≤ b.id)

/-- The `k` best of a list of candidates, each ID once. -/
def bestHits (k : Nat) (l : List Hit) : List Hit :=
  ((sortBy hitLe l).foldl (fun (acc : List Hit) h => if acc.any (fun y => y.id = h.id) then acc else acc ++ [h]) []).take k

/-! ## Filter terms -/

/-- Whether a value passes one term (R322). -/
def termPass (t : List Byte) (v : Nat) : Bool :=
  let op := leNat ((t.drop 1).take 1); let ty := leNat ((t.drop 2).take 1)
  let lo := leNat ((t.drop 4).take 4); let hi := leNat ((t.drop 8).take 4)
  let lt := fun (a b : Nat) =>
    if ty = 0 then decide (a < b) else if ty = 1 then decide (signed 32 a < signed 32 b)
    else flt (BitVec.ofNat 32 a) (BitVec.ofNat 32 b)
  let nan := fun (a : Nat) => ty == 2 && isNaN (BitVec.ofNat 32 a)
  let eq := fun (a b : Nat) =>
    if ty = 2 then !nan a && !nan b && !lt a b && !lt b a else a == b
  let le := fun (a b : Nat) => lt a b || eq a b
  if op = 1 then eq v lo
  else if op = 2 then !eq v lo
  else if op = 3 then lt v lo
  else if op = 4 then le v lo
  else if op = 5 then lt lo v
  else if op = 6 then le lo v
  else if op = 7 then le lo v && le v hi
  else !nan v && (v &&& lo) != 0

/-- The 16-byte terms of a SEARCH. -/
def termList (raw : List Byte) : List (List Byte) := (List.range (raw.length / 16)).map (fun i => (raw.drop (16 * i)).take 16)

/-- Whether a term is in range (R322). -/
def termOk (cols : Nat) (t : List Byte) : Bool :=
  let op := leNat ((t.drop 1).take 1)
  decide (leNat (t.take 1) < cols) && decide (1 ≤ op) && decide (op ≤ 8) && decide (leNat ((t.drop 2).take 1) ≤ 2)
    && leNat ((t.drop 3).take 1) == 0 && (op == 7 || leNat ((t.drop 8).take 4) == 0) && leNat (t.drop 12) == 0

/-- Whether an item whose column values are `val` passes every term (R322). -/
def passesAll (terms : List Byte) (val : Nat → Nat) : Bool :=
  (termList terms).all (fun t => termPass t (val (leNat (t.take 1))))

/-! ## Handles -/

/-- A search handle. -/
def Device.srchH (s : Device) (h : Nat) : Option SrchHandle := nget none s.srch.handles h

/-- Tombstones in use by a handle: of graph items and of side entries (R333). -/
def SrchHandle.tombCount (h : SrchHandle) : Nat := h.tombs.length + (h.side.filter (fun e => e.del.isSome)).length

/-- The registers that show a handle (R337, R338). -/
def Device.showSrch (s : Device) (hid : Nat) : Device :=
  let s := s.wr Reg.SRCH_DEV_STATUS 0 (s.srch.handles.length + s.srch.cmds.length * 2 ^ 7)
  match s.srchH hid with
  | none => s.wr Reg.SRCH_H_STATUS hid 0
  | some h =>
    let s := s.wr Reg.SRCH_H_STATUS hid (1 + h.job * 2 + h.nsid * 2 ^ 7 + h.ld * 2 ^ 15 + b2n h.folding.isSome * 2 ^ 19
      + h.bitmaps.length * 2 ^ 20 + h.dies.length * 2 ^ 24)
    (s.wr Reg.SRCH_H_SIDE_ITEMS hid h.side.length).wr Reg.SRCH_H_TOMBS hid h.tombCount

/-- The state with a handle replaced. -/
def Device.setSrchH (s : Device) (hid : Nat) (x : Option SrchHandle) : Device :=
  ({ s with srch := { s.srch with handles := nset none s.srch.handles hid x } }).showSrch hid

/-- At the admission of a command the dies of the handle are counted again; cached bitmaps go when their number has changed
(R319). -/
def Device.recount (s : Device) (hid : Nat) : Device :=
  match s.srchH hid with
  | none => s
  | some h =>
    let dies := s.jobDies h.job
    let used := fun (b : Nat × Option Bitmap) => match b.2 with
      | some m => !m.users.isEmpty
      | none => false
    let bitmaps := if dies.length = h.dies.length then h.bitmaps else h.bitmaps.filter used
    s.setSrchH hid (some { h with dies, bitmaps })

/-- Whether a graph item is visible to a snapshot (R334). -/
def Device.graphVisible (s : Device) (h : SrchHandle) (x : Ns) (id snap : Nat) : Bool :=
  s.liveBit h.nsid x id && (match h.tombs.find? (fun t => t.1 = id) with
    | some t => decide (snap < t.2)
    | none => true)

/-- Whether a side entry is visible to a snapshot (R334). -/
def SideEntry.visible (e : SideEntry) (snap : Nat) : Bool :=
  decide (e.seq ≤ snap) && (match e.del with | some d => decide (snap < d) | none => true)

/-- A value of an attribute column in a vector record (R314). -/
def recordAttr (x : Ns) (vec : List Byte) (c : Nat) : Nat := leNat ((vec.drop (fmtBytes x.vecFmt x.dim + 4 * c)).take 4)

/-! ## Queries -/

/-- A query, and the state with one replaced. -/
def Device.query (s : Device) (id : Nat) : Option Query := s.srch.queries.find? (fun q => q.id = id)
def Device.setQuery (s : Device) (q : Query) : Device :=
  { s with srch := { s.srch with queries := s.srch.queries.map (fun p => if p.id = q.id then q else p) } }

/-- A SEARCH under way. -/
def Device.searchCmd (s : Device) (n : Nat) : Option SearchCmd := s.srch.cmds.find? (fun c => c.n = n)

/-- The task of a query joins the queue of its job (R327). -/
def Device.queueQuery (s : Device) (q : Query) (job : Nat) : Device :=
  let s := s.setQuery { q with graph := 1 }
  { s with work := { s.work with queue := s.work.queue ++ [⟨job, none, 1, q.id, s.now, none⟩] } }

/-- The bitmap slot that a build may take (R325): the lowest free, else the evictable one whose last use is oldest. -/
def SrchHandle.buildSlot (h : SrchHandle) : Option Nat :=
  match (List.range h.slots).find? (fun k => (nget none h.bitmaps k).isNone) with
  | some k => some k
  | none =>
    ((h.bitmaps.filterMap (fun b => match b.2 with
      | some m => if m.users.isEmpty ∧ !m.building then some (b.1, m.lastUse) else none
      | none => none)).foldl (fun (best : Option (Nat × Nat)) y => match best with
        | none => some y
        | some b => if y.2 < b.2 then some y else some b) none).map (·.1)

/-- A bitmap with a query's terms and the present generation (R325). -/
def Device.bitmapFor (s : Device) (hid : Nat) (h : SrchHandle) (terms : List Byte) : Option (Nat × Bitmap) :=
  h.bitmaps.findSome? (fun b => match b.2 with
    | some m => if m.terms = terms ∧ m.gen = s.rd Reg.SRCH_H_GEN hid then some (b.1, m) else none
    | none => none)

/-- A build starts in a slot for a query (R326). -/
def Device.startBuild (s : Device) (hid : Nat) (h : SrchHandle) (k : Nat) (terms : List Byte) (q : Query) : Device :=
  let m : Bitmap := ⟨terms, s.rd Reg.SRCH_H_GEN hid, true, s.now, s.now, [q.id], []⟩
  (s.setSrchH hid (some { h with bitmaps := nset none h.bitmaps k (some m) })).setQuery
    { q with mode := 2, slot := some k, graph := 0 }

/-- A query takes its filter mode (R325): `fm` is FILTER_MODE, `cheap` whether the estimated build is within the budget. -/
def Device.filterQuery (s : Device) (hid : Nat) (q : Query) (terms : List Byte) (fm : Nat) (cheap : Bool) : Device :=
  match s.srchH hid with
  | none => s
  | some h =>
    if fm = 0 then s.queueQuery { q with mode := 0 } h.job
    else if fm = 3 then (s.inc Reg.SRCH_H_POSTFILTER hid 1).queueQuery { q with mode := 3 } h.job
    else match s.bitmapFor hid h terms with
      | some (k, m) =>
        let s := s.inc Reg.SRCH_H_BM_HITS hid 1
        let s := s.setSrchH hid (some { h with bitmaps := nset none h.bitmaps k (some { m with
          users := m.users ++ [q.id], lastUse := s.now }) })
        let q := { q with mode := 1, slot := some k }
        if m.building then s.setQuery { q with graph := 0 } else s.queueQuery q h.job
      | none => match h.buildSlot with
        | some k => if fm = 2 ∨ cheap then s.startBuild hid h k terms q
          else (s.inc Reg.SRCH_H_POSTFILTER hid 1).queueQuery { q with mode := 3 } h.job
        | none => if fm = 2 then s.setQuery { q with mode := 2, slot := none, graph := 0 }
          else (s.inc Reg.SRCH_H_POSTFILTER hid 1).queueQuery { q with mode := 3 } h.job

/-- The open side batch of a handle is released (R330): one side-scan task for each of its dies. -/
def Device.releaseSide (s : Device) (hid : Nat) : Device :=
  match s.srchH hid with
  | none => s
  | some h =>
    if h.batch.isEmpty then s
    else
      let b : SideBatch := ⟨s.srch.nextBatch, hid, h.batch, h.dies⟩
      let s := h.batch.foldl (fun a i => match a.query i with
        | some q => a.setQuery { q with side := 2 }
        | none => a) s
      let s := s.setSrchH hid (some { h with batch := [] })
      { s with
        srch := { s.srch with sideBatches := s.srch.sideBatches ++ [b], nextBatch := s.srch.nextBatch + 1 },
        work := { s.work with queue := s.work.queue ++ h.dies.map (fun o => ⟨h.job, some o, 2, b.id, s.now, none⟩) } }

/-- A query is placed in the open side batch (R330). -/
def Device.placeSide (s : Device) (hid : Nat) (q : Query) : Device :=
  match s.srchH hid with
  | none => s
  | some h =>
    let s := s.setQuery { q with side := 1 }
    let s := s.setSrchH hid (some { h with batch := h.batch ++ [q.id], batchFrom := if h.batch.isEmpty then s.now else h.batchFrom })
    if h.batch.length + 1 = 64 then s.releaseSide hid else s

/-- The side results of a query (R316, R330, R334, R335): the K best entries of the side list that it sees and that pass. -/
def Device.sideScan (s : Device) (c : SearchCmd) (h : SrchHandle) (x : Ns) (q : Query) : List Hit × Nat :=
  let qv := vecVals x.vecFmt x.dim (s.windowRead c.ld (c.query + q.idx * c.stride) (fmtBytes x.vecFmt x.dim))
  let seen := (q.old.getD h.side).filter (fun e => e.visible q.snap)
  let hits := (seen.filter (fun e => passesAll c.terms (recordAttr x e.vec))).map (fun e =>
    (⟨e.id, distance x.distKind qv (vecVals x.vecFmt x.dim e.vec), true⟩ : Hit))
  (bestHits c.k hits, seen.length)

/-- The bytes of an answer (R324, R331). -/
def answerBytes (k : Nat) (q : Query) : List Byte × Nat :=
  let best := bestHits k (q.hits ++ q.sideHits)
  let entry := fun (h : Hit) => natLe 5 h.id ++ natLe 1 (b2n h.side) ++ natLe 2 0 ++ natLe 4 h.dist.toNat ++ natLe 4 0
  let empty : List Byte := natLe 5 0xFFFFFFFFFF ++ natLe 3 0 ++ natLe 4 0x7FC00000 ++ natLe 4 0
  (natLe 4 best.length ++ natLe 4 q.survivors ++ natLe 6 q.snap ++ natLe 1 q.mode ++ natLe 1 0 ++ natLe 4 q.nodes
    ++ natLe 4 q.sideSeen ++ natLe 8 0 ++ best.flatMap entry ++ (List.replicate (k - best.length) empty).flatten, best.length)

/-- A query leaves its bitmap (R325). -/
def Device.leaveBitmap (s : Device) (q : Query) : Device :=
  match s.srchH q.h, q.slot with
  | some h, some k => match nget none h.bitmaps k with
    | some m => s.setSrchH q.h (some { h with bitmaps := nset none h.bitmaps k (some { m with
        users := m.users.erase q.id, lastUse := s.now }) })
    | none => s
  | _, _ => s

/-- Queries of mode 2 that wait for a slot take one that has become free (R325). -/
def Device.retryBuilds (s : Device) (hid : Nat) : Device :=
  s.srch.queries.foldl (fun a q0 => match a.query q0.id, a.srchH hid with
    | some q, some h =>
      if q.h = hid ∧ q.mode = 2 ∧ q.slot.isNone ∧ q.graph = 0 then
        match a.searchCmd q.n with
        | some c => match a.bitmapFor hid h c.terms with
          | some _ => a.filterQuery hid q c.terms 2 true
          | none => match h.buildSlot with
            | some k => a.startBuild hid h k c.terms q
            | none => a
        | none => a
      else a
    | _, _ => a) s

/-- A SEARCH ends once every query is answered (R323); one that met a poisoned query vector is a job fault (R468). -/
def Device.settleSearch (s : Device) (n : Nat) : Device :=
  match s.searchCmd n with
  | none => s
  | some c =>
    if c.left ≠ 0 then s
    else
      let s : Device := { s with srch := { s.srch with cmds := s.srch.cmds.filter (fun d => d.n ≠ n) } }
      let s := s.showSrch c.h
      match s.cmd n with
      | none => s
      | some p =>
        if p.status ≠ 0 then
          (s.finishMarked n 0).reportFault (512 + (match s.srchH c.h with | some h => h.job | none => 0)) 3
        else if c.short = 0 then s.finish n St.ok 0 else s.finish n St.searchShort c.short

/-- A query whose graph task and side scan have ended is answered (R324, R328, R331, R337); the answer of a poisoned query
vector is not written (R468). -/
def Device.answerIfDone (s : Device) (id : Nat) : Device :=
  match s.query id with
  | none => s
  | some q =>
    if q.graph ≠ 3 ∨ (q.side ≠ 0 ∧ q.side ≠ 3) then s
    else match s.searchCmd q.n with
      | none => s
      | some c =>
        let out := answerBytes c.k q
        let s := if s.windowPoison c.ld (c.query + q.idx * c.stride) c.stride then s.markCmd q.n St.poisonConsumed 0
          else s.windowWrite c.ld (c.answer + q.idx * (32 + 16 * c.k)) out.1 []
        let s := match q.sideFrom with
          | some t => if t < s.now then s.addWait q.n 6 (s.now - t) else s
          | none => s
        let s := s.inc Reg.SRCH_H_QUERIES q.h 1
        let short := decide (out.2 < c.k)
        let s := if short then s.inc Reg.SRCH_H_SHORT q.h 1 else s
        let s := s.leaveBitmap q
        let s : Device := { s with srch := { s.srch with
          queries := s.srch.queries.filter (fun p => p.id ≠ id),
          cmds := s.srch.cmds.map (fun d => if d.n = c.n then { d with left := d.left - 1, short := d.short + b2n short } else d) } }
        (s.retryBuilds q.h).settleSearch q.n

/-- The graph task of a query has ended (R329): its kernel's candidates are kept for the merge. -/
def Device.queryEnd (s : Device) (id : Nat) (r : KernelResult) : Device :=
  match s.query id with
  | none => s
  | some q =>
    let s := s.inc Reg.SRCH_H_PF_WASTED q.h r.wasted
    let waits := q.side ≠ 0 ∧ q.side ≠ 3
    (s.setQuery { q with graph := 3, hits := r.hits.map (fun h => { h with side := false }),
                         sideFrom := if waits then some s.now else none }).answerIfDone id

/-- The side scan of a batch has ended on a die (R330): when it was the last, each query has its side results. -/
def Device.sideEnd (s : Device) (bid o : Nat) : Device :=
  match s.srch.sideBatches.find? (fun b => b.id = bid) with
  | none => s
  | some b =>
    let left := b.dies.erase o
    if left.isEmpty then
      let s : Device := { s with srch := { s.srch with sideBatches := s.srch.sideBatches.filter (fun d => d.id ≠ bid) } }
      b.queries.foldl (fun a i => match a.query i, a.srchH b.h with
        | some q, some h => match a.searchCmd q.n, a.ns h.nsid with
          | some c, some x =>
            let r := a.sideScan c h x q
            (a.setQuery { q with side := 3, sideHits := r.1, sideSeen := r.2 }).answerIfDone i
          | _, _ => a
        | _, _ => a) s
    else { s with srch := { s.srch with sideBatches := s.srch.sideBatches.map (fun d =>
      if d.id = bid then { d with dies := left } else d) } }

/-! ## Bitmaps -/

/-- The bytes of a bitmap (R326): one bit per graph item that is live and passes every term. -/
def Device.bitmapBits (s : Device) (nsid : Nat) (x : Ns) (terms : List Byte) : List Byte :=
  let pass := fun (i : Nat) => decide (i < x.capacity) && s.liveBit nsid x i &&
    passesAll terms (fun c => leNat (s.nsRead nsid (x.region 4 + (c * x.capacity + i) * 4) 4))
  (List.range (ceilDiv x.capacity 8)).map (fun b =>
    BitVec.ofNat 8 ((List.range 8).foldl (fun v j => v + b2n (pass (8 * b + j)) * 2 ^ j) 0))

/-- A build is complete: the slot holds its bits, and the queries that wait for it go on (R326, R337, R338). -/
def Device.bitmapDone (s : Device) (hid k : Nat) : Device :=
  match s.srchH hid with
  | none => s
  | some h => match nget none h.bitmaps k, s.ns h.nsid with
    | some m, some x =>
      if !m.building then s
      else
        let s := s.setSrchH hid (some { h with bitmaps := nset none h.bitmaps k (some { m with
          building := false, lastUse := s.now, bits := s.bitmapBits h.nsid x m.terms }) })
        let s := (s.inc Reg.SRCH_H_BM_BUILDS hid 1).inc Reg.SRCH_H_BM_BUILD_NS hid (s.now - m.since)
        let s := s.inc Reg.SRCH_DEV_BM_BYTES 0 (ceilDiv x.capacity 8)
        m.users.foldl (fun a i => match a.query i with
          | some q => if q.graph = 0 then a.queueQuery q h.job else a
          | none => a) s
    | _, _ => s

/-! ## Inserts and deletes -/

/-- A VEC_INSERT or VEC_DELETE ends when its records are on the medium (R333): they take consecutive sequence numbers. -/
def Device.settleVec (s : Device) (n : Nat) : Device :=
  match s.cmd n with
  | none => s
  | some p =>
    let hid := fld p.slot 16 1
    match s.srchH hid with
    | none => s
    | some h =>
      if !h.mutating.contains n || h.folding.isSome || s.writesOpen n then s
      else
        let q0 := s.rd Reg.SRCH_H_SEQ hid
        let cnt := h.fresh.length + h.gone.length
        let added := (List.range h.fresh.length).map (fun i =>
          (⟨(h.fresh.getD i (0, [])).1, q0 + 1 + i, (h.fresh.getD i (0, [])).2, none⟩ : SideEntry))
        let h' := (List.range h.gone.length).foldl (fun (a : SrchHandle) i =>
          let id := h.gone.getD i 0
          let d := q0 + 1 + i
          if a.side.any (fun e => e.id = id ∧ e.visible q0) then
            { a with side := a.side.map (fun e => if e.id = id ∧ e.visible q0 then { e with del := some d } else e) }
          else { a with tombs := a.tombs ++ [(id, d)] }) { h with side := h.side ++ added, fresh := [], gone := [], mutating := h.mutating.erase n }
        let s := (s.wr Reg.SRCH_H_SEQ hid (q0 + cnt)).setSrchH hid (some h')
        s.finishMarked n cnt

/-- Patches of a namespace, as offset and bytes, are written as whole extents in one transaction (R335, R391). -/
def Device.nsWritePatches (s : Device) (nsid : Nat) (patches : List (Nat × List Byte)) (n txn : Nat) : Device :=
  let us := (patches.flatMap (fun p => rangeFrom (p.1 / unitBytes) ((p.1 + p.2.length - 1) / unitBytes + 1 - p.1 / unitBytes))).eraseDups
  (rising us).foldl (fun a u =>
    let base := u * unitBytes
    let old := s.nsRead nsid base unitBytes
    let new := patches.foldl (fun (d : List Byte) p =>
      (List.range p.2.length).foldl (fun d i =>
        if base ≤ p.1 + i ∧ p.1 + i < base + unitBytes then d.set (p.1 + i - base) (p.2.getD i 0) else d) d) old
    a.nsWriteCws nsid (u * 64) 64 (fun i => (new.drop ((i - u * 64) * cwBytes)).take cwBytes) (some n) txn) s

/-- The node record of an item with its neighbours (R315). -/
def nodeRecord (bytes : Nat) (nbrs : List Nat) : List Byte :=
  let l := natLe 8 nbrs.length ++ nbrs.flatMap (natLe 5)
  l ++ List.replicate (bytes - l.length) 0

/-- The ordinals that hold patches of a namespace. -/
def Device.patchOrds (s : Device) (x : Ns) (patches : List (Nat × List Byte)) : List Nat :=
  rising ((patches.flatMap (fun p => (rangeFrom (p.1 / unitBytes) ((p.1 + p.2.length - 1) / unitBytes + 1 - p.1 / unitBytes)).map
    (fun u => s.bandOrd (x.place (u * 64)).1))).eraseDups)

/-- What the apply phase of a fold writes (R335): for each folded entry its code, columns, vector, node record and LIVE
bit; the new neighbour lists of other items; and the LIVE bits of deleted graph items cleared. -/
def Device.foldPatches (s : Device) (h : SrchHandle) (x : Ns) (f : Nat) (recs : List FoldRecord) : List (Nat × List Byte) :=
  let folded : List SideEntry := h.side.filter (fun e => e.visible f)
  let dead := (h.tombs.filter (fun t => t.2 ≤ f)).map (·.1)
  let liveBytes := ((folded.map (fun (e : SideEntry) => e.id / 8)) ++ dead.map (· / 8)).eraseDups
  let live := liveBytes.map (fun b =>
    (x.region 3 + b, [BitVec.ofNat 8 ((List.range 8).foldl (fun v j =>
      let id := 8 * b + j
      v + b2n (folded.any (fun e => e.id = id) || (s.liveBit h.nsid x id && !dead.contains id)) * 2 ^ j) 0)]))
  folded.flatMap (fun e =>
    [(x.region 6 + e.id * x.vecBytes, e.vec)] ++ (List.range x.attrCols).map (fun c =>
      (x.region 4 + (c * x.capacity + e.id) * 4, natLe 4 (recordAttr x e.vec c))))
  ++ (recs.filter (fun r => decide (r.id < x.capacity))).flatMap (fun r =>
    (if r.code.length = x.codeM then [(x.region 2 + r.id * x.codeM, r.code)] else [])
      ++ [(x.region 5 + r.id * x.nodeBytes, nodeRecord x.nodeBytes (r.nbrs.take x.degree))])
  ++ live

/-- The apply phase of a fold starts (R335, R391, R402): its writes, and the LOG_TRIM of the side log, go out as one transaction over the
ordinals they touch. -/
def Device.foldApply (s : Device) (hid : Nat) (h : SrchHandle) (x : Ns) (n : Nat) (recs : List FoldRecord) : Device :=
  let patches := s.foldPatches h x h.foldSeq recs
  let id := n % 2 ^ 48 + 1
  let log := s.bandOrd x.bandBase
  let parts := rising ((log :: s.patchOrds x patches).eraseDups)
  let s := s.nsWritePatches h.nsid patches n id
  let s := s.journal log 13 none (natLe 4 x.bandBase ++ natLe 8 (s.rd Reg.FTL_WSN log) ++ natLe 1 1) id (some n)
  let s := s.setSrchH hid (some { h with applying := true, foldReady := false, foldTxn := id,
                                         folded := (h.side.filter (fun e => e.visible h.foldSeq)).length })
  { s with ftl := { s.ftl with txns := s.ftl.txns ++ [⟨id, parts, [], false, n⟩] } }

/-- An INDEX_FOLD goes on (R335): it begins once every query admitted before it has ended, and ends when its
transaction has been applied. -/
def Device.settleFold (s : Device) (n : Nat) : Device :=
  match s.cmd n with
  | none => s
  | some p =>
    let hid := fld p.slot 16 1
    match s.srchH hid with
    | none => s
    | some h =>
      if p.phase = .ended ∨ !h.mutating.contains n then s
      else if h.folding.isNone then
        if !(s.earlierCmds n (fun q => fld q.slot 0 1 == 0x34 && fld q.slot 16 1 == hid)).isEmpty then s
        else
          let s := s.setSrchH hid (some { h with folding := some n, foldSeq := s.rd Reg.SRCH_H_SEQ hid })
          { s with work := { s.work with queue := s.work.queue ++ [⟨h.job, none, 3, hid, s.now, none⟩] } }
      else if h.applying && !s.ftl.txns.any (fun t => t.id == h.foldTxn) && !s.writesOpen n then
        let f := h.foldSeq
        let s : Device := { s with srch := { s.srch with queries := s.srch.queries.map (fun q =>
          if q.h = hid ∧ q.old.isNone then { q with old := some h.side } else q) } }
        let s := s.inc Reg.SRCH_H_GEN hid 1
        let s := s.setSrchH hid (some { h with
          side := h.side.filter (fun (e : SideEntry) => !(decide (e.seq ≤ f) && (e.visible f || (match e.del with
            | some d => decide (d ≤ f)
            | none => false)))),
          tombs := h.tombs.filter (fun t => f < t.2), folding := none, applying := false, folded := 0,
          mutating := h.mutating.erase n })
        let band := match s.ns h.nsid with | some x => x.bandBase | none => 0
        let s : Device := { s with ftl := { s.ftl with sideLog := s.ftl.sideLog.map (fun e =>
          (e.1, e.2.filter (fun (r : LogRow) => r.band ≠ band))) |>.filter (fun e => !e.2.isEmpty) } }
        s.finish n St.ok h.folded
      else s

/-- The cores have finished stages 2 and 3 of a fold. -/
def Device.foldEnd (s : Device) (hid : Nat) : Device :=
  match s.srchH hid with
  | some h => s.setSrchH hid (some { h with foldReady := h.folding.isSome })
  | none => s

/-- A SRCH_CLOSE goes on once every command of the handle admitted before it has ended (R320). -/
def Device.settleSrchClose (s : Device) (hid : Nat) : Device :=
  match s.srchH hid with
  | none => s
  | some h => match h.closer with
    | none => s
    | some n =>
      if !(s.earlierCmds n (fun q => decide (0x34 ≤ fld q.slot 0 1) && decide (fld q.slot 0 1 ≤ 0x37)
          && fld q.slot 16 1 == hid)).isEmpty then s
      else
        let s := h.areas.foldl (fun a p => a.unpinRun p.1 p.2.1 p.2.2 h.job) s
        let s : Device := { s with srch := { s.srch with kept := nset none s.srch.kept h.nsid (some (h.side, h.tombs)) } }
        (s.setSrchH hid none).finish n St.ok 0

end Sys2Proof.Machine
end

