-- ==== Sys2Proof/Machine/Flow.lean ====
section
/-! DEFINITION. How data flows onto and off the media (chapter 12): what stands in a quad and which of it is valid, the
choice of superquads, the filling of a word-line group, what follows a group's end, and the collection of a superquad. -/

namespace Sys2Proof.Machine

/-! ## What stands in a quad -/

/-- The state with the FTL's part changed. -/
def Device.setFtl (s : Device) (f : Ftl → Ftl) : Device := { s with ftl := f s.ftl }

/-- NEXT_WL of a quad (R361), and the word lines of it that are DONE. -/
def Device.nextWl (s : Device) (nd q : Nat) : Nat := nget 0 s.ftl.nextWl (nd * 4096 + q)
def Device.progress (s : Device) (nd q : Nat) : Nat := nget 0 s.ftl.progress (nd * 4096 + q)
def Device.setNextWl (s : Device) (nd q v : Nat) : Device := s.setFtl (fun f => { f with nextWl := nset 0 f.nextWl (nd * 4096 + q) v })
def Device.setProgress (s : Device) (nd q v : Nat) : Device :=
  s.setFtl (fun f => { f with progress := nset 0 f.progress (nd * 4096 + q) v })

/-- The code words that stand in a quad, with their locations. -/
def Device.quadCws (s : Device) (nd q : Nat) : List (Nat × CodeWord) :=
  s.ftl.nand.filterMap (fun e =>
    let loc := e.1 % 2 ^ 32
    if e.1 / 2 ^ 32 = nd / 32 ∧ locDie loc = nd % 32 ∧ locQuad loc = q then e.2.map (fun c => (loc, c)) else none)

/-- The BAND of a directory code word (R386, log entry 186). -/
def dirPage : Nat := 0x7FFFFFF

/-- Whether a code word is valid (R392): the map names it, a log row or record or a retained journal page lies in it, or
it belongs to the present checkpoint. -/
def Device.cwValid (s : Device) (ord loc : Nat) (c : CodeWord) : Bool :=
  if c.kind = 0 ∨ c.kind = 1 then s.bandOrd c.band == ord && s.unitLoc c.band c.unit == loc
  else if c.kind = 2 then (nget [] s.ftl.rowLog ord).any (fun r => r.wsn == c.wsn)
  else if c.kind = 3 then (nget [] s.ftl.sideLog ord).any (fun r => r.wsn == c.wsn)
  else if c.kind = 4 then (nget [] s.ftl.journal ord).any (fun r => match r.page with
    | some p => p == c.wsn || p + 1 == c.wsn
    | none => false)
  else if c.kind = 5 then
    if c.band = dirPage then decide (nget 0 s.ftl.ckpt ord ≤ c.wsn)
    else (nget (0, []) s.ftl.pageAt (ord * 2 ^ 27 + c.band)).2.contains loc
  else false

/-- The valid code words of a quad and of a superquad. -/
def Device.quadValid (s : Device) (nd q : Nat) : Nat :=
  ((s.quadCws nd q).filter (fun x => s.cwValid (nd / 32) x.1 x.2)).length
def Device.sqValid (s : Device) (g t q : Nat) : Nat :=
  ((s.members g).map (fun o => s.quadValid (nandDie o t) q)).foldl (· + ·) 0

/-- The data members of a superquad: every in-service member but the parity member (R380). -/
def Device.dataMembers (s : Device) (g t q : Nat) : List Nat := (s.members g).filter (fun o => rainPos o != parityPos t q)

/-- The bit of a band in a copy filter (R404). -/
def filterBit (band : Nat) : Nat := band * 0x9E3779B1 % 2 ^ 32 / 2 ^ 23

/-! ## The choice of superquads -/

/-- The highest equivalent count of a superquad's members (R395). -/
def Device.sqWear (s : Device) (g t q : Nat) : Nat :=
  ((s.members g).flatMap (fun o => (s.planes (nandDie o t) q).map (fun p => s.equivCount (nandDie o t) (q * 4 + p)))).foldl max 0

/-- Whether a free superquad may be the next that the group allocates (R395): no free one has a lower highest count, or,
for relocation while wear levelling moves data, a higher one. -/
def Device.mayAllocate (s : Device) (g t q : Nat) (hot : Bool) : Bool :=
  let w := s.sqWear g t q
  let free := fun (t' q' : Nat) => (s.squad g t' q').st == 0 && (s.members g).any (fun o => !(s.planes (nandDie o t') q').isEmpty)
  if !hot && w == 0 then true
  else (List.range 32).all (fun t' => (List.range 3312).all (fun q' =>
    !free t' q' || (if hot then decide (s.sqWear g t' q' ≤ w) else decide (w ≤ s.sqWear g t' q'))))

/-- A superquad opens in a mode for a use (R369, R380, R388): QUAD_OPEN and the state of every block are journalled. -/
def Device.openSquad (s : Device) (g t q use : Nat) (slc : Bool) : Device :=
  let s := s.setSquad g t q { st := 1, slc, use }
  let s := (s.members g).foldl (fun a o =>
    let nd := nandDie o t
    let a := a.journal o 3 none (jQuad t q 0 |>.take 3 |>.append (natLe 1 (b2n slc) ++ natLe 1 use)) 0 none
    let a := a.setFtl (fun f => { f with
      quadPlanes := nset 0 f.quadPlanes (nd * 4096 + q) (((a.planes nd q).map (2 ^ ·)).foldl (· + ·) 0) })
    (a.planes nd q).foldl (fun b p =>
      b.ecChange nd (q * 4 + p) (setBits (setBits (b.ecRec nd (q * 4 + p)) 39 32 (if use = 3 then 5 else 1)) 63 60 (b2n slc))) a) s
  s.showGroup g

/-- A superquad closes (R380, R388). -/
def Device.closeSquad (s : Device) (g t q : Nat) : Device :=
  let x := s.squad g t q
  let s := s.setSquad g t q { x with st := 2, closed := s.ftl.closes + 1, parity := 384 }
  let s := s.setFtl (fun f => { f with closes := f.closes + 1 })
  (s.members g).foldl (fun a o =>
    let nd := nandDie o t
    let a := a.journal o 5 none (natLe 1 t ++ natLe 2 q ++ natLe 1 0 ++ natLe 4 (a.quadValid nd q)) 0 none
    (a.planes nd q).foldl (fun b p => b.ecChange nd (q * 4 + p) (setBits (b.ecRec nd (q * 4 + p)) 39 32 2)) a) s

/-! ## Filling a group -/

/-- The use of the superquads that a code word goes to: 0 host, 1 relocation, 2 log, 3 system (R388). -/
def BufCw.use (b : BufCw) : Nat :=
  if b.cw.kind = 4 ∨ b.cw.kind = 5 then 3 else if b.cw.kind = 2 ∨ b.cw.kind = 3 then 2 else b.cw.kind % 2

/-- What tells one write of an extent from another: the WSN of its first code word, or the place its copies came from. -/
def BufCw.base (b : BufCw) : Nat :=
  match b.old with
  | some l => if b.cw.kind = 1 then l - b.cw.unit % 64 * 131072 else 0
  | none => b.cw.wsn - b.cw.unit % 64

/-- Whether two code words belong to one write or copy of one extent. -/
def BufCw.sameExtent (a b : BufCw) : Bool :=
  a.ord == b.ord && a.cw.kind == b.cw.kind && a.cw.band == b.cw.band && a.cw.unit / 64 == b.cw.unit / 64 && a.base == b.base

/-- The code words in the write buffer that belong to one extent. -/
def Device.extentOf (s : Device) (b : BufCw) : List BufCw := s.ftl.buf.filter b.sameExtent

/-- Whether a group's SLC staging is full, so that its block writes go to the TLC stream (R385). -/
def Device.slcFull (s : Device) (g : Nat) : Bool := decide (s.rdf Reg.FTL_SLC_CTL g 15 0 ≤ s.rd Reg.FTL_SLC_USED g)

/-- The code words of an ordinal that wait for a place in superquads of a use and mode (R383 to R385). -/
def Device.waitingCws (s : Device) (ord use : Nat) (slc : Bool) : List BufCw :=
  s.ftl.buf.filter (fun b => b.ord == ord && b.loc.isNone && !b.done && b.cw.kind != 6 && b.use == use &&
    (b.slc == slc || (!slc && use == 0 && s.slcFull (rainGroup ord))))

/-- The code word placed at an offset of a quad, in the buffer or on the medium. -/
def Device.placedAt (s : Device) (ord loc : Nat) : Option BufCw :=
  match s.ftl.buf.find? (fun b => b.ord = ord ∧ b.loc = some loc) with
  | some b => some b
  | none => none

/-- The offsets of a data quad that may take a code word (R381): those whose plane the parity member has; the others hold pads. -/
def Device.openOffs (s : Device) (ord : Nat) (slc : Bool) (t q first n : Nat) : List Nat :=
  let par := rainOrd (rainGroup ord) (parityPos t q)
  (rangeFrom first n).filter (fun off =>
    !s.ordUp par || (s.cwPlanes (nandDie par t) q).contains (s.cwPos (nandDie ord t) q slc off).2.1)

/-- The code word that goes to an offset of a data quad (R378): a cell of 64 offsets holds one extent, or block units; an
extent goes out when all of its code words are there. -/
def Device.nextCw (s : Device) (ord use : Nat) (slc : Bool) (t q off : Nat) : Option BufCw :=
  let wait := s.waitingCws ord use slc
  let block := wait.find? (fun b => use == 2 || use == 3 || s.bandBlock b.cw.band)
  if use = 2 then block
  else if use = 3 then
    wait.find? (fun b => !s.ftl.buf.any (fun c => c.ord == ord && c.old == b.old && c.cw.wsn != b.cw.wsn && (match c.loc with
      | some l => locDie l / 8 == t / 8
      | none => false)))
  else if off % 64 = 0 then
    match wait.find? (fun b => !s.bandBlock b.cw.band && b.cw.unit % 64 == 0
        && ((s.extentOf b).filter (fun c => c.loc.isNone)).length == 64 && (s.openOffs ord slc t q off 64).length == 64) with
    | some b => some b
    | none => block
  else match s.placedAt ord (mkLoc t q (off / 64 * 64)) with
    | some f =>
      if s.bandBlock f.cw.band then block
      else (s.extentOf f).find? (fun b => b.loc.isNone ∧ b.cw.unit % 64 = off % 64)
    | none => block

/-- The state with one code word of the write buffer replaced. -/
def Device.setBuf (s : Device) (b : BufCw) : Device :=
  s.setFtl (fun f => { f with buf := f.buf.map (fun c => if c.ord = b.ord ∧ c.cw.wsn = b.cw.wsn then b else c) })

/-- The offsets of a group take their code words, in order; answers how many of those that may take one found none. -/
def Device.fillGroup (s : Device) (ord use : Nat) (slc : Bool) (t q first n : Nat) : Nat × Nat × Device :=
  (s.openOffs ord slc t q first n).foldl (fun (acc : Nat × Nat × Device) off =>
    match acc.2.2.nextCw ord use slc t q off with
    | some b => (acc.1, acc.2.1 + 1, acc.2.2.setBuf { b with loc := some (mkLoc t q off) })
    | none => (acc.1 + 1, acc.2)) (0, 0, s)

/-- Whether a group may hold pad code words (R383): in SLC beside data, and wherever another data member of its stripe is
programmed already. -/
def Device.padOk (s : Device) (ord t q wl got : Nat) (slc : Bool) : Bool :=
  (slc && decide (0 < got))
    || (s.dataMembers (rainGroup ord) t q).any (fun o => decide (wl < s.progress (nandDie o t) q))

/-- The use for which a free superquad opens on behalf of an ordinal: what waits for a program of a class and mode. -/
def Device.wantedUse (s : Device) (ord cls : Nat) (slc : Bool) : Option Nat :=
  (if cls = 3 then [1] else if slc then [3, 2, 0] else [0]).find? (fun u => !(s.waitingCws ord u slc).isEmpty)

/-- Whether an open superquad of a local NAND die has a use and mode already. -/
def Device.hasOpen (s : Device) (g t use : Nat) (slc : Bool) : Bool :=
  s.ftl.squads.any (fun e => e.1 / 4096 == g * 32 + t && e.2.st == 1 && e.2.use == use && e.2.slc == slc)

/-- A word-line group is put together (R351, R361, R380 to R385, R392): the superquad is open in the mode, or opens when
it may be allocated; the word line is NEXT_WL; the parity of word line w - 4 is DONE; a data member's offsets are
filled, and a parity member's group holds the parity code words that wait for it. None when no such program may go. -/
def Device.formGroup (s : Device) (nd cls q wl : Nat) (slc : Bool) : Option Device :=
  let ord := nd / 32; let t := nd % 32; let g := rainGroup ord
  let x := s.squad g t q
  let n := s.groupCws nd q slc
  if wl ≠ s.nextWl nd q ∨ 384 ≤ wl ∨ n = 0 then none
  else if x.st = 1 ∧ x.slc = slc ∧ rainPos ord = parityPos t q then
    if s.ftl.buf.any (fun b => b.ord == ord && b.cw.kind == 6 && (match b.loc with
        | some l => locDie l == t && locQuad l == q && locOff l / n == wl
        | none => false)) then some (s.setNextWl nd q (wl + 1)) else none
  else if x.st = 1 ∧ x.slc = slc ∧ wl < x.parity + 4 then
    let r := s.fillGroup ord x.use slc t q (wl * n) n
    if r.1 = 0 ∨ s.padOk ord t q wl r.2.1 slc then some (r.2.2.setNextWl nd q (wl + 1)) else none
  else if x.st = 0 ∧ rainPos ord ≠ parityPos t q ∧ wl = 0 then
    match s.wantedUse ord cls slc with
    | none => none
    | some use =>
      let low := decide (s.freeSquads g < s.rdf Reg.FTL_GC_URGENT_CTL g 31 16)
      if rootQuad t q ∨ s.hasOpen g t use slc ∨ ((use = 0 ∨ use = 2) ∧ low) ∨ (slc ∧ use = 0 ∧ s.slcFull g)
          ∨ !s.mayAllocate g t q (use == 1 && s.rdf Reg.FTL_GRP_STATUS g 20 20 == 1) then none
      else
        let s := s.openSquad g t q use slc
        let r := s.fillGroup ord use slc t q 0 n
        if r.1 = 0 ∨ s.padOk ord t q 0 r.2.1 slc then some (r.2.2.setNextWl nd q 1) else none
  else none

/-! ## Copies -/

/-- A read for a copy of a code word joins the queue of its channel at class 3 (R365, R383). -/
def Device.copyUnit (s : Device) (ord loc : Nat) (c : CodeWord) : Device :=
  let r : ReadReq := { id := s.media.nextRead, ord, loc, cls := 3, dest := .copy c.band c.unit c.wsn c.key, busy := false, recon := none }
  { s with media := { s.media with reads := s.media.reads ++ [r], nextRead := s.media.nextRead + 1 } }

/-- The valid data of a quad is to be copied: mapped code words by reads, live rows and records of the logs again into their
log (R383, R392). -/
def Device.evacuate (s : Device) (nd q : Nat) (only : CodeWord → Bool) : Device :=
  let ord := nd / 32
  let all := (s.quadCws nd q).filter (fun x => only x.2 && s.cwValid ord x.1 x.2)
  let s := (all.filter (fun x => x.2.kind ≤ 1)).foldl (fun a x => a.copyUnit ord x.1 x.2) s
  (all.filter (fun x => x.2.kind = 2 ∨ x.2.kind = 3)).foldl (fun a x =>
    let log := if x.2.kind = 2 then a.ftl.rowLog else a.ftl.sideLog
    let mine := (nget [] log ord).filter (fun r => r.wsn = x.2.wsn)
    let d := a.logRecords ord x.2.kind x.2.key none (mine.map (fun r => (r.band, r.row, r.bytes)))
    let new := (nget [] log ord).filter (fun r => r.wsn ≠ x.2.wsn) ++ d.1
    d.2.setFtl (fun f => if x.2.kind = 2 then { f with rowLog := nset [] f.rowLog ord new }
      else { f with sideLog := nset [] f.sideLog ord new })) s

/-- A superquad becomes a victim, and its valid data is copied (R392, R395, R404). -/
def Device.collect (s : Device) (g t q : Nat) (skip : Nat → Nat → Bool) : Device :=
  let x := s.squad g t q
  if x.st ≠ 1 ∧ x.st ≠ 2 then s else
  let s := s.setSquad g t q { x with st := 3, copied := s.sqValid g t q }
  let s := s.inc Reg.FTL_GC_VICTIMS g 1
  (s.members g).foldl (fun a o => a.evacuate (nandDie o t) q (fun c => !skip c.band c.unit)) s

/-- The closed superquad with the least of a measure; among equals the oldest QUAD_CLOSE, then the lowest (t, q). -/
def Device.leastClosed (s : Device) (g : Nat) (p : SuperQuad → Bool) (measure : Nat → Nat → Nat) : Option (Nat × Nat) :=
  ((s.ftl.squads.filter (fun e => e.1 / 131072 == g && e.2.st == 2 && p e.2)).foldl
    (fun (best : Option (Nat × Nat × Nat × Nat)) e =>
      let t := e.1 / 4096 % 32; let q := e.1 % 4096
      let m := measure t q
      match best with
      | some (bm, bc, _, _) => if m < bm ∨ (m = bm ∧ e.2.closed < bc) then some (m, e.2.closed, t, q) else best
      | none => some (m, e.2.closed, t, q)) none).map (fun b => (b.2.2.1, b.2.2.2))

/-- Whether a superquad of a group is being collected or waits for its erase. -/
def Device.collecting (s : Device) (g : Nat) : Bool :=
  s.ftl.squads.any (fun e => e.1 / 131072 == g && (e.2.st == 3 || e.2.st == 4))

/-- What bars a superquad from being a victim: valid pages of the journal or of the map, which a checkpoint cycle frees (log entry 187). -/
def Device.systemHeld (s : Device) (g t q : Nat) : Nat :=
  if (s.squad g t q).use = 3 ∧ s.sqValid g t q ≠ 0 then 2 ^ 32 else 0

/-- Garbage collection of a group goes on (R392): from BG_START until BG_STOP, one victim after another. -/
def Device.gcCheck (s : Device) (g : Nat) : Device :=
  let free := s.freeSquads g
  let on := decide (free < s.rdf Reg.FTL_GC_CTL g 15 0)
    || (s.ftl.gcOn.contains g && decide (free < s.rdf Reg.FTL_GC_CTL g 31 16))
  let s := s.setFtl (fun f => { f with gcOn := (f.gcOn.erase g) ++ (if on then [g] else []) })
  let s := s.showGroup g
  if !on || s.collecting g then s
  else match s.leastClosed g (fun _ => true) (fun t q => s.sqValid g t q + s.systemHeld g t q) with
    | some (t, q) => if s.systemHeld g t q = 0 then s.collect g t q (fun _ _ => false) else s
    | none => s

/-- A group above FOLD_START folds its oldest SLC superquad into the TLC stream (R385). -/
def Device.foldCheck (s : Device) (g : Nat) : Device :=
  if s.rd Reg.FTL_SLC_USED g ≤ s.rdf Reg.FTL_SLC_CTL g 31 16 then s
  else match s.leastClosed g (fun x => x.slc && x.use == 0) (fun _ _ => 0) with
    | some (t, q) => s.collect g t q (fun _ _ => false)
    | none => s

/-- The spread and the highest equivalent count of a SHEAVE die, over its blocks in states 0 to 2 (R395). -/
def Device.wearOf (s : Device) (ord : Nat) : Nat × Nat :=
  let mine := s.media.eclog.filter (fun e => e.1 / 16384 / 32 == ord)
  let live := mine.filter (fun e => decide (bits e.2 39 32 ≤ 2))
  let counts := live.map (fun e => bits e.2 15 0 + ceilDiv (bits e.2 31 16) 10)
  let low := if mine.length < 423936 then 0 else counts.foldl min (counts.headD 0)
  let high := counts.foldl max 0
  (high - low, high)

/-- FTL_WEAR of the members of a group, and wear levelling (R395): at WL_START the closed superquad with the lowest
counts is moved, until the spread is at or below WL_STOP. -/
def Device.wearCheck (s : Device) (g : Nat) : Device :=
  let s := (s.members g).foldl (fun a o => let w := a.wearOf o; a.wr Reg.FTL_WEAR o (min w.1 65535 + min w.2 65535 * 65536)) s
  let spread := ((s.members g).map (fun o => (s.wearOf o).1)).foldl max 0
  let active := decide (s.rdf Reg.FTL_WL_CTL g 15 0 ≤ spread)
    || (s.rdf Reg.FTL_GRP_STATUS g 20 20 == 1 && decide (s.rdf Reg.FTL_WL_CTL g 31 16 < spread))
  let s := s.wrf Reg.FTL_GRP_STATUS g 20 20 (b2n active)
  if !active || s.collecting g then s
  else match s.leastClosed g (fun x => x.use != 3) (s.sqWear g) with
    | some (t, q) => s.collect g t q (fun _ _ => false)
    | none => s

/-! ## The end of a group -/

/-- The code words of the write buffer that lie in a word line of a quad. -/
def Device.groupBuf (s : Device) (nd q wl n : Nat) : List BufCw :=
  s.ftl.buf.filter (fun b => b.ord == nd / 32 && !b.done && (match b.loc with
    | some l => locDie l == nd % 32 && locQuad l == q && locOff l / max 1 n == wl
    | none => false))

/-- A copy of a map page is on the medium (R390): the newest page has two. -/
def Device.landMapPage (s : Device) (o : Nat) (b : BufCw) : Device :=
  let k := o * 2 ^ 27 + b.cw.band
  let w := b.old.getD 0
  let e := nget (0, []) s.ftl.pageAt k
  let loc := b.loc.getD 0
  if w < e.1 then s
  else s.setFtl (fun f => { f with pageAt := nset (0, []) f.pageAt k (w, if e.1 = w then e.2 ++ [loc] else [loc]) })

/-- A code word is on the medium (R350, R384, R404, R411). -/
def Device.landCw (s : Device) (nd q : Nat) (b : BufCw) : Device :=
  let o := b.ord
  let k := nd * 4096 + q
  let bit_ := 2 ^ filterBit b.cw.band
  let s := s.setFtl (fun f => { f with
    nand := nset none f.nand (o * 2 ^ 32 + b.loc.getD 0) (some b.cw),
    filters := if b.cw.kind ≤ 1 then nset 0 f.filters k (nget 0 f.filters k ||| bit_) else f.filters })
  let s := s.setBuf { b with done := true }
  let s := if b.cw.kind = 5 ∧ b.cw.band ≠ dirPage then s.landMapPage o b else s
  s.inc (if b.cw.kind = 0 then Reg.FTL_HOST_CW else if b.cw.kind = 1 then Reg.FTL_RELOC_CW
    else if b.cw.kind = 2 ∨ b.cw.kind = 3 then Reg.FTL_LOG_CW else Reg.FTL_PARITY_CW) o
    (if b.cw.kind ≤ 3 ∨ b.cw.kind = 6 then 1 else 0)

/-- The records of the logs that a code word holds are on the medium (R308, R333). -/
def Device.landLog (s : Device) (o : Nat) (b : BufCw) : Device :=
  let mark := fun (l : List LogRow) => l.map (fun (r : LogRow) => if r.wsn = b.cw.wsn then { r with durable := true } else r)
  if b.cw.kind = 2 then s.setFtl (fun f => { f with rowLog := nset [] f.rowLog o (mark (nget [] f.rowLog o)) })
  else if b.cw.kind = 3 then s.setFtl (fun f => { f with sideLog := nset [] f.sideLog o (mark (nget [] f.sideLog o)) })
  else s

/-- The map entry that a MAP_SET record names: its key and its value. -/
def Device.jMapKey (s : Device) (r : JRec) : Nat :=
  let band := leNat (r.payload.take 4); let e := leNat ((r.payload.drop 4).take 2)
  band * 1024 + (if s.bandBlock band then e else e * 64)

/-- A journalled change is applied to a map, when no later one has been (R387, R409). -/
def Device.applyRec (s : Device) (m : NMap MapEntry) (r : JRec) : NMap MapEntry :=
  if r.typ = 1 then
    let k := s.jMapKey r
    let old := leNat ((r.payload.drop 10).take 4)
    let e := nget {} m k
    if old ≠ unmapped then (if e.loc = old then nset {} m k { e with loc := leNat ((r.payload.drop 6).take 4) } else m)
    else if r.change < e.wsn then m
    else nset {} m k { loc := leNat ((r.payload.drop 6).take 4), wsn := r.change }
  else if r.typ = 2 then
    let band := leNat (r.payload.take 4)
    let step := if s.bandBlock band then 1 else 64
    (List.range (leNat ((r.payload.drop 6).take 2))).foldl (fun m i =>
      let k := band * 1024 + (leNat ((r.payload.drop 4).take 2) + i) * step
      if r.wsn < (nget ({} : MapEntry) m k).wsn then m else nset {} m k { loc := unmapped, wsn := r.wsn }) m
  else m

/-- The records of a transaction are applied on every participant, and it is over (R391). -/
def Device.applyTxn (s : Device) (x : Txn) : Device :=
  let recs := s.ftl.journal.flatMap (fun e => e.2.filter (fun r => r.txn = x.id))
  s.setFtl (fun f => { f with
    map := recs.foldl s.applyRec f.map, durable := (recs.filter (fun r => 2 ≤ r.copies)).foldl s.applyRec f.durable,
    txns := f.txns.filter (fun y => y.id ≠ x.id) })

/-- A root record is written (R390): the members of the pair take turns; it names the newest directory and the journal head. -/
def Device.rootRecord (s : Device) (o dir head : Nat) : Device :=
  let a := nget (0, 0, 0) s.ftl.roots (o * 2); let b := nget (0, 0, 0) s.ftl.roots (o * 2 + 1)
  s.setFtl (fun f => { f with roots := nset (0, 0, 0) f.roots (if a.1 ≤ b.1 then o * 2 else o * 2 + 1) (max a.1 b.1 + 1, dir, head) })

/-- Rows leave the row log. -/
def Device.dropLogged (s : Device) (gone : LogRow → Bool) : Device :=
  s.setFtl (fun f => { f with rowLog := (f.rowLog.map (fun e => (e.1, e.2.filter (fun r => !gone r)))).filter (fun e => !e.2.isEmpty) })

/-- Whether a logged row stands against what is durable (R409). -/
def Device.rowLasts (s : Device) (r : LogRow) : Bool :=
  match s.bandNs r.band with
  | some (_, x) => decide ((nget ({} : MapEntry) s.ftl.durable (s.mapKey (x.rowUnit r.row).1 (x.rowUnit r.row).2)).wsn < r.wsn)
  | none => false

/-- The merges whose extents are all mapped end with a LOG_TRIM (R401). -/
def Device.endTrims (s : Device) : Device :=
  s.ftl.trims.foldl (fun a x =>
    if a.ftl.buf.any (fun b => b.cw.kind == 0 && b.cw.band == x.1 && !b.done) then a
    else (a.setFtl (fun f => { f with trims := f.trims.erase x })).journal (a.bandOrd x.1) 13 none
      (natLe 4 x.1 ++ natLe 8 x.2 ++ natLe 1 0) 0 none) s

/-- A journal record is durable (R388, R390, R391). -/
def Device.recDurable (s : Device) (o : Nat) (r : JRec) : Device :=
  if r.typ = 10 then s.setFtl (fun f => { f with txns := f.txns.map (fun x =>
      if x.id = r.txn then { x with prepared := x.prepared ++ [o] } else x) })
  else if r.typ = 11 then match s.ftl.txns.find? (fun x => x.id = r.txn) with
    | some x => s.applyTxn x
    | none => s
  else if r.typ = 14 then
    let start := leNat (r.payload.take 8)
    let keep := (nget [] s.ftl.journal o).filter (fun (y : JRec) => y.copies < 2 || decide (start ≤ y.wsn) || y.txn != 0)
    ((s.setFtl (fun f => { f with journal := nset [] f.journal o keep, ckpt := nset 0 f.ckpt o start })).wr
      Reg.FTL_JRNL_RETAINED o (32 * keep.length)).rootRecord o (leNat ((r.payload.drop 8).take 4)) start
  else if r.typ = 13 then
    let band := leNat (r.payload.take 4); let through := leNat ((r.payload.drop 4).take 8)
    if r.payload.getD 12 0 = 0 then s.dropLogged (fun l => decide (l.wsn ≤ through) && (band == 0x7FFFFFF || l.band == band)) else s
  else if r.txn = 0 ∨ r.typ = 6 ∨ r.typ = 15 then
    let s := s.setFtl (fun f => { f with durable := s.applyRec f.durable r })
    if r.typ = 1 ∨ r.typ = 2 then s.dropLogged (fun l => l.band == leNat (r.payload.take 4) && !s.rowLasts l) else s
  else s

/-- One copy of a journal page is on the medium; with both, its records are durable (R388). -/
def Device.landPage (s : Device) (o page : Nat) : Device :=
  let mine := (nget [] s.ftl.journal o).filter (fun (r : JRec) => r.page = some page)
  let s := s.setFtl (fun f => { f with journal := nset [] f.journal o ((nget [] f.journal o).map (fun (r : JRec) =>
    if r.page = some page then { r with copies := r.copies + 1 } else r)) })
  (mine.filter (fun r => r.copies = 1)).foldl (fun a r => a.recDurable o r) s

/-- The map follows a code word that is DONE (R387): a block unit at once, an extent when the last of its code words is. -/
def Device.mapCw (s : Device) (o : Nat) (b : BufCw) : Device :=
  if b.cw.kind ≠ 0 ∧ b.cw.kind ≠ 1 then s
  else if s.bandBlock b.cw.band then
    s.mapSet o b.cw.band b.cw.unit (b.loc.getD 0) (b.old.getD unmapped) b.cw.wsn b.txn (b.cw.kind == 1 && b.old.isSome)
  else
    let all := s.extentOf b
    if all.any (fun c => !c.done) then s
    else match all.find? (fun c => c.cw.unit % 64 = 0) with
      | some f => s.mapSet o f.cw.band f.cw.unit (f.loc.getD 0) (f.old.getD unmapped)
          ((all.map (·.cw.wsn)).foldl max 0) f.txn (f.cw.kind == 1 && f.old.isSome)
      | none => s

/-- A participant whose writes of a transaction are all mapped journals TXN_PREPARE (R391). -/
def Device.prepare (s : Device) (o id : Nat) : Device :=
  if id = 0 ∨ s.ftl.buf.any (fun b => b.ord == o && b.txn == id && !b.done)
      ∨ (nget [] s.ftl.journal o).any (fun r => r.typ == 10 && r.txn == id) then s
  else match s.ftl.txns.find? (fun x => x.id = id) with
    | some x => s.journal o 10 none (natLe 1 x.parts.length ++ natLe 7 ((x.parts.map (fun h => 2 ^ h)).foldl (· + ·) 0)) id none
    | none => s

/-- The exclusive or of byte lists. -/
def xorBytes (ls : List (List Byte)) : List Byte :=
  (List.range cwBytes).map (fun i => ls.foldl (fun a l => a ^^^ l.getD i 0) 0)

/-- What a data member holds at a physical position, as its stripe sees it (R381): zeros where its block is retired or nothing stands. -/
def Device.stripeCw (s : Device) (o t q : Nat) (slc : Bool) (p : Nat × Nat × Nat) : List Byte :=
  match (s.offAt (nandDie o t) q slc p).bind (fun off => s.stored o (mkLoc t q off)) with
  | some c => s.onMedium c
  | none => List.replicate cwBytes 0

/-- The parity code words of a word line, with their locations: each of the code words at its physical position (R381). -/
def Device.parityCws (s : Device) (g t q wl : Nat) : List (Nat × List Byte) :=
  let x := s.squad g t q
  let nd := nandDie (rainOrd g (parityPos t q)) t
  let n := s.groupCws nd q x.slc
  (rangeFrom (wl * n) n).map (fun off =>
    (mkLoc t q off, xorBytes ((s.dataMembers g t q).map (fun o => s.stripeCw o t q x.slc (s.cwPos nd q x.slc off)))))

/-- The parity of a stripe word line (R381, R382): once every present data member's group is DONE, the parity code words
enter the parity member's buffer, each with its place. Without a parity member the word line needs none. -/
def Device.parityCheck (s : Device) (g t q wl : Nat) : Device :=
  let x := s.squad g t q
  let data := s.dataMembers g t q
  let par := rainOrd g (parityPos t q)
  if data.any (fun o => decide (s.progress (nandDie o t) q ≤ wl)) then s
  else if !s.ordUp par then s.setSquad g t q { x with parity := max x.parity (wl + 1) }
  else if s.ftl.buf.any (fun b => b.ord == par && b.cw.kind == 6 && (match b.loc with
      | some l => locDie l == t && locQuad l == q && locOff l / max 1 (s.groupCws (nandDie par t) q x.slc) == wl
      | none => false)) then s
  else
    (s.parityCws g t q wl).foldl (fun a p => a.bufferCw par 0x7FFFFFF 0 6 0 p.2 none 0 none (some p.1) x.slc) s

/-- The buffers of a word line are freed once its parity is DONE (R382). -/
def Device.freeWl (s : Device) (g t q wl : Nat) : Device :=
  let x := s.squad g t q
  s.setFtl (fun f => { f with buf := f.buf.filter (fun b => !(b.done && rainGroup b.ord == g && (match b.loc with
    | some l => locDie l == t && locQuad l == q && decide (locOff l / max 1 (s.groupCws (nandDie b.ord t) q x.slc) ≤ wl)
        && (s.bandBlock b.cw.band || 2 ≤ b.cw.kind || !(s.extentOf b).any (fun c => !c.done))
    | none => false))) })

/-- A group is DONE (R349, R350, R369, R380 to R391): its code words are on the medium, maps, logs and journal follow, and
so do the parity of its stripe and the close of a full superquad. -/
def Device.groupDone (s : Device) (nd q wl : Nat) (slc : Bool) : Device :=
  let ord := nd / 32; let t := nd % 32; let g := rainGroup ord
  let n := s.groupCws nd q slc
  let mine := s.groupBuf nd q wl n
  let s := mine.foldl (fun a b => (a.landCw nd q b).landLog ord b) s
  let s := ((s.setProgress nd q (wl + 1)).inc Reg.MEDIA_CH_PROGRAMS (nd / 8) 1).inc Reg.FTL_NAND_BYTES 0 (n * cwBytes)
  let s := mine.foldl (fun a b => if b.cw.kind = 4 then a.landPage ord (b.old.getD 0) else a.mapCw ord { b with done := true }) s
  let s := (((mine.map (·.txn)).eraseDups).foldl (fun a i => a.prepare ord i) s).endTrims
  let x := s.squad g t q
  let s := if rainPos ord = parityPos t q then s.setSquad g t q { x with parity := max x.parity (wl + 1) } else s.parityCheck g t q wl
  let s := if wl < (s.squad g t q).parity then s.freeWl g t q wl else s
  let done := (s.members g).all (fun o => s.progress (nandDie o t) q == 384 || (s.planes (nandDie o t) q).isEmpty)
  let s := if done ∧ (s.squad g t q).st = 1 then s.closeSquad g t q else s
  ((s.showGroup g).foldCheck g).gcCheck g

/-- A group FAILs (R352, R397, R398): its blocks count the failure and retire with cause 1; its data, and that of extents
it was part of, takes new places; the superquad takes no further program and what its quad holds is relocated. -/
def Device.groupFail (s : Device) (nd q wl : Nat) (slc : Bool) : Device :=
  let ord := nd / 32; let t := nd % 32; let g := rainGroup ord
  let mine := s.groupBuf nd q wl (s.groupCws nd q slc)
  let again := fun (b : BufCw) => mine.contains b || (decide (b.cw.kind ≤ 1) && !s.bandBlock b.cw.band && mine.any (fun c => c.sameExtent b))
  let s := s.setFtl (fun f => { f with buf := (f.buf.filter (fun b => !(b.cw.kind == 6 && mine.contains b))).map (fun b =>
    if again b then { b with loc := none, done := false } else b) })
  let fails := s.planes nd q
  let s := fails.foldl (fun a p =>
    let e := a.ecRec nd (q * 4 + p)
    (a.ecChange nd (q * 4 + p) (setBits e 47 40 (min 255 (bits e 47 40 + 1)))).retire nd (q * 4 + p) 1) s
  let s := (s.inc Reg.MEDIA_PROG_FAILS ord 1).inc Reg.FTL_RELOCATIONS ord 1
  let s := s.evacuate nd q (fun _ => true)
  if (s.squad g t q).st = 1 then (s.closeSquad g t q).showGroup g else s

end Sys2Proof.Machine
end

