-- ==== Sys2Proof/Machine/Storage.lean ====
section
/-! DEFINITION. The storage, namespace, host-range and time commands of chapter 13 (R431 to R439, R441): NOP, READ, WRITE,
DISCARD, NS_CREATE to NS_INFO, TIME_ANCHOR, HOST_REGISTER and HOST_DEREGISTER. -/

namespace Sys2Proof.Machine

/-- The effect of NOP. -/
def runNop (c : Cmd) (s : Device) (n : Nat) : Device :=
  s.finish n St.ok 0

/-- NOP (R431): no effect. -/
def execNop (c : Cmd) (s : State) : Out := onDevice s fun s =>
  ryern s c 0x00 (bytesOf 16 63) false (fun _ _ => none) (runNop c)

/-! ## Storage commands -/

/-- OFFSET, LENGTH and the buffer of a storage command (R432). -/
def stOff (slot : BitVec 512) : Nat := fld slot 20 8
def stLen (slot : BitVec 512) : Nat := fld slot 28 4
def stBuf (ld : Nat) (slot : BitVec 512) : Buf :=
  ⟨ld, if bit (fld slot 17 1) 0 then some (fld slot 18 2) else none, fld slot 32 4 * 32⟩

/-- Whether OFFSET and LENGTH are in range and inside the namespace (R432, R433). -/
def stRangeOk (slot : BitVec 512) (x : Ns) : Bool :=
  stOff slot % 4096 == 0 && stLen slot % 4096 == 0 && decide (4096 ≤ stLen slot) && decide (stLen slot ≤ 67108864)
    && decide (stOff slot + stLen slot ≤ x.size)

/-- Whether an open handle names a namespace: an embedding handle, a search handle. -/
def Device.embNamed (s : Device) (nsid : Nat) : Bool :=
  s.emb.handles.any (fun e => match e.2 with | some h => h.nsid == nsid | none => false)
def Device.srchNamed (s : Device) (nsid : Nat) : Bool :=
  s.srch.handles.any (fun e => match e.2 with | some h => h.nsid == nsid | none => false)

/-- The data capacity in bytes (R540): 8.0015 TB for each in-service member of a group but one. -/
def Device.dataCapacity (s : Device) : Nat :=
  8001500000000 * ((List.range 4).map (fun g => (s.members g).length - 1)).foldl (· + ·) 0

/-- The bytes of all data that the maps locate. -/
def Device.mappedAll (s : Device) : Nat :=
  (s.ftl.map.map (fun e => if e.2.loc = unmapped then 0 else if s.bandBlock (e.1 / 1024) then cwBytes else unitBytes)).foldl (· + ·) 0

/-- Whether `more` bytes of mapped data are refused below the rated capacity (R540). -/
def Device.overRated (s : Device) (more : Nat) : Bool :=
  s.rdf Reg.AVL_STATUS 0 8 8 == 1 && more != 0 && decide (s.dataCapacity < s.mappedAll + more + 8000000000000)

/-- The bytes that a write of code words would map anew. -/
def Device.newlyMapped (s : Device) (nsid first cnt : Nat) : Nat :=
  match s.ns nsid with
  | none => 0
  | some x =>
    let keys := (((rangeFrom first cnt).map x.place).filter (fun p => s.unitLoc p.1 p.2 = unmapped)).map (fun p => s.mapKey p.1 p.2)
    keys.eraseDups.length * (if x.kind = 0 then cwBytes else unitBytes)

/-- The checks of a storage command in the order of R430 (R433): `acc` is the access its buffer needs, none for DISCARD. -/
def Device.stCheck (s : Device) (ld n : Nat) (slot : BitVec 512) (acc : Option Nat) (write : Bool) : Option (Nat × Nat) :=
  let x := s.nsFor n (fld slot 16 1)
  let first := stOff slot / cwBytes; let cnt := stLen slot / cwBytes
  firstFail [
    (x.isNone, St.nsAbsent),
    (!(match x with | some y => y.accessible ld | none => false)
      || (match acc with | some a => !s.bufOwned (stBuf ld slot) a | none => false), St.notOwner),
    (!(match x with
        | some y => stRangeOk slot y
            && (acc.isSome || y.kind == 0 || (stOff slot % unitBytes == 0 && stLen slot % unitBytes == 0))
            && !(write && y.kind == 3 && s.srchNamed (fld slot 16 1))
        | none => false)
      || (match acc with
        | some _ => decide (2 ≤ fld slot 17 1) || !s.bufFits (stBuf ld slot) (stLen slot)
        | none => decide (4 ≤ fld slot 17 1)), St.invalidField),
    (write && s.pinned (fld slot 16 1) first cnt, St.codePinned),
    (write && acc.isSome && (s.belowCritical (fld slot 16 1) first cnt
      || s.overRated (s.newlyMapped (fld slot 16 1) first cnt)), St.refusedCapacity)]

/-- A storage command runs: a failed check ends it, and a pin that refused it is counted (R405). -/
def stCommand (s : Device) (c : Cmd) (op : Nat) (acc : Option Nat) (write : Bool) (body : Device → Nat → Device) : Effect :=
  ryernNote s c op (bytesOf 36 63) false (fun t n => t.stCheck c.ld n c.slot acc write)
    (fun t st => if st = St.codePinned then t.pinRefused (fld c.slot 16 1) (stOff c.slot / cwBytes) else t) body

/-- A READ that has every unit ends (R433, R434). -/
def Device.settleRead (s : Device) (n : Nat) : Device :=
  match s.media.ios.find? (fun r => r.n = n), s.cmd n with
  | some r, some p =>
    if r.left ≠ 0 then s
    else
      let s : Device := { s with media := { s.media with ios := s.media.ios.filter (fun q => q.n ≠ n) } }
      match r.firstBad with
      | some u => s.finish n St.mediaUncorrectable u
      | none => s.finish n St.ok (stLen p.slot)
  | _, _ => s

/-- The effect of READ. -/
def runRead (c : Cmd) (s : Device) (n : Nat) : Device :=
  match s.ns (fld c.slot 16 1) with
  | none => s
  | some x =>
    let cnt := stLen c.slot / cwBytes
    let s : Device := { s with media := { s.media with ios := s.media.ios ++ [⟨n, 4 * cnt, 0, none⟩] } }
    (List.range cnt).foldl (fun a u =>
      let p := x.place (stOff c.slot / cwBytes + u)
      a.readUnit p.1 p.2 1 (.cmd n u)) s

/-- READ (R358, R378, R432 to R434): every unit is read; its data goes to the buffer as it arrives. -/
def execRead (c : Cmd) (s : State) : Out := onDevice s fun s =>
  stCommand s c 0x01 (some 1) false (runRead c)

/-- Logged rows in a range of a table namespace are gone from the log and its index (R404). -/
def Device.trimRows (s : Device) (x : Ns) (off n : Nat) : Device :=
  if x.kind ≠ 2 then s else
  let rb := max 1 x.rowBytes
  let gone := fun (r : LogRow) => decide (x.bandBase ≤ r.band) && decide (r.band < x.bandBase + x.bandCount)
    && decide (off ≤ r.row * rb) && decide (r.row * rb < off + n)
  s.setFtl (fun f => { f with rowLog := (f.rowLog.map (fun e => (e.1, e.2.filter (fun r => !gone r)))).filter (fun e => !e.2.isEmpty) })

/-- The code words that a write of a range takes from the credit of each group that throttles it (R394). -/
def Device.creditNeeds (s : Device) (nsid first cnt : Nat) : List (Nat × Nat) :=
  match s.ns nsid with
  | none => []
  | some x => ((s.rangeGroups nsid first cnt).filter (fun g => s.rdf Reg.FTL_GRP_STATUS g 17 17 == 1)).map (fun g =>
      (g, ((rangeFrom first cnt).filter (fun i => rainGroup (s.bandOrd (x.place i).1) == g)).length))

/-- Whether a WRITE reaches a SHEAVE die in the storage-hot response (R510). -/
def Device.writesHot (s : Device) (slot : BitVec 512) : Bool :=
  match s.ns (fld slot 16 1) with
  | some x => (rangeFrom (stOff slot / cwBytes) (stLen slot / cwBytes)).any (fun i => s.media.hot.contains (s.bandOrd (x.place i).1))
  | none => false

/-- A WRITE ends once every code word of it is on the medium (R384, R433). -/
def Device.settleWrite (s : Device) (n : Nat) : Device :=
  match s.cmd n with
  | none => s
  | some p =>
    if p.phase = .ended ∨ s.ftl.waitCredit.any (fun w => w.1 == n) ∨ s.writesOpen n then s
    else (s.unhold n).finishMarked n (stLen p.slot)

/-- The data of a WRITE enters the write buffers (R310, R383, R386, R468): poisoned units stay as they were. On a storage-hot die the
write is delayed under reason 3 (R510). -/
def Device.doWrite (s : Device) (n : Nat) : Device :=
  match s.cmd n with
  | none => s
  | some p =>
    let nsid := fld p.slot 16 1; let off := stOff p.slot; let len := stLen p.slot
    let b := stBuf p.ld p.slot
    let bad := (List.range (len / 4096)).filter (fun u => s.bufPoison { b with off := b.off + 4096 * u } 4096)
    let data := s.bufRead b len
    let s := s.bufCount b len
    let s := (List.range (len / 4096)).foldl (fun a u =>
      if bad.contains u then a
      else match a.ns nsid with
        | some _ => a.dropRows nsid (off + 4096 * u) 4096
        | none => a) s
    let s := s.nsWriteGood nsid off data (bad.map (· * 256)) n
    (if s.writesHot p.slot then s.hold n 3 else s).settleWrite n

/-- A WRITE takes its credit and goes on, or waits for credit (R394). -/
def Device.creditWrite (s : Device) (n : Nat) : Device :=
  match s.cmd n with
  | none => s
  | some p =>
    let need := s.creditNeeds (fld p.slot 16 1) (stOff p.slot / cwBytes) (stLen p.slot / cwBytes)
    if need.all (fun x => decide (x.2 ≤ nget 0 s.ftl.credit x.1)) then
      (s.setFtl (fun f => { f with credit := need.foldl (fun m x => nset 0 m x.1 (nget 0 m x.1 - x.2)) f.credit })).doWrite n
    else if s.ftl.waitCredit.any (fun w => w.1 == n) then s
    else (s.hold n 2).setFtl (fun f => { f with waitCredit := f.waitCredit ++ [(n, s.now)] })

/-- The WRITEs that wait for credit are tried again, in order (R394); the wait is counted on the ordinals they write. -/
def Device.retryCredit (s : Device) : Device :=
  s.ftl.waitCredit.foldl (fun a w => match a.cmd w.1 with
    | none => a
    | some p =>
      let nsid := fld p.slot 16 1; let first := stOff p.slot / cwBytes; let cnt := stLen p.slot / cwBytes
      let need := a.creditNeeds nsid first cnt
      if need.all (fun x => decide (x.2 ≤ nget 0 a.ftl.credit x.1)) then
        let ords := match a.ns nsid with
          | some x => ((rangeFrom first cnt).map (fun i => a.bandOrd (x.place i).1)).eraseDups
          | none => []
        let a := ords.foldl (fun b o => b.inc Reg.FTL_THROTTLE_NS o (a.now - w.2)) a
        let a := a.setFtl (fun f => { f with waitCredit := f.waitCredit.erase w })
        (a.unhold w.1).creditWrite w.1
      else a) s

/-- The effect of WRITE. -/
def runWrite (c : Cmd) (s : Device) (n : Nat) : Device :=
  (((s.rangeGroups (fld c.slot 16 1) (stOff c.slot / cwBytes)
  (stLen c.slot / cwBytes)).foldl (fun a g => a.gcCheck g) s).creditWrite n)

/-- WRITE (R383, R384, R394, R432, R433). -/
def execWrite (c : Cmd) (s : State) : Out := onDevice s fun s =>
  stCommand s c 0x02 (some 0) true (runWrite c)

/-- The quads whose copy filter has the bit of a band (R404), as `NAND die * 4096 + quad`. -/
def Device.filterHits (s : Device) (bands : List Nat) : List Nat :=
  (s.ftl.filters.filter (fun e => bands.any (fun b => bit e.2 (filterBit b)))).map (·.1)

/-- The second part of a secure discard (R404): the range's entries in the write buffers and the row log are zeroed, and
every quad that may hold a copy is emptied, to be erased. -/
def Device.secureClear (s : Device) (n : Nat) (x : Ns) (first cnt : Nat) : Device :=
  let cells := (rangeFrom first cnt).map x.place
  let hit := fun (band unit : Nat) => cells.contains (band, unit)
  let s := s.setFtl (fun f => { f with buf := f.buf.map (fun b =>
    if b.cw.kind ≤ 1 ∧ hit b.cw.band b.cw.unit then { b with cw := { b.cw with data := List.replicate cwBytes 0 } } else b) })
  let quads := (s.filterHits ((cells.map (·.1)).eraseDups)).filter (fun k =>
    let st := (s.squad (rainGroup (k / 4096 / 32)) (k / 4096 % 32) (k % 4096)).st
    st == 1 || st == 2 || st == 3 || st == 4)
  let s := s.setFtl (fun f => { f with secure := f.secure ++ [⟨n, quads⟩] })
  let s := s.inc Reg.FTL_SECURE_PENDING 0 1
  let sqs := (quads.map (fun k => (rainGroup (k / 4096 / 32), k / 4096 % 32, k % 4096))).eraseDups
  sqs.foldl (fun a q => a.collect q.1 q.2.1 q.2.2 hit) s

/-- The units of a range are discarded for a command (R403, R404): the map, with it the logged rows below its WSN, the row caches and,
when secure, the row log and every copy. -/
def Device.discardRange (s : Device) (n nsid off len : Nat) (secure : Bool) : Device :=
  match s.ns nsid with
  | none => s
  | some x =>
    let first := off / cwBytes; let cnt := ceilDiv len cwBytes
    let s := (s.discardCws nsid first cnt secure (some n)).dropRows nsid off len
    if secure then (s.trimRows x off len).secureClear n x first cnt else s

/-- Whether a discard of a command still waits: for a durable MAP_CLEAR, or for an erase (R403, R404). -/
def Device.discardOpen (s : Device) (n : Nat) : Bool :=
  s.journalOpen n || s.ftl.secure.any (fun r => r.n == n && !r.quads.isEmpty)

/-- The secure discards of a command that have erased every quad are over. -/
def Device.endSecure (s : Device) (n : Nat) : Device :=
  let k := (s.ftl.secure.filter (fun r => r.n = n)).length
  (s.setFtl (fun f => { f with secure := f.secure.filter (fun r => r.n ≠ n) })).dec Reg.FTL_SECURE_PENDING 0 k

/-- A DISCARD ends under R403 or R404. -/
def Device.settleDiscard (s : Device) (n : Nat) : Device :=
  match s.cmd n with
  | none => s
  | some p => if p.phase = .ended ∨ !p.ran ∨ s.discardOpen n then s else (s.endSecure n).finish n St.ok (stLen p.slot)

/-- The effect of DISCARD. -/
def runDiscard (c : Cmd) (s : Device) (n : Nat) : Device :=
  (s.discardRange n (fld c.slot 16 1) (stOff c.slot) (stLen c.slot) (bit (fld c.slot 17 1) 1)).settleDiscard n

/-- DISCARD (R403, R432, R433). A slot with SECURE set is a secure discard under whichever row it is sent. -/
def execDiscard (c : Cmd) (s : State) : Out := onDevice s fun s =>
  stCommand s c 0x03 none true (runDiscard c)

/-- The effect of SECURE_DISCARD. -/
def runSecureDiscard (c : Cmd) (s : Device) (n : Nat) : Device :=
  let t := s.discardRange n (fld c.slot 16 1) (stOff c.slot) (stLen c.slot) (bit (fld c.slot 17 1) 1)
  t.settleDiscard n

/-- SECURE_DISCARD: a DISCARD whose FLAGS have SECURE set (R404, R432). -/
def execSecureDiscard (c : Cmd) (s : State) : Out := onDevice s fun s =>
  stCommand s c 0x03 none true (runSecureDiscard c)

/-! ## Namespace administration -/

/-- The ranges of the attributes of a table (R289, R436). -/
def tableOk (x : Ns) : Bool :=
  decide (1 ≤ x.dim) && decide (x.dim ≤ 1024) && [0, 3, 5, 6, 7].contains x.elemFmt
    && decide (16 ≤ x.rowBytes) && decide (x.rowBytes ≤ 4096) && x.rowBytes == pow2Up x.rowBytes
    && decide (1 ≤ x.rowCount) && decide (x.rowCount ≤ 2 ^ 32) && decide (x.rowUsed ≤ x.rowBytes)
    && (x.attr.getD 3 0) == 0 && leNat (x.attr.drop 11) == 0

/-- The ranges of the attributes of an index (R313, R436). -/
def indexOk (x : Ns) : Bool :=
  decide (32 ≤ x.dim) && decide (x.dim ≤ 2048) && [8, 16, 32, 64].contains x.codeM
    && x.dim % 32 == 0 && x.dim % max 1 x.codeM == 0 && [0, 3, 5, 7].contains x.vecFmt && decide (x.distKind ≤ 2)
    && decide (8 ≤ x.degree) && decide (x.degree ≤ 64) && x.degree % 8 == 0 && decide (x.attrCols ≤ 8)
    && decide (1 ≤ x.capacity) && decide (x.capacity ≤ 2 ^ 40 - 1)
    && decide (1024 ≤ x.sideMax) && decide (x.sideMax ≤ 4194304) && decide (1024 ≤ x.tombMax) && decide (x.tombMax ≤ 67108864)
    && decide (x.vecBytes ≤ 4096) && decide (x.nodeBytes ≤ 4096) && (x.attr.getD 7 0) == 0 && leNat (x.attr.drop 20) == 0

/-- The namespace that an NS_CREATE describes, its size rounded up (R376, R435, R436). -/
def nsOf (ld : Nat) (slot : BitVec 512) : Ns :=
  let x : Ns :=
    { kind := fld slot 17 1, owner := ld, access := fld slot 20 2 ||| 2 ^ ld, size := fld slot 24 8, key := 0,
      attr := natLe 32 (fld slot 32 32), bandBase := 0, teardown := none, secure := false, clearing := false }
  let size := if x.kind = 2 then x.rowCount * x.rowBytes else if x.kind = 3 then regionTotal x.regions else fld slot 24 8
  { x with size := nsRounded size }

/-- The first run of unused band IDs that begins at a multiple of 56 and holds a namespace (R377). -/
def Device.freeBands (s : Device) (count : Nat) : Option Nat :=
  let used := s.nss.filterMap (fun e => e.2.map (fun (x : Ns) => (x.bandBase, x.bandCount)))
  (rising (0 :: used.map (fun u => u.1 + u.2))).find? (fun b =>
    decide (b + count ≤ 2 ^ 27) && used.all (fun u => decide (b + count ≤ u.1) || decide (u.1 + u.2 ≤ b)))

/-- The sizes of the namespaces as FTL_BLOCK_NS_BYTES and FTL_NS_BYTES count them, and their number (R413). -/
def Device.showNss (s : Device) : Device :=
  let all := s.nss.filterMap (fun e => e.2)
  let sum := fun (l : List Ns) => (l.map (fun x => x.size)).foldl (· + ·) 0
  let s := s.wr Reg.FTL_BLOCK_NS_BYTES 0 (sum (all.filter (fun x => x.kind = 0)))
  let s := s.wr Reg.FTL_NS_BYTES 0 (sum all)
  let s := s.wrf Reg.FTL_DEV_STATUS 0 10 2 all.length
  (List.range 56).foldl (fun a o => a.wr Reg.FTL_BANDS o ((a.ftl.bands.filter (fun e => e.2 == o)).length)) s

/-- The NSID that an NS_CREATE asks for, if it may have one (R435). -/
def Device.newNsid (s : Device) (slot : BitVec 512) : Option Nat :=
  if bit (fld slot 18 1) 0 then (List.range 256).find? (fun i => (s.ns i).isNone)
  else if (s.ns (fld slot 16 1)).isNone then some (fld slot 16 1) else none

/-- The checks of an NS_CREATE (R376, R435 to R437): 32 TB of block namespaces, 384 TB in all. -/
def Device.nsCreateCheck (s : Device) (ld : Nat) (slot : BitVec 512) : Option (Nat × Nat) :=
  let x := nsOf ld slot
  let any := bit (fld slot 18 1) 0
  firstFail [
    (decide (4 ≤ x.kind) || decide (4 ≤ fld slot 18 1)
      || (decide (x.kind ≤ 1) && (fld slot 24 8 == 0 || fld slot 32 32 != 0))
      || (decide (2 ≤ x.kind) && fld slot 24 8 != 0)
      || (x.kind == 2 && !tableOk x) || (x.kind == 3 && !indexOk x)
      || (!any && (s.newNsid slot).isNone), St.invalidField),
    ((x.kind == 0 && decide (32000000000000 < s.rd Reg.FTL_BLOCK_NS_BYTES 0 + x.size))
      || decide (384000000000000 < s.rd Reg.FTL_NS_BYTES 0 + x.size)
      || s.overRated x.size || (any && (s.newNsid slot).isNone) || (s.freeBands x.bandCount).isNone || s.ordsUp.isEmpty, St.refusedCapacity)]

/-- The checks of NS_CREATE. -/
def checkNsCreate (c : Cmd) (s : Device) (_n : Nat) : Option (Nat × Nat) :=
  if s.lifecycle = 3 ∧ bit (fld c.slot 18 1) 1 then some (St.lifecycleLocked, 0) else s.nsCreateCheck c.ld c.slot

/-- The effect of NS_CREATE. -/
def runNsCreate (c : Cmd) (s : Device) (n : Nat) : Device :=
  let x := nsOf c.ld c.slot
  match s.newNsid c.slot, s.freeBands x.bandCount with
  | some id, some base =>
    let ords := s.ordsUp
    let enc := bit (fld c.slot 18 1) 1
    let y := { x with bandBase := base, key := if enc then s.ftl.nextKey else 0 }
    let s := s.setNs id (some y)
    let s := s.setFtl (fun f => { f with
      bands := (rangeFrom base y.bandCount).foldl (fun m b => nset 255 m b (ords.getD (b % max 1 ords.length) 0)) f.bands,
      nextKey := f.nextKey + b2n enc })
    let s := if enc then s.inc Reg.SEC_NS_KEYS 0 1 else s
    s.showNss.finish n St.ok id
  | _, _ => s

/-- NS_CREATE (R377, R435 to R437, R562, R572): the bands are spread over the in-service ordinals. -/
def execNsCreate (c : Cmd) (s : State) : Out := onDevice s fun s =>
  ryern s c 0x08 [19, 22, 23] false (checkNsCreate c) (runNsCreate c)

/-- Whether a job image names a namespace: the IMG_NSID of an open job, of one LD or of any (R437). -/
def Device.imageNamed (s : Device) (nsid : Nat) (ld : Option Nat) : Bool :=
  (List.range 64).any (fun j => s.jobOpen j && (match s.job j with | some x => x.nsid == nsid | none => false)
    && (match ld with | some l => s.jobOwner j == l | none => true))

/-- Whether a placement names a namespace, of one LD or of any (R437). -/
def Device.placeNamed (s : Device) (nsid : Nat) (ld : Option Nat) : Bool :=
  s.tier.objs.any (fun e => match e.2 with
    | some o => o.srcKind == 1 && o.nsid == nsid && (match ld with | some l => e.1 / 65536 == l | none => true)
    | none => false)

/-- Whether a handle of an LD names a namespace (R437). -/
def Device.handleNamed (s : Device) (nsid ld : Nat) : Bool :=
  s.emb.handles.any (fun e => match e.2 with | some h => h.nsid == nsid && s.jobOwner h.job == ld | none => false)
    || s.srch.handles.any (fun e => match e.2 with | some h => h.nsid == nsid && s.jobOwner h.job == ld | none => false)

/-- The checks of NS_DELETE and NS_FORMAT (R437, R405). -/
def Device.nsDropCheck (s : Device) (ld n : Nat) (slot : BitVec 512) : Option (Nat × Nat) :=
  let id := fld slot 16 1
  let x := s.nsFor n id
  firstFail [
    (x.isNone, St.nsAbsent),
    (!(match x with | some y => y.owner == ld || s.hif.admin == ld | none => false), St.notOwner),
    (decide (2 ≤ fld slot 17 1) || s.embNamed id || s.srchNamed id || s.imageNamed id none || s.placeNamed id none, St.invalidField),
    ((match x with | some y => s.pinned id 0 (ceilDiv y.size cwBytes) | none => false), St.codePinned)]

/-- A SEC record (R582). -/
def Device.secRecord (s : Device) (typ old new signer source detail : Nat) : Device :=
  s.record typ (natLe 1 old ++ natLe 1 new ++ natLe 1 signer ++ natLe 1 source ++ natLe 4 detail ++ natLe 8 0) none

/-- The key of a namespace is destroyed (R565): KEY_DESTROYED. -/
def Device.keyDestroyed (s : Device) (id : Nat) : Device := s.secRecord 0x1107 0 0 0xFF 3 id

/-- A namespace is gone (R377, R406, R562): its bands are unassigned and nothing of it is left in maps, logs and side
lists. -/
def Device.freeNs (s : Device) (id : Nat) (x : Ns) : Device :=
  let mine := fun (b : Nat) => decide (x.bandBase ≤ b) && decide (b < x.bandBase + x.bandCount)
  let keepMap := fun (m : NMap MapEntry) => m.filter (fun e => !mine (e.1 / 1024))
  let keepLog := fun (m : NMap (List LogRow)) =>
    (m.map (fun e => (e.1, e.2.filter (fun (r : LogRow) => !mine r.band)))).filter (fun e => !e.2.isEmpty)
  let s := s.setFtl (fun f => { f with
    bands := f.bands.filter (fun e => !mine e.1), map := keepMap f.map, durable := keepMap f.durable,
    buf := f.buf.filter (fun b => !(decide (b.cw.kind ≤ 1) && mine b.cw.band && b.loc.isNone)),
    rowLog := keepLog f.rowLog, sideLog := keepLog f.sideLog })
  let s : Device := { s with srch := { s.srch with kept := nset none s.srch.kept id none } }
  let s := if x.key = 0 then s else (s.dec Reg.SEC_NS_KEYS 0 1).keyDestroyed id
  (s.setNs id none).showNss

/-- The teardown of a namespace goes on (R406): it waits for the commands admitted before the NS_DELETE, discards every
unit, and ends when that is durable and, if secure, erased. -/
def Device.settleNsDelete (s : Device) (n : Nat) : Device :=
  match s.cmd n with
  | none => s
  | some p =>
    let id := fld p.slot 16 1
    match s.ns id with
    | none => s
    | some x =>
      if p.phase = .ended ∨ x.teardown ≠ some n then s
      else if !(s.earlierCmds n (fun q => cmdNs q.slot == some id)).isEmpty then s
      else
        let s := if x.clearing then s
          else (s.setNs id (some { x with clearing := true })).discardRange n id 0 x.size x.secure
        if s.discardOpen n then s else ((s.endSecure n).freeNs id x).finish n St.ok 0

/-- NS_DELETE and NS_FORMAT share their checks; a pin that refuses one is counted (R405, R437). -/
def dropCommand (s : Device) (c : Cmd) (op : Nat) (body : Device → Nat → Device) : Effect :=
  ryernNote s c op (bytesOf 18 63) false (fun t n => t.nsDropCheck c.ld n c.slot)
    (fun t st => if st = St.codePinned then t.pinRefused (fld c.slot 16 1) 0 else t) body

/-- The effect of NS_DELETE. -/
def runNsDelete (c : Cmd) (s : Device) (n : Nat) : Device :=
  let id := fld c.slot 16 1
  match s.ns id with
  | none => s
  | some x => (s.setNs id (some { x with teardown := some n, secure := bit (fld c.slot 17 1) 0 })).settleNsDelete n

/-- NS_DELETE (R406, R437). -/
def execNsDelete (c : Cmd) (s : State) : Out := onDevice s fun s =>
  dropCommand s c 0x09 (runNsDelete c)

/-- An NS_FORMAT ends when its discard is durable (R403, R437). -/
def Device.settleNsFormat (s : Device) (n : Nat) : Device :=
  match s.cmd n with
  | none => s
  | some p => if p.phase = .ended ∨ !p.ran ∨ s.discardOpen n then s else (s.endSecure n).finish n St.ok 0

/-- The effect of NS_FORMAT. -/
def runNsFormat (c : Cmd) (s : Device) (n : Nat) : Device :=
  let id := fld c.slot 16 1
  match s.ns id with
  | none => s
  | some x =>
    let s := s.discardRange n id 0 x.size (bit (fld c.slot 17 1) 0)
    let s : Device := { s with srch := { s.srch with kept := nset none s.srch.kept id none } }
    let s := if x.key = 0 then s
      else ((s.keyDestroyed id).setNs id (some { x with key := s.ftl.nextKey })).setFtl (fun f => { f with nextKey := f.nextKey + 1 })
    s.settleNsFormat n

/-- NS_FORMAT (R437, R562): every unit is discarded and the attributes stay; an encrypted namespace takes a new key. -/
def execNsFormat (c : Cmd) (s : State) : Out := onDevice s fun s =>
  dropCommand s c 0x0A (runNsFormat c)

/-- The checks of NS_ACCESS. -/
def checkNsAccess (c : Cmd) (s : Device) (n : Nat) : Option (Nat × Nat) :=
  let id := fld c.slot 16 1
  let x := s.nsFor n id
  firstFail [
    (x.isNone, St.nsAbsent),
    (!(match x with | some y => y.owner == c.ld || s.hif.admin == c.ld | none => false), St.notOwner),
    ((match x with
      | some y => (List.range 16).any (fun l => y.accessible l && l != y.owner && !bit (fld c.slot 18 2) l
          && (s.handleNamed id l || s.imageNamed id (some l) || s.placeNamed id (some l)))
      | none => false), St.invalidField)]

/-- The effect of NS_ACCESS. -/
def runNsAccess (c : Cmd) (s : Device) (n : Nat) : Device :=
  let id := fld c.slot 16 1
  match s.ns id with
  | none => s
  | some x => (s.setNs id (some { x with access := fld c.slot 18 2 ||| 2 ^ x.owner })).finish n St.ok 0

/-- NS_ACCESS (R437): a new access mask, unless it removes an LD that still uses the namespace. -/
def execNsAccess (c : Cmd) (s : State) : Out := onDevice s fun s =>
  ryern s c 0x0B (17 :: bytesOf 20 63) false (checkNsAccess c) (runNsAccess c)

/-- The bytes of a namespace that the map locates (R437). -/
def Device.mappedBytes (s : Device) (x : Ns) : Nat :=
  ((s.ftl.map.filter (fun e => decide (x.bandBase ≤ e.1 / 1024) && decide (e.1 / 1024 < x.bandBase + x.bandCount)
    && e.2.loc != unmapped)).length) * (if x.kind = 0 then cwBytes else unitBytes)

/-- The 64 bytes that NS_INFO writes (R437). -/
def Device.nsInfo (s : Device) (id : Nat) (x : Ns) : List Byte :=
  natLe 1 id ++ natLe 1 x.kind ++ natLe 1 (if x.key = 0 then 0 else 2) ++ natLe 1 0 ++ natLe 2 x.access ++ natLe 2 0
    ++ natLe 8 x.size ++ x.attr ++ natLe 8 (s.mappedBytes x) ++ natLe 8 0

/-- The checks of NS_INFO. -/
def checkNsInfo (c : Cmd) (s : Device) (n : Nat) : Option (Nat × Nat) :=
  let x := s.nsFor n (fld c.slot 16 1)
  firstFail [
    (x.isNone, St.nsAbsent),
    (!(match x with | some y => y.accessible c.ld | none => false), St.notOwner),
    (!s.bufFits ⟨c.ld, none, fld c.slot 24 4 * 32⟩ 64, St.invalidField)]

/-- The effect of NS_INFO. -/
def runNsInfo (c : Cmd) (s : Device) (n : Nat) : Device :=
  match s.ns (fld c.slot 16 1) with
    | none => s
    | some x => (s.windowWrite c.ld (fld c.slot 24 4 * 32) (s.nsInfo (fld c.slot 16 1) x) []).finish n St.ok 0

/-- NS_INFO (R437). -/
def execNsInfo (c : Cmd) (s : State) : Out := onDevice s fun s =>
  ryern s c 0x0C (bytesOf 17 23 ++ bytesOf 28 63) false (checkNsInfo c) (runNsInfo c)

/-! ## Time and host ranges -/

/-- A MAST die takes an anchor (R32): its time base is set as given, and its GENERATION rises. -/
def Device.anchor (s : Device) (die utc : Nat) : Device :=
  let i := mastIndex die
  let k := s.clock i
  s.setClock i { k with anchored := true, anchorUtc := utc, anchorAt := k.counter, generation := (k.generation + 1) % 8192 }

/-- The effect of TIME_ANCHOR. -/
def runTimeAnchor (c : Cmd) (s : Device) (n : Nat) : Device :=
  let utc := fld c.slot 16 8
  let s := s.anchor s.hubDie utc
  let s := ([42, 52, 47, 57].filter (fun d => d != s.hubDie)).foldl (fun a d =>
    a.send { pktPlain 10 2 s.hubDie 0 d 15 0 with body := natLe 16 utc, len := 1, lastBytes := 8 }) s
  s.finish n St.ok (s.clock (mastIndex s.hubDie)).generation

/-- TIME_ANCHOR (R32, R441): the active hub die takes the anchor and passes it to the other MAST dies, where it arrives as
TIME_ANCHOR_MGMT. -/
def execTimeAnchor (c : Cmd) (s : State) : Out := onDevice s fun s =>
  ryern s c 0x12 (bytesOf 24 63) true (fun _ _ => none) (runTimeAnchor c)

/-- The effect of TIME_ANCHOR_MGMT. -/
def onTimeAnchorMgmt (die utc : Nat) (s : Device) : Device :=
  let s := match s.net.find? (fun p => p.dstDie = die ∧ p.typ = 10 ∧ p.body = natLe 16 utc) with
    | some p => s.receive p
    | none => s
  s.anchor die (utc % 2 ^ 64)

/-- TIME_ANCHOR_MGMT (R32): a MAST die receives an anchor over the stays. -/
def execTimeAnchorMgmt (die utc : Nat) (s : State) : Out := onDevice s fun s =>
  atUnit (die == 42 || die == 52 || die == 47 || die == 57) (onTimeAnchorMgmt die utc s)

/-- The checks of HOST_REGISTER. -/
def checkHostRegister (c : Cmd) (s : Device) (_n : Nat) : Option (Nat × Nat) :=
  firstFail [
    (fld c.slot 16 8 % 4096 != 0 || fld c.slot 24 8 % 4096 != 0 || decide (2 ^ 40 < fld c.slot 24 8)
      || decide (4 ≤ fld c.slot 32 1), St.invalidField),
    ((List.range 4096).all (fun h => (s.hreg c.ld h).isSome), St.refusedCapacity)]

/-- The effect of HOST_REGISTER. -/
def runHostRegister (c : Cmd) (s : Device) (n : Nat) : Device :=
  match (List.range 4096).find? (fun h => (s.hreg c.ld h).isNone) with
    | none => s
    | some h =>
      let l := s.ld c.ld
      (s.setLd c.ld { l with hregs := nset none l.hregs h (some (fld c.slot 16 8, fld c.slot 24 8, fld c.slot 32 1)) }).finish
        n St.ok h

/-- HOST_REGISTER (R438). -/
def execHostRegister (c : Cmd) (s : State) : Out := onDevice s fun s =>
  ryern s c 0x13 (bytesOf 33 63) false (checkHostRegister c) (runHostRegister c)

/-- The checks of HOST_DEREGISTER. -/
def checkHostDeregister (c : Cmd) (s : Device) (_n : Nat) : Option (Nat × Nat) :=
  firstFail [((s.hreg c.ld (fld c.slot 16 2)).isNone || s.tier.objs.any (fun e => match e.2 with
      | some o => o.srcKind == 2 && o.hreg == fld c.slot 16 2 && e.1 / 65536 == c.ld
      | none => false), St.invalidField)]

/-- The effect of HOST_DEREGISTER. -/
def runHostDeregister (c : Cmd) (s : Device) (n : Nat) : Device :=
  let l := s.ld c.ld
  (s.setLd c.ld { l with hregs := nset none l.hregs (fld c.slot 16 2) none }).finish n St.ok 0

/-- HOST_DEREGISTER (R217, R439). -/
def execHostDeregister (c : Cmd) (s : State) : Out := onDevice s fun s =>
  ryern s c 0x14 (bytesOf 18 63) false (checkHostDeregister c) (runHostDeregister c)

end Sys2Proof.Machine
end

