-- ==== Sys2Proof/Machine/Media.lean ====
section
/-! DEFINITION. The events of the flash media (chapter 11): calibration, dispatch, erase suspend, reads, programs and erases,
patrol and refresh, and raw access. -/

namespace Sys2Proof.Machine

/-- The NAND dies of a channel (R22). -/
def chanDies (ch : Nat) : List Nat := rangeFrom (ch * 8) 8

/-- A LUN, and the state with one replaced; MEDIA_LUN_STATUS shows its state (R375). -/
def Device.lun (s : Device) (nd : Nat) : Lun := nget {} s.media.luns nd
def Device.setLun (s : Device) (nd : Nat) (l : Lun) (st : Nat) : Device :=
  ({ s with media := { s.media with luns := nset {} s.media.luns nd l } }).wrf Reg.MEDIA_LUN_STATUS nd 3 0 st

/-- The STATE field of MEDIA_LUN_STATUS. -/
def Device.lunState (s : Device) (nd : Nat) : Nat := s.rdf Reg.MEDIA_LUN_STATUS nd 3 0

/-- The SHEAVE ordinal of a NAND die, and whether it is in service with its LUN (R343, R399). -/
def Device.lunUp (s : Device) (nd : Nat) : Bool := s.ordUp (nd / 32) && s.lunState nd != 7

/-- Whether a data-in is under way on a channel: a calibration or retraining waits for it (R344, R368). -/
def Device.busTaken (s : Device) (ch : Nat) : Bool := (chanDies ch).any (fun nd => s.lunState nd == 2)

/-- A channel's bus is held for a calibration or retraining: a time of at most 200 µs, which is free (R344, log entry 2). -/
def Device.holdBus (s : Device) (ch : Nat) : Device := let d := s.draw; d.2.inc Reg.MEDIA_CH_BUS_NS ch (d.1 % 200001)

/-- The effect of ZQ_CALIBRATION_SHORT. -/
def onZqCalibrationShort (ch : Nat) (s : Device) : Device := if s.busTaken ch then s else s.holdBus ch

/-- ZQ_CALIBRATION_SHORT (R344): the channel bus is held, unless a data transfer is under way. -/
def execZqCalibrationShort (ch : Nat) (s : State) : Out := onDevice s fun s =>
  atUnit (ch < 224) (onZqCalibrationShort ch s)

/-- The temperature of the die of a channel, and how far it has moved since the channel was last trained (R344). -/
def Device.chanTemp (s : Device) (ch : Nat) : Nat := s.rdf Reg.PWR_DIE_TEMP (sheaveDie (ch / 4)) 7 0
def Device.chanMoved (s : Device) (ch : Nat) : Nat :=
  max (s.chanTemp ch) (nget 0 s.media.trained ch) - min (s.chanTemp ch) (nget 0 s.media.trained ch)

/-- The effect of DQ_RETRAIN. -/
def onDqRetrain (ch : Nat) (s : Device) : Device :=
  if s.busTaken ch ∨ s.chanMoved ch ≤ 15 then s
  else
    let s := (s.inc Reg.MEDIA_CH_RETRAINS ch 1).holdBus ch
    { s with media := { s.media with trained := nset 0 s.media.trained ch (s.chanTemp ch) } }

/-- DQ_RETRAIN (R344): a channel whose die's temperature has moved by more than 15 °C since its last training retrains, unless a data
transfer is under way. -/
def execDqRetrain (ch : Nat) (s : State) : Out := onDevice s fun s =>
  atUnit (ch < 224) (onDqRetrain ch s)

/-- The time that a transfer of bytes takes on a channel, in ns (R345). -/
def busNs (bytes : Nat) : Nat := bytes * 10 / 36

/-- The array reads of a code word whose decode ends at a step (R347): one more for each of steps 1 to 3, two at step 4 and four at
step 5. -/
def readsOf (step : Nat) : Nat := if step ≤ 3 then step + 1 else if step = 4 then 6 else 10

/-! ## Arbitration -/

/-- Whether a LUN is idle. -/
def Device.lunIdle (s : Device) (nd : Nat) : Bool := s.lunUp nd && (s.lun nd).job.isNone

/-- The location's NAND die of a queued read. -/
def ReadReq.nd (r : ReadReq) : Nat := nandDie r.ord (locDie r.loc)

/-- Whether a LUN is suspended and may still serve a class-1 read in this window (R355). -/
def Device.windowOpen (s : Device) (nd : Nat) : Bool :=
  match (s.lun nd).job with
  | some (.erase _ _ _ served) => s.lunState nd == 6 && decide (served < s.rdf Reg.MEDIA_SUSP_CTL (nd / 32) 31 28)
      && !s.media.reads.any (fun r => r.busy && r.nd == nd)
      && decide (s.now - (s.lun nd).since < 1000 * s.rdf Reg.MEDIA_SUSP_CTL (nd / 32) 15 4)
  | _ => false

/-- The first queued read of a class for a LUN. -/
def Device.nextRead (s : Device) (nd cls : Nat) : Option ReadReq :=
  s.media.reads.find? (fun r => r.nd = nd ∧ r.cls = cls ∧ !r.busy ∧ r.recon.isNone)

/-- LUNs of a channel with an operation under way. -/
def Device.busyLuns (s : Device) (ch : Nat) : Nat := ((chanDies ch).filter (fun nd => (s.lun nd).job.isSome)).length

/-- What the supply, the storage temperature and background limits let a die dispatch (R371, R510): for a class, whether a
program, an erase or a read. -/
def Device.mayDispatch (s : Device) (ch cls : Nat) (program erase : Bool) : Bool :=
  let ord := ch / 4
  if s.rdf Reg.MEDIA_DIE_STATUS ord 1 1 = 1 then program && cls == 2
  else if s.media.hot.contains ord then
    if program then cls == 2 && ((chanDies ch).filter (fun nd => match (s.lun nd).job with
        | some (.program ..) => true
        | _ => false)).length == 0
    else !erase && decide (s.busyLuns ch < 2)
  else if s.media.warm.contains ord && decide (3 ≤ cls) then
    s.rdf Reg.MEDIA_DIE_STATUS ord 0 0 == 1 && decide (s.busyLuns ch < 4)
  else true

/-- Whether an open superquad of a NAND die has a group of a class ready, or one could open (R365). -/
def Device.programReady (s : Device) (nd cls : Nat) : Bool :=
  let g := rainGroup (nd / 32); let t := nd % 32
  s.ftl.squads.any (fun e => e.1 / 4096 == g * 32 + t && e.2.st == 1 && (e.2.use == 1) == (cls == 3)
    && (s.formGroup nd cls (e.1 % 4096) (s.nextWl nd (e.1 % 4096)) e.2.slc).isSome)
  || [true, false].any (fun slc => match s.wantedUse (nd / 32) cls slc with
    | some u => !s.hasOpen g t u slc
    | none => false)

/-- Whether a class of a channel has an eligible operation (R365, R366). -/
def Device.eligible (s : Device) (ch cls : Nat) : Bool :=
  (chanDies ch).any (fun nd =>
    (s.lunIdle nd && (s.nextRead nd cls).isSome && s.mayDispatch ch cls false false)
    || (cls == 1 && s.windowOpen nd && (s.nextRead nd 1).isSome)
    || ((cls == 2 || cls == 3) && s.lunIdle nd && s.mayDispatch ch cls true false && s.programReady nd cls)
    || (cls == 3 && s.lunIdle nd && s.mayDispatch ch 3 false true && s.ftl.erases.any (fun e => e.1 == nd)))

/-- The skip counter of a class on a channel, and its limit (R366). -/
def Device.skip (s : Device) (ch cls : Nat) : Nat := nget 0 s.media.skips (ch * 8 + cls)
def Device.arbLimit (s : Device) (ch cls : Nat) : Nat := s.rdf Reg.MEDIA_ARB_LIMIT (ch / 4) (8 * (cls - 2) + 7) (8 * (cls - 2))

/-- Whether a class is promoted. -/
def Device.promoted (s : Device) (ch cls : Nat) : Bool := decide (2 ≤ cls) && decide (s.arbLimit ch cls ≤ s.skip ch cls)

/-- The class that the dispatcher serves next (R366): the lowest promoted class, else the lowest, with class 3 ahead of
class 2 under urgent GC. -/
def Device.servedClass (s : Device) (ch : Nat) : Option Nat :=
  let order := if s.rdf Reg.MEDIA_DIE_STATUS (ch / 4) 0 0 = 1 then [1, 3, 2, 4, 5] else [1, 2, 3, 4, 5]
  let el := order.filter (s.eligible ch)
  match ([2, 3, 4, 5].filter (fun c => el.contains c && s.promoted ch c)).head? with
  | some c => some c
  | none => el.head?

/-- A dispatch to a class is counted (R366, R367, R373). -/
def Device.countDispatch (s : Device) (ch cls : Nat) : Device :=
  let el := [2, 3, 4, 5].filter (fun c => c != cls && s.eligible ch c)
  let s := s.inc (Reg.MEDIA_ARB_DISPATCH + 8 * (cls - 1)) ch 1
  let s : Device := { s with media := { s.media with skips := nset 0 s.media.skips (ch * 8 + cls) 0 } }
  el.foldl (fun a c =>
    let n := a.skip ch c + 1
    let a := if n = a.arbLimit ch c then a.inc (Reg.MEDIA_ARB_PROMOTE + 4 * (c - 2)) ch 1 else a
    let a : Device := { a with media := { a.media with skips := nset 0 a.media.skips (ch * 8 + c) n } }
    a.peak (Reg.MEDIA_ARB_MAXWAIT + 4 * (c - 2)) ch n) s

/-! ## Reads around a busy LUN -/

/-- The state with a queued read replaced. -/
def Device.setRead (s : Device) (r : ReadReq) : Device :=
  { s with media := { s.media with reads := s.media.reads.map (fun q => if q.id = r.id then r else q) } }

/-- The time, in ns, in which a LUN can start a read: a program's rest of tPROG, an erase's rest of tBERS, a read's tR. -/
def Device.lunFreeIn (s : Device) (nd : Nat) : Nat :=
  let ran := s.now - (s.lun nd).since
  match (s.lun nd).job with
  | none => 0
  | some (.read _) => 45000 - ran
  | some (.program _ _ slc) => if s.lunState nd = 2 then (if slc then 218770 else 1256320) - ran else (if slc then 200000 else 1200000) - ran
  | some (.erase _ _ before _) => if s.lunState nd = 6 then 0 else 8000000 - (before + ran)

/-- Whether Erase Suspend may be issued (R354). -/
def Device.maySuspend (s : Device) (nd : Nat) : Bool :=
  match (s.lun nd).job with
  | some (.erase _ _ before _) =>
    let ran := s.now - (s.lun nd).since
    s.lunState nd == 4 && decide (500000 < 8000000 - (before + ran))
      && decide (s.rdf Reg.MEDIA_LUN_STATUS nd 7 4 < s.rdf Reg.MEDIA_SUSP_CTL (nd / 32) 3 0)
      && decide (1000 * s.rdf Reg.MEDIA_SUSP_CTL (nd / 32) 27 16 ≤ ran)
  | _ => false

/-- The other members of a code word's stripe, as NAND dies (R357, R381). -/
def Device.stripe (s : Device) (r : ReadReq) : List Nat :=
  ((s.members (rainGroup r.ord)).filter (fun o => o != r.ord)).map (fun o => nandDie o (locDie r.loc))

/-- Whether a waiting class-1 read is served by reconstruction (R357, R372). -/
def Device.mayReconstruct (s : Device) (r : ReadReq) : Bool :=
  let nd := r.nd
  let thresh := 1000 * s.rdf Reg.MEDIA_RECON_CTL r.ord 11 0
  let start := 1000 * s.rdf Reg.MEDIA_RECON_CTL r.ord 23 12
  let busy := match (s.lun nd).job with
    | some (.program ..) => true
    | some (.erase ..) => s.lunState nd == 4 && !s.maySuspend nd
    | _ => false
  busy && decide (thresh < s.lunFreeIn nd) && (s.members (rainGroup r.ord)).length == 14
    && (s.stripe r).all (fun m => s.lunUp m && decide (s.lunFreeIn m ≤ start))

/-- The location on another member of a stripe of the position of a code word (R381); none where its block is retired. -/
def Device.peerLoc (s : Device) (nd m loc : Nat) : Option Nat :=
  let q := locQuad loc
  let slc := (s.squad (rainGroup (nd / 32)) (nd % 32) q).slc
  (s.offAt m q slc (s.cwPos nd q slc (locOff loc))).map (mkLoc (m % 32) q)

/-- A reconstruction starts (R357): member reads at class 1 on the other SHEAVE dies; a retired block contributes zeros (R381). -/
def Device.reconstruct (s : Device) (r : ReadReq) : Device :=
  let ms := (s.stripe r).filterMap (fun m => (s.peerLoc r.nd m r.loc).map (fun l => (m, l)))
  let s := (s.setRead { r with recon := some ms.length }).inc Reg.MEDIA_RECONS r.ord 1
  ms.foldl (fun a (m, l) =>
    let q : ReadReq := { id := a.media.nextRead, ord := m / 32, loc := l, cls := 1, dest := .member r.id, busy := false, recon := none }
    { a with media := { a.media with reads := a.media.reads ++ [q], nextRead := a.media.nextRead + 1 } }) s

/-- A read operation for a LUN (R353 to R357, R365): issued when the LUN is idle or its window is open; otherwise a class-1
read suspends the erase, or is reconstructed, or waits. -/
def Device.dispatchRead (s : Device) (nd cls : Nat) : Device :=
  match s.nextRead nd cls with
  | none => s
  | some r =>
    if s.lunIdle nd then
      if s.servedClass (nd / 8) = some cls ∧ s.mayDispatch (nd / 8) cls false false then
        ((s.countDispatch (nd / 8) cls).setRead { r with busy := true }).setLun nd { job := some (.read r.id), since := s.now } 1
      else s
    else if cls ≠ 1 then s
    else if s.windowOpen nd then
      match (s.lun nd).job with
      | some (.erase q slc ran served) =>
        ((s.countDispatch (nd / 8) 1).setRead { r with busy := true }).setLun nd
          { s.lun nd with job := some (.erase q slc ran (served + 1)) } 6
      | _ => s
    else if s.maySuspend nd then
      match (s.lun nd).job with
      | some (.erase q slc ran _) =>
        let s := s.setLun nd { job := some (.erase q slc (ran + (s.now - (s.lun nd).since)) 0), since := s.now } 5
        let s := s.wrf Reg.MEDIA_LUN_STATUS nd 7 4 (s.rdf Reg.MEDIA_LUN_STATUS nd 7 4 + 1)
        s.inc Reg.MEDIA_SUSPENDS (nd / 32) 1
      | _ => s
    else if s.mayReconstruct r then s.reconstruct r
    else s

/-- The effect of NAND_OPERATION_DISPATCH. -/
def onNandOperationDispatch (lun : Nat) (op : NandOp) (s : Device) : Device :=
  let ch := lun / 8
  match op with
  | .read cls => if s.lunUp lun then s.dispatchRead lun cls else s
  | .program cls quad wl slc =>
    if !s.lunIdle lun || s.servedClass ch != some cls || !s.mayDispatch ch cls true false then s
    else match s.formGroup lun cls quad wl slc with
      | none => s
      | some t => (t.countDispatch ch cls).setLun lun { job := some (.program quad wl slc), since := s.now } 2
  | .erase quad slc =>
    if !s.lunIdle lun || s.servedClass ch != some 3 || !s.mayDispatch ch 3 false true
        || !s.ftl.erases.any (fun e => e.1 == lun && e.2.1 == quad) then s
    else
      let s := s.countDispatch ch 3
      let s := s.setFtl (fun f => { f with erases := f.erases.filter (fun e => !(e.1 == lun && e.2.1 == quad)) })
      (s.setLun lun { job := some (.erase quad slc 0 0), since := s.now } 4).wrf Reg.MEDIA_LUN_STATUS lun 7 4 0

/-- NAND_OPERATION_DISPATCH (R340, R351, R354, R357, R361, R365, R366): a read, a word-line group program or an erase is
issued to a LUN, when its class is the one to be served and the operation may go. -/
def execNandOperationDispatch (lun : Nat) (op : NandOp) (s : State) : Out := onDevice s fun s =>
  atUnit (lun < 1792 && (match op with
    | .read cls => decide (1 ≤ cls) && decide (cls ≤ 5)
    | .program cls quad wl _ => (cls == 2 || cls == 3) && decide (quad < 3312) && decide (wl < 384)
    | .erase quad _ => decide (quad < 3312))) (onNandOperationDispatch lun op s)

/-- The effect of ERASE_SUSPEND_READY. -/
def onEraseSuspendReady (lun : Nat) (s : Device) : Device :=
  if s.lunState lun = 5 then s.setLun lun { s.lun lun with since := s.now } 6 else s

/-- ERASE_SUSPEND_READY (R353): the LUN is ready, and its window begins. -/
def execEraseSuspendReady (lun : Nat) (s : State) : Out := onDevice s fun s =>
  atUnit (lun < 1792) (onEraseSuspendReady lun s)

/-- The effect of ERASE_RESUME. -/
def onEraseResume (lun : Nat) (s : Device) : Device :=
  match (s.lun lun).job with
  | some (.erase q slc ran _) =>
    if s.lunState lun = 6 ∧ !s.media.reads.any (fun r => r.busy && r.nd == lun)
        ∧ ((s.nextRead lun 1).isNone ∨ !s.windowOpen lun) then
      s.setLun lun { job := some (.erase q slc ran 0), since := s.now } 4
    else s
  | _ => s

/-- ERASE_RESUME (R353, R355): once no class-1 read is queued, READS_MAX reads have been served or WINDOW_US has passed. -/
def execEraseResume (lun : Nat) (s : State) : Out := onDevice s fun s =>
  atUnit (lun < 1792) (onEraseResume lun s)

/-! ## Reads -/

/-- A block is flagged for refresh (R348, R370, R396); the eighth flag between two erases retires it with cause 3. -/
def Device.flagBlock (s : Device) (nd pbn : Nat) : Device :=
  let k := nd * 16384 + pbn
  let n := nget 0 s.media.flags k + 1
  let s : Device := { s with media := { s.media with flags := nset 0 s.media.flags k n } }
  let s := if s.ftl.flagged.contains (nd, pbn) then s else s.setFtl (fun f => { f with flagged := f.flagged ++ [(nd, pbn)] })
  if n = 8 then s.retire nd pbn 3 else s

/-- The plane and the page of a code word of a quad (R378). -/
def Device.cwBlock (s : Device) (nd loc : Nat) : Nat × Nat :=
  let q := locQuad loc
  let slc := (s.squad (rainGroup (nd / 32)) (nd % 32) q).slc
  let p := s.cwPos nd q slc (locOff loc)
  (p.2.1, if slc then p.1 else p.1 * 3 + p.2.2 / 4)

/-- The page reads of a code word are counted, with their array time, and what its decode needed is kept (R345, R347, R348, R369). A
TLC block whose READS reaches MEDIA_READ_DISTURB is flagged (R370). -/
def Device.readCounted (s : Device) (nd pbn step : Nat) : Device :=
  let e := s.ecRec nd pbn
  let old := bits e 95 64
  let new := min (2 ^ 32 - 1) (old + readsOf step)
  let e := setBits (setBits e 95 64 new) 59 56 (max (bits e 59 56) (min step 7))
  let limit := s.rd Reg.MEDIA_READ_DISTURB (nd / 32)
  let s := (s.inc Reg.MEDIA_LUN_BUSY_NS nd (readsOf step * (if bits e 63 60 = 1 then 20000 else 45000))).setEc nd pbn e
  let s := if 2 ≤ step then s.flagBlock nd pbn else s
  if bits e 63 60 = 0 ∧ old < limit ∧ limit ≤ new then (s.flagBlock nd pbn).inc Reg.MEDIA_PATROL_FLAGS (nd / 32) 1 else s

/-- A code word has been transferred and decoded, ending at a step of R347 (R345, R373). -/
def Device.cwCounted (s : Device) (ch step : Nat) : Device :=
  ((s.inc Reg.MEDIA_CH_READS ch 1).inc (Reg.MEDIA_CH_DECODE + 4 * step) ch 1).inc Reg.MEDIA_CH_BUS_NS ch (busNs 4224 * readsOf step)

/-- A member read of a reconstruction has ended (R357): with the last good one the code word is delivered; a member that ends
at step 7 ends the reconstruction. -/
def Device.memberDone (s : Device) (id : Nat) (bad : Bool) : Device :=
  match s.media.reads.find? (fun r => r.id = id) with
  | none => s
  | some r => match r.recon with
    | none => s
    | some k =>
      if bad then s.setRead { r with recon := none }
      else if 1 < k then s.setRead { r with recon := some (k - 1) }
      else
        let s : Device := { s with media := { s.media with reads := s.media.reads.filter (fun q => q.id ≠ id) } }
        let s := s.inc (Reg.MEDIA_CH_DECODE + 4 * 6) (r.nd / 8) 1
        match s.stored r.ord r.loc with
        | some c => s.deliver r.ord (r.nd / 8) (some r.loc) r.dest c.data 7 false
        | none => s

/-- The effect of ARRAY_READ_COMPLETE. -/
def onArrayReadComplete (lun step : Nat) (s : Device) : Device :=
  match s.media.reads.find? (fun r => r.busy ∧ r.nd = lun) with
  | none => s
  | some r =>
    let s : Device := { s with media := { s.media with reads := s.media.reads.filter (fun q => q.id ≠ r.id) } }
    let s := match (s.lun lun).job with
      | some (.read _) => s.setLun lun {} 0
      | _ => s
    let b := s.cwBlock lun r.loc
    let s := (s.readCounted lun (locQuad r.loc * 4 + b.1) step).cwCounted (lun / 8) step
    match r.dest with
    | .member id => s.memberDone id (step == 7)
    | _ =>
      let data := match s.stored r.ord r.loc with | some c => c.data | none => List.replicate cwBytes 0
      s.deliver r.ord (lun / 8) (some r.loc) r.dest data (if step = 6 then 7 else step) (step == 7)

/-- ARRAY_READ_COMPLETE (R346 to R348, R357): the code word that a LUN was reading is transferred and decoded, ending at a
step of R347, and goes where it is wanted; step 6 is a reconstruction and step 7 an uncorrectable code word. -/
def execArrayReadComplete (lun step : Nat) (s : State) : Out := onDevice s fun s =>
  atUnit (lun < 1792 && step < 8) (onArrayReadComplete lun step s)

/-! ## Programs and erases -/

/-- The effect of PROGRAM_DATA_IN_END. -/
def onProgramDataInEnd (lun : Nat) (s : Device) : Device :=
  match (s.lun lun).job with
  | some (.program q _ slc) =>
    if s.lunState lun = 2 then
      (s.setLun lun { s.lun lun with since := s.now } 3).inc Reg.MEDIA_CH_BUS_NS (lun / 8)
        (busNs ((s.cwPlanes lun q).length * (if slc then 1 else 3) * 16896))
    else s
  | _ => s

/-- PROGRAM_DATA_IN_END (R345, R349, R382): the last page of the group is transferred and the program command is issued. -/
def execProgramDataInEnd (lun : Nat) (s : State) : Out := onDevice s fun s =>
  atUnit (lun < 1792) (onProgramDataInEnd lun s)

/-- A quad's erase has passed (R353, R369, R392 to R395): nothing stands in it, its blocks count the erase, and the superquad
is free once every member's erase has ended. -/
def Device.quadErased (s : Device) (nd q : Nat) (slc : Bool) : Device :=
  let ord := nd / 32; let t := nd % 32; let g := rainGroup ord
  let mins := (s.clock (mastIndex s.hubDie)).value / 60000000000 % 2 ^ 32
  let s := s.setFtl (fun f => { f with
    nand := f.nand.filter (fun e => !(e.1 / 2 ^ 32 == ord && locDie (e.1 % 2 ^ 32) == t && locQuad (e.1 % 2 ^ 32) == q)),
    filters := nset 0 f.filters (nd * 4096 + q) 0, quadPlanes := nset 0 f.quadPlanes (nd * 4096 + q) 0,
    secure := f.secure.map (fun r => { r with quads := r.quads.filter (fun k => k ≠ nd * 4096 + q) }),
    flagged := f.flagged.filter (fun b => !(b.1 == nd && b.2 / 4 == q)) })
  let s := (s.setNextWl nd q 0).setProgress nd q 0
  let s := (s.planes nd q).foldl (fun a p =>
    let e := a.ecRec nd (q * 4 + p)
    let e := if slc then setBits e 31 16 (min 65535 (bits e 31 16 + 1)) else setBits e 15 0 (min 65535 (bits e 15 0 + 1))
    let e := setBits (setBits (setBits (setBits (setBits e 39 32 0) 59 56 0) 63 60 (b2n slc)) 95 64 0) 127 96 mins
    let a : Device := { a with media := { a.media with
      flags := nset 0 a.media.flags (nd * 16384 + q * 4 + p) 0, raw := nset none a.media.raw (nd * 16384 + q * 4 + p) none } }
    a.ecChange nd (q * 4 + p) e) s
  let busy := s.ftl.erases.any (fun e => rainGroup (e.1 / 32) == g && e.1 % 32 == t && e.2.1 == q)
    || (s.members g).any (fun o => match (s.lun (nandDie o t)).job with
      | some (.erase q' _ _ _) => q' == q && nandDie o t != nd
      | _ => false)
    || (s.members g).any (fun o => (rangeFrom (q * 4) 4).any (fun b => (nget none s.media.raw (nandDie o t * 16384 + b)).isSome))
  let s := if busy then s else (s.setSquad g t q {}).showGroup g
  (s.gcCheck g).wearCheck g

/-- ERASE_CHECK (R353, R356, R399): the erase has ended; on FAIL the failing blocks retire with cause 2 and the quad runs on
with its other planes. -/
def Device.eraseCheck (s : Device) (lun : Nat) (ok : Bool) : Device :=
  match (s.lun lun).job with
  | some (.erase q slc ran _) =>
    if s.lunState lun ≠ 4 then s
    else
      let s := s.inc Reg.MEDIA_LUN_BUSY_NS lun (ran + (s.now - (s.lun lun).since))
      let s := (s.setLun lun {} 0).wrf Reg.MEDIA_LUN_STATUS lun 7 4 0
      let s := s.inc Reg.MEDIA_CH_ERASES (lun / 8) 1
      let s := if ok then s
        else (s.planes lun q).foldl (fun a p =>
          let e := a.ecRec lun (q * 4 + p)
          (a.ecChange lun (q * 4 + p) (setBits e 55 48 (min 255 (bits e 55 48 + 1)))).retire lun (q * 4 + p) 2)
          (s.inc Reg.MEDIA_ERASE_FAILS (lun / 32) 1)
      s.quadErased lun q slc
  | _ => s

/-- PROGRAM_CHECK up to what commands wait for (R349, R350, R352): status shows ready, and the group is DONE or FAIL. -/
def Device.programCheck (s : Device) (lun : Nat) (ok : Bool) : Device :=
  match (s.lun lun).job with
  | some (.program q wl slc) =>
    if s.lunState lun ≠ 3 then s
    else
      let s := s.inc Reg.MEDIA_LUN_BUSY_NS lun (s.now - (s.lun lun).since)
      let s := s.setLun lun {} 0
      if ok then s.groupDone lun q wl slc else s.groupFail lun q wl slc
  | _ => s

/-! ## Patrol and refresh -/

/-- The effect of PATROL_READ. -/
def onPatrolRead (lun quad plane step : Nat) (s : Device) : Device :=
  let pbn := quad * 4 + plane
  if !s.lunIdle lun || s.blkState lun pbn != 2 || !s.mayDispatch (lun / 8) 5 false false then s
  else
    let s := ((s.countDispatch (lun / 8) 5).readCounted lun pbn step).cwCounted (lun / 8) step
    if 2 ≤ step then s.inc Reg.MEDIA_PATROL_FLAGS (lun / 32) 1 else s

/-- PATROL_READ (R370): one code word of a word-line group of a closed block is read, and the block is flagged when the read
needed step 2 or later or READS reaches MEDIA_READ_DISTURB. -/
def execPatrolRead (lun quad plane step : Nat) (s : State) : Out := onDevice s fun s =>
  atUnit (lun < 1792 && quad < 3312 && plane < 4 && step < 8) (onPatrolRead lun quad plane step s)

/-- The effect of BLOCK_REFRESH. -/
def onBlockRefresh (lun quad plane : Nat) (s : Device) : Device :=
  if !s.ftl.flagged.contains (lun, quad * 4 + plane) then s
  else
    let s := s.setFtl (fun f => { f with flagged := f.flagged.erase (lun, quad * 4 + plane) })
    let mine := (s.quadCws lun quad).filter (fun x => (s.cwBlock lun x.1).1 == plane && s.cwValid (lun / 32) x.1 x.2
      && decide (x.2.kind ≤ 1))
    let s := mine.foldl (fun a x =>
      if a.bandBlock x.2.band then a.copyUnit (lun / 32) x.1 x.2
      else if x.2.unit % 64 = 0 ∨ !mine.any (fun y => y.2.band == x.2.band && y.2.unit / 64 == x.2.unit / 64
          && decide (y.2.unit < x.2.unit)) then
        ((s.quadCws lun quad).filter (fun y => y.2.band = x.2.band ∧ y.2.unit / 64 = x.2.unit / 64
          ∧ s.cwValid (lun / 32) y.1 y.2)).foldl (fun b y => b.copyUnit (lun / 32) y.1 y.2) a
      else a) s
    s.inc Reg.FTL_REFRESHES (lun / 32) 1

/-- BLOCK_REFRESH (R396): the valid data of a flagged block is relocated at class 3. -/
def execBlockRefresh (lun quad plane : Nat) (s : State) : Out := onDevice s fun s =>
  atUnit (lun < 1792 && quad < 3312 && plane < 4) (onBlockRefresh lun quad plane s)

/-! ## Raw access -/

/-- The NEXT_WL of a raw-pool block, if the block is in the pool (R360). -/
def Device.rawWl (s : Device) (nd pbn : Nat) : Option Nat := nget none s.media.raw (nd * 16384 + pbn)
def Device.setRawWl (s : Device) (nd pbn v : Nat) : Device :=
  { s with media := { s.media with raw := nset none s.media.raw (nd * 16384 + pbn) (some v) } }

/-- The place at which a code word of a raw-pool block is kept: by word line, plane, page part and code word (R341). -/
def rawLoc (nd pbn page cw : Nat) (slc : Bool) : Nat :=
  mkLoc (nd % 32) (pbn / 4)
    (if slc then page * 16 + pbn % 4 * 4 + cw else page / 3 * 48 + pbn % 4 * 12 + page % 3 * 4 + cw)

/-- Whether a block stands in SLC mode. -/
def Device.blkSlc (s : Device) (nd pbn : Nat) : Bool := bits (s.ecRec nd pbn) 63 60 == 1

/-- Bytes of a code word in the buffer of a raw operation: 4,096 with CODE, 4,224 without (R360). -/
def rawCw (slot : BitVec 512) : Nat := if bit (fld slot 17 1) 0 then 4096 else 4224

/-- The checks of a MEDIA_RAW in the order of R430 (R360): `pages` is how many pages its buffer holds. -/
def Device.rawCheck (s : Device) (ld : Nat) (slot : BitVec 512) (op pages : Nat) : Option (Nat × Nat) :=
  let nd := fld slot 18 2; let pbn := fld slot 20 2; let page := fld slot 22 2
  let slc := s.blkSlc nd pbn
  let wl := if slc then page else page / 3
  firstFail [
    (decide (nd < 1792) && decide (pbn < 13248) && (s.rawWl nd pbn).isNone, St.securityDenied),
    (decide (1792 ≤ nd) || decide (13248 ≤ pbn) || decide (4 ≤ fld slot 17 1) || fld slot 16 1 == 0 || decide (4 ≤ fld slot 16 1)
      || (op != 3 && (decide (384 ≤ wl) || !s.bufFits ⟨ld, none, fld slot 24 4 * 32⟩ (pages * 4 * rawCw slot)))
      || (op == 2 && ((!slc && page % 3 != 0) || (match s.rawWl nd pbn with | some n => decide (n < wl) | none => false))), St.invalidField)]

/-- A MEDIA_RAW command as one of a row's operation: the codes that R360 does not define stay (log entry 6). -/
def rawAs (c : Cmd) (op : Nat) : Cmd :=
  if 1 ≤ fld c.slot 16 1 ∧ fld c.slot 16 1 ≤ 3 ∧ fld c.slot 16 1 ≠ op then { c with slot := putFld c.slot 16 op } else c

/-- A MEDIA_RAW command of one operation (R360, R365): it is dispatched in class 5 once its LUN is idle; until then it has not run. -/
def rawCommand (s : Device) (c : Cmd) (op : Nat) (pages : Device → Nat) (body : Device → Nat → Device) : Effect :=
  let c := rawAs c op
  let nd := fld c.slot 18 2
  ryern s c 0x40 (bytesOf 28 63) true (fun s _ => s.rawCheck c.ld c.slot op (pages s)) (fun s n =>
    if (s.lun nd).job.isNone then body (s.countDispatch (nd / 8) 5) n
    else match s.cmd n with
      | some p => s.setCmd { p with ran := false }
      | none => s)

/-- The pages of a word line of the block that a slot names. -/
def rawPages (slot : BitVec 512) (s : Device) : Nat := if s.blkSlc (fld slot 18 2) (fld slot 20 2) then 1 else 3

/-- What a raw page reads as: what was programmed; of an erased page, or of code words in the other form, the medium gives
bytes that the spec does not state. -/
def Device.rawBytes (s : Device) (nd pbn page cw : Nat) (slc coded : Bool) : List Byte × Device :=
  let n := if coded then 4096 else 4224
  match s.stored (nd / 32) (rawLoc nd pbn page cw slc) with
  | some c => if c.data.length = n then (c.data, s) else let d := s.draw; (natLe n d.1, d.2)
  | none => let d := s.draw; (natLe n d.1, d.2)

/-- The effect of MEDIA_RAW_READ. -/
def runMediaRawRead (c : Cmd) (step : Nat) (s : Device) (n : Nat) : Device :=
  let nd := fld c.slot 18 2; let pbn := fld c.slot 20 2; let page := fld c.slot 22 2
  let coded := bit (fld c.slot 17 1) 0
  let bad := coded && decide (7 ≤ step)
  let r := (List.range 4).foldl (fun (acc : List Byte × Device) k =>
    let d := acc.2.rawBytes nd pbn page k (s.blkSlc nd pbn) (coded && !bad)
    (acc.1 ++ d.1, d.2)) ([], s)
  let s := r.2.windowWrite c.ld (fld c.slot 24 4 * 32) r.1 []
  let step := if coded then min step 7 else 0
  let reads := readsOf step
  let e := s.ecRec nd pbn
  let e := setBits (setBits e 95 64 (min (2 ^ 32 - 1) (bits e 95 64 + reads))) 59 56 (max (bits e 59 56) step)
  let s := ((s.setEc nd pbn e).inc Reg.MEDIA_LUN_BUSY_NS nd (reads * (if bits e 63 60 = 1 then 20000 else 45000))).inc Reg.MEDIA_CH_BUS_NS
    (nd / 8) (busNs 16896 * reads)
  let s := s.inc Reg.MEDIA_CH_READS (nd / 8) 4
  let s := if coded then s.inc (Reg.MEDIA_CH_DECODE + 4 * step) (nd / 8) 4 else s
  if bad then s.finish n St.mediaUncorrectable 0 else s.finish n St.ok 0

/-- MEDIA_RAW_READ (R360): one page; with CODE, step 7 leaves the raw code words and MEDIA_UNCORRECTABLE. -/
def execMediaRawRead (c : Cmd) (step : Nat) (s : State) : Out := onDevice s fun s =>
  rawCommand s c 1 (fun _ => 1) (runMediaRawRead c step)

/-- The effect of MEDIA_RAW_PROGRAM. -/
def runMediaRawProgram (c : Cmd) (fail : Bool) (s : Device) (n : Nat) : Device :=
  let nd := fld c.slot 18 2; let pbn := fld c.slot 20 2; let page := fld c.slot 22 2
  let slc := s.blkSlc nd pbn
  let wl := if slc then page else page / 3
  match s.rawWl nd pbn with
  | none => s
  | some next =>
    if wl < next then (s.inc Reg.MEDIA_NOT_ERASED (nd / 32) 1).finish n St.notErased 0
    else
      let w := rawCw c.slot
      let s := if fail then s else (List.range (rawPages c.slot s * 4)).foldl (fun a k =>
        let d := a.windowRead c.ld (fld c.slot 24 4 * 32 + k * w) w
        let at_ := nd / 32 * 2 ^ 32 + rawLoc nd pbn (page + k / 4) (k % 4) slc
        a.setFtl (fun f => { f with nand := nset none f.nand at_ (some ⟨d, 0x7FFFFFF, 0, 7, 0, 0⟩) })) s
      let e := s.ecRec nd pbn
      let s := if fail then (s.ecChange nd pbn (setBits e 47 40 (min 255 (bits e 47 40 + 1)))).inc Reg.MEDIA_PROG_FAILS (nd / 32) 1 else s
      let s := (s.inc Reg.MEDIA_CH_BUS_NS (nd / 8) (busNs (rawPages c.slot s * 16896))).inc Reg.MEDIA_LUN_BUSY_NS nd
        (if slc then 200000 else 1200000)
      (((s.setRawWl nd pbn (wl + 1)).inc Reg.MEDIA_CH_PROGRAMS (nd / 8) 1).inc Reg.FTL_NAND_BYTES 0 (rawPages c.slot s * 16384)).finish
        n St.ok (b2n fail)

/-- MEDIA_RAW_PROGRAM (R360, R361): one word line, at NEXT_WL only; result bit 0 is the NAND status. -/
def execMediaRawProgram (c : Cmd) (fail : Bool) (s : State) : Out := onDevice s fun s =>
  rawCommand s c 2 (rawPages c.slot) (runMediaRawProgram c fail)

/-- The effect of MEDIA_RAW_ERASE. -/
def runMediaRawErase (c : Cmd) (fail : Bool) (s : Device) (n : Nat) : Device :=
  let nd := fld c.slot 18 2; let pbn := fld c.slot 20 2
  let slc := bit (fld c.slot 17 1) 1
  let mins := (s.clock (mastIndex s.hubDie)).value / 60000000000 % 2 ^ 32
  let e := s.ecRec nd pbn
  let e := if slc then setBits e 31 16 (min 65535 (bits e 31 16 + 1)) else setBits e 15 0 (min 65535 (bits e 15 0 + 1))
  let e := setBits (setBits (setBits (setBits e 59 56 0) 63 60 (b2n slc)) 95 64 0) 127 96 mins
  let e := if fail then setBits e 55 48 (min 255 (bits e 55 48 + 1)) else e
  let s := if fail then s.inc Reg.MEDIA_ERASE_FAILS (nd / 32) 1 else s
  let s := s.setFtl (fun f => { f with nand := f.nand.filter (fun x => !(x.1 / 2 ^ 32 == nd / 32
    && locDie (x.1 % 2 ^ 32) == nd % 32 && locQuad (x.1 % 2 ^ 32) == pbn / 4
    && (if s.blkSlc nd pbn then locOff (x.1 % 2 ^ 32) % 16 / 4 else locOff (x.1 % 2 ^ 32) % 48 / 12) == pbn % 4)) })
  (((s.ecChange nd pbn e).setRawWl nd pbn 0).inc Reg.MEDIA_LUN_BUSY_NS nd 8000000).finish n St.ok (b2n fail)

/-- MEDIA_RAW_ERASE (R360): one block, in the mode chosen; NEXT_WL is 0 again. -/
def execMediaRawErase (c : Cmd) (fail : Bool) (s : State) : Out := onDevice s fun s =>
  rawCommand s c 3 (fun _ => 0) (runMediaRawErase c fail)

/-- A write of MEDIA_RAW_GRANT that grants (R359, R374): the quad must be erased and free; refused for capacity when the free
pool would fall below CRITICAL. Answers a status and the state. -/
def Device.quadGrant (s : Device) (ord v : Nat) : Nat × Device :=
  let t := v % 32; let q := bits v 16 5; let g := rainGroup ord; let nd := nandDie ord t
  let lent := s.rdf Reg.MEDIA_DIE_STATUS ord 4 2
  if 3312 ≤ q ∨ (s.squad g t q).st ≠ 0 ∨ !(rangeFrom (q * 4) 4).all (fun b => s.blkState nd b == 0) ∨ 4 ≤ lent then
    (St.invalidField, s)
  else if s.freeSquads g ≤ s.rdf Reg.FTL_GC_URGENT_CTL g 31 16 then (St.refusedCapacity, s)
  else
    let s := s.setSquad g t q { st := 5 }
    let s := (rangeFrom (q * 4) 4).foldl (fun a b => (a.ecChange nd b (setBits (a.ecRec nd b) 39 32 4)).setRawWl nd b 0) s
    (St.ok, (s.wrf Reg.MEDIA_DIE_STATUS ord 4 2 (lent + 1)).showGroup g)

/-- A write of MEDIA_RAW_GRANT that releases (R359): the quad is erased and returns to the FTL. -/
def Device.quadRelease (s : Device) (ord v : Nat) : Nat × Device :=
  let t := v % 32; let q := bits v 16 5; let nd := nandDie ord t
  if 3312 ≤ q ∨ (s.rawWl nd (q * 4)).isNone then (St.invalidField, s)
  else
    let s := s.setFtl (fun f => { f with erases := f.erases ++ [(nd, q, false)] })
    (St.ok, s.wrf Reg.MEDIA_DIE_STATUS ord 4 2 (s.rdf Reg.MEDIA_DIE_STATUS ord 4 2 - 1))

end Sys2Proof.Machine
end

