-- ==== Sys2Proof/Machine/Place.lean ====
section
/-! DEFINITION. The placement commands (R210 to R217): PLACE and UNPLACE. -/

namespace Sys2Proof.Machine

/-- The object that a PLACE describes (R193, R194, R210), on the in-service dies of its mask. -/
def placeObj (s : Device) (slot : BitVec 512) (n : Nat) : Obj :=
  { policy := fld slot 18 1, pin := bit (fld slot 19 1) 0,
    job := if bit (fld slot 19 1) 1 then some (fld slot 20 1 % 64) else none,
    window := fld slot 21 1, layers := fld slot 22 2, srcKind := fld slot 24 1, nsid := fld slot 25 1, hreg := fld slot 26 2,
    workset := fld slot 28 4, srcOffset := fld slot 32 8, layerBytes := fld slot 40 8, sliceBytes := fld slot 48 4,
    mask := fld slot 52 5, ords := s.maskOrds (fld slot 52 5), scratch := 0, slots := [], lastLayer := 0, layerHolds := [], wants := [], wantAt := [],
    placing := some n, teardown := none, flush := false, moved := [], lost := false }

/-- The field combinations that a policy accepts (R211). -/
def policyOk (o : Obj) : Bool :=
  if o.policy = 0 then (o.srcKind == 1 || o.srcKind == 2) && !o.pin && o.window == 0 && o.workset == 0 && o.layers == 1
      && decide (o.layerBytes ≤ 0x100000) && o.job.isSome
  else if o.policy = 1 then decide (o.srcKind ≤ 2) && (o.srcKind != 0 || o.pin) && o.window == 0 && o.workset == 0
  else if o.policy = 2 then o.srcKind == 1 && !o.pin && decide (2 ≤ o.window) && decide (o.window ≤ 16)
      && decide (o.window ≤ o.layers) && o.workset == 0
  else if o.policy = 3 then o.srcKind == 1 && !o.pin && o.window == 0
      && decide (2 * ceilDiv (min o.sliceBytes o.layerBytes) pageBytes ≤ o.workset)
  else if o.policy = 4 then o.srcKind == 2 && !o.pin && o.window == 0
      && decide (2 * ceilDiv (min o.sliceBytes o.layerBytes) pageBytes ≤ o.workset)
  else false

/-- The ranges of the fields of a PLACE (R210), and its reserved bits. -/
def placeFieldsOk (slot : BitVec 512) (o : Obj) : Bool :=
  fld slot 19 1 / 4 == 0 && (o.job.isNone || fld slot 20 1 / 64 == 0) && decide (1 ≤ o.layers) && decide (o.layers ≤ 4096)
    && o.srcOffset % 4096 == 0 && o.layerBytes % 32 == 0 && decide (32 ≤ o.layerBytes) && o.sliceBytes % 32 == 0
    && decide (32 ≤ o.sliceBytes) && decide (o.sliceBytes ≤ o.layerBytes) && decide (ceilDiv o.sliceBytes pageBytes ≤ 11264)

/-- The size of an object's source (R211). -/
def Device.sourceSize (s : Device) (ld : Nat) (o : Obj) : Nat :=
  if o.srcKind = 1 then (match s.ns o.nsid with | some x => x.size | none => 0)
  else if o.srcKind = 2 then (match s.hreg ld o.hreg with | some (_, len, _) => len | none => 0)
  else o.srcOffset + o.layers * o.layerBytes

/-- The pages that an object needs on each of its half-stacks for its quota. -/
def Obj.needs (o : Obj) : List (Nat × Nat) := (List.range o.ords.length).map (fun i => (o.ords.getD i 0, o.quota i))

/-- The start of the next PIN_SCRATCH object of a job (R197): directly below the lowest one. -/
def Device.scratchAt (s : Device) (j bytes : Nat) : Nat :=
  (s.tier.objs.foldl (fun a e => match e.2 with
    | some o => if o.policy = 0 ∧ o.job = some j then min a o.scratch else a
    | none => a) 0x300000) - bytes

/-- The checks of a PLACE in the order of R430 (R211, R212). -/
def Device.placeCheck (s : Device) (ld n : Nat) (slot : BitVec 512) (o : Obj) : Option (Nat × Nat) :=
  let key := objKey ld (fld slot 16 2)
  let job := o.job.getD 0
  firstFail [
    (o.srcKind == 1 && (s.nsFor n o.nsid).isNone, St.nsAbsent),
    ((o.srcKind == 1 && !(match s.ns o.nsid with | some x => x.accessible ld | none => true))
      || (o.srcKind == 2 && (s.hreg ld o.hreg).isNone)
      || (o.job.isSome && s.jobOpen job && s.jobOwner job != ld), St.notOwner),
    (!placeFieldsOk slot o || !policyOk o || (s.obj key).isSome
      || decide (s.sourceSize ld o < o.srcOffset + o.layers * o.layerBytes)
      || o.ords.isEmpty || (o.job.isSome && !s.jobOpen job), St.invalidField),
    (s.pinExceeds o.needs || decide (131072 ≤ s.rd Reg.TIER_OBJECTS 0)
      || (o.policy == 0 && (match s.job job with
          | some x => decide (0x100000 < x.scratch + o.layerBytes)
          | none => false)), St.refusedCapacity)]

/-- The slices of an unpinned DRAM object that its PLACE loads (R213): those that fit, half-stack by half-stack, into free
pages and the pages of evictable cached slices of other objects. -/
def Device.fittingSlices (s : Device) (key : Nat) (o : Obj) : List Nat :=
  let all := (List.range o.layers).flatMap (fun l => (List.range o.slicesPerLayer).map (sliceKey key l))
  let room := o.ords.map (fun h => (h, s.rd Reg.TIER_HS_FREE h / pageBytes +
    (s.tier.slices.map (fun e => match e.2 with
      | some x => if x.hs = h ∧ x.cached ∧ x.holds.isEmpty ∧ x.page.isSome then x.pages else 0
      | none => 0)).foldl (· + ·) 0))
  (all.foldl (fun (acc : List Nat × NMap Nat) k =>
    let h := o.home (sliceNo k)
    let used := nget 0 acc.2 h
    let p := o.pagesOf (sliceNo k)
    if used + p ≤ ((room.find? (fun r => r.1 = h)).map (·.2)).getD 0 then (acc.1 ++ [k], nset 0 acc.2 h (used + p)) else acc)
    ([], [])).1

/-- A slice of an object is entered and its load queued. -/
def Device.enterSlice (s : Device) (k : Nat) (o : Obj) : Device := (s.setSlice k (some (s.sliceOr k o))).queueLoad k o.job

/-- A slice with no source takes its pages and holds what stands in them. -/
def Device.adoptSlice (s : Device) (k : Nat) (o : Obj) : Device :=
  let x := s.sliceOr k o
  match s.placeSlice k o x o.job with
  | (true, t) => match t.slice k with
    | some y => t.setSlice k (some { y with loaded := y.bytes })
    | none => t
  | (false, t) => t.enterSlice k o

/-- A pinned slice takes its pages at PLACE, and its load is queued (R192, R196). -/
def Device.pinSlice (s : Device) (k : Nat) (o : Obj) : Device := (s.placeSlice k o (s.sliceOr k o) o.job).2.enterSlice k o

/-- A PIN_SCRATCH object goes into the partition's cores (R197): at once where none of the job's kernels runs, later
elsewhere. -/
def Device.placeScratch (s : Device) (key j : Nat) : Device :=
  match s.job j, s.obj key with
  | some x, some o =>
    let s := s.setJob j (some { x with scratch := x.scratch + o.layerBytes })
    let (now, later) := (x.cores.filter s.coreActive).partition (fun c => (s.task c).isNone)
    let s := now.foldl (fun a c => a.writeScratch key o c) s
    let s : Device := { s with work := { s.work with scratchDue := s.work.scratchDue ++ later.map (fun c => (c, key)) } }
    s.settlePlace key
  | _, _ => s

/-- The effect of an accepted PLACE (R196, R204, R213). -/
def Device.placeEffect (s : Device) (key : Nat) (o : Obj) : Device :=
  let o := if o.policy = 0 then { o with scratch := s.scratchAt (o.job.getD 0) o.layerBytes } else o
  let o := if o.policy = 2 then { o with slots := (List.range o.window).map (fun l => (l, false)), lastLayer := o.window - 1 } else o
  let s := s.setObj key (some o)
  let s := o.needs.foldl (fun a x =>
    (Device.shrinkCache 12288 (a.chargePinned x.1 x.2 o.job) x.1 o.job).setAside x.1 x.2 (o.sliceKind false) key) s
  if o.policy = 0 then s.placeScratch key (o.job.getD 0)
  else if o.policy = 1 then
    let ks := if o.pin then (List.range o.layers).flatMap (fun l => (List.range o.slicesPerLayer).map (sliceKey key l))
      else s.fittingSlices key o
    (ks.foldl (fun a k => if o.srcKind = 0 then a.adoptSlice k o else if o.pin then a.pinSlice k o else a.enterSlice k o) s).settlePlace key
  else if o.policy = 2 then
    ((List.range o.window).foldl (fun a l => a.loadLayer key o l) s).settlePlace key
  else s.settlePlace key

/-- The checks of PLACE. -/
def checkPlace (c : Cmd) (s : Device) (n : Nat) : Option (Nat × Nat) := s.placeCheck c.ld n c.slot (placeObj s c.slot n)

/-- A PLACE refused under R212 is counted (R218, R220): for want of capacity by the device, and each by the job that it names. -/
def notePlace (c : Cmd) (s : Device) (st : Nat) : Device :=
  let s := if st = St.refusedCapacity then s.inc Reg.TIER_REFUSED 0 1 else s
  match (placeObj s c.slot 0).job with
  | some j => if fld c.slot 20 1 < 64 ∧ (st = St.refusedCapacity ∨ st = St.nsAbsent ∨ st = St.notOwner) then s.inc Reg.TIER_JOB_REFUSED j 1 else s
  | none => s

/-- The effect of PLACE. -/
def runPlace (c : Cmd) (s : Device) (n : Nat) : Device :=
  s.placeEffect (objKey c.ld (fld c.slot 16 2)) (placeObj s c.slot n)

/-- PLACE (R210 to R213). -/
def execPlace (c : Cmd) (s : State) : Out := onDevice s fun s =>
  ryernNote s c 0x30 (bytesOf 57 63) false (checkPlace c) (notePlace c) (runPlace c)

/-- Whether a DISPATCH of the object's LD that was admitted before its UNPLACE has yet to resolve its slices (R214). -/
def Device.mayStillName (s : Device) (n key : Nat) : Bool :=
  !(s.earlierCmds n (fun q => fld q.slot 0 1 == 0x23 && q.ld == key / 65536 && (q.phase == .admitted || !q.ran))).isEmpty

/-- An object in teardown whose holds have ended (R214, R215): it is flushed if UNPLACE asked for it, released once the
data is on the medium, and the UNPLACE completes. -/
def Device.settleUnplace (s : Device) (key : Nat) : Device :=
  match s.obj key with
  | none => s
  | some o => match o.teardown with
    | none => s
    | some n =>
      if s.objHeld key || s.mayStillName n key then s
      else if o.flush then
        let s := s.setObj key (some { o with flush := false })
        s.tier.slices.foldl (fun a e => match e.2 with
          | some x => if sliceObj e.1 = key ∧ x.page.isSome then
              a.nsWrite o.nsid (o.sourceOf e.1) (a.readMem 5 x.hs (x.page.getD 0 * pageBytes) x.bytes) (some n) 0 else a
          | none => a) s
      else if s.writesOpen n then s
      else
        let s := match o.job, (o.job.bind s.job) with
          | some j, some x => if o.policy = 0 then s.setJob j (some { x with scratch := x.scratch - o.layerBytes }) else s
          | _, _ => s
        (s.releaseObj key).finish n St.ok 0

/-- The checks of UNPLACE. -/
def checkUnplace (c : Cmd) (s : Device) (_n : Nat) : Option (Nat × Nat) :=
  let key := objKey c.ld (fld c.slot 16 2)
  let flush := bit (fld c.slot 18 1) 0
  firstFail [(fld c.slot 18 1 / 2 != 0 || (match s.obj key with
    | none => true
    | some o => o.teardown.isSome || (flush && !(o.policy == 1 && o.pin && o.srcKind == 1)))
    || s.tkl.shards.any (fun e => match e.2 with
      | some x => x.ld == c.ld && x.objs.contains (fld c.slot 16 2)
      | none => false), St.invalidField)]

/-- The effect of UNPLACE. -/
def runUnplace (c : Cmd) (s : Device) (n : Nat) : Device :=
  let key := objKey c.ld (fld c.slot 16 2)
  match s.obj key with
  | some o => (s.setObj key (some { o with teardown := some n, flush := bit (fld c.slot 18 1) 0 })).settleUnplace key
  | none => s

/-- UNPLACE (R214, R215, R258): an absent object, one in teardown, one of an open shard, or a FLUSH that does not apply
is INVALID_FIELD; otherwise its teardown starts. -/
def execUnplace (c : Cmd) (s : State) : Out := onDevice s fun s =>
  ryern s c 0x31 (bytesOf 19 63) false (checkUnplace c) (runUnplace c)

end Sys2Proof.Machine
end

