-- ==== Sys2Proof/Machine/Plane.lean ====
section
/-! DEFINITION. The compute-plane reset (R25 to R27, R247 to R250, R473, R601): what it loses, what it resets, and what it
loads again. -/

namespace Sys2Proof.Machine

/-- Whether a command carries compute work (R601). -/
def Device.computeWork (s : Device) (p : Pending) : Bool :=
  let op := fld p.slot 0 1
  p.open_ &&
    (op == 0x23 || op == 0x2C || op == 0x34
      || (op == 0x2D && !(match s.embCmd p.n with | some c => c.phase == 3 | none => false))
      || (op == 0x37 && !(match s.srchH (fld p.slot 16 1) with | some h => h.folding == some p.n && h.applying | none => false))
      || ((op == 0x27 || op == 0x28) && (match s.red (fld p.slot 17 1) with | some r => r.phase == 1 | none => false)))

/-- The status of a lost command (R248): of the faulting job by the fault's cause, JOB_LOST for every other. -/
def lostStatus (fault : Option (Nat × Nat)) (job : Option Nat) : Nat :=
  match fault with
  | some (j, cause) =>
    if job = some j then (if cause = 2 then St.retryExhausted else if cause = 3 then St.poisonConsumed else St.jobLost)
    else St.jobLost
  | none => St.jobLost

/-- What kernels wrote into HOST slices is not written back (R216). -/
def Device.forgetWrites (s : Device) : Device :=
  { s with tier := { s.tier with slices := s.tier.slices.map (fun (e : Nat × Option Slice) =>
      (e.1, e.2.map (fun (x : Slice) => { x with dirty := false }))) } }

/-- Every command that carries compute work completes (R248), and its holds end (R216); each job with one counts a lost reset. -/
def Device.loseCommands (s : Device) (fault : Option (Nat × Nat)) : Device :=
  let lost := s.cmds.filter s.computeWork
  let jobs := (lost.filterMap (fun p => s.cmdJob p.slot)).eraseDups
  let s := lost.foldl (fun a p => a.finish p.n (lostStatus fault (s.cmdJob p.slot)) 0) s
  let s := lost.foldl (fun a p => (a.endSliceHolds p.n).endLayerHolds p.n) s.forgetWrites
  jobs.foldl (fun a j => a.inc Reg.JOB_LOST_COUNT j 1) s

/-- Accumulating reductions are abandoned (R286); one whose REDUCE_COMMIT was lost frees its ID. -/
def Device.loseReductions (s : Device) : Device :=
  let s := s.tkl.reds.foldl (fun a e => match a.red e.1 with
    | some r =>
      if r.phase = 1 then
        let a := a.abandonRed e.1 { r with commit := none, rankDone := [] }
        if r.commit.isSome then (a.setRed e.1 none).wr Reg.TKL_RED_STATUS e.1 0 else a
      else a
    | none => a) s
  { s with tkl := { s.tkl with ctxs := [], contribs := [] } }

/-- The coordinators' work is lost: GATHERs and EMB_UPDATEs before their apply phase with every row cache, queries, side
batches, bitmap builds, requests of the search ports, and folds before their apply phase (R294, R310, R336). -/
def Device.loseCoordinators (s : Device) : Device :=
  let s : Device := { s with emb := { s.emb with
    cmds := s.emb.cmds.filter (fun c => c.phase = 3), rounds := [],
    handles := s.emb.handles.map (fun e => (e.1, e.2.map (fun h => { h with caches := [] }))) } }
  let keep := fun (h : SrchHandle) =>
    let bitmaps : NMap (Option Bitmap) := (h.bitmaps.map (fun (b : Nat × Option Bitmap) =>
      (b.1, b.2.map (fun m => { m with users := [] })))).filter (fun b => match b.2 with
        | some m => !m.building
        | none => false)
    if h.applying then { h with bitmaps, batch := [] }
    else { h with bitmaps, batch := [], folding := none, foldReady := false,
                  mutating := h.mutating.filter (fun n => h.folding ≠ some n) }
  let s : Device := { s with srch := { s.srch with
    cmds := [], queries := [], sideBatches := [], ports := [],
    handles := s.srch.handles.map (fun e => (e.1, e.2.map keep)) } }
  let s := (s.showEmb).showPairs
  s.srch.handles.foldl (fun a e => a.showSrch e.1) s

/-- Open batches, queued and running tasks and routing positions are lost, and turn pointers reset (R249); the spells that they cut
short count (R246). -/
def Device.loseTasks (s : Device) : Device :=
  let s := (List.range 64).foldl (fun a j => a.countOpen j) s
  let s : Device := { s with work := { s.work with
    disps := [], batches := [], queue := [], tasks := [], idleFrom := [], scratchDue := [], slotFrom := [], turnOrder := 0, turnLeft := 0,
    jobs := s.work.jobs.map (fun e => (e.1, e.2.map (fun x => { x with turns := [], loaded := [] }))) } }
  (List.range 64).foldl (fun a j =>
    if a.jobState j = 0 then a
    else (a.wrf Reg.JOB_STATUS j 7 6 0).wr Reg.JOB_DISPATCH_OPEN j 0) s

/-- Loads under way through the staging buffers are abandoned, and their slices start again (R216). -/
def Device.loseLoads (s : Device) : Device :=
  let s : Device := { s with tier := { s.tier with landing := [] } }
  let s := s.dropReads (fun d => match d with | .landing .. => true | _ => false)
  s.tier.loads.foldl (fun a l => match a.slice l.slice with
    | some x => a.setSlice l.slice (some { x with loaded := 0 })
    | none => a) s

/-- Whether a packet is for a compute-plane unit. -/
def toCompute (p : Packet) : Bool := unitCompute p.dstDie p.dstUnit

/-- Packets under way to compute-plane units are discarded, and answered where they come from the storage plane (R57). -/
def Device.losePackets (s : Device) : Device :=
  ((s.net.filter toCompute).foldl (fun a p => a.discard p.dstDie p 5 true) (s.dropNet toCompute)).dropNet toCompute

/-- Every hold buffer discards the writes it holds and those that wait to enter; the reads that waited on them are answered (R26, R170,
R178). -/
def Device.loseHolds (s : Device) : Device :=
  s.holds.foldl (fun a e =>
    ((a.setHold e.1 { held := [], waiting := e.2.waiting.filter (fun w => w.pkt.typ == 2) }).answerWaiting e.1).setHold e.1 {}) s

/-- The engines that were retired stay so (R182): ENG_STATUS, CORE_INFO and CORE_ENG_MAP go on showing it. -/
def Device.keepRetired (s old : Device) : Device :=
  (old.regs.filter (fun e => e.1 / 2 ^ 24 = 3 ∧ e.1 % 2 ^ 12 = Reg.ENG_STATUS % 2 ^ 12)).foldl (fun a e =>
    let g := e.1 / 2 ^ 12 % 2 ^ 12
    if old.rdf Reg.ENG_STATUS g 11 11 = 1 then
      let a := a.wrf Reg.ENG_STATUS g 11 11 1
      let a := a.wrf Reg.CORE_INFO (g / 4) (12 + g % 4) (12 + g % 4) 0
      a.wr Reg.CORE_ENG_MAP (g / 4) (mapAround (a.rdf Reg.CORE_INFO (g / 4) 15 12) (a.rd Reg.CORE_ENG_MAP (g / 4)))
    else a) s

/-- The registers of the compute plane return to their reset values but for RWS fields (R4, R26); the fence, the
rotation and the retired engines of a core stay (R118, R182, R547). -/
def Device.resetRegs (s : Device) : Device :=
  let old := s
  let stays := fun (addr : Nat) => match regAt addr with
    | some (t, r, _) => !t.compute || r.access == .rws
    | none => true
  let s : Device := { s with regs := s.regs.filter (fun e => stays e.1) }
  let s := (old.regs.filter (fun e => e.1 / 2 ^ 24 = 2 ∧ e.1 % 2 ^ 12 = 4 % 2 ^ 12)).foldl (fun a e =>
    let c := e.1 / 2 ^ 12 % 2 ^ 12
    let st := old.rdf Reg.CORE_STATE c 2 0
    if st = 0 then a.wr Reg.CORE_STATE c (old.rd Reg.CORE_STATE c) else if st = 4 then a.wr Reg.CORE_STATE c 4 else a) s
  s.keepRetired old

/-- The blocks of the compute plane return to their reset state, and its memories are filled (R26, R464, R473). What
the lane tests found of an engine's regions stays. -/
def Device.resetBlocks (s : Device) : Device :=
  let cpl := fun (code : Nat) => decide (code ≤ 4) || code == 9
  let engines : NMap Engine := (s.engines.map (fun (e : Nat × Engine) =>
    (e.1, e.2.blank))).filter (fun e => e.2 ≠ {})
  { s with
    cores := [], engines,
    mem := { s.mem with
      scrubs := s.mem.scrubs.filter (fun e => match e.2 with | some (t, _) => !cpl t | none => false),
      bytes := s.mem.bytes.filter (fun e => !cpl (e.1 / 2 ^ 52)),
      poison := s.mem.poison.filter (fun e => !cpl (e.1 * 16 / 2 ^ 52)),
      merge := s.mem.merge.filter (fun m => !cpl m.mem) } }

/-- Kernel images and PIN_SCRATCH objects go back into the active cores of every open job (R197, R223, R247). -/
def Device.reload (s : Device) : Device :=
  (List.range 64).foldl (fun a j => match a.job j with
    | some x =>
      let cores := x.cores.filter a.coreActive
      cores.foldl (fun b c => b.loadScratch j c) (a.loadImage j cores)
    | none => a) s

/-- The memories of the cores are filled (R473): MEM_CORE_STATUS.FILLED. -/
def Device.showFill (s : Device) : Device :=
  (List.range 400).foldl (fun a c => if a.fenced (coreDie c) then a else a.wrf Reg.MEM_CORE_STATUS c 0 0 1) s

/-- What the compute plane holds is lost (steps 3 to 5 of R247): it is out of service. -/
def Device.losePlane (s : Device) (fault : Option (Nat × Nat)) : Device :=
  let s := s.wrf Reg.JOB_DEV_STATUS 0 0 0 1
  let s : Device := { s with work := { s.work with resetAt := s.now, resetFaults := [] }, faults := [] }
  let s := (s.loseCommands fault).loseReductions
  let s := (s.loseCoordinators.loseTasks).loseLoads
  s.loseHolds.losePackets.resetRegs.resetBlocks

/-- A compute-plane reset begins (steps 2 to 7 of R247): `fault` is the job and cause of the job fault, if one began
it. The hints of SYNC HINTs end with their kernels (R507). A PLACE whose object was being written into cores is held for reason 4
(R601). When the reset ends, at most 40 ms from now, is a free value (log entry 170). -/
def Device.planeDown (s : Device) (fault : Option (Nat × Nat)) : Device :=
  let loading := s.tier.objs.filterMap (fun e => e.2.bind (fun o => if o.policy = 0 then o.placing else none))
  let s := ((s.inc Reg.JOB_RESETS 0 1).raiseAll 1).losePlane fault
  let s := s.setPwr (fun p => { p with hints := p.hints.filter (fun h => !h.sync) })
  let d := (loading.foldl (fun a n => a.hold n 4) s.reload).draw
  { d.2 with work := { d.2.work with resetEnd := d.2.now + d.1 % 40000001 } }

/-- The compute plane is back in service (step 8 of R247): INT_CAUSE.CP_READY (R421). What kernels sent unverified before the reset and
has not arrived yet is gone (log entry 169), and a PIN_SCRATCH PLACE that was held completes (R601). -/
def Device.planeUp (s : Device) : Device :=
  let s := s.wr Reg.JOB_LAST_RESET_US 0 ((s.now - s.work.resetAt) / 1000 % 2 ^ 32)
  let s := ((s.wrf Reg.JOB_DEV_STATUS 0 0 0 0).raiseAll 2).dropNet (fun p => p.spec)
  s.tier.objs.foldl (fun a e => match e.2 with
    | some o => if o.policy = 0 then a.settlePlace e.1 else a
    | none => a) s

/-- Whether a compute-plane reset has come to its last step (R247, R511): its time has passed, and no trip lasts. -/
def Device.resetOver (s : Device) : Bool := s.resetting && decide (s.work.resetEnd ≤ s.now) && s.rdf Reg.PWR_STATUS 0 6 6 == 0

/-- The job of a fault, reported for a core or, from 512 on, for a job. -/
def Device.faultJob (s : Device) (f : Nat × Nat) : Option Nat :=
  if f.1 < 400 then s.coreJob f.1 else if 512 ≤ f.1 ∧ f.1 < 576 then some (f.1 - 512) else none

/-- JOB_LAST_FAULT names a fault (R254). -/
def Device.lastFault (s : Device) (f : Nat × Nat) : Device :=
  let job := s.faultJob f
  s.wr Reg.JOB_LAST_FAULT 0 (job.getD 0 + b2n job.isSome * 2 ^ 6 + f.2 * 2 ^ 7 + (if f.1 < 400 then f.1 else 0x1FF) * 2 ^ 10)

/-- A fault that comes during a reset is absorbed (R250): a log record, whose type the spec does not give, names it. -/
def Device.absorbFault (s : Device) (f : Nat × Nat) : Device :=
  let d := s.draw
  d.2.record (d.1 % 65536) (natLe 2 f.1 ++ natLe 1 ((s.faultJob f).getD 0) ++ natLe 1 f.2 ++ natLe 12 0) (s.jobViewer (s.faultJob f))

/-- The job faults reported in a step are answered (R247): the first begins a reset of the compute plane, the others, and any during
a reset, are absorbed. -/
def Device.settleFaults (s : Device) : Device :=
  match s.faults with
  | [] => s
  | f :: rest =>
    if s.resetting then (f :: rest).foldl (fun a g => a.absorbFault g) { s with faults := [] }
    else
      let s := rest.foldl (fun a g => a.absorbFault g) s
      let job := s.faultJob f
      (s.lastFault f).planeDown (job.map (fun j => (j, f.2)))

end Sys2Proof.Machine
end

