-- ==== Sys2Proof/Machine/Seq.lean ====
section
/-! DEFINITION. What the sequencer of a core executes itself (R109, R112, R113, R163): the SYNC instructions, and how one that waits
goes on. -/

namespace Sys2Proof.Machine

/-- A SYNC instruction has been executed; its trailer posts (R99). -/
def Device.hintEffect (s : Device) (c : Nat) (i : Word128) : Device :=
  let cores := if ifld i 114 114 = 0 then [c] else match s.coreJob c with
    | some j => match s.job j with
      | some x => x.cores.filter (fun d => coreDie d = coreDie c ∧ s.coreActive d)
      | none => []
    | none => []
  (s.takeHint cores true (i.toNat / 2 ^ 32 % 2 ^ 88)).postTrailer c i

/-- The action of a CKPT (R112, R113): the current epoch closes; the next opens when the limit allows. -/
def Device.ckptEffect (s : Device) (c : Nat) (i : Word128) : Device :=
  let s := s.closeEpoch c
  (s.setCore c { s.core c with ckptWait := some i }).resumeCkpt c

/-- When the last open epoch of a core that has reached END has committed, its kernel has ended (R109, R174). -/
def Device.endIfDone (s : Device) (c : Nat) : Device :=
  let k := s.core c
  match k.ending with
  | some i =>
    if k.epochs.isEmpty then ((s.setCore c { k with ending := none, ended := true }).endSyncHints c).postTrailer c i else s
  | none => s

/-- The action of END (R109, R163). -/
def Device.endEffect (s : Device) (c : Nat) (i : Word128) : Device :=
  let s := s.closeEpoch c
  (s.setCore c { s.core c with ending := some i }).endIfDone c

/-- The action of POST (R109): COUNT is added to semaphore SEM. -/
def Device.postEffect (s : Device) (c : Nat) (i : Word128) : Device :=
  (s.postSem c (ifld i 119 115) (ifld i 114 99) i 6).postTrailer c i

/-- The action of a SYNC instruction, by its OP (R109). -/
def Device.syncEffect (s : Device) (c : Nat) (i : Word128) : Device :=
  let op := ifld i 123 120
  if op = 1 then s.ckptEffect c i
  else if op = 2 then s.postTrailer c i
  else if op = 3 then s.postEffect c i
  else if op = 4 then s.hintEffect c i
  else s.endEffect c i

/-- Whether a SYNC instruction waits until every earlier unit instruction has completed (R109, R112): CKPT, FENCE and END. -/
def syncDrains (i : Word128) : Bool := ifld i 123 120 != 3 && ifld i 123 120 != 4

/-- The SYNC that the sequencer waits at is executed once its trailer wait is met and, where it says so, every earlier unit instruction
has completed (R109); CORE_SEQ_WAIT counts a wait on its semaphore (log entry 158). -/
def Device.resumeSync (s : Device) (c : Nat) : Device :=
  let k := s.core c
  match k.atSync with
  | none => s
  | some i =>
    if s.faulted c || s.halted c then s
    else if !s.waitMet c i then s.inc Reg.CORE_SEQ_WAIT c 1
    else if syncDrains i && !k.board.isEmpty then s
    else ((s.setCore c { k with atSync := none }).takeSem c i).syncEffect c i

/-- The sequencer comes to a SYNC instruction (R97, R109, R111): a malformed one is an instruction fault; while the sequencer stands
still at another, this one is not reached. What ends its row executes it when it can (`settleCore`). -/
def Device.runSync (s : Device) (c : Nat) (i : Word128) : Device :=
  if s.faulted c then s
  else match malformed i with
    | some cause => s.instrFault c cause i 6
    | none =>
      if (s.core c).atSync = some i then s
      else if s.seqWaits c then s.inc Reg.CORE_SEQ_WAIT c 1
      else s.setCore c { s.core c with atSync := some i }

/-- A core told to halt reads STATE 3 once its queued unit instructions have completed (R575). -/
def Device.settleHalt (s : Device) (c : Nat) : Device :=
  let k := s.core c
  if k.halting && k.board.isEmpty then (s.setCore c { k with halting := false }).wrf Reg.CORE_STATE c 2 0 3 else s

/-- The instruction of a core that waits goes on if it can, a halt comes to its end, and a job fault is answered (R247). -/
def Device.settleCore (s : Device) (c : Nat) : Device := ((s.resumeSync c).settleHalt c).settleFaults

end Sys2Proof.Machine
end

