-- ==== Sys2Proof/Machine/Settle.lean ====
section
/-! DEFINITION. What waiting commands do when something they wait for may have ended. -/

namespace Sys2Proof.Machine

/-- A command whose meaning has run and that has not ended goes on if it can. -/
def Device.settleCmd (s : Device) (p : Pending) : Device :=
  let slot := p.slot
  let op := fld slot 0 1
  if p.phase ≠ .started ∨ !p.ran then s
  else if op = 0x02 then s.settleWrite p.n
  else if op = 0x03 then s.settleDiscard p.n
  else if op = 0x09 then s.settleNsDelete p.n
  else if op = 0x0A then s.settleNsFormat p.n
  else if op = 0x21 then s.settleClose (fld slot 16 1)
  else if op = 0x22 then s.settleRoute p.n
  else if op = 0x25 then s.settleShard (fld slot 17 1)
  else if op = 0x27 then s.settleRank p.n
  else if op = 0x28 then s.settleCommit (fld slot 17 1)
  else if op = 0x29 then s.settleCkpt p.n
  else if op = 0x2B then s.settleEmbClose (fld slot 17 1)
  else if op = 0x2D then s.settleEmb p.n
  else if op = 0x31 then s.settleUnplace (objKey p.ld (fld slot 16 2))
  else if op = 0x33 then s.settleSrchClose (fld slot 16 1)
  else if op = 0x35 ∨ op = 0x36 then s.settleVec p.n
  else if op = 0x37 then s.settleFold p.n
  else s

/-- Every waiting command goes on if it can, in the order of the pipeline. -/
def Device.settleAll (s : Device) : Device :=
  (s.cmds.foldl (fun a p => match a.cmd p.n with | some q => a.settleCmd q | none => a) s).settleFaults

/-- One ns of the gather units and update engines, as their busy times count it (R287, R312): those that some command under way has rows
on, and those of a reduction in its update phase. -/
def Device.tickUnits (s : Device) : Device :=
  let gather := ((s.emb.cmds.filter (fun c => c.phase ≤ 2 && !s.resetting)).flatMap (fun c =>
    c.rowList.map (fun r => c.dies.getD (rowUnit c.dies.length r) 0))).eraseDups
  let update := (s.tkl.reds.flatMap (fun e => match e.2 with
    | some r => if r.phase = 2 then r.adders else []
    | none => [])).eraseDups
  update.foldl (fun a o => a.inc Reg.TKL_UE_BUSY_NS o 1) (gather.foldl (fun a o => a.inc Reg.EMB_GU_BUSY_NS o 1) s)

/-- One ns (log entry 1): the clocks and routers go on (R30), the adders add (R273, R278), busy times count, and a compute-plane reset
whose time has passed ends (R247). -/
def Device.tick (s : Device) : Device :=
  if 2 ≤ s.sled.stage then s
  else
    let s := s.tickNet.tickAdders.tickUnits
    if s.resetOver then s.planeUp.settleAll else s

end Sys2Proof.Machine
end

