-- ==== Sys2Proof/Machine/Eject.lean ====
section
/-! DEFINITION. How a unit receives a packet (R42, R43, R46, R57): what every packet row shares. -/

namespace Sys2Proof.Machine

/-- What follows the effect of a packet: the core that took it goes on, and a job fault is answered (R109, R247). -/
def Device.afterPacket (s : Device) (p : Packet) : Device :=
  if dieKind p.dstDie = 1 ∧ p.dstUnit ≤ 9 then s.settleCore (unitCore p.dstDie p.dstUnit) else s.settleFaults

/-- A packet of a type reaches its unit: it leaves the fabric once its flits have arrived and those before it have landed (R52); the
local port discards it when its VC or LEN is not allowed, the die lacks the unit, a write lies outside the exchange bank, or the unit is in
reset (R42, R43, R46, R57); otherwise `body` is its effect. The row gives the TYPE: its field in the operand is not read (log entry 6). -/
def packetRow (typ : Nat) (p : Packet) (s : Device) (body : Packet → Device → Device) : Effect :=
  let p := { p with typ }
  if ¬(p.dstDie < 100 ∧ p.srcDie < 100 ∧ p.job < 64) then .refused .noSuchUnit
  else if !s.mayLand p then .next s
  else
    let s := s.receive p
    match s.ejectCause p.dstDie p with
    | some c => .next (s.discard p.dstDie p c (c ≠ 2))
    | none => .next ((body p s).afterPacket p)

/-- A unit that takes no packets of a type discards one like a unit that is absent (log entry 13). -/
def Device.wrongUnit (s : Device) (p : Packet) : Device := s.discard p.dstDie p 3 true

end Sys2Proof.Machine
end

