-- ==== Sys2Proof/Machine/Ftl.lean ====
section
/-! DEFINITION. The events of flash translation (chapter 12) and the two status checks of chapter 11 that it answers:
PROGRAM_CHECK, ERASE_CHECK, the journal, transactions, the stream flush, the erase of a victim, and recovery. -/

namespace Sys2Proof.Machine

/-- PROGRAM_CHECK (R349 to R352, R380 to R392, R397): what the program held is known from the write buffer. -/
def execProgramCheck (lun : Nat) (ok : Bool) (_cws : List GroupCw) (s : State) : Out := onDevice s fun s =>
  atUnit (lun < 1792) ((s.programCheck lun ok).settleAll)

/-- ERASE_CHECK (R353, R356, R392 to R395, R399, R404). -/
def execEraseCheck (lun : Nat) (ok : Bool) (s : State) : Out := onDevice s fun s =>
  atUnit (lun < 1792) ((s.eraseCheck lun ok).settleAll)

/-! ## The journal -/

/-- The 32 bytes of a journal record (R388). -/
def JRec.bytes (r : JRec) : List Byte :=
  natLe 8 r.wsn ++ natLe 1 r.typ ++ natLe 1 r.flags ++ natLe 6 r.txn ++ (r.payload ++ List.replicate (16 - r.payload.length) 0).take 16

/-- Two copies of a system code word enter the write buffer; each names the WSN of the first (R383, R388). -/
def Device.bufferTwice (s : Device) (ord band kind : Nat) (data : List Byte) : Device :=
  let w := s.rd Reg.FTL_WSN ord
  let d := data ++ List.replicate (cwBytes - data.length) 0
  (s.bufferCw ord band 0 kind 0 d none 0 (some w) none true).bufferCw ord band 0 kind 0 d none 0 (some w) none true

/-- The content of a map page (R379): one block band, or 64 extent bands. -/
def Device.mapPage (s : Device) (band : Nat) : List Byte :=
  if s.bandBlock band then (List.range 1024).flatMap (fun u => natLe 4 (nget ({} : MapEntry) s.ftl.map (band * 1024 + u)).loc)
  else (List.range 64).flatMap (fun b => (List.range 16).flatMap (fun e =>
    natLe 4 (nget ({} : MapEntry) s.ftl.map ((band / 64 * 64 + b) * 1024 + e * 64)).loc))

/-- The map pages of an ordinal, by page number: the band of a block page, the first of 64 bands of an extent page. -/
def Device.mapPages (s : Device) (ord : Nat) : List Nat :=
  (((s.ftl.map.map (fun e => e.1 / 1024)).filter (fun b => s.bandOrd b == ord)).map (fun b =>
    if s.bandBlock b then b else b / 64 * 64)).eraseDups

/-- Whether a map page is dirty (R390): its newest copy on the medium is not what the map holds. -/
def Device.pageDirty (s : Device) (ord band : Nat) : Bool :=
  match (nget (0, []) s.ftl.pageAt (ord * 2 ^ 27 + band)).2.head?.bind (s.stored ord) with
  | some c => c.data != s.mapPage band
  | none => true

/-- A checkpoint cycle starts (R390): the dirty map pages are written. -/
def Device.startCycle (s : Device) (ord : Nat) : Device :=
  let w := s.rd Reg.FTL_WSN ord
  let s := s.setFtl (fun f => { f with cycle := nset none f.cycle ord (some (w, false)) })
  ((s.mapPages ord).filter (s.pageDirty ord)).foldl (fun a b => a.bufferTwice ord b 5 (a.mapPage b)) s

/-- The directory of a cycle (R390): every map page of the ordinal and its location; its form is open (log entry 186). -/
def Device.directory (s : Device) (ord : Nat) : List Byte :=
  (s.mapPages ord).flatMap (fun b => natLe 4 b ++ natLe 4 ((nget (0, []) s.ftl.pageAt (ord * 2 ^ 27 + b)).2.headD unmapped))

/-- A checkpoint cycle goes on (R388, R390): with its map pages on the medium the directory is written; with that there too the cycle
ends with CKPT_MARK. -/
def Device.endCycle (s : Device) (ord : Nat) : Device :=
  match nget none s.ftl.cycle ord with
  | none => s
  | some (w, dirOut) =>
    if s.ftl.buf.any (fun b => b.ord == ord && b.cw.kind == 5 && !b.done) then s
    else if !dirOut then
      let d := s.directory ord
      (List.range (max 1 (ceilDiv d.length cwBytes))).foldl (fun a i => a.bufferTwice ord dirPage 5 ((d.drop (i * cwBytes)).take cwBytes))
        (s.setFtl (fun f => { f with cycle := nset none f.cycle ord (some (w, true)) }))
    else
      let dir := s.ftl.nand.findSome? (fun e => match e.2 with
        | some c => if e.1 / 2 ^ 32 = ord ∧ c.kind = 5 ∧ c.band = dirPage ∧ w ≤ c.wsn then some (e.1 % 2 ^ 32) else none
        | none => none)
      (s.setFtl (fun f => { f with cycle := nset none f.cycle ord none })).journal ord 14 none (natLe 8 w ++ natLe 4 (dir.getD 0)) 0 none

/-- The effect of JOURNAL_PAGE_CLOSE. -/
def onJournalPageClose (ord : Nat) (s : Device) : Device :=
  let s := s.endCycle ord
  let new := ((nget [] s.ftl.journal ord).filter (fun r => r.page.isNone)).take 128
  let s := if new.isEmpty then s
    else
      let w := s.rd Reg.FTL_WSN ord
      let s := s.setFtl (fun f => { f with journal := nset [] f.journal ord ((nget [] f.journal ord).map (fun (r : JRec) =>
        if new.any (fun x => x.n == r.n) then { r with page := some w } else r)) })
      s.bufferTwice ord 0x7FFFFFF 4 (new.flatMap JRec.bytes)
  if (nget none s.ftl.cycle ord).isNone ∧ s.rdf Reg.FTL_JRNL_MAX 0 15 0 * 2 ^ 20 < 2 * s.rd Reg.FTL_JRNL_RETAINED ord then s.startCycle ord
  else s

/-- JOURNAL_PAGE_CLOSE (R388, R390): up to 128 records become a journal page, written twice; a checkpoint cycle ends or
starts when it is due. -/
def execJournalPageClose (ord : Nat) (s : State) : Out := onDevice s fun s =>
  atUnit (ord < 56) (onJournalPageClose ord s)

/-- Whether the MAP_SET of a code word of KIND 0 is durable (R389). -/
def Device.setDurable (s : Device) (ord loc : Nat) (c : CodeWord) : Bool :=
  c.kind ≠ 0 || !s.cwValid ord loc c ||
    (let e := nget ({} : MapEntry) s.ftl.durable (s.mapKey c.band c.unit)
     e.loc == (s.mapAt c.band c.unit).loc)

/-- The effect of QUAD_PROGRESS. -/
def onQuadProgress (ord die quad wls : Nat) (s : Device) : Device :=
  let nd := nandDie ord die
  let x := s.squad (rainGroup ord) die quad
  let n := max 1 (s.groupCws nd quad x.slc)
  if x.st ≠ 1 ∨ s.progress nd quad < wls
      ∨ (s.quadCws nd quad).any (fun c => decide (locOff c.1 / n < wls) && !s.setDurable ord c.1 c.2) then s
  else s.journal ord 4 none (jQuad die quad wls) 0 none

/-- QUAD_PROGRESS (R388, R389): journalled once the MAP_SETs of every code word it covers are durable. -/
def execQuadProgress (ord die quad wls : Nat) (s : State) : Out := onDevice s fun s =>
  atUnit (ord < 56 && die < 32 && quad < 3312) (onQuadProgress ord die quad wls s)

/-- The effect of TXN_COMMIT. -/
def onTxnCommit (txn : Nat) (s : Device) : Device :=
  match s.ftl.txns.find? (fun x => x.id = txn) with
  | none => s
  | some x =>
    if x.committed || !x.parts.all x.prepared.contains then s
    else
      let s := s.setFtl (fun f => { f with txns := f.txns.map (fun y => if y.id = txn then { y with committed := true } else y) })
      if x.parts.isEmpty then (s.applyTxn x).settleAll
      else s.journal (x.parts.foldl min 55) 11 none
        (natLe 1 x.parts.length ++ natLe 7 ((x.parts.map (fun h => 2 ^ h)).foldl (· + ·) 0)) txn none

/-- TXN_COMMIT (R391): every participant's TXN_PREPARE is durable, and the coordinator, the lowest ordinal, journals the
commit. -/
def execTxnCommit (txn : Nat) (s : State) : Out := onDevice s fun s =>
  .next (onTxnCommit txn s)

/-- The effect of STREAM_FLUSH. -/
def onStreamFlush (ord : Nat) (s : Device) : Device :=
  let wait := (s.waitingCws ord 0 false)
  s.setFtl (fun f => { f with buf := f.buf.map (fun b =>
    if wait.any (fun w => w.cw.wsn == b.cw.wsn && w.ord == b.ord) then { b with slc := true }
    else if b.ord = ord ∧ b.cw.kind = 0 ∧ !s.bandBlock b.cw.band ∧ wait.any (fun w => w.sameExtent b) then
      { b with slc := true, loc := none, done := false }
    else b) })

/-- STREAM_FLUSH (R384): the code words that a TLC stream holds back go to SLC staging; an extent that has begun goes
whole. -/
def execStreamFlush (ord : Nat) (s : State) : Out := onDevice s fun s =>
  atUnit (ord < 56) (onStreamFlush ord s)

/-- The effect of GC_ERASE. -/
def onGcErase (grp t quad : Nat) (s : Device) : Device :=
  let x := s.squad grp t quad
  let ms := s.members grp
  let cws := ms.flatMap (fun o => (s.quadCws (nandDie o t) quad).map (fun c => (o, c.1, c.2)))
  let held := cws.any (fun c => s.cwValid c.1 c.2.1 c.2.2
    || (decide (c.2.2.kind ≤ 1) && s.bandOrd c.2.2.band == c.1
        && (let e := nget ({} : MapEntry) s.ftl.durable (s.mapKey c.2.2.band c.2.2.unit)
            e.loc != unmapped && e.loc + (if s.bandBlock c.2.2.band then 0 else c.2.2.unit % 64 * 131072) == c.2.1)))
  let reading := s.media.reads.any (fun r => rainGroup r.ord == grp && locDie r.loc == t && locQuad r.loc == quad)
  if x.st ≠ 3 ∨ held ∨ reading then s
  else
    let freed := (cws.filter (fun c => c.2.2.kind ≠ 6)).length - x.copied
    let s := s.setSquad grp t quad { x with st := 4 }
    let s := s.setFtl (fun f => { f with
      erases := f.erases ++ ms.map (fun o => (nandDie o t, quad, x.slc)),
      credit := if s.rdf Reg.FTL_GRP_STATUS grp 17 17 = 1 then nset 0 f.credit grp (nget 0 f.credit grp + freed) else f.credit })
    s.retryCredit.settleAll

/-- GC_ERASE (R393, R394): a victim is erased once every copy taken from it is durable or was discarded and no read
refers to it; the group's credit rises by the code words it frees. -/
def execGcErase (grp t quad : Nat) (s : State) : Out := onDevice s fun s =>
  atUnit (grp < 4 && t < 32 && quad < 3312) (onGcErase grp t quad s)

/-! ## Recovery -/

/-- A code word found in the scan of the open quads is entered in the map (R408, R409): a block unit, or an extent all of
whose code words stand there. -/
def Device.scanCw (s : Device) (m : NMap MapEntry) (ord loc : Nat) (c : CodeWord) : NMap MapEntry :=
  if c.kind ≠ 0 ∨ s.bandOrd c.band ≠ ord then m
  else if s.bandBlock c.band then
    let k := c.band * 1024 + c.unit
    if (nget ({} : MapEntry) m k).wsn < c.wsn then nset {} m k { loc := loc, wsn := c.wsn } else m
  else if c.unit % 64 ≠ 0 then m
  else
    let whole := (List.range 64).all (fun i => match s.stored ord (loc + i * 131072) with
      | some d => d.kind == 0 && d.band == c.band && d.unit == c.unit + i && d.wsn == c.wsn + i
      | none => false)
    let k := c.band * 1024 + c.unit
    if whole ∧ (nget ({} : MapEntry) m k).wsn < c.wsn + 63 then nset {} m k { loc := loc, wsn := c.wsn + 63 } else m

/-- The missing parity of a superquad that was open is computed and programmed (step 7 of R408). -/
def Device.missingParity (s : Device) (g t q : Nat) : Device :=
  let par := rainOrd g (parityPos t q)
  let nd := nandDie par t
  let reach := ((s.dataMembers g t q).map (fun o => s.progress (nandDie o t) q)).foldl max 0
  if !s.ordUp par then s
  else (rangeFrom (s.progress nd q) (reach - s.progress nd q)).foldl (fun a wl =>
    let cws := a.parityCws g t q wl
    let a := cws.foldl (fun b p =>
      let (w, b) := b.takeWsn par none
      (b.setFtl (fun f => { f with nand := nset none f.nand (par * 2 ^ 32 + p.1) (some ⟨p.2, 0x7FFFFFF, 0, 6, w, 0⟩) })).inc
        Reg.FTL_PARITY_CW par 1) a
    ((a.setProgress nd q (wl + 1)).inc Reg.MEDIA_CH_PROGRAMS (nd / 8) 1).inc Reg.FTL_NAND_BYTES 0 (cws.length * cwBytes)) s

/-- FTL recovery at power-on (R408, R409): the durable journal, then the scan of the open quads; what stood only in write
buffers is gone, open superquads close, victims are data again, and transactions without a durable commit are
discarded. -/
def Device.recoverFtl (s : Device) : Device :=
  let open_ := s.ftl.squads.filter (fun e => e.2.st = 1)
  let scan := s.ftl.nand.filter (fun e =>
    let o := e.1 / 2 ^ 32; let l := e.1 % 2 ^ 32
    open_.any (fun q => q.1 == sqKey (rainGroup o) (locDie l) (locQuad l)))
  let map := scan.foldl (fun m e => match e.2 with
    | some c => s.scanCw m (e.1 / 2 ^ 32) (e.1 % 2 ^ 32) c
    | none => m) s.ftl.durable
  let logs := fun (l : NMap (List LogRow)) => (l.map (fun e => (e.1, e.2.filter (fun (r : LogRow) => r.durable)))).filter (fun e => !e.2.isEmpty)
  let s := s.setFtl (fun f => { f with
    map, durable := map, buf := [], rowLog := logs f.rowLog, sideLog := logs f.sideLog, txns := [], waitCredit := [],
    secure := [], cycle := [], trims := [],
    journal := (f.journal.map (fun e => (e.1, e.2.filter (fun (r : JRec) => decide (2 ≤ r.copies) && r.txn == 0)))).filter (fun e => !e.2.isEmpty),
    squads := f.squads.map (fun e => (e.1, if e.2.st = 3 then { e.2 with st := 2 } else e.2)) })
  let s : Device := { s with media := { s.media with reads := [], ios := [], luns := s.media.luns.filter (fun e => match e.2.job with
      | some (.erase ..) => true
      | _ => false) } }
  let again := s.media.luns.filterMap (fun e => match e.2.job with
    | some (.erase q slc _ _) => some (e.1, q, slc)
    | _ => none)
  let s := s.setFtl (fun f => { f with erases := f.erases ++ again })
  let s : Device := { s with media := { s.media with luns := [] } }
  let s := (List.range 1792).foldl (fun a nd => if a.lunState nd = 7 then a else a.wr Reg.MEDIA_LUN_STATUS nd 0) s
  let s := open_.foldl (fun a e => (a.missingParity (e.1 / 131072) (e.1 / 4096 % 32) (e.1 % 4096)).closeSquad (e.1 / 131072) (e.1 / 4096 % 32) (e.1 % 4096)) s
  let s := s.ordsUp.foldl (fun a o => (a.wr Reg.FTL_DIE_STATUS o 1).wrf Reg.MEDIA_DIE_STATUS o 1 1 0) s
  let d := s.draw
  let s := (d.2.wr Reg.FTL_RECOVERY_MS 0 (min 500 d.1)).wrf Reg.FTL_DEV_STATUS 0 0 0 1
  [0, 1, 2, 3].foldl (fun a g => a.showGroup g) s

end Sys2Proof.Machine
end

