-- ==== Sys2Proof/Machine/Tackle.lean ====
section
/-! DEFINITION. The commands and events of gradient reduction (chapter 08). -/

namespace Sys2Proof.Machine

/-- A command of the chapter runs its checks; NOT_OWNER is counted (R257, R287). -/
def ryernTkl (s : Device) (c : Cmd) (op : Nat) (reserved : List Nat) (check : Device → Nat → Option (Nat × Nat))
    (body : Device → Nat → Device) : Effect :=
  ryernNote s c op reserved false check (fun t st => if st = St.notOwner then t.inc Reg.TKL_DEV_NOT_OWNER 0 1 else t) body

/-- Whether a command's LD does not own the job it names, and whether it names no open job (R257, R430). -/
def Device.tklForeign (s : Device) (ld j : Nat) : Bool := decide (j < 64) && s.jobNotOwned ld j
def Device.tklNoJob (s : Device) (n j : Nat) : Bool := decide (64 ≤ j) || !s.jobOpenTo n j

/-! ## Shards -/

/-- ROWS and COLS of the matrices of a SHARD_OPEN (R255). -/
def shapeOf (slot : BitVec 512) : List (Nat × Nat) :=
  (List.range (fld slot 32 1)).map (fun m => (fld slot (34 + 4 * m) 2, fld slot (36 + 4 * m) 2))

/-- The field ranges of a SHARD_OPEN (R255, R256). -/
def shardFieldsOk (slot : BitVec 512) : Bool :=
  [0, 2, 4].contains (fld slot 17 1) && decide (1 ≤ fld slot 18 2) && decide (fld slot 18 2 ≤ 4095)
    && decide (1 ≤ fld slot 32 1) && decide (fld slot 32 1 ≤ 4)
    && (shapeOf slot).all (fun d => d.2 % 32 == 0 && decide (32 ≤ d.2) && decide (d.2 ≤ 16384) && decide (1 ≤ d.1)
      && d.1 * d.2 % 1024 == 0)
    && ((List.range 4).drop (fld slot 32 1)).all (fun m => fld slot (34 + 4 * m) 4 == 0)
    && posNormal (fld slot 50 4)

/-- The shard that a SHARD_OPEN describes. -/
def shardOf (ld : Nat) (slot : BitVec 512) : Shard :=
  { job := fld slot 16 1, ld, sfmt := fld slot 17 1, count := fld slot 18 2, gfirst := fld slot 20 4,
    objs := [fld slot 24 2, fld slot 26 2, fld slot 28 2, fld slot 30 2], shape := shapeOf slot, gquiet := [], ckpts := [],
    closer := none }

/-- Whether object `k` of a shard is fit for it (R256). -/
def Device.shardObjOk (s : Device) (x : Shard) (k : Nat) : Bool :=
  match s.obj (objKey x.ld (x.objs.getD k 0)), s.obj (objKey x.ld (x.objs.getD 0 0)) with
  | some o, some m =>
    let n := sliceBytesOf x.sfmt x.elems x.rows k
    o.policy == 1 && o.pin && o.layers == 1 && o.sliceBytes == n && o.layerBytes == n * x.count && o.mask == m.mask
      && o.teardown.isNone && !o.lost
      && !s.tkl.shards.any (fun e => match e.2 with
        | some y => y.ld == x.ld && y.objs.contains (x.objs.getD k 0)
        | none => false)
  | _, _ => false

/-- The lowest free shard ID. -/
def Device.freeShard (s : Device) : Option Nat := (List.range 64).find? (fun i => (s.shard i).isNone)

/-- The checks of a SHARD_OPEN (R255 to R257). -/
def Device.shardCheck (s : Device) (ld n : Nat) (slot : BitVec 512) : Option (Nat × Nat) :=
  let x := shardOf ld slot
  firstFail [(s.tklForeign ld x.job, St.notOwner),
    (s.tklNoJob n x.job || !shardFieldsOk slot || (List.range 4).any (fun k => !s.shardObjOk x k), St.invalidField),
    (s.freeShard.isNone, St.refusedCapacity)]

/-- The checks of SHARD_OPEN. -/
def checkShardOpen (c : Cmd) (s : Device) (n : Nat) : Option (Nat × Nat) :=
  s.shardCheck c.ld n c.slot

/-- The effect of SHARD_OPEN. -/
def runShardOpen (c : Cmd) (s : Device) (n : Nat) : Device :=
  match s.freeShard with
  | none => s
  | some i =>
    let x := shardOf c.ld c.slot
    let s := s.setShard i (some x)
    let s := s.wr Reg.TKL_SHARD_STATUS i (1 + x.job * 2 + x.count * 2 ^ 8 + x.ld * 2 ^ 20 + x.sfmt * 2 ^ 24)
    let s := s.wr Reg.TKL_SHARD_GLOBAL_FIRST i x.gfirst
    let s := s.zero i [Reg.TKL_SHARD_UPDATES, Reg.TKL_SHARD_LAST_STEP, Reg.TKL_SHARD_NONFINITE_ROWS, Reg.TKL_SHARD_SERVE_SAT]
    let s := (List.range 4).foldl (fun a m => a.wr (Reg.TKL_SHARD_GSCALE + 4 * m) i (fld c.slot 50 4)) s
    s.finish n St.ok i

/-- SHARD_OPEN (R255, R256, R287). -/
def execShardOpen (c : Cmd) (s : State) : Out := onDevice s fun s =>
  ryernTkl s c 0x24 (33 :: bytesOf 54 63) (checkShardOpen c) (runShardOpen c)

/-- The open shard of a job that a command may name: none when it is absent, of another job, or closing. -/
def Device.shardFor (s : Device) (n j sh : Nat) : Option Shard :=
  match s.shard sh with
  | some x => if x.job = j ∧ s.openTo x.closer n then some x else none
  | none => none

/-- The checks of SHARD_CLOSE. -/
def checkShardClose (c : Cmd) (s : Device) (n : Nat) : Option (Nat × Nat) :=
  let j := fld c.slot 16 1
  let sh := fld c.slot 17 1
  firstFail [(s.tklForeign c.ld j, St.notOwner),
    (s.tklNoJob n j || (s.shardFor n j sh).isNone, St.invalidField)]

/-- The effect of SHARD_CLOSE. -/
def runShardClose (c : Cmd) (s : Device) (n : Nat) : Device :=
  let sh := fld c.slot 17 1
  match s.shard sh with
    | none => s
    | some x =>
      let s := (s.setShard sh (some { x with closer := some n })).settleShard sh
      if (s.shard sh).isSome then s.hold n 4 else s

/-- SHARD_CLOSE (R257, R258). -/
def execShardClose (c : Cmd) (s : State) : Out := onDevice s fun s =>
  ryernTkl s c 0x25 (bytesOf 18 63) (checkShardClose c) (runShardClose c)

/-! ## Reductions -/

/-- Whether an fp32 value is at least 0; above 0; above 0 and below 1. -/
def atLeast0 (v : F32) : Bool := (match f32Val v with | .nan => false | _ => true) && !flt v 0
def above0 (v : F32) : Bool := flt 0 v

/-- The ranges of the parameters (R260). -/
def paramsOk (p : List Byte) (sfmt : Nat) : Bool :=
  let v := fun (b : Nat) => BitVec.ofNat 32 (leNat ((p.drop b).take 4))
  atLeast0 (v 0) && above0 (v 4) && flt (v 4) 0x3F800000 && above0 (v 8) && flt (v 8) 0x3F800000 && above0 (v 12)
    && atLeast0 (v 16) && posNormal (v 20).toNat && leNat ((p.drop 24).take 8) == 0
    && (List.range 4).all (fun m => posNormal (v (32 + 4 * m)).toNat)
    && (sfmt == 4 || leNat ((p.drop 48).take 4) == 0) && leNat (p.drop 52) == 0

/-- The reduction that a REDUCE_OPEN describes over a shard. -/
def redFor (slot : BitVec 512) (x : Shard) (params : List Byte) (now : Nat) : Red :=
  { job := fld slot 16 1, shard := fld slot 17 1, ranks := fld slot 18 2, step := fld slot 20 4, first := fld slot 24 4 - x.gfirst,
    count := fld slot 28 2, timeoutMs := fld slot 30 2, params, sums := [], bufs := [], bufBytes := fld slot 32 2 * 2 ^ 20,
    ptrs := [], resv := [], opened := now, phase := 1, poisoned := false, commit := none, commitFrom := none,
    rankDone := [], endStatus := 0, endResult := 0 }

/-- The home half-stacks of the experts of a reduction, and what it pins: a sum buffer per expert, then a rank buffer per home
die (R261). -/
def Device.redHomes (s : Device) (x : Shard) (r : Red) : List Nat := (rangeFrom r.first r.count).map (s.expertHome x)
def Device.redNeeds (s : Device) (x : Shard) (r : Red) : List (Nat × Nat) :=
  let homes := s.redHomes x r
  homes.map (fun h => (h, ceilDiv (4 * x.elems) pageBytes)) ++ homes.eraseDups.map (fun h => (h, ceilDiv r.bufBytes pageBytes))

/-- The lowest free reduction ID. -/
def Device.freeRedId (s : Device) : Option Nat := (List.range 64).find? (fun i => (s.red i).isNone)

/-- The parameter block of a REDUCE_OPEN, and whether it was poisoned (R260): as its admission read it; one that was admitted
through no mailbox is read now. -/
def Device.paramBlock (s : Device) (n ld : Nat) (slot : BitVec 512) : List Byte × Bool :=
  match (s.cmd n).bind (·.block) with
  | some b => b
  | none => s.readBlock ld slot

/-- The checks of a REDUCE_OPEN (R257, R259 to R261). -/
def Device.reduceCheck (s : Device) (ld n : Nat) (slot : BitVec 512) : Option (Nat × Nat) :=
  let j := fld slot 16 1; let sh := fld slot 17 1
  let first := fld slot 24 4; let cnt := fld slot 28 2; let buf := paramBuf ld slot
  let block := s.paramBlock n ld slot
  let params := block.1
  let bad := match s.shardFor n j sh with
    | none => true
    | some x =>
      let r := redFor slot x params 0
      decide (r.ranks = 0) || decide (256 < r.ranks) || r.step == 0 || cnt == 0 || r.timeoutMs == 0
        || !s.bufFits buf 128 || block.2 || !paramsOk params x.sfmt
        || decide (0xF00000000 < cnt * x.elems) || decide (r.bufBytes < 2 * x.elems)
        || s.tkl.reds.any (fun e => match e.2 with
          | some q => q.shard == sh && (q.phase == 1 || q.phase == 2) && decide (q.first < r.first + cnt)
              && decide (r.first < q.first + q.count)
          | none => false)
  firstFail [
    (s.tklForeign ld j || (match s.shard sh with
      | some x => x.job != j || decide (first < x.gfirst) || decide (x.gfirst + x.count < first + cnt)
      | none => false), St.notOwner),
    (s.tklNoJob n j || bad, St.invalidField),
    (s.freeRedId.isNone || (match s.shard sh with
      | some x => s.pinExceeds (sumNeeds (s.redNeeds x (redFor slot x [] 0)))
      | none => false), St.refusedCapacity)]

/-- The generators of the update engines of a half-stack are seeded from the entropy source (R129, R280): free values. -/
def Device.seedEngines (s : Device) (hs : Nat) : Device :=
  [hs * 2, hs * 2 + 1].foldl (fun a k =>
    let d := a.draw
    { d.2 with tkl := { d.2.tkl with lfsr := nset 1 d.2.tkl.lfsr k (max 1 (d.1 % 2 ^ 32)) } }) s

/-- The registers of a reduction's instance (R287). -/
def redRegs : List Nat :=
  [Reg.TKL_RED_STATUS, Reg.TKL_RED_STEP, Reg.TKL_RED_EXPERTS, Reg.TKL_RED_LOW_PTR]
    ++ (List.range 8).map (fun k => Reg.TKL_RED_DONE + 4 * k) ++ (List.range 4).map (fun m => Reg.TKL_RED_SAT + 4 * m)
    ++ (List.range 4).map (fun m => Reg.TKL_RED_AMAX + 4 * m) ++ (List.range 4).map (fun m => Reg.TKL_RED_N + 8 * m)

/-- The effect of an accepted REDUCE_OPEN (R261). -/
def Device.reduceEffect (s : Device) (ld : Nat) (slot : BitVec 512) (n id : Nat) : Device :=
  match s.shard (fld slot 17 1) with
  | none => s
  | some x =>
    let r := redFor slot x (s.paramBlock n ld slot).1 s.now
    match s.pinRuns (s.redNeeds x r) r.job with
    | none => s.finish n St.refusedCapacity 0
    | some (runs, s) =>
      let r := { r with sums := runs.take r.count, bufs := runs.drop r.count }
      let s := r.sums.foldl (fun a p => a.clearMem 5 p.1 (p.2 * pageBytes) (4 * x.elems)) s
      let s := r.adders.foldl (fun a h => a.seedEngines h) (s.zero id redRegs)
      let s := s.wr Reg.TKL_RED_STATUS id (1 + r.job * 4 + r.shard * 2 ^ 8 + r.ranks * 2 ^ 14)
      let s := (s.wr Reg.TKL_RED_STEP id r.step).wr Reg.TKL_RED_EXPERTS id (r.first % 65536 + r.count * 2 ^ 16)
      (s.setRed id (some r)).finish n St.ok id

/-- The checks of REDUCE_OPEN. -/
def checkReduceOpen (c : Cmd) (s : Device) (n : Nat) : Option (Nat × Nat) :=
  s.reduceCheck c.ld n c.slot

/-- The effect of REDUCE_OPEN. -/
def runReduceOpen (c : Cmd) (s : Device) (n : Nat) : Device :=
  match s.freeRedId with
  | some id => s.reduceEffect c.ld c.slot n id
  | none => s

/-- REDUCE_OPEN (R259 to R261). -/
def execReduceOpen (c : Cmd) (s : State) : Out := onDevice s fun s =>
  ryernTkl s c 0x26 ([34, 35] ++ bytesOf 40 63) (checkReduceOpen c) (runReduceOpen c)

/-- The reduction of a job that a command names. -/
def Device.redForJob (s : Device) (j id : Nat) : Option Red :=
  match s.red id with
  | some r => if r.job = j then some r else none
  | none => none

/-- The checks of RANK_DONE. -/
def checkRankDone (c : Cmd) (s : Device) (n : Nat) : Option (Nat × Nat) :=
  let j := fld c.slot 16 1
  let id := fld c.slot 17 1
  let rank := fld c.slot 18 1
  firstFail [(s.tklForeign c.ld j, St.notOwner),
    (s.tklNoJob n j || (match s.redForJob j id with
      | some r => r.phase != 1 || decide (r.ranks ≤ rank) || s.rankIsDone id rank
      | none => true), St.invalidField)]

/-- The effect of RANK_DONE. -/
def runRankDone (c : Cmd) (s : Device) (n : Nat) : Device :=
  let id := fld c.slot 17 1
  let rank := fld c.slot 18 1
  match s.red id with
    | some r => (s.setRed id (some { r with rankDone := r.rankDone ++ [(n, rank)] })).settleRank n
    | none => s

/-- RANK_DONE (R257, R262). -/
def execRankDone (c : Cmd) (s : State) : Out := onDevice s fun s =>
  ryernTkl s c 0x27 (bytesOf 19 63) (checkRankDone c) (runRankDone c)

/-- The checks of REDUCE_COMMIT. -/
def checkReduceCommit (c : Cmd) (s : Device) (n : Nat) : Option (Nat × Nat) :=
  let j := fld c.slot 16 1
  let id := fld c.slot 17 1
  firstFail [(s.tklForeign c.ld j, St.notOwner),
    (s.tklNoJob n j || (match s.redForJob j id with
      | some r => r.commit.isSome
      | none => true), St.invalidField)]

/-- The effect of REDUCE_COMMIT. -/
def runReduceCommit (c : Cmd) (s : Device) (n : Nat) : Device :=
  let id := fld c.slot 17 1
  match s.red id with
    | some r =>
      let late := match (s.cmd n).bind (·.late) with
        | some l => l
        | none => s.commitLate id
      let s := s.setRed id (some { r with commit := some n, commitFrom := some s.now })
      (if late then s.hold n 5 else s).settleCommit id
    | none => s

/-- REDUCE_COMMIT (R257, R263, R276). -/
def execReduceCommit (c : Cmd) (s : State) : Out := onDevice s fun s =>
  ryernTkl s c 0x28 (bytesOf 18 63) (checkReduceCommit c) (runReduceCommit c)

/-- The checks of CHECKPOINT. -/
def checkCheckpoint (c : Cmd) (s : Device) (n : Nat) : Option (Nat × Nat) :=
  let j := fld c.slot 16 1
  let sh := fld c.slot 17 1
  let nsid := fld c.slot 18 1
  let off := fld c.slot 20 8
  let size := match s.shard sh with | some x => x.ckptBytes | none => 0
  let cnt := ceilDiv size cwBytes
  firstFail [((s.nsFor n nsid).isNone, St.nsAbsent),
    (s.tklForeign c.ld j || !(match s.ns nsid with | some y => y.accessible c.ld | none => false), St.notOwner),
    (s.tklNoJob n j || (s.shardFor n j sh).isNone || off % 4096 != 0
      || decide ((match s.ns nsid with | some y => y.size | none => 0) < off + size), St.invalidField),
    (s.pinned nsid (off / cwBytes) cnt, St.codePinned),
    (s.belowCritical nsid (off / cwBytes) cnt, St.refusedCapacity)]

/-- The effect of CHECKPOINT. -/
def runCheckpoint (c : Cmd) (s : Device) (n : Nat) : Device :=
  let sh := fld c.slot 17 1
  if s.tkl.reds.any (fun e => match e.2 with | some r => r.shard == sh && r.phase == 2 | none => false) then
    (s.hold n 5).settleCkpt n
  else (s.settleCkpt n).settleFaults

/-- CHECKPOINT (R257, R284, R285). -/
def execCheckpoint (c : Cmd) (s : State) : Out := onDevice s fun s =>
  ryernTkl s c 0x29 (19 :: bytesOf 28 63) (checkCheckpoint c) (runCheckpoint c)

/-! ## TACKLE packets -/

/-- The core that sent a packet. -/
def packetCore (p : Packet) : Nat := unitCore p.srcDie p.srcUnit

/-- The context of the source core at the adder of the packet's die (R269). -/
def Device.tackleCtx (s : Device) (p : Packet) : Option Context :=
  nget none s.tkl.ctxs (sparOrd p.dstDie * 512 + packetCore p)

/-- An adder refuses a packet (R270): RSP_STATUS 3, a count and a record with the failing condition. -/
def Device.tackleRefuse (s : Device) (p : Packet) (red rank cause expert : Nat) : Device :=
  let s := s.inc Reg.TKL_JOB_REFUSED_PKT p.job 1
  let s := s.record 0x0802 (tklBody p.job red rank cause expert 0xFFFFFFFF (packetCore p % 512)) (s.jobViewer (some p.job))
  s.ack p 3

/-- A packet of a reduction that has ended is discarded (R277). -/
def Device.tackleLate (s : Device) (p : Packet) : Device := (s.inc Reg.TKL_JOB_LATE_DISCARD p.job 1).ack p 0

/-- A TACKLE packet reaches an adder block (R268). -/
def tackleRow (p : Packet) (s : Device) (body : Packet → Device → Device) : Effect :=
  packetRow 6 p s (fun p s =>
    if ¬(dieKind p.dstDie = 1 ∧ p.dstUnit = 13 ∧ dieKind p.srcDie = 1 ∧ p.srcUnit ≤ 9) then s.wrongUnit p else body p s)

/-- The state with a context stored. -/
def Device.setCtx (s : Device) (p : Packet) (x : Context) : Device :=
  { s with tkl := { s.tkl with ctxs := nset none s.tkl.ctxs (sparOrd p.dstDie * 512 + packetCore p) (some x) } }

/-- Whether an adder discards an arrival after a squash, until REOPEN (R176). -/
def Device.tackleShut (s : Device) (p : Packet) : Bool :=
  p.spec && shutFor (s.holdBuf p.dstDie).shut (packetCore p * 16 + 13) p.specEpoch

/-- A context arrives (R176, R269, R270, R277). -/
def Device.takeContext (s : Device) (p : Packet) : Device :=
  if s.tackleShut p then s.ack p 0 else
  let b := fun (i n : Nat) => leNat ((p.body.drop i).take n)
  let id := b 0 1; let rank := b 1 1; let step := b 4 4
  let x : Context := ⟨id, rank, b 2 1, step, BitVec.ofNat 32 (b 8 4), false⟩
  let live := match s.red id with
    | some r => r.job == p.job && r.step == step && (r.phase == 1 || r.phase == 2)
    | none => false
  if !live && s.tkl.past.contains (id, p.job, step) then (s.setCtx p { x with late := true }).tackleLate p
  else match s.red id with
    | none =>
      s.tackleRefuse p id rank (if s.tkl.past.any (fun q => q.1 == id && q.2.1 == p.job) then 2 else 1) 0xFFFFFFFF
    | some r =>
      if r.job ≠ p.job then s.tackleRefuse p id rank 1 0xFFFFFFFF
      else if r.step ≠ step ∨ r.ranks ≤ rank then s.tackleRefuse p id rank 2 0xFFFFFFFF
      else (s.setCtx p x).ack p 0

/-- TACKLE_CONTEXT (R268, R269): the row names the ADDR (log entry 6). -/
def execTackleContext (p : Packet) (s : State) : Out := onDevice s fun s =>
  tackleRow { p with addr := 0xF00000000 } s (fun p s => s.takeContext p)

/-- What a context leads to for a later packet: the reduction it is live for, none when it has ended (R277). -/
def Device.ctxRed (s : Device) (x : Context) (job : Nat) : Option Red :=
  match s.red x.red with
  | some r => if !x.late ∧ r.job = job ∧ r.step = x.step ∧ (r.phase = 1 ∨ r.phase = 2) then some r else none
  | none => none

/-- A contribution enters a rank buffer (R166, R272): it takes its bytes from the run's reservation, and one that is
verified is released at once. -/
def Device.admitContrib (s : Device) (c : Contrib) (r : Red) : Device :=
  let n := c.codes.length
  let s := s.setRed c.red (some { r with resv := r.resv.map (fun v =>
    if v.1 = c.core ∧ v.2.1 = c.ord then (v.1, v.2.1, v.2.2 - n) else v) })
  let s : Device := { s with tkl := { s.tkl with contribs := s.tkl.contribs ++ [c] } }
  let s := s.showAdder c.ord
  if c.epoch.isSome then s else s.releaseContrib c

/-- The epoch under which an arrival is held (R166, R169): none for a released one, also where its CLEAN has come before it. -/
def Device.tackleEpoch (s : Device) (p : Packet) : Option Nat :=
  if p.spec && !(s.holdBuf p.dstDie).released (packetCore p) 13 p.specEpoch then some p.specEpoch else none

/-- Codes or statistics arrive under a context (R270, R272, R277). -/
def Device.takeCodes (s : Device) (p : Packet) (stat : Bool) : Device :=
  match s.tackleCtx p with
  | none => s.tackleRefuse p 0 0 3 0xFFFFFFFF
  | some x => match s.ctxRed x p.job with
    | none => s.tackleLate p
    | some r => match s.shard r.shard with
      | none => s.tackleLate p
      | some sh =>
        let n := pktBytes p; let elems := max 1 sh.elems; let e := p.addr / elems; let ord := sparOrd p.dstDie
        let c : Contrib :=
          { ord, red := x.red, rank := x.rank, core := packetCore p, epoch := s.tackleEpoch p,
            scale := x.scale, elem := if stat then 0 else p.addr, codes := if stat then [] else p.body.take n,
            poison := if stat then [] else p.poison, released := false,
            stat := if stat then [leNat (p.body.take 1) % 4, leNat ((p.body.drop 4).take 4), leNat ((p.body.drop 8).take 4),
              leNat ((p.body.drop 12).take 4)] else [] }
        if !stat && (decide (r.count * elems < p.addr + n) || e != (p.addr + n - 1) / elems
            || (match r.sums[e]? with | some q => q.1 != ord | none => true)) then
          s.tackleRefuse p x.red x.rank 4 (if e < r.count then r.first + e else 0xFFFFFFFF)
        else if s.tackleShut p then s.ack p 0
        else (s.admitContrib c r).ack p 0

/-- TACKLE_CODES (R268, R270): an ADDR past the range is one outside it (log entry 78). -/
def execTackleCodes (p : Packet) (s : State) : Out := onDevice s fun s =>
  tackleRow p s (fun p s => s.takeCodes p false)

/-- TACKLE_STATISTICS (R268, R269, R283). -/
def execTackleStatistics (p : Packet) (s : State) : Out := onDevice s fun s =>
  tackleRow { p with addr := 0xF00000020 } s (fun p s => s.takeCodes p true)

/-! ## The end of a reduction -/

/-- The effect of REDUCTION_TIMEOUT. -/
def onReductionTimeout (id : Nat) (s : Device) : Device :=
  match s.red id with
  | some r =>
    if r.phase = 1 ∧ !r.complete then
      let s := (s.abandonRed id r).inc Reg.TKL_DEV_TIMEOUTS 0 1
      (r.rankDone.foldl (fun a d => a.finish d.1 St.rankTimeout 0) s).settleAll
    else s
  | none => s

/-- REDUCTION_TIMEOUT (R276): a reduction that some adder has not completed is abandoned, with its pending RANK_DONEs. -/
def execReductionTimeout (id : Nat) (s : State) : Out := onDevice s fun s =>
  atUnit (id < 64) (onReductionTimeout id s)

/-- Whether an admitted command holds a SERVE slice of the range of a reduction (R279). -/
def Device.serveHeld (s : Device) (x : Shard) (r : Red) : Bool :=
  (rangeFrom r.first r.count).any (fun e => match s.slice (sliceKey (objKey x.ld (x.objs.getD 3 0)) 0 e) with
    | some y => !y.holds.isEmpty
    | none => false)

/-- The effect of UPDATE_PHASE_START. -/
def onUpdatePhaseStart (id : Nat) (s : Device) : Device :=
  match s.red id with
  | some r => match s.shard r.shard with
    | some x =>
      if r.phase = 1 ∧ r.complete ∧ !s.serveHeld x r ∧ x.ckpts.isEmpty then
        let r' := { r with phase := 2 }
        let s := ((s.setRed id (some r')).wrf Reg.TKL_RED_STATUS id 1 0 2).wr Reg.TKL_SHARD_SERVE_SAT r.shard 0
        (s.adaptGrads id x r').updateAll id x r'
      else s
    | none => s
  | none => s

/-- UPDATE_PHASE_START (R279 to R283): once every adder is complete, no SERVE slice is held and no CHECKPOINT reads, the
gradient scales adapt and the update engines rewrite the rows. -/
def execUpdatePhaseStart (id : Nat) (s : State) : Out := onDevice s fun s =>
  atUnit (id < 64) (onUpdatePhaseStart id s)

/-- The effect of UPDATE_PHASE_END. -/
def onUpdatePhaseEnd (id : Nat) (s : Device) : Device :=
  match s.red id with
  | some r =>
    if r.phase = 2 then
      let s := (s.inc Reg.TKL_SHARD_UPDATES r.shard 1).wr Reg.TKL_SHARD_LAST_STEP r.shard r.step
      let s := s.endRed id r (if r.poisoned then St.poisonConsumed else St.ok) r.ranks
      (if r.poisoned then s.reportFault (512 + r.job) 3 else s).settleAll
    else s
  | none => s

/-- UPDATE_PHASE_END (R263, R279, R282): the reduction has ended; an update that met poison is a job fault. -/
def execUpdatePhaseEnd (id : Nat) (s : State) : Out := onDevice s fun s =>
  atUnit (id < 64) (onUpdatePhaseEnd id s)

end Sys2Proof.Machine
end

