-- ==== Sys2Proof/Machine/Emb.lean ====
section
/-! DEFINITION. The embedding commands and the events of the gather units (chapter 09). -/

namespace Sys2Proof.Machine

/-! ## Handles -/

/-- The lowest free embedding handle. -/
def Device.freeEmb (s : Device) : Option Nat := (List.range 64).find? (fun h => (s.embH h).isNone)

/-- What an EMB_OPEN pins on each die of its job (R292, R293): the work area and the row cache. -/
def Device.embNeeds (s : Device) (slot : BitVec 512) : List (Nat × Nat) :=
  (s.jobDies (fld slot 16 1)).map (fun o => (o, ceilDiv (fld slot 18 2) 2 + ceilDiv (fld slot 20 2) 2))

/-- The checks of an EMB_OPEN in the order of R430 (R292). -/
def Device.embOpenCheck (s : Device) (ld n : Nat) (slot : BitVec 512) : Option (Nat × Nat) :=
  let j := fld slot 16 1; let x := s.nsFor n (fld slot 17 1)
  firstFail [(x.isNone, St.nsAbsent),
    (s.tklForeign ld j || !(match x with | some y => y.accessible ld | none => false), St.notOwner),
    (s.tklNoJob n j || !(match x with | some y => y.kind == 2 | none => false) || decide (fld slot 18 2 < 16)
      || decide (16384 < fld slot 18 2) || decide (16384 < fld slot 20 2), St.invalidField),
    (s.freeEmb.isNone || s.pinExceeds (s.embNeeds slot), St.refusedCapacity)]

/-- The checks of EMB_OPEN. -/
def checkEmbOpen (c : Cmd) (s : Device) (n : Nat) : Option (Nat × Nat) :=
  s.embOpenCheck c.ld n c.slot

/-- The effect of EMB_OPEN. -/
def runEmbOpen (c : Cmd) (s : Device) (n : Nat) : Device :=
  let j := fld c.slot 16 1
  match s.freeEmb, s.pinRuns (s.embNeeds c.slot) j with
  | some h, some (runs, s) =>
    let x : EmbHandle :=
      { job := j, ld := c.ld, nsid := fld c.slot 17 1, gatherMib := fld c.slot 18 2, cacheMib := fld c.slot 20 2,
        dies := s.jobDies j, areas := runs, caches := [], closer := none }
    let s := (s.setEmbH h (some x)).zero h [Reg.EMB_H_COMMANDS, Reg.EMB_H_ENTRIES, Reg.EMB_H_ROWS_READ, Reg.EMB_H_CACHE_HITS,
      Reg.EMB_H_FLASH_READS, Reg.EMB_H_ROWS_UPDATED, Reg.EMB_H_PF_EVICT, Reg.EMB_H_PF_DROP, Reg.EMB_H_DUP_MAX, Reg.EMB_H_DUP_SAT]
    let s := s.wr Reg.EMB_H_STATUS h (1 + j * 2 + x.nsid * 2 ^ 7 + c.ld * 2 ^ 15 + x.dies.length * 2 ^ 19)
    s.finish n St.ok h
  | _, _ => s.finish n St.refusedCapacity 0

/-- EMB_OPEN (R292, R293). -/
def execEmbOpen (c : Cmd) (s : State) : Out := onDevice s fun s =>
  ryern s c 0x2A (bytesOf 22 63) false (checkEmbOpen c) (runEmbOpen c)

/-- The open handle of a job that a command may name: none when it is absent, of another job, or closing (R295). -/
def Device.embFor (s : Device) (n j h : Nat) : Option EmbHandle :=
  match s.embH h with
  | some x => if x.job = j ∧ s.openTo x.closer n then some x else none
  | none => none

/-- Whether a handle belongs to another LD (R299). -/
def Device.embForeign (s : Device) (ld h : Nat) : Bool := match s.embH h with | some x => x.ld != ld | none => false

/-- The checks of EMB_CLOSE. -/
def checkEmbClose (c : Cmd) (s : Device) (n : Nat) : Option (Nat × Nat) :=
  let j := fld c.slot 16 1
  let h := fld c.slot 17 1
  firstFail [(s.tklForeign c.ld j || s.embForeign c.ld h, St.notOwner),
    (s.tklNoJob n j || (s.embFor n j h).isNone, St.invalidField)]

/-- The effect of EMB_CLOSE. -/
def runEmbClose (c : Cmd) (s : Device) (n : Nat) : Device :=
  let h := fld c.slot 17 1
  match s.embH h with
    | none => s
    | some x =>
      let s := (s.setEmbH h (some { x with closer := some n })).settleEmbClose h
      if (s.embH h).isSome then s.hold n 4 else s

/-- EMB_CLOSE (R295). -/
def execEmbClose (c : Cmd) (s : State) : Out := onDevice s fun s =>
  ryern s c 0x2B (bytesOf 18 63) false (checkEmbClose c) (runEmbClose c)

/-! ## GATHER and EMB_UPDATE -/

/-- The flags of a GATHER or EMB_UPDATE (R296, R306): prefetch, weighted, mean. -/
def embFlags (slot : BitVec 512) (update : Bool) : Bool × Bool × Bool :=
  let f := fld slot 18 1
  if update then (false, bit f 0, bit f 1) else (bit f 0, bit f 1, bit f 2)

/-- The index list and the bag offsets of a command (R297). -/
def Device.embList (s : Device) (ld : Nat) (slot : BitVec 512) (weighted : Bool) : List (Nat × F32) :=
  let n := fld slot 20 4
  let raw := s.windowRead ld (fld slot 28 4 * 32) (n * 8)
  (List.range n).map (fun i => (leNat ((raw.drop (8 * i)).take 4),
    if weighted then BitVec.ofNat 32 (leNat ((raw.drop (8 * i + 4)).take 4)) else 0x3F800000))
def Device.embOffs (s : Device) (ld : Nat) (slot : BitVec 512) : List Nat :=
  let n := fld slot 24 4 + 1
  let raw := s.windowRead ld (fld slot 32 4 * 32) (n * 4)
  (List.range n).map (fun i => leNat ((raw.drop (4 * i)).take 4))

/-- Whether bag offsets are well formed (R297). -/
def offsOk (offs : List Nat) (count : Nat) : Bool :=
  offs.headD 1 == 0 && offs.getLast? == some count
    && (List.range (offs.length - 1)).all (fun i => decide (offs.getD i 0 ≤ offs.getD (i + 1) 0))

/-- Whether a window range is usable: inside, and for a list without poison (R299, R468). -/
def Device.listOk (s : Device) (ld off n : Nat) : Bool := s.bufFits ⟨ld, none, off⟩ n && !s.windowPoison ld off n

/-- The field checks of a GATHER or EMB_UPDATE over its table (R296, R297, R299, R306). -/
def Device.embFieldsOk (s : Device) (ld : Nat) (slot : BitVec 512) (update : Bool) (h : EmbHandle) (x : Ns) : Bool :=
  let (prefetch, weighted, _) := embFlags slot update
  let fmt := fld slot 19 1; let cnt := fld slot 20 4; let bags := fld slot 24 4
  fld slot 18 1 / 8 == 0 && (if update then fmt == 7 || fmt == 5 else fmt == 7 || fmt == 5 || fmt == 6)
    && decide (1 ≤ cnt) && decide (cnt ≤ 67108864)
    && (if prefetch then bags == 0 && h.cacheMib != 0 else decide (1 ≤ bags) && decide (bags ≤ 1048576))
    && s.listOk ld (fld slot 28 4 * 32) (cnt * 8) && (s.embList ld slot weighted).all (fun e => decide (e.1 < x.rowCount))
    && (prefetch || (s.listOk ld (fld slot 32 4 * 32) ((bags + 1) * 4) && offsOk (s.embOffs ld slot) cnt
      && s.bufFits ⟨ld, none, fld slot 36 4 * 32⟩ (bags * fmtBytes fmt x.dim)))
    && (!update || (atLeast0 (BitVec.ofNat 32 (fld slot 40 4)) && above0 (BitVec.ofNat 32 (fld slot 44 4))
      && (!bit (fld slot 18 1) 2 || decide (x.rowUsed + 4 ≤ x.rowBytes))))

/-- The checks of a GATHER or EMB_UPDATE in the order of R430 (R299). -/
def Device.embCheck (s : Device) (ld n : Nat) (slot : BitVec 512) (update : Bool) : Option (Nat × Nat) :=
  let j := fld slot 16 1; let hid := fld slot 17 1
  let h := s.embFor n j hid
  let x := h.bind (fun y => s.ns y.nsid)
  firstFail [(s.tklForeign ld j || s.embForeign ld hid, St.notOwner),
    (s.tklNoJob n j || (match h, x with
      | some h, some x => !s.embFieldsOk ld slot update h x
      | _, _ => true), St.invalidField),
    ((match h, x with
      | some h, some x => decide (h.gatherMib * 2 ^ 20 < 16 * fld slot 20 4 + 8 * fld slot 24 4 * x.dim)
      | _, _ => false) || decide (256 ≤ s.emb.cmds.length), St.refusedCapacity)]

/-- The handle as a command finds it: its caches emptied when the dies have changed (R293), and k shown. -/
def Device.renewHandle (s : Device) (hid : Nat) (h : EmbHandle) : Device :=
  let dies := s.jobDies h.job
  (s.setEmbH hid (some (if dies.length = h.dies.length then { h with dies } else { h with dies, caches := [] }))).wrf Reg.EMB_H_STATUS hid 24 19 dies.length

/-- Phases 1 and 2 of a command (R298, R300, R307): its entries are checked and merged, and its rows may be read. A PREFETCH
reads only the rows that are not cached. -/
def Device.embStart (s : Device) (n ld : Nat) (slot : BitVec 512) (update : Bool) : Device :=
  let hid := fld slot 17 1
  let (prefetch, weighted, mean) := embFlags slot update
  match s.embH hid with
  | none => s
  | some h0 =>
    let s := s.renewHandle hid h0
    let dies := s.jobDies h0.job
    let entries := s.embList ld slot weighted
    let c : EmbCmd :=
      { n, h := hid, update, prefetch, mean, opt := b2n (update && bit (fld slot 18 1) 2), fmt := fld slot 19 1, entries,
        offs := if prefetch then [] else s.embOffs ld slot, addr := fld slot 36 4 * 32, lr := BitVec.ofNat 32 (fld slot 40 4),
        eps := BitVec.ofNat 32 (fld slot 44 4), dies, rows := [], bags := [], poisoned := false, fetched := 0, phase := 1 }
    let s := ({ s with emb := { s.emb with cmds := s.emb.cmds ++ [c] } }).inc Reg.EMB_H_ENTRIES hid entries.length
    let s := (s.countDups c).showEmb
    let s := if !prefetch then s else
      match s.embH hid, s.ns h0.nsid with
      | some h, some x => c.rowList.foldl (fun (a : Device) r =>
          if (h.cached (dies.getD (rowUnit dies.length r) 0) r).isSome then
            match a.embCmd n, a.embH hid with
            | some c', some h' => a.fetchRow c' x h' r false
            | _, _ => a
          else a) s
      | _, _ => s
    s.showPairs

/-- A PREFETCH whose rows have all landed, or a GATHER whose bags are all written, ends (R299, R305, R310). -/
def Device.embEnd (s : Device) (n : Nat) : Device :=
  match s.embCmd n with
  | none => s
  | some c =>
    let all := c.rowList.all (fun r => (nget none c.rows r).isSome)
    if c.update ∨ !all then s
    else if c.prefetch then (s.dropEmbCmd n true).finish n St.ok c.fetched
    else if c.bags.length + 1 < c.offs.length then s
    else
      let job := match s.embH c.h with | some h => h.job | none => 0
      let s := s.dropEmbCmd n true
      if c.poisoned then (s.finish n St.poisonConsumed c.rowList.length).reportFault (512 + job) 3
      else s.finish n St.ok c.rowList.length

/-- A GATHER, with or without PREFETCH. -/
def gatherRow (c : Cmd) (s : Device) : Effect :=
  ryern s c 0x2C (bytesOf 40 63) false (fun s n => s.embCheck c.ld n c.slot false)
    (fun s n => (s.embStart n c.ld c.slot false).embEnd n)

/-- GATHER (R296 to R300). -/
def execGather (c : Cmd) (s : State) : Out :=
  onDevice s fun s => gatherRow c s

/-- GATHER_PREFETCH (R305): a GATHER with PREFETCH set (log entry 6). -/
def execGatherPrefetch (c : Cmd) (s : State) : Out := onDevice s fun s =>
  gatherRow (if bit (fld c.slot 18 1) 0 then c else { c with slot := putFld c.slot 18 (fld c.slot 18 1 + 1) }) s

/-- The checks of EMB_UPDATE. -/
def checkEmbUpdate (c : Cmd) (s : Device) (n : Nat) : Option (Nat × Nat) :=
  s.embCheck c.ld n c.slot true

/-- The effect of EMB_UPDATE. -/
def runEmbUpdate (c : Cmd) (s : Device) (n : Nat) : Device :=
  s.embStart n c.ld c.slot true

/-- EMB_UPDATE (R306, R307, R309). -/
def execEmbUpdate (c : Cmd) (s : State) : Out := onDevice s fun s =>
  ryern s c 0x2D (bytesOf 48 63) false (checkEmbUpdate c) (runEmbUpdate c)

/-! ## Events of the gather units -/

/-- Whether a PREFETCH of the same handle that started earlier still waits for a row (R310). -/
def Device.prefetching (s : Device) (c : EmbCmd) (r : Nat) : Bool :=
  (s.emb.cmds.takeWhile (fun d => d.n != c.n)).any (fun d => d.prefetch && d.h == c.h && d.rowList.contains r
    && (nget none d.rows r).isNone)

/-- Whether the coordinator has taken every GATHER and EMB_UPDATE that was admitted before a command and that nothing holds (R303). -/
def Device.embTaken (s : Device) (n : Nat) : Bool :=
  (s.earlierCmds n (fun q => (fld q.slot 0 1 == 0x2C || fld q.slot 0 1 == 0x2D) && !q.ran && q.held.isNone)).isEmpty

/-- The rows that a command may read on a unit now: those of the unit that it has not read and that no earlier PREFETCH brings (R293,
R301, R310). -/
def Device.unitRows (s : Device) (c : EmbCmd) (o : Nat) : List Nat :=
  if c.phase ≠ 1 ∨ !s.embTaken c.n then [] else match c.dies.idxOf? o with
  | some u => c.rowList.filter (fun r => rowUnit c.dies.length r == u && (nget none c.rows r).isNone && !s.prefetching c r)
  | none => []

/-- The quantum of a command in the round of a unit, in pairs (R303). -/
def embQuantum : Nat := 65536

/-- The commands that a unit serves, in turn, each with what it may still have served (R303): a new one joins last, with its quantum. -/
def Device.embWaiting (s : Device) (o : Nat) : List (Nat × Nat) :=
  let waits := fun (c : EmbCmd) => !(s.unitRows c o).isEmpty
  let kept := (nget [] s.emb.rounds o).filter (fun e => match s.embCmd e.1 with | some c => waits c | none => false)
  kept ++ (s.emb.cmds.filter (fun c => waits c && !kept.any (fun e => e.1 == c.n))).map (fun c => (c.n, embQuantum))

/-- The turn passes on while the command in turn can have no row of the unit served (R303); it then waits with another quantum. -/
def Device.embTurn (s : Device) (o : Nat) : Nat → List (Nat × Nat) → List (Nat × Nat)
  | fuel + 1, (n, d) :: rest =>
    let afford := match s.embCmd n with
      | some c => (s.unitRows c o).any (fun r => decide (c.rowPairs r ≤ d))
      | none => true
    if afford then (n, d) :: rest else s.embTurn o fuel (rest ++ [(n, d + embQuantum)])
  | _, l => l

/-- The round of a unit once a row of a command is served, if it is that command's turn and its pairs fit (R303). -/
def Device.embServe (s : Device) (c : EmbCmd) (o row : Nat) : Option (List (Nat × Nat)) :=
  let l := s.embWaiting o
  match s.embTurn o (17 * l.length) l with
  | (n, d) :: rest => if n = c.n ∧ (s.unitRows c o).contains row ∧ c.rowPairs row ≤ d then some ((n, d - c.rowPairs row) :: rest) else none
  | [] => none

/-- The effect of GATHER_ROW_READ. -/
def onGatherRowRead (n row : Nat) (bad : Bool) (s : Device) : Device :=
  match s.embCmd n with
  | none => s
  | some c =>
    let o := c.dies.getD (rowUnit c.dies.length row) 0
    match s.embServe c o row, s.embH c.h with
    | some l, some h => match s.ns h.nsid with
        | none => s
        | some x =>
          let s : Device := { s with emb := { s.emb with rounds := nset [] s.emb.rounds o l } }
          (((s.fetchRow c x h row bad).showPairs).embEnd n).settleFaults
    | _, _ => s

/-- GATHER_ROW_READ (R294, R301, R303): a distinct row of a command reaches its unit when the unit serves it; `bad` when flash could
not give it. -/
def execGatherRowRead (n row : Nat) (bad : Bool) (s : State) : Out := onDevice s fun s =>
  .next (onGatherRowRead n row bad s)

/-- The effect of GATHER_REDUCE. -/
def onGatherReduce (n bag : Nat) (s : Device) : Device :=
  match s.embCmd n with
  | none => s
  | some c =>
    if c.update ∨ c.prefetch ∨ c.offs.length ≤ bag + 1 ∨ c.bags.contains bag
        ∨ !c.rowList.all (fun r => (nget none c.rows r).isSome) then s
    else match s.embH c.h with
      | none => s
      | some h => match s.ns h.nsid with
        | none => s
        | some x => ((s.writeBag c x h.ld bag).embEnd n).settleAll

/-- GATHER_REDUCE (R302, R304): the home unit of a bag adds the partial sums and writes the vector, once every row has
been read. -/
def execGatherReduce (n bag : Nat) (s : State) : Out := onDevice s fun s =>
  .next (onGatherReduce n bag s)

/-- The effect of EMB_APPLY_PHASE. -/
def onEmbApplyPhase (n : Nat) (s : Device) : Device :=
  match s.embCmd n with
  | none => s
  | some c =>
    if !c.update ∨ c.phase ≠ 1 ∨ !c.rowList.all (fun r => (nget none c.rows r).isSome) then s
    else match s.embH c.h with
      | none => s
      | some h => match s.ns h.nsid with
        | none => s
        | some x => ((s.applyRows c x h).settleEmb n).settleAll

/-- EMB_APPLY_PHASE (R307, R308): every unit has computed its new rows, and they are applied. -/
def execEmbApplyPhase (n : Nat) (s : State) : Out := onDevice s fun s =>
  .next (onEmbApplyPhase n s)

end Sys2Proof.Machine
end

