-- ==== Sys2Proof/Machine/Search.lean ====
section
/-! DEFINITION. The vector-search commands and the events of the coordinators (chapter 10). -/

namespace Sys2Proof.Machine

/-! ## Handles -/

/-- The lowest free search handle. -/
def Device.freeSrch (s : Device) : Option Nat := (List.range 64).find? (fun h => (s.srchH h).isNone)

/-- The items of a namespace that lie on die `u` of `k` (R319). -/
def itemsOn (cap k u : Nat) : Nat :=
  let full := cap / 128
  (full / k + b2n (decide (u < full % k))) * 128 + (if u = full % k then cap % 128 else 0)

/-- What a SRCH_OPEN pins on each die of its job (R318, R319), in whole pages: codes, LIVE bits and bitmaps of the die's
items, its share of the tombstone table and the side copy, and a codebook copy. -/
def Device.srchNeeds (s : Device) (x : Ns) (j slots : Nat) : List (Nat × Nat) :=
  let ords := s.jobDies j; let k := max 1 ords.length
  (List.range ords.length).map (fun u =>
    let n := itemsOn x.capacity k u
    (ords.getD u 0, ceilDiv (n * x.codeM + ceilDiv n 8 * (1 + slots) + ceilDiv x.tombMax k * 16
      + ceilDiv x.sideMax k * x.vecBytes + 1024 * x.dim) pageBytes))

/-- The checks of a SRCH_OPEN in the order of R430 (R318). -/
def Device.srchOpenCheck (s : Device) (ld n : Nat) (slot : BitVec 512) : Option (Nat × Nat) :=
  let j := fld slot 16 1; let x := s.nsFor n (fld slot 17 1)
  firstFail [(x.isNone, St.nsAbsent),
    (s.tklForeign ld j || !(match x with | some y => y.accessible ld | none => false), St.notOwner),
    (s.tklNoJob n j || !(match x with | some y => y.kind == 3 | none => false) || decide (8 < fld slot 18 1)
      || s.srchNamed (fld slot 17 1), St.invalidField),
    (s.freeSrch.isNone || (match x with | some y => s.pinExceeds (s.srchNeeds y j (fld slot 18 1)) | none => false),
      St.refusedCapacity)]

/-- The checks of SRCH_OPEN. -/
def checkSrchOpen (c : Cmd) (s : Device) (n : Nat) : Option (Nat × Nat) :=
  s.srchOpenCheck c.ld n c.slot

/-- The effect of SRCH_OPEN. -/
def runSrchOpen (c : Cmd) (s : Device) (n : Nat) : Device :=
  let j := fld c.slot 16 1; let nsid := fld c.slot 17 1
  match s.freeSrch, s.ns nsid with
  | some h, some x =>
    let needs := s.srchNeeds x j (fld c.slot 18 1)
    match s.pinRuns needs j with
    | none => s.finish n St.refusedCapacity 0
    | some (runs, s) =>
      let kept := (nget none s.srch.kept nsid).getD ([], [])
      let seq := (kept.1.map (fun e => max e.seq (e.del.getD 0)) ++ kept.2.map (·.2)).foldl max 0
      let y : SrchHandle :=
        { job := j, ld := c.ld, nsid, slots := fld c.slot 18 1, sideUs := fld c.slot 20 2,
          areas := (List.range runs.length).map (fun i => let r := runs.getD i (0, 0); (r.1, r.2, (needs.getD i (0, 0)).2)),
          dies := s.jobDies j, bitmaps := [], side := kept.1, tombs := kept.2, batch := [], batchFrom := 0, mutating := [],
          fresh := [], gone := [], folding := none, foldSeq := 0, foldReady := false, foldTxn := 0, folded := 0,
          applying := false, closer := none }
      let s := s.zero h [Reg.SRCH_H_GEN, Reg.SRCH_H_QUERIES, Reg.SRCH_H_NODES_READ, Reg.SRCH_H_PF_WASTED, Reg.SRCH_H_RERANKED,
        Reg.SRCH_H_SHORT, Reg.SRCH_H_BM_HITS, Reg.SRCH_H_BM_BUILDS, Reg.SRCH_H_POSTFILTER, Reg.SRCH_H_UNREADABLE,
        Reg.SRCH_H_BM_BUILD_NS]
      ((s.wr Reg.SRCH_H_SEQ h seq).setSrchH h (some y)).finish n St.ok h
  | _, _ => s

/-- SRCH_OPEN (R318, R319): the side list that an earlier handle left is loaded. -/
def execSrchOpen (c : Cmd) (s : State) : Out := onDevice s fun s =>
  ryern s c 0x32 (19 :: bytesOf 22 63) false (checkSrchOpen c) (runSrchOpen c)

/-- The open handle that a command may name: none when it is absent, closing, or its job is not open (R320). -/
def Device.srchFor (s : Device) (n h : Nat) : Option SrchHandle :=
  match s.srchH h with
  | some x => if s.openTo x.closer n ∧ !s.tklNoJob n x.job then some x else none
  | none => none

/-- Whether a handle belongs to another LD (R323). -/
def Device.srchForeign (s : Device) (ld h : Nat) : Bool := match s.srchH h with | some x => x.ld != ld | none => false

/-- The checks of SRCH_CLOSE. -/
def checkSrchClose (c : Cmd) (s : Device) (n : Nat) : Option (Nat × Nat) :=
  let h := fld c.slot 16 1
  firstFail [(s.srchForeign c.ld h, St.notOwner), ((s.srchFor n h).isNone, St.invalidField)]

/-- The effect of SRCH_CLOSE. -/
def runSrchClose (c : Cmd) (s : Device) (n : Nat) : Device :=
  let h := fld c.slot 16 1
  match s.srchH h with
    | none => s
    | some x =>
      let s := (s.setSrchH h (some { x with closer := some n })).settleSrchClose h
      if (s.srchH h).isSome then s.hold n 4 else s

/-- SRCH_CLOSE (R320). -/
def execSrchClose (c : Cmd) (s : State) : Out := onDevice s fun s =>
  ryern s c 0x33 (bytesOf 17 63) false (checkSrchClose c) (runSrchClose c)

/-! ## SEARCH -/

/-- The stride of the query vectors (R321). -/
def queryStride (x : Ns) : Nat := ceilDiv (fmtBytes x.vecFmt x.dim) 32 * 32

/-- The terms of a SEARCH. -/
def Device.searchTerms (s : Device) (ld : Nat) (slot : BitVec 512) : List Byte :=
  s.windowRead ld (fld slot 36 4 * 32) (fld slot 28 1 * 16)

/-- The field and term checks of a SEARCH (R321 to R323). -/
def Device.searchFieldsOk (s : Device) (ld : Nat) (slot : BitVec 512) (h : SrchHandle) (x : Ns) : Bool :=
  let fm := fld slot 17 1 % 4; let k := fld slot 18 2; let l := fld slot 20 2; let rr := fld slot 24 2
  let cnt := fld slot 26 2; let terms := fld slot 28 1
  fld slot 17 1 / 8 == 0 && decide (1 ≤ k) && decide (k ≤ 1024) && decide (16 ≤ l) && decide (l ≤ 4096)
    && decide (1 ≤ fld slot 22 1) && decide (fld slot 22 1 ≤ 8) && decide (fld slot 23 1 ≤ 8)
    && decide (k ≤ rr) && decide (rr ≤ l) && decide (1 ≤ cnt) && decide (cnt ≤ 4096) && decide (terms ≤ 4)
    && ((terms == 0) == (fm == 0)) && !(fm == 2 && h.slots == 0)
    && s.bufFits ⟨ld, none, fld slot 32 4 * 32⟩ (cnt * queryStride x)
    && s.bufFits ⟨ld, none, fld slot 40 4 * 32⟩ (cnt * (32 + 16 * k))
    && s.listOk ld (fld slot 36 4 * 32) (terms * 16) && (termList (s.searchTerms ld slot)).all (termOk x.attrCols)

/-- The checks of a SEARCH in the order of R430 (R323). -/
def Device.searchCheck (s : Device) (ld n : Nat) (slot : BitVec 512) : Option (Nat × Nat) :=
  let hid := fld slot 16 1
  firstFail [(s.srchForeign ld hid, St.notOwner),
    ((match s.srchFor n hid with
      | some h => match s.ns h.nsid with
        | some x => !s.searchFieldsOk ld slot h x
        | none => true
      | none => true), St.invalidField),
    (decide (1024 ≤ s.srch.cmds.length), St.refusedCapacity)]

/-- Whether the estimated build time of the bitmap of some terms is within the budget (R325). -/
def Device.buildCheap (s : Device) (x : Ns) (terms : List Byte) (budgetUs : Nat) : Bool :=
  let cols := ((termList terms).map (fun t => leNat (t.take 1))).eraseDups.length
  decide (cols * x.capacity * 4 ≤ budgetUs * s.rdf Reg.SRCH_SCAN_RATE 0 9 0 * 1000)

/-- One query of a SEARCH starts (R325, R330, R333). -/
def Device.startQuery (s : Device) (hid : Nat) (x : Ns) (slot : BitVec 512) (c : SearchCmd) (snap idx : Nat) : Device :=
  let q : Query :=
    { id := s.srch.nextQuery, n := c.n, idx, h := hid, snap, mode := 0, slot := none, graph := 0, side := 0, hits := [],
      nodes := 0, survivors := 0, sideHits := [], sideSeen := 0, sideFrom := none }
  let s : Device := { s with srch := { s.srch with queries := s.srch.queries ++ [q], nextQuery := q.id + 1 } }
  let s := s.filterQuery hid q c.terms (fld slot 17 1 % 4) (s.buildCheap x c.terms (fld slot 44 4))
  if bit (fld slot 17 1) 2 then s
  else match s.query q.id with
    | some q => s.placeSide hid q
    | none => s

/-- The checks of SEARCH. -/
def checkSearch (c : Cmd) (s : Device) (n : Nat) : Option (Nat × Nat) :=
  s.searchCheck c.ld n c.slot

/-- The effect of SEARCH. -/
def runSearch (c : Cmd) (s : Device) (n : Nat) : Device :=
  let hid := fld c.slot 16 1
  let s := s.recount hid
  match s.srchH hid with
  | none => s
  | some h => match s.ns h.nsid with
    | none => s
    | some x =>
      let cmd : SearchCmd :=
        { n, h := hid, ld := c.ld, k := fld c.slot 18 2, left := fld c.slot 26 2, short := 0, answer := fld c.slot 40 4 * 32,
          terms := s.searchTerms c.ld c.slot, query := fld c.slot 32 4 * 32, stride := queryStride x }
      let s := ({ s with srch := { s.srch with cmds := s.srch.cmds ++ [cmd] } } : Device).showSrch hid
      let snap := ((s.cmd n).bind (·.snap)).getD (s.rd Reg.SRCH_H_SEQ hid)
      let s := (List.range cmd.left).foldl (fun a i => a.startQuery hid x c.slot cmd snap i) s
      if bit (fld c.slot 17 1) 2 then s else s.releaseSide hid

/-- SEARCH (R321 to R325, R330, R333): its snapshot is the one of its admission. -/
def execSearch (c : Cmd) (s : State) : Out := onDevice s fun s =>
  ryern s c 0x34 ([29, 30, 31] ++ bytesOf 48 63) false (checkSearch c) (runSearch c)

/-! ## Inserts, deletes and folds -/

/-- The ID field of record `i` of a list with records of `size` bytes, whole: bits above 39 must be 0 (R332). -/
def Device.vecId (s : Device) (ld : Nat) (slot : BitVec 512) (size i : Nat) : Nat :=
  leNat (s.windowRead ld (fld slot 24 4 * 32 + i * size) 8)

/-- The checks of a VEC_INSERT or VEC_DELETE in the order of R430 (R332). -/
def Device.vecCheck (s : Device) (ld n : Nat) (slot : BitVec 512) (insert : Bool) : Option (Nat × Nat) :=
  let hid := fld slot 16 1; let cnt := fld slot 20 4
  let found := match s.srchFor n hid with
    | some h => (s.ns h.nsid).map (fun x => (h, x))
    | none => none
  firstFail [(s.srchForeign ld hid, St.notOwner),
    ((match found with
      | none => true
      | some (h, x) =>
        let size := if insert then 8 + x.vecBytes else 8
        let ids := (List.range cnt).map (s.vecId ld slot size)
        let q := s.rd Reg.SRCH_H_SEQ hid
        cnt == 0 || decide (65536 < cnt) || !s.listOk ld (fld slot 24 4 * 32) (cnt * size)
          || ids.any (fun i => decide (x.capacity ≤ i)) || ids.eraseDups.length != cnt
          || ids.any (fun i => (s.graphVisible h x i q || h.side.any (fun e => e.id == i && e.visible q)) == insert)),
      St.invalidField),
    ((match found with
      | none => false
      | some (h, x) => if insert then decide (x.sideMax < h.side.length + cnt) else decide (x.tombMax < h.tombCount + cnt)),
      St.refusedCapacity)]

/-- The ordinal of a position in the dies of a handle (R319, R402); another one that is in service where its own is not. -/
def Device.sideOrd (s : Device) (h : SrchHandle) (x : Ns) (u : Nat) : Nat :=
  let o := h.dies.getD (u % max 1 h.dies.length) 0
  if s.ordUp o then o else s.bandOrd x.bandBase

/-- Records go to the side log of a namespace (R333, R402): for each the position among the dies of the handle, the item, and its
bytes. -/
def Device.appendSide (s : Device) (n : Nat) (h : SrchHandle) (x : Ns) (recs : List (Nat × Nat × List Byte)) : Device :=
  ((recs.map (fun r => s.sideOrd h x r.1)).eraseDups).foldl (fun a o =>
    let q := a.logRecords o 3 x.key (some n) ((recs.filter (fun r => s.sideOrd h x r.1 = o)).map (fun r => (x.bandBase, r.2.1, r.2.2)))
    { q.2 with ftl := { q.2.ftl with sideLog := nset [] q.2.ftl.sideLog o (nget [] q.2.ftl.sideLog o ++ q.1) } }) s

/-- The mutating command of a handle begins (R332, R333). -/
def Device.mutate (s : Device) (hid n : Nat) (fresh : List (Nat × List Byte)) (gone : List Nat) : Device :=
  match s.srchH hid with
  | some h => s.setSrchH hid (some { h with mutating := h.mutating ++ [n], fresh, gone })
  | none => s

/-- The checks of VEC_INSERT. -/
def checkVecInsert (c : Cmd) (s : Device) (n : Nat) : Option (Nat × Nat) :=
  s.vecCheck c.ld n c.slot true

/-- The effect of VEC_INSERT. -/
def runVecInsert (c : Cmd) (s : Device) (n : Nat) : Device :=
  let hid := fld c.slot 16 1
  let cnt := fld c.slot 20 4
  let s := s.recount hid
  match s.srchH hid with
  | none => s
  | some h => match s.ns h.nsid with
    | none => s
    | some x =>
      let size := 8 + x.vecBytes
      let recs := (List.range cnt).map (fun i => (s.vecId c.ld c.slot size i,
        s.windowRead c.ld (fld c.slot 24 4 * 32 + i * size + 8) x.vecBytes))
      ((s.mutate hid n recs []).appendSide n h x ((List.range cnt).map (fun i => (h.side.length + i, recs.getD i (0, []))))).settleVec n

/-- VEC_INSERT (R332, R333). -/
def execVecInsert (c : Cmd) (s : State) : Out := onDevice s fun s =>
  ryern s c 0x35 ([17, 18, 19] ++ bytesOf 28 63) false (checkVecInsert c) (runVecInsert c)

/-- The tombstone of an item (R333). -/
def tombstone (id : Nat) (side : Bool) (seq : Nat) : List Byte := natLe 5 id ++ natLe 1 (b2n side) ++ natLe 2 0 ++ natLe 6 seq ++ natLe 2 0

/-- The checks of VEC_DELETE. -/
def checkVecDelete (c : Cmd) (s : Device) (n : Nat) : Option (Nat × Nat) :=
  s.vecCheck c.ld n c.slot false

/-- The effect of VEC_DELETE. -/
def runVecDelete (c : Cmd) (s : Device) (n : Nat) : Device :=
  let hid := fld c.slot 16 1
  let cnt := fld c.slot 20 4
  let s := s.recount hid
  match s.srchH hid with
  | none => s
  | some h => match s.ns h.nsid with
    | none => s
    | some x =>
      let q := s.rd Reg.SRCH_H_SEQ hid
      let ids := (List.range cnt).map (s.vecId c.ld c.slot 8)
      let recs := (List.range cnt).map (fun i =>
        let id := ids.getD i 0
        (id / 128, id, tombstone id (h.side.any (fun e => e.id == id && e.visible q)) (q + 1 + i)))
      ((s.mutate hid n [] ids).appendSide n h x recs).settleVec n

/-- VEC_DELETE (R332, R333). -/
def execVecDelete (c : Cmd) (s : State) : Out := onDevice s fun s =>
  ryern s c 0x36 ([17, 18, 19] ++ bytesOf 28 63) false (checkVecDelete c) (runVecDelete c)

/-- The checks of INDEX_FOLD. -/
def checkIndexFold (c : Cmd) (s : Device) (n : Nat) : Option (Nat × Nat) :=
  let hid := fld c.slot 16 1
  firstFail [(s.srchForeign c.ld hid, St.notOwner),
    ((s.srchFor n hid).isNone || decide (fld c.slot 18 2 < 16) || decide (4096 < fld c.slot 18 2), St.invalidField)]

/-- The effect of INDEX_FOLD. -/
def runIndexFold (c : Cmd) (s : Device) (n : Nat) : Device :=
  let hid := fld c.slot 16 1
  ((s.recount hid).mutate hid n [] []).settleFold n

/-- INDEX_FOLD (R332, R335). -/
def execIndexFold (c : Cmd) (s : State) : Out := onDevice s fun s =>
  ryern s c 0x37 (17 :: bytesOf 20 63) false (checkIndexFold c) (runIndexFold c)

/-! ## Events of the coordinators -/

/-- BITMAP_BUILD_COMPLETE (R326): the build in a slot ends, and the queries that wait for it go on. -/
def execBitmapBuildComplete (h slot : Nat) (s : State) : Out :=
  onDevice s fun s => atUnit (h < 64 && slot < 8) (s.bitmapDone h slot)

/-- The effect of SIDE_BATCH_TIMER. -/
def onSideBatchTimer (h : Nat) (s : Device) : Device :=
  match s.srchH h with
  | some x => if x.sideUs = 0 then s else s.releaseSide h
  | none => s

/-- SIDE_BATCH_TIMER (R330): SIDE_BATCH_US after its first query, the open side batch is released. -/
def execSideBatchTimer (h : Nat) (s : State) : Out := onDevice s fun s =>
  atUnit (h < 64) (onSideBatchTimer h s)

/-- The effect of FOLD_APPLY_PHASE. -/
def onFoldApplyPhase (h : Nat) (recs : List FoldRecord) (s : Device) : Device :=
  match s.srchH h with
  | none => s
  | some y => match y.folding, s.ns y.nsid with
    | some n, some x => if y.foldReady ∧ !y.applying then ((s.foldApply h y x n recs).settleFold n).settleAll else s
    | _, _ => s

/-- FOLD_APPLY_PHASE (R335): the cores have ended stages 2 and 3 with these records, and the fold is applied. -/
def execFoldApplyPhase (h : Nat) (recs : List FoldRecord) (s : State) : Out := onDevice s fun s =>
  atUnit (h < 64) (onFoldApplyPhase h recs s)

end Sys2Proof.Machine
end

