-- ==== Sys2Proof/Machine/AvailOps.lean ====
section
/-! DEFINITION. The operations of availability (chapter 16): fences of dies and cores, the handover and the loss of a
half-stack, the rebuild of a SHEAVE die, the roles of the hub dies, and the test rotation. -/

namespace Sys2Proof.Machine

/-- An availability record (R552). -/
def Device.avlRecord (s : Device) (typ inst cause detail a b : Nat) : Device :=
  s.record typ (natLe 2 inst ++ natLe 1 cause ++ natLe 1 detail ++ natLe 4 a ++ natLe 4 b ++ natLe 4 0) none

/-- The compute-plane reset that a fence starts (R535), absorbed into one that runs (R250). -/
def Device.planeReset (s : Device) : Device := if s.resetting then s else s.planeDown none

/-! ## Test rotation (R547) -/

/-- AVL_ROT_POS shows the group in rotation and how many cores are in rotation. -/
def Device.showRotation (s : Device) (p : Nat) : Device :=
  s.wr Reg.AVL_ROT_POS 0 (p + ((List.range 400).filter (fun c => s.rdf Reg.CORE_STATE c 2 0 == 4)).length * 32)

/-- The group in rotation. -/
def Device.rotGroup (s : Device) : Nat := s.rdf Reg.AVL_ROT_POS 0 4 0

/-- An idle spell of a core ends and counts for its job (R246). -/
def Device.stopIdle (s : Device) (c : Nat) : Device :=
  match nget none s.work.idleFrom c, (List.range 64).find? (fun j => match s.job j with
      | some x => x.cores.contains c
      | none => false) with
  | some t, some j => (s.setIdle c none).countIdle j t
  | _, _ => s.setIdle c none

/-- A core is no longer one of the loaded cores of a job (R223). -/
def Device.unloadCore (s : Device) (c : Nat) : Device :=
  { s with work := { s.work with jobs := s.work.jobs.map (fun (e : Nat × Option Job) =>
      (e.1, e.2.map (fun (x : Job) => { x with loaded := x.loaded.filter (· ≠ c) }))) } }

/-- A core without a task enters rotation (R547): it reads STATE 4. -/
def Device.enterRotation (s : Device) (c : Nat) : Device :=
  let s := ((s.stopIdle c).unloadCore c).wrf Reg.CORE_STATE c 2 0 4
  let s : Device := { s with avl := { s.avl with awaiting := s.avl.awaiting.filter (· ≠ c) } }
  s.showRotation s.rotGroup

/-- A core leaves rotation and is idle. -/
def Device.leaveRotation (s : Device) (c : Nat) : Device :=
  if s.rdf Reg.CORE_STATE c 2 0 = 4 then s.wrf Reg.CORE_STATE c 2 0 1 else s

/-- The in-service cores of a rotation group. -/
def Device.groupCores (s : Device) (p : Nat) : List Nat :=
  (List.range 400).filter (fun c => c % 25 == p && !s.fenced (coreDie c) && s.rdf Reg.CORE_STATE c 2 0 != 0)

/-- The period of a group begins: its cores without a task enter rotation, those with one await it. -/
def Device.startGroup (s : Device) (p : Nat) : Device :=
  let s := s.showRotation p
  (s.groupCores p).foldl (fun a c =>
    if (a.task c).isSome then { a with avl := { a.avl with awaiting := a.avl.awaiting ++ [c] } } else a.enterRotation c) s

/-- The group in rotation gives way: its cores leave rotation, and none awaits it any longer. -/
def Device.endGroup (s : Device) : Device :=
  let s : Device := { s with avl := { s.avl with awaiting := [] } }
  let s := (List.range 400).foldl (fun a c => a.leaveRotation c) s
  s.showRotation s.rotGroup

/-! ## Fences -/

/-- AVL_STATUS.DEGRADED is set, and with it SB_ALERT.DEGRADED (R600). -/
def Device.degraded (s : Device) : Device :=
  if s.rdf Reg.AVL_STATUS 0 5 5 = 1 then s else (s.wrf Reg.AVL_STATUS 0 5 5 1).alert 3

/-- A core is fenced (R541, R549); one that runs a task takes the compute plane into reset (R535). -/
def Device.fenceCore (s : Device) (c : Nat) : Device :=
  if s.rdf Reg.AVL_CORE_ROT c 16 16 = 1 then s else
  let busy := (s.task c).isSome
  let s := ((s.stopIdle c).wrf Reg.AVL_CORE_ROT c 16 16 1).wrf Reg.CORE_STATE c 2 0 0
  let s : Device := { s with avl := { s.avl with awaiting := s.avl.awaiting.filter (· ≠ c) } }
  let s := ((s.degraded).avlRecord 0x1008 (0x400 + c) 0 0 0 0).showRotation s.rotGroup
  if busy then s.planeReset else s

/-! ### Half-stacks -/

/-- The half-stack of those that fit with the most free pool pages, the lowest ordinal among equals (R538). -/
def Device.freest (s : Device) (fits : Nat → Bool) : Option Nat :=
  ((List.range 40).filter (fun o => s.hsUp o && fits o)).foldl (fun (b : Option Nat) o => match b with
    | none => some o
    | some a => if s.rd Reg.TIER_HS_FREE a < s.rd Reg.TIER_HS_FREE o then some o else some a) none

/-- Pages are filled with poison code words (R538). -/
def Device.poisonPages (s : Device) (hs first n : Nat) : Device :=
  let s := s.clearMem 5 hs (first * pageBytes) (n * pageBytes)
  (List.range (n * 131072)).foldl (fun a i => a.markPoison 5 hs (first * 131072 + i) true) s

/-- A slice of a lost half-stack is homed again (R538): a pinned one that was whole takes new pages, filled with poison; any
other is not resident, and is loaded again when it is held or its layer is in the window. -/
def Device.rehomeSlice (s : Device) (sk : Nat) (o : Obj) (h : Nat) : Device :=
  match s.slice sk with
  | none => s
  | some x =>
    let s := if x.cached ∧ x.page.isSome then s.creditCached x.hs x.pages o.job else s
    let again := !x.holds.isEmpty || (o.policy == 2 && o.slots.any (fun y => y.1 == sliceLayer sk))
    if o.policy = 1 ∧ o.pin ∧ x.page.isSome then
      let moved := { x with hs := h, page := none, loaded := 0 }
      match s.placeSlice sk o moved o.job with
      | (true, s) => match (s.slice sk).bind (·.page) with
        | some p =>
          if x.resident then (s.setSlice sk (some { moved with page := some p, loaded := x.bytes })).poisonPages h p x.pages else s
        | none => s
      | (false, s) => (s.setSlice sk (some moved)).setObj (sliceObj sk) (some { o with lost := true })
    else
      let s := s.setSlice sk (some { x with hs := h, page := none, loaded := 0, cached := false, dirty := false })
      if again then s.queueLoad sk o.job else s

/-- The slices of one number of an object leave a lost half-stack; a pinned object that fits nowhere is lost (R538). -/
def Device.rehome (s : Device) (key k : Nat) : Device :=
  match s.obj key with
  | none => s
  | some o =>
    let pinned := o.policy == 1 && o.pin
    let rest := o.moved.filter (fun m => m.1 ≠ k)
    match s.freest (fun h => !pinned || !s.pinExceeds [(h, o.slicePages k)]) with
    | none => s.setObj key (some { o with moved := rest, lost := o.lost || pinned })
    | some h =>
      let n := if !o.hasWorkset then o.slicePages k
        else if o.ords.contains h || rest.any (fun m => m.2 == h) then 0 else o.workset / 2
      let s := (s.setObj key (some { o with moved := rest ++ [(k, h)] })).chargePinned h n o.job
      let s := (Device.shrinkCache 12288 s h o.job).setAside h n (o.sliceKind false) key
      (List.range o.layers).foldl (fun a l => match a.obj key with
        | some o' => a.rehomeSlice (sliceKey key l k) o' h
        | none => a) s

/-- The answer-window pages of a lost half-stack are allocated again and filled with poison code words (R538). -/
def Device.rehomeWindow (s : Device) (ld lost : Nat) : Device :=
  (List.range (s.ld ld).window.length).foldl (fun a i =>
    let l := a.ld ld
    if l.window.getD i 0 / 12288 ≠ lost then a
    else match a.freest (fun h => !a.pinExceeds [(h, 1)]) with
      | none => a
      | some h => match Device.makeRoom 12288 a h 1 none none with
        | (none, _) => a
        | (some p, a) => (((a.takePages h p 1 1 none).chargePinned h 1 none).setLd ld { l with window := l.window.set i (h * 12288 + p) }).poisonPages h p 1) s

/-- The FTL reserve of a lost half-stack, and what it held of others', is laid again on the half-stacks in service (R538, R379): page by
page in ascending ordinal, from the top of each pool share. -/
def Device.relay (s : Device) (lost : Nat) : Device :=
  let up := (List.range 40).filter s.hsUp
  let n := 12288 - poolPages + s.relaid lost
  up.zipIdx.foldl (fun a e => a.takeTop 12288 e.1 ((n + up.length - 1 - e.2) / up.length)) s

/-- A half-stack is lost (R538): it leaves service, its reserve is laid elsewhere, and what lived on it is homed again. -/
def Device.loseHalfStack (s : Device) (o : Nat) : Device :=
  let objs := s.tier.objs.filterMap (fun e => e.2.map (fun x => (e.1, x)))
  let s := objs.foldl (fun (a : Device) e => ((a.objCharges e.2).filter (fun c => c.1 = o)).foldl (fun b c => b.creditPinned o c.2 e.2.job) a) s
  let s := (List.range 16).foldl (fun (a : Device) ld =>
    a.creditPinned o (((a.ld ld).window.filter (fun p => p / 12288 = o)).length) none) s
  let s := ((s.wrf Reg.TIER_HS_STATUS o 7 6 0).wrf Reg.AVL_DIE_STATUS (sparDie o) 7 7 1).degraded
  let s := s.avlRecord 0x1009 (0x100 + sparDie o) 0 0 0 0
  let s := (s.dec Reg.TIER_POOL_BYTES 0 (12288 * pageBytes)).relay o
  let limit := 11264 * pageBytes * ((List.range 40).filter s.hsUp).length
  let s := if limit < s.rd Reg.TIER_PIN_LIMIT 0 then s.wr Reg.TIER_PIN_LIMIT 0 limit else s
  let s : Device := { s with
    tier := { s.tier with pages := s.tier.pages.filter (fun e => e.1 / 12288 ≠ o) },
    mem := { s.mem with
      bytes := s.mem.bytes.filter (fun e => e.1 / 2 ^ 40 ≠ 5 * 4096 + o),
      poison := s.mem.poison.filter (fun e => e.1 * 16 / 2 ^ 40 ≠ 5 * 4096 + o),
      merge := s.mem.merge.filter (fun m => !(m.mem == 5 && m.inst == o)) } }
  let s := objs.foldl (fun (a : Device) e =>
    ((List.range e.2.slicesPerLayer).filter (fun k => e.2.policy ≠ 0 ∧ e.2.home k = o)).foldl (fun b k => b.rehome e.1 k) a) s
  (List.range 16).foldl (fun a ld => a.rehomeWindow ld o) s

/-- The half-stacks that a lost SPAR die served (R536 to R538): each goes to its stack's other die when that one is in
service, where its controllers train; else it is lost. Narrow writes in its merge buffers are lost. -/
def Device.handOver (s : Device) (d : Nat) : Device :=
  ((List.range 40).filter (fun o => s.hsUp o && s.hsDie o == d)).foldl (fun a o =>
    let t := if sparDie o = d then twinOf d else sparDie o
    if a.fenced t then a.loseHalfStack o
    else
      let a : Device := { a with
        mem := { a.mem with merge := a.mem.merge.filter (fun m => !(m.mem == 5 && m.inst == o)) },
        avl := { a.avl with training := a.avl.training ++ [o] } }
      ((a.wrf Reg.TIER_HS_STATUS o 14 8 t).wrf Reg.TIER_HS_STATUS o 7 6 2).wrf Reg.AVL_DIE_STATUS t 6 6 1) s

/-! ### SHEAVE dies -/

/-- The in-service ordinal that serves the fewest bands, the lowest among equals (R400). -/
def Device.leastBands (s : Device) : Nat :=
  let count := fun (o : Nat) => (s.ftl.bands.filter (fun e => e.2 == o)).length
  (s.ordsUp.foldl (fun (b : Option Nat) o => match b with
    | none => some o
    | some a => if count o < count a then some o else some a) none).getD 0

/-- The bands of an ordinal, rising. -/
def Device.bandsOf (s : Device) (o : Nat) : List Nat := (s.ftl.bands.filter (fun e => e.2 == o)).map (·.1)

/-- The code words of a map entry: one block unit, or the 64 of an extent. -/
def Device.entryUnits (s : Device) (key : Nat) : List Nat :=
  if s.bandBlock (key / 1024) then [key % 1024] else rangeFrom (key % 1024) 64

/-- A band of a lost ordinal is rebuilt (R400, R410): it moves to the ordinal that serves the fewest bands; every valid unit
is reconstructed and written there as KIND 1, unless another member of its group is lost too; BAND_MOVE is journalled. -/
def Device.rebuildBand (s : Device) (lost band : Nat) : Device :=
  let gone := s.groupLost lost
  let entries := s.ftl.map.filter (fun e => e.1 / 1024 == band && e.2.loc != unmapped)
  let old := entries.flatMap (fun e => (s.entryUnits e.1).map (fun u =>
    (u, s.stored lost (e.2.loc + (u - e.1 % 1024) * 131072))))
  let new := s.leastBands
  let block := s.bandBlock band
  let clear := fun (m : NMap MapEntry) => (m.filter (fun e => e.1 / 1024 ≠ band))
  let s := s.setFtl (fun f => { f with
    bands := nset 255 f.bands band new,
    map := if gone then entries.foldl (fun m e => nset {} m e.1 { lost := true }) (clear f.map) else clear f.map,
    durable := if gone then entries.foldl (fun m e => nset {} m e.1 { lost := true }) (clear f.durable) else clear f.durable })
  let s := if gone then s else (old.foldl (fun a x => match x.2 with
    | some c => a.bufferCw new band x.1 1 c.key c.data none 0 none none block
    | none => a) s).inc Reg.FTL_REBUILD_BYTES (rainGroup lost) (old.length * cwBytes)
  s.journal new 7 none (natLe 4 band ++ natLe 1 new) 0 none

/-- What a lost die's write buffer holds of bands and logs is written on the new ordinals (R400, R410). `bufs` are its code
words that the map did not show, in order. -/
def Device.rebuffer (s : Device) (lost log : Nat) (bufs : List BufCw) : Device :=
  bufs.foldl (fun a b =>
    if b.cw.kind ≤ 1 then a.bufferCw (a.bandOrd b.cw.band) b.cw.band b.cw.unit 0 b.cw.key b.cw.data b.cmd b.txn none none b.slc
    else
      let w := a.rd Reg.FTL_WSN log
      let a := a.bufferCw log b.cw.band b.cw.unit b.cw.kind b.cw.key b.cw.data b.cmd b.txn none none b.slc
      let move := fun (m : NMap (List LogRow)) =>
        let mine := nget [] m lost
        let go := mine.filter (fun r => r.wsn == b.cw.wsn && !r.durable)
        nset [] (nset [] m lost (mine.filter (fun r => !(r.wsn == b.cw.wsn && !r.durable)))) log
          (nget [] m log ++ go.map (fun (r : LogRow) => { r with wsn := w }))
      a.setFtl (fun f => if b.cw.kind = 2 then { f with rowLog := move f.rowLog } else { f with sideLog := move f.sideLog })) s

/-- The rows and records that a lost ordinal's logs hold on the medium are reconstructed and logged again. -/
def Device.relog (s : Device) (lost log kind : Nat) : Device :=
  let m := if kind = 2 then s.ftl.rowLog else s.ftl.sideLog
  let rows := nget [] m lost
  if rows.isEmpty then s else
  let d := s.logRecords log kind 0 none (rows.map (fun r => (r.band, r.row, r.bytes)))
  d.2.setFtl (fun f =>
    let put := fun (m : NMap (List LogRow)) => nset [] (nset [] m lost []) log (nget [] m log ++ d.1)
    if kind = 2 then { f with rowLog := put f.rowLog } else { f with sideLog := put f.sideLog })

/-- The journal of a lost ordinal goes on elsewhere: the records that commands wait for are journalled by another ordinal, and
the writes of open transactions that it had mapped are written again on the new ordinals (R391, R400). -/
def Device.rejournal (s : Device) (lost log : Nat) (recs : List JRec) : Device :=
  let s := (recs.filter (fun r => r.cmd.isSome && decide (r.copies < 2))).foldl (fun a r =>
    a.journal log r.typ (if r.typ = 2 then some r.wsn else none) r.payload r.txn r.cmd) s
  let s := (recs.filter (fun r => r.typ == 1 && r.txn != 0)).foldl (fun a r =>
    let key := a.jMapKey r
    (a.entryUnits key).foldl (fun b u => match b.stored lost (leNat ((r.payload.drop 6).take 4) + (u - key % 1024) * 131072) with
      | some c => b.bufferCw (b.bandOrd c.band) c.band c.unit 0 c.key c.data none r.txn none none (b.bandBlock c.band)
      | none => b) a) s
  s.setFtl (fun f => { f with txns := f.txns.map (fun (x : Txn) => { x with
    parts := ((x.parts.filter (· ≠ lost)) ++ (f.buf.filter (fun b => b.txn = x.id)).map (·.ord)).eraseDups,
    prepared := x.prepared.filter (· ≠ lost) }) })

/-- The erases that a superquad waits for on lost dies fall away; one that waits for no other is free. -/
def Device.settleErases (s : Device) (g lost : Nat) : Device :=
  let s := s.setFtl (fun f => { f with
    erases := f.erases.filter (fun e => e.1 / 32 ≠ lost),
    secure := f.secure.map (fun (r : SecureReq) => { r with quads := r.quads.filter (fun k => k / 4096 / 32 ≠ lost) }) })
  (s.ftl.squads.filter (fun e => e.1 / 131072 == g && e.2.st == 4)).foldl (fun a e =>
    let t := e.1 / 4096 % 32; let q := e.1 % 4096
    let busy := a.ftl.erases.any (fun x => rainGroup (x.1 / 32) == g && x.1 % 32 == t && x.2.1 == q)
      || (a.members g).any (fun o => match (a.lun (nandDie o t)).job with
        | some (.erase q' _ _ _) => q' == q
        | _ => false)
    if busy then a else a.setSquad g t q {}) s

/-- A SHEAVE die is lost (R357, R400, R410): its group runs on with the other members, queued reads are reconstructed, its
bands, logs, buffers and journal move, and superquads whose parity it held are relocated. -/
def Device.loseSheave (s : Device) (lost : Nat) : Device :=
  let g := rainGroup lost
  let s := s.wrf Reg.FTL_DIE_STATUS lost 1 0 2
  let s := (rangeFrom (lost * 4) 4).foldl (fun a c => a.wrf Reg.MEDIA_CH_STATUS c 2 0 4) s
  let s := (rangeFrom (lost * 32) 32).foldl (fun a nd => a.setLun nd {} 7) s
  let reads := s.media.reads.filter (fun r => r.ord = lost)
  let s : Device := { s with media := { s.media with reads := s.media.reads.filter (fun r => r.ord ≠ lost) } }
  let s := reads.foldl (fun a r => match r.dest with
    | .member id => a.memberDone id true
    | .copy .. => a
    | _ => match a.stored lost r.loc with
      | some c => a.deliver lost 0 (some r.loc) r.dest c.data 7 (a.groupLost lost)
      | none => a) s
  let s := (s.ftl.squads.filter (fun e => e.1 / 131072 == g && e.2.st == 1)).foldl (fun a e =>
    a.closeSquad g (e.1 / 4096 % 32) (e.1 % 4096)) s
  let bufs := s.ftl.buf.filter (fun b => b.ord == lost &&
    (if b.cw.kind ≤ 1 then b.old.isNone && (!b.done || decide ((s.mapAt b.cw.band b.cw.unit).wsn < b.cw.wsn))
     else (b.cw.kind == 2 || b.cw.kind == 3) && !b.done))
  let recs := nget [] s.ftl.journal lost
  let s := s.setFtl (fun f => { f with
    buf := f.buf.filter (fun b => b.ord ≠ lost), journal := nset [] f.journal lost [] })
  let s := (s.bandsOf lost).foldl (fun a b => a.rebuildBand lost b) s
  let log := s.leastBands
  let s := s.rebuffer lost log bufs
  let s := (s.relog lost log 2).relog lost log 3
  let s := s.rejournal lost log recs
  let s := (s.ftl.squads.filter (fun e => e.1 / 131072 == g && e.2.st == 2 && parityPos (e.1 / 4096 % 32) (e.1 % 4096) == rainPos lost)).foldl
    (fun a e => a.collect g (e.1 / 4096 % 32) (e.1 % 4096) (fun _ _ => false)) s
  let s := (s.settleErases g lost).showGroup g
  if s.dataCapacity < 392000000000000 then s.wrf Reg.AVL_STATUS 0 8 8 1 else s

/-! ### Hub dies -/

/-- The other hub die. -/
def otherHub (d : Nat) : Nat := if d = 42 then 52 else 42

/-- The roles of the hub dies change (R526, R528): the standby holds the active role, and its link is not in L0 yet; the time it took
is not stated. -/
def Device.takeRole (s : Device) (planned : Bool) : Device :=
  let new := otherHub s.hubDie
  let v := b2n (new = 52)
  let s := ((s.wrf Reg.HIF_PORT_STATUS 0 7 0 (v * 2 ^ 7)).wrf Reg.AVL_STATUS 0 0 0 v).inc Reg.HIF_FAILOVERS 0 1
  let s : Device := { s with avl := { s.avl with beat := 0 } }
  let n := s.rdf Reg.AVL_FAILOVERS 0 15 0; let m := s.rdf Reg.AVL_FAILOVERS 0 31 16
  let s := s.wr Reg.AVL_FAILOVERS 0 (if planned then n + min 65535 (m + 1) * 65536 else min 65535 (n + 1) + m * 65536)
  let d := s.draw
  let s := d.2.wr Reg.AVL_LAST_FAILOVER_US 0 (d.1 % 2 ^ 32)
  let s := s.avlRecord (if planned then 0x1004 else 0x1003) 0 0 new (d.1 % 2 ^ 32) 0
  (s.raiseAll 3).alert 4

/-- A command that runs again from its start after an unplanned failover (R527). -/
def rerunOp (op : Nat) : Bool := op == 0x00 || op == 0x01 || op == 0x02 || op == 0x03 || op == 0x0C || op == 0x10

/-- The commands that run again after an unplanned failover: what they have under way is let go, and they are admitted
commands that have not started (R527). -/
def Device.rerun (s : Device) : Device :=
  let again := fun (p : Pending) => (p.phase == Phase.started) && rerunOp (fld p.slot 0 1)
  let ns := (s.cmds.filter again).map (·.n)
  let s := ns.foldl (fun a n => (a.dropReads (fun d => match d with | .cmd m _ => m == n | _ => false)).endSecure n) s
  { s with
    cmds := s.cmds.map (fun p => if again p then { p with phase := .admitted, ran := false, held := none, status := 0, result := 0 } else p),
    media := { s.media with ios := s.media.ios.filter (fun r => !ns.contains r.n) },
    ftl := { s.ftl with
      waitCredit := s.ftl.waitCredit.filter (fun w => !ns.contains w.1),
      buf := s.ftl.buf.map (fun (b : BufCw) => if b.cmd.any ns.contains then { b with cmd := none } else b),
      journal := s.ftl.journal.map (fun e => (e.1, e.2.map (fun (r : JRec) => if r.cmd.any ns.contains then { r with cmd := none } else r))) },
    net := s.net.filter (fun p => !(p.typ == 5 && p.dstUnit == 0 && (p.dstDie == 42 || p.dstDie == 52))),
    fab := s.fab.purge (fun p => p.typ == 5 && p.dstUnit == 0 && (p.dstDie == 42 || p.dstDie == 52)) }

/-! ### Dies -/

/-- A die is fenced and its degraded mode entered (R533 to R540). -/
def Device.fenceDie (s : Device) (d cause : Nat) : Device :=
  if s.fenced d then s else
  let t := (s.clock (mastIndex s.hubDie)).value
  let s := (s.wrf Reg.AVL_DIE_STATUS d 5 0 (1 + cause * 4)).wr Reg.AVL_DIE_FENCE_TIME d t
  let s := if d < 64 then s.orr Reg.AVL_FENCE_LO 0 (2 ^ d) else s.orr Reg.AVL_FENCE_HI 0 (2 ^ (d - 64))
  let s := (s.degraded).avlRecord 0x1001 (0x100 + d) cause 0 0 0
  if dieKind d = 1 then
    let s := (rangeFrom (sparOrd d * 10) 10).foldl (fun a c => (a.stopIdle c).wrf Reg.CORE_STATE c 2 0 0) s
    let s : Device := { s with avl := { s.avl with awaiting := s.avl.awaiting.filter (fun c => coreDie c ≠ d) } }
    ((s.showRotation s.rotGroup).handOver d).planeReset
  else if dieKind d = 0 then s.loseSheave (sheaveOrd d)
  else if d = 42 ∨ d = 52 then
    let s := (s.wrf Reg.AVL_STATUS 0 3 3 1)
    let ready := s.rdf Reg.AVL_STATUS 0 1 1 == 1
    let s := s.wrf Reg.AVL_STATUS 0 1 1 0
    if d = s.hubDie ∧ ready then ((s.takeRole false).rerun).planeReset else s
  else s.planeReset

end Sys2Proof.Machine
end

