-- ==== Sys2Proof/Machine/Engine.lean ====
section
/-! DEFINITION. The engine instructions and the engines' own events (chapters 03, 04 and 05): WLOAD, MAC, DRAIN,
UNIT_INSTRUCTION_PLACE, UNIT_INSTRUCTION_COMPLETE, ROW_GATE, VERDICT_ISSUE and SEQUENCER_MISMATCH. -/

namespace Sys2Proof.Machine

/-- An event of a core that exists; a SYNC that waits goes on if it can, and a job fault it reports is answered at once (R109, R247). -/
def atCore (c : Nat) (s : Device) : Effect := atUnit (decide (c < 400)) (s.settleCore c)

/-! ## Lane registers -/

/-- The bytes of one lane-register bank with its checksum strip (R76, R152, R460). -/
def bankBytes : Nat := 128 * 256 + 2048

/-- The address of a lane's strip in memory code 2. -/
def laneAddr (bank row : Nat) : Nat := bank * bankBytes + row * 256

/-- The code of element `k` of a lane (R79). -/
def Device.laneElem (s : Device) (e bank row fmt k : Nat) : Nat :=
  let w := fmtBits fmt
  if w = 4 then leNat (s.readMem 2 e (laneAddr bank row + k / 2) 1) / 2 ^ (4 * (k % 2)) % 16
  else leNat (s.readMem 2 e (laneAddr bank row + k * (w / 8)) (w / 8))

/-- The fp32 column sum of element position `k` in the checksum strip (R152). -/
def Device.stripElem (s : Device) (e bank k : Nat) : F32 :=
  BitVec.ofNat 32 (leNat (s.readMem 2 e (laneAddr bank 128 + 4 * k) 4))

/-- The effect of a WLOAD on the shadow bank (R86, R102, R152): the rows of its range, zero in every other row, and the
column sums of the range's weights, each exact and rounded once. -/
def Device.wloadEffect (s : Device) (c : Nat) (i : Word128) : Device :=
  let e := s.physEngine c (ifld i 119 118)
  let g := s.engine e
  let bank := 1 - g.active
  let fmt := ifld i 115 112; let r0 := ifld i 107 101; let n := ifld i 100 93
  let src := ifld i 69 48; let stride := ifld i 47 36 * 32
  let rowAt := fun (r : Nat) => src + (r - r0) * stride
  let s := (List.range 128).foldl (fun a r =>
    if r0 ≤ r ∧ r < r0 + n then
      let pz := (List.range 16).filter (fun w => a.corePoison c (rowAt r + 16 * w))
      a.writeMem 2 e (laneAddr bank r) (a.coreRead c (rowAt r) 256) pz
    else a.writeMem 2 e (laneAddr bank r) (List.replicate 256 0) []) s
  let strip := (List.range 512).flatMap (fun k =>
    if k < 2048 / fmtBits fmt then
      natLe 4 (sumExact ((rangeFrom r0 n).map (fun r => decodeFmt fmt (s.laneElem e bank r fmt k)))).toNat
    else natLe 4 0)
  let s := s.writeMem 2 e (laneAddr bank 128) strip []
  let g := { g with tiles := nset {} g.tiles bank ⟨fmt, r0, n⟩ }
  (((s.setEngine e g).wrf Reg.ENG_STATUS e 1 1 1).wrf Reg.ENG_STATUS e 8 7 1).wrf Reg.ENG_STATUS e 10 10 0

/-- What one MAC works on: the physical engine, its active bank, the formats, elements per step, ranges and operand. -/
structure MacArgs where
  eng : Nat
  bank : Nat
  wf : Nat
  af : Nat
  epc : Nat
  klen : Nat
  rowFirst : Nat
  rowCount : Nat
  tokFirst : Nat
  tokCount : Nat
  opnd : Nat
  stride : Nat
  init : Bool
  deriving DecidableEq, Repr

/-- The fields of a MAC (R101). -/
def Device.macArgs (s : Device) (c : Nat) (i : Word128) : MacArgs :=
  let e := s.physEngine c (ifld i 119 118)
  let g := s.engine e
  { eng := e, bank := if ifld i 117 117 = 1 then 1 - g.active else g.active, wf := ifld i 115 112, af := ifld i 111 108,
    epc := ((pairEpc (ifld i 115 112) (ifld i 111 108)).map (·.1)).getD 8, klen := ifld i 79 70,
    rowFirst := ifld i 107 101, rowCount := ifld i 100 93, tokFirst := ifld i 92 87, tokCount := ifld i 86 80,
    opnd := ifld i 69 48, stride := ifld i 47 36 * 32, init := ifld i 116 116 == 1 }

/-- The exact product of a weight and an operand element (R131): of two integers it is an integer, which has no negative zero. -/
def MacArgs.product (a : MacArgs) (w x : FV) : PV :=
  match mulV w x with
  | .fin n m => if m = 0 ∧ pairClass a.wf a.af = 2 then .fin false 0 else .fin n m
  | p => p

/-- One step of a lane (R131, R132): the exact sum of the products of elements below K_LEN, added to the accumulator and
rounded once; under INIT the first step replaces it. -/
def macStep (a : MacArgs) (w x : Nat → FV) (j : Nat) (acc : F32) : F32 :=
  let ks := (rangeFrom (j * a.epc) a.epc).filter (· < a.klen)
  macSum (ks.map (fun k => a.product (w k) (x k))) (if a.init && j == 0 then none else some acc)

/-- The steps of one token slot (R103). -/
def macSteps (a : MacArgs) : Nat := ceilDiv a.klen a.epc

/-- The accumulator of one lane and slot after a MAC. -/
def macLane (a : MacArgs) (w x : Nat → FV) (acc : F32) : F32 :=
  (List.range (macSteps a)).foldl (fun v j => macStep a w x j v) acc

/-- One token slot of a MAC: every lane of the row range, the checksum lane (R153), the token sum, which is 0 for an operand that is no
integer (R135), the step count and the poison of the operand chunk and of the lanes (R467). -/
def Device.macSlot (s : Device) (c : Nat) (a : MacArgs) (g : Engine) (t : Nat) : Engine :=
  let chunk := a.opnd + (t - a.tokFirst) * a.stride
  let xs := (List.range a.klen).map (fun k => s.coreElem c chunk a.af k)
  let x := fun k => decodeFmt a.af (xs.getD k 0)
  let chunkPz := (List.range (ceilDiv (fmtBytes a.af a.klen) 16)).any (fun w => s.corePoison c (chunk + 16 * w))
  let rows := rangeFrom a.rowFirst a.rowCount
  let g := rows.foldl (fun (h : Engine) r =>
    let w := fun k => decodeFmt a.wf (s.laneElem a.eng a.bank r a.wf k)
    let key := t * 128 + r
    let pz := chunkPz || (List.range 16).any (fun n => s.wordPoison 2 a.eng ((laneAddr a.bank r) / 16 + n))
    { h with acc := nset 0 h.acc key (macLane a w x (nget 0 h.acc key)),
             accPoison := nset false h.accPoison key (pz || (!a.init && nget false h.accPoison key)) }) g
  let cs := macLane a (fun k => f32Val (s.stripElem a.eng a.bank k)) x (nget 0 g.csum t)
  let n := if a.init then macSteps a else nget 0 g.steps t + macSteps a
  let codes := (xs.map (signed (fmtBits a.af))).foldl (· + ·) (0 : Int)
  let old : Int := if a.init then 0 else (nget 0 g.tsum t : F32).toInt
  { g with csum := nset 0 g.csum t cs, steps := nset 0 g.steps t n,
           tsum := nset 0 g.tsum t (if a.af = 3 ∨ a.af = 4 then BitVec.ofInt 32 (old + codes) else 0) }

/-- The accumulation group after a MAC (R154, R156): INIT starts one; it stays checked while row and token ranges agree
and match the tile, and WFMT is the tile's. -/
def macGroup (a : MacArgs) (tile : Tile) (g : Group) : Group :=
  let fits := a.rowFirst == tile.rowFirst && a.rowCount == tile.rowCount && a.wf == tile.wfmt
  if a.init then ⟨fits, a.rowFirst, a.rowCount, a.tokFirst, a.tokCount, pairClass a.wf a.af⟩
  else { g with checked := g.checked && fits && g.rowFirst == a.rowFirst && g.rowCount == a.rowCount
                  && g.tokFirst == a.tokFirst && g.tokCount == a.tokCount }

/-- The effect of a MAC (R76, R81, R103, R131 to R135): the swap, then each slot of the token range in ascending order;
without a tile in the bank it is an instruction fault, under SWAP too (log entry 165). -/
def Device.macEffect (s : Device) (c : Nat) (i : Word128) : Device :=
  let a := s.macArgs c i
  let g := s.engine a.eng
  let tile := nget {} g.tiles a.bank
  if tile.rowCount = 0 then s.instrFault c 3 i (queueOf i)
  else
    let swap := ifld i 117 117 == 1
    let g1 := (rangeFrom a.tokFirst a.tokCount).foldl (fun h t => s.macSlot c a h t) { g with active := a.bank }
    let s := s.setEngine a.eng { g1 with group := macGroup a tile g.group }
    let s := s.wrf Reg.ENG_STATUS a.eng 0 0 1
    let s := s.wrf Reg.ENG_STATUS a.eng 10 9 1
    let s := if swap then s.wrf Reg.ENG_STATUS a.eng 8 7 0 else s
    let cycles := a.tokCount * macSteps a
    (s.inc Reg.ENG_ACC_CYCLES a.eng cycles).inc Reg.ENG_LANE_CYCLES a.eng (cycles * a.rowCount)

/-- The sum check of one slot at the latch move (R155, R157): passes, passes as non-finite, with C and S. -/
def Device.sumSlot (s : Device) (c : Nat) (g : Engine) (t : Nat) : Bool × Bool × F32 × F32 :=
  let vals := (rangeFrom g.group.rowFirst g.group.rowCount).map (fun r => f32Val (nget 0 g.acc (t * 128 + r)))
  let sv := sumExact vals
  let av := sumExact (vals.map absV)
  let cv := nget 0 g.csum t
  let rel := BitVec.ofNat 32 (s.rd (Reg.TLT_TOL_REL + 4 * g.group.cls) c)
  let ab := BitVec.ofNat 32 (s.rd (Reg.TLT_TOL_ABS + 4 * g.group.cls) c)
  let (ok, nf) := slotPasses cv sv (tolerance rel ab av cv (nget 0 g.steps t))
  (ok, nf, cv, sv)

/-- The sum check of a DRAIN at the latch move (R155, R157, R467): the first failing slot, which alone is logged and compared (log entry
157), and TLT_NONFINITE and MEM_CORE_POISON_PASS count the slots that pass as non-finite and because they are poisoned. -/
def Device.drainCheck (s : Device) (c e logical epoch ordinal : Nat) (g : Engine) : DrainCheck × Device :=
  let toks := if g.group.checked then rangeFrom g.group.tokFirst g.group.tokCount else []
  let pzSlot := fun t => (rangeFrom g.group.rowFirst g.group.rowCount).any (fun r => nget false g.accPoison (t * 128 + r))
  let sums := (toks.filter (fun t => !pzSlot t)).map (fun t => (t, s.sumSlot c g t))
  ({ eng := e, logical, epoch, ordinal, checked := g.group.checked,
     sumFail := (sums.find? (fun x => !x.2.1)).map (fun x => (x.1, x.2.2.2.1, x.2.2.2.2)) },
    (s.inc Reg.TLT_NONFINITE c (sums.filter (fun x => x.2.2.1)).length).inc Reg.MEM_CORE_POISON_PASS c (toks.filter pzSlot).length)

/-- The fp32 field of a rescale entry (R136). -/
def Device.entryField (s : Device) (c a k : Nat) : F32 := BitVec.ofNat 32 (leNat (s.coreRead c (a + 4 * k) 4))

/-- A saturation or NaN of a drain conversion is counted (R144). -/
def Device.countDrain (s : Device) (e sel : Nat) (n : Narrow) : Device :=
  let s := if n.sat then s.inc (Reg.QNT_SAT + 4 * (8 * (e % 4) + sel)) (e / 4) 1 else s
  if n.nan then s.inc (Reg.QNT_NAN + 4 * (e % 4)) (e / 4) 1 else s

/-- One row and slot of a DRAIN (R104, R137): the rescaled result, ENG_AMAX, the conversion with its draw, its counts;
a poisoned accumulator or entry poisons the result, which raises and counts nothing (R467). Answers the code and the
mark. -/
def Device.drainOne (s : Device) (c : Nat) (i : Word128) (e t r : Nat) : (Nat × Bool) × Device :=
  let g := s.engine e
  let ofmt := ifld i 117 114; let sel := ifld i 112 110
  let tbl := ifld i 47 34 * 256 + r * 16
  let y := rescale (s.entryField c tbl 0) (s.entryField c tbl 1) (s.entryField c tbl 2) (s.entryField c tbl 3)
    (nget 0 g.latch (t * 128 + r)) (nget 0 g.tsumLatch t : F32).toInt
  let pz := nget false g.latchPoison (t * 128 + r) || s.corePoison c tbl
  let stoch := ifld i 113 113 == 1 && ofmt != 7
  let (d, l) := lfsrDraw g.lfsr
  let s := if stoch then (s.setEngine e { g with lfsr := l }).inc Reg.QNT_SR_DRAWS c 1 else s
  let n := narrow ofmt (if stoch then some d else none) y
  if pz then ((n.code, true), s)
  else
    let am := Reg.ENG_AMAX + 4 * sel
    let s := s.wr am e (raiseAmax (BitVec.ofNat 32 (s.rd am e)) y).toNat
    ((n.code, false), s.countDrain e sel n)

/-- The 16-byte chunks of packed elements that hold a poisoned one. -/
def poisonChunks (fmt : Nat) (marks : List Bool) : List Nat :=
  ((List.range marks.length).filter (fun k => marks.getD k false)).map (fun k => k * fmtBits fmt / 128) |>.eraseDups

/-- One slot of a DRAIN: its rows in ascending order, written in the element order of R79. -/
def Device.drainSlot (s : Device) (c : Nat) (i : Word128) (e t : Nat) : Device :=
  let r0 := ifld i 109 103
  let (outs, s) := (rangeFrom r0 (ifld i 102 95)).foldl (fun (acc : List (Nat × Bool) × Device) r =>
    let (o, s') := acc.2.drainOne c i e t r
    (acc.1 ++ [o], s')) ([], s)
  s.coreWrite c (ifld i 81 60 + (t - ifld i 94 89) * ifld i 59 48 * 32) (packElems (ifld i 117 114) (outs.map (·.1)))
    (poisonChunks (ifld i 117 114) (outs.map (·.2)))

/-- The effect of a DRAIN (R77, R104, R135, R155): the latch move with its sum check, then the slots in ascending
order; the DRAIN awaits its verdict in the epoch in which it was placed. -/
def Device.drainEffect (s : Device) (c : Nat) (i : Word128) (epoch : Nat) : Device :=
  let e := s.physEngine c (ifld i 119 118)
  let g := s.engine e
  let (ord, s) := s.takeOrdinal c epoch
  let (chk, s) := s.drainCheck c e (ifld i 119 118) epoch ord g
  let k := s.core c
  let s := s.setCore c { k with
    drains := k.drains ++ [chk],
    epochs := k.epochs.map (fun x => if x.num = epoch then { x with awaiting := x.awaiting + 1 } else x) }
  let s := s.setEngine e { g with latch := g.acc, latchPoison := g.accPoison, tsumLatch := g.tsum }
  let s := (s.wrf Reg.ENG_STATUS e 2 2 1).wrf Reg.ENG_STATUS e 10 10 0
  (rangeFrom (ifld i 94 89) (ifld i 88 82)).foldl (fun a t => a.drainSlot c i e t) s

/-! ## The rows -/

/-- An instruction word as one of a row's UNIT and OP (R99): the row names them, whatever its top bits hold (log entry 6). -/
def asUnit (u op : Nat) (i : Word128) : Word128 :=
  if ifld i 127 124 = u ∧ (if u = 2 then ifld i 123 118 else ifld i 123 120) = op then i
  else
    let v := setBits i.toNat 127 124 u
    BitVec.ofNat 128 (if u = 2 then setBits v 123 118 op else setBits v 123 120 op)

/-- A unit instruction of a row (R99). -/
def unitRow (u op : Nat) (c : Nat) (i : Word128) (body : Word128 → Device) : Effect := atCore c (body (asUnit u op i))


/-- The effect of UNIT_INSTRUCTION_PLACE. -/
def onUnitInstructionPlace (c : Nat) (i : Word128) (s : Device) : Device :=
  if s.faulted c then s
  else match malformed i with
    | some cause => s.instrFault c cause i (queueOf i)
    | none =>
      if queueOf i = 6 then s.runSync c i
      else if s.mayPlace c i then (s.place c i).2 else s.inc Reg.CORE_SEQ_WAIT c 1

/-- UNIT_INSTRUCTION_PLACE (R97, R98, R111): a malformed instruction is an instruction fault; the sequencer executes a SYNC itself; it
stalls while the queue has 8 entries or the scoreboard 48, while it waits at a SYNC, while it is halted, and after a fault. A
refused placement counts as one cycle of CORE_SEQ_WAIT (log entry 158). -/
def execUnitInstructionPlace (c : Nat) (i : Word128) (s : State) : Out := onDevice s fun s =>
  atCore c (onUnitInstructionPlace c i s)

/-- WLOAD (R102). -/
def execWload (c : Nat) (i : Word128) (s : State) : Out := onDevice s fun s =>
  unitRow 1 1 c i (fun i => s.runUnit c i (fun t _ => t.wloadEffect c i))

/-- MAC (R103). -/
def execMac (c : Nat) (i : Word128) (s : State) : Out := onDevice s fun s =>
  unitRow 1 2 c i (fun i => s.runUnit c i (fun t _ => t.macEffect c i))

/-- DRAIN (R104). -/
def execDrain (c : Nat) (i : Word128) (s : State) : Out := onDevice s fun s =>
  unitRow 1 3 c i (fun i => s.runUnit c i (fun t p => t.drainEffect c i p.epoch))

/-- The engine's counters and busy bits at the completion of an engine instruction (R121, R122). -/
def Device.engineDone (s : Device) (c : Nat) (i : Word128) : Device :=
  let e := s.physEngine c (ifld i 119 118)
  let op := ifld i 123 120
  if op = 1 then ((s.inc Reg.ENG_WLOAD_COUNT e 1).wrf Reg.ENG_STATUS e 1 1 0).wrf Reg.ENG_STATUS e 8 7 2
  else if op = 2 then (s.inc Reg.ENG_MAC_COUNT e 1).wrf Reg.ENG_STATUS e 0 0 0
  else (s.inc Reg.ENG_DRAIN_COUNT e 1).wrf Reg.ENG_STATUS e 2 2 0

/-- The effect of UNIT_INSTRUCTION_COMPLETE. -/
def onUnitInstructionComplete (c seq : Nat) (s : Device) : Device :=
  let k := s.core c
  match k.board.find? (fun p => p.seq = seq ∧ p.issued) with
  | none => s
  | some p =>
    if p.queue = 5 ∧ k.dma.any (fun d => !d.probe && d.seq == seq) then s
    else
      let s := (s.setCore c { k with board := k.board.filter (fun q => q.seq ≠ seq) }).showQueues c
      let s := if p.queue < 4 then s.engineDone c p.instr else s
      if ifld p.instr 18 18 = 1 then s.postSem c (ifld p.instr 17 13) 1 p.instr p.queue else s

/-- UNIT_INSTRUCTION_COMPLETE (R99): an issued instruction leaves the scoreboard, a DMA once none of its packets is
outstanding; its trailer posts a semaphore. -/
def execUnitInstructionComplete (c seq : Nat) (s : State) : Out := onDevice s fun s =>
  atCore c (onUnitInstructionComplete c seq s)

/-- The effect of ROW_GATE. -/
def onRowGate (e : Nat) (s : Device) : Device :=
  if s.rdf Reg.ENG_STATUS e 2 0 = 0 then s.wrf Reg.ENG_STATUS e 10 10 1 else s

/-- ROW_GATE (R87): an engine that has run nothing for 16 cycles gates its whole row. -/
def execRowGate (e : Nat) (s : State) : Out := onDevice s fun s =>
  atUnit (decide (e < 1600)) (onRowGate e s)

/-- A clean verdict of a DRAIN (R161, R182): counted, one fewer awaited, and the FAILs of its site attributed. -/
def Device.drainClean (s : Device) (c : Nat) (d : DrainCheck) (numeric : Bool) : Device :=
  let tries := s.site c d.epoch d.ordinal 0
  let s := s.inc (if numeric then Reg.TLT_NUMERIC else if d.checked then Reg.TLT_CLEAN else Reg.TLT_UNCHECKED) c 1
  let s := (s.verdictClean c d.epoch).setSite c d.epoch d.ordinal 0 []
  if numeric then s else s.attribute c d.epoch (d.eng % 4) tries

/-- Whether a failing sum check repeats the last attempt on another physical engine bit for bit (R180). -/
def sameAgain (tries : List Attempt) (phys : Nat) (f : Nat × F32 × F32) : Bool :=
  match tries.getLast? with
  | some t => t.eng != phys && t.check == 0 && t.slot == f.1 && t.c == f.2.1 && t.s == f.2.2
  | none => false

/-- The effect of VERDICT_ISSUE. A DRAIN that fails both checks counts and is logged as one that fails the sum check (log entry 157). -/
def onVerdictIssue (e : Nat) (twinOk : Bool) (s : Device) : Device :=
  let c := e / 4
  let k := s.core c
  match k.drains.find? (fun d => d.eng = e) with
  | none => s
  | some d =>
    let s := s.setCore c { k with drains := k.drains.erase d }
    let job := s.coreJob c
    let tries := s.site c d.epoch d.ordinal 0
    match d.sumFail with
    | some f =>
      if twinOk && s.rdf Reg.TLT_VERDICT_CTL c 4 4 == 1 && sameAgain tries (e % 4) f then
        let s := s.record 0x0502 (tltBody c (e % 4) d.epoch 0 tries.length f.1 (job.getD 0) f.2.1 f.2.2) (s.jobViewer job)
        s.drainClean c d true
      else (s.inc Reg.TLT_FAIL_SUM c 1).verdictFail c d.epoch d.ordinal 0 ⟨e % 4, 0, f.1, f.2.1, f.2.2⟩ (some d.logical)
    | none =>
      if twinOk then s.drainClean c d false
      else (s.inc Reg.TLT_FAIL_DRAIN c 1).verdictFail c d.epoch d.ordinal 0 ⟨e % 4, 1, 0xFF, 0, 0⟩ (some d.logical)

/-- VERDICT_ISSUE (R161, R162): the verdict of the engine's oldest DRAIN without one; `twinOk` says that every drain
twin and both token sums agreed (R158). -/
def execVerdictIssue (e : Nat) (twinOk : Bool) (s : State) : Out := onDevice s fun s =>
  atCore (e / 4) (onVerdictIssue e twinOk s)

/-- The effect of SEQUENCER_MISMATCH: its ordinal is that of the next check of the epoch (log entry 160). -/
def onSequencerMismatch (c : Nat) (s : Device) : Device :=
  if s.resetting then s
  else
    let d := s.takeOrdinal c (s.epoch c)
    d.2.checkFail c 0xFF 3 d.1

/-- SEQUENCER_MISMATCH (R159). -/
def execSequencerMismatch (c : Nat) (s : State) : Out :=
  onDevice s fun s => atCore c (onSequencerMismatch c s)

end Sys2Proof.Machine
end

