-- ==== Sys2Proof/Machine/Vector.lean ====
section
/-! DEFINITION. The vector instructions (R105, R106, R126 to R130, R144, R467). -/

namespace Sys2Proof.Machine

/-- The fp32 value of element `k` of an input, widened exactly (R106). -/
def Device.vecElem (s : Device) (c a fmt k : Nat) : F32 := encodeVal (decodeFmt fmt (s.coreElem c a fmt k))

/-- One result of an element-wise operation in fp32 (R106); `d` is the old element of the destination, for FMA. -/
def vecOp (vop : Nat) (a b d : F32) : F32 :=
  if vop = 1 then fadd a b
  else if vop = 2 then fsub a b
  else if vop = 3 then fmul a b
  else if vop = 4 then ffma a b d
  else if vop = 5 then maxV a b
  else if vop = 6 then minV a b
  else if vop = 7 then fabs a
  else if vop = 8 then fexp a
  else if vop = 9 then frecip a
  else if vop = 0x0A then frsqrt a
  else if vop = 0x0B then fsigmoid a
  else if vop = 0x0C then fmul (fmul a (fsigmoid a)) b
  else a

/-- The result of a reduction (R106): RSUM in ascending order from +0, RMAX with NaN, ABSMAX without. -/
def vecReduce (vop : Nat) (xs : List F32) : F32 :=
  if vop = 0x10 then xs.foldl fadd 0
  else if vop = 0x11 then (match xs with | [] => 0 | x :: r => r.foldl maxV (if isNaN x then f32NaN else x))
  else xs.foldl raiseAmax 0

/-- The counts of a vector conversion (R144): only for a narrow FMT_D. -/
def Device.countVec (s : Device) (c fmt : Nat) (y : F32) (n : Narrow) : Device :=
  if 4 < fmt then s else
  let s := if n.sat then s.inc Reg.QNT_VSAT c 1 else s
  let s := if n.nan then s.inc Reg.QNT_VNAN c 1 else s
  s.wr Reg.QNT_VAMAX c (raiseAmax (BitVec.ofNat 32 (s.rd Reg.QNT_VAMAX c)) y).toNat

/-- One element of a vector instruction: computed, converted with its draw, counted; a poisoned input poisons it and it
counts nothing (R467). Answers the code and the mark. -/
def Device.vecOne (s s0 : Device) (c : Nat) (i : Word128) (k : Nat) : (Nat × Bool) × Device :=
  let vop := ifld i 123 118
  let fa := ifld i 117 114; let fb := ifld i 113 110; let fd := ifld i 109 106
  let aA := ifld i 103 87 * 32; let bA := ifld i 86 70 * 32; let dA := ifld i 69 53 * 32
  let kb := if ifld i 104 104 = 1 then 0 else k
  let a := s0.vecElem c aA fa k
  let b := if vopReadsB vop then s0.vecElem c bA fb kb else 0
  let d := if vop = 4 then s0.vecElem c dA fd k else 0
  let y := vecOp vop a b d
  let pz := s0.elemPoison c aA fa k || (vopReadsB vop && s0.elemPoison c bA fb kb)
    || (vop == 4 && s0.elemPoison c dA fd k)
  let stoch := ifld i 105 105 == 1 && fd != 7
  let w := s.core c
  let (r, l) := lfsrDraw w.vlfsr
  let s := if stoch then (s.setCore c { w with vlfsr := l }).inc Reg.QNT_SR_DRAWS c 1 else s
  let n := narrow fd (if stoch then some r else none) y
  ((n.code, pz), if pz then s else s.countVec c fd y n)

/-- The effect of a vector instruction (R105, R106): its elements in ascending order, every input read before its own
output element is written; a reduction writes one fp32 value. Of an odd number of 4-bit elements, the rest of the last byte stays (log
entry 161). `residueOk` false is a residue mismatch, a failing verdict for the current epoch (R159). -/
def Device.vecEffect (s : Device) (c : Nat) (i : Word128) (residueOk : Bool) : Device :=
  let vop := ifld i 123 118; let n := vecN i
  let aA := ifld i 103 87 * 32; let fa := ifld i 117 114; let dA := ifld i 69 53 * 32; let fd := ifld i 109 106
  let (ord, s) := s.takeOrdinal c (s.epoch c)
  let s :=
    if vopReduces vop then
      let y := vecReduce vop ((List.range n).map (fun k => s.vecElem c aA fa k))
      let pz := (List.range n).any (fun k => s.elemPoison c aA fa k)
      s.coreWrite c dA (natLe 4 y.toNat) (if pz then [0] else [])
    else
      let (outs, t) := (List.range n).foldl (fun (acc : List (Nat × Bool) × Device) k =>
        let (o, s') := acc.2.vecOne s c i k
        (acc.1 ++ [o], s')) ([], s)
      let high := leNat (s.coreRead c (dA + n / 2) 1) / 16
      t.coreWrite c dA (packHigh fd high (outs.map (·.1))) (poisonChunks fd (outs.map (·.2)))
  if residueOk then s else s.checkFail c 0xFE 2 ord

/-- A vector instruction of the row `vop`. -/
def vectorRow (vop c : Nat) (i : Word128) (ok : Bool) (s : Device) : Effect :=
  unitRow 2 vop c i (fun i => s.runUnit c i (fun t _ => t.vecEffect c i ok))

/-- ADD a + b (R106, VOP 0x01). -/
def execAdd (c : Nat) (i : Word128) (ok : Bool) (s : State) : Out :=
  onDevice s fun s => vectorRow 0x01 c i ok s

/-- SUB a − b (R106, VOP 0x02). -/
def execSub (c : Nat) (i : Word128) (ok : Bool) (s : State) : Out :=
  onDevice s fun s => vectorRow 0x02 c i ok s

/-- MUL a × b (R106, VOP 0x03). -/
def execMul (c : Nat) (i : Word128) (ok : Bool) (s : State) : Out :=
  onDevice s fun s => vectorRow 0x03 c i ok s

/-- FMA a × b + d, fused (R106, VOP 0x04). -/
def execFma (c : Nat) (i : Word128) (ok : Bool) (s : State) : Out :=
  onDevice s fun s => vectorRow 0x04 c i ok s

/-- MAX (R106, VOP 0x05). -/
def execMax (c : Nat) (i : Word128) (ok : Bool) (s : State) : Out :=
  onDevice s fun s => vectorRow 0x05 c i ok s

/-- MIN (R106, VOP 0x06). -/
def execMin (c : Nat) (i : Word128) (ok : Bool) (s : State) : Out :=
  onDevice s fun s => vectorRow 0x06 c i ok s

/-- ABS (R106, VOP 0x07). -/
def execAbs (c : Nat) (i : Word128) (ok : Bool) (s : State) : Out :=
  onDevice s fun s => vectorRow 0x07 c i ok s

/-- EXP (R106, VOP 0x08). -/
def execExp (c : Nat) (i : Word128) (ok : Bool) (s : State) : Out :=
  onDevice s fun s => vectorRow 0x08 c i ok s

/-- RECIP (R106, VOP 0x09). -/
def execRecip (c : Nat) (i : Word128) (ok : Bool) (s : State) : Out :=
  onDevice s fun s => vectorRow 0x09 c i ok s

/-- RSQRT (R106, VOP 0x0A). -/
def execRsqrt (c : Nat) (i : Word128) (ok : Bool) (s : State) : Out :=
  onDevice s fun s => vectorRow 0x0A c i ok s

/-- SIGMOID (R106, VOP 0x0B). -/
def execSigmoid (c : Nat) (i : Word128) (ok : Bool) (s : State) : Out :=
  onDevice s fun s => vectorRow 0x0B c i ok s

/-- SILU_MUL a × sigmoid(a) × b (R106, VOP 0x0C). -/
def execSiluMul (c : Nat) (i : Word128) (ok : Bool) (s : State) : Out :=
  onDevice s fun s => vectorRow 0x0C c i ok s

/-- CVT (R106, VOP 0x0D). -/
def execCvt (c : Nat) (i : Word128) (ok : Bool) (s : State) : Out :=
  onDevice s fun s => vectorRow 0x0D c i ok s

/-- RSUM (R106, VOP 0x10). -/
def execRsum (c : Nat) (i : Word128) (ok : Bool) (s : State) : Out :=
  onDevice s fun s => vectorRow 0x10 c i ok s

/-- RMAX (R106, VOP 0x11). -/
def execRmax (c : Nat) (i : Word128) (ok : Bool) (s : State) : Out :=
  onDevice s fun s => vectorRow 0x11 c i ok s

/-- ABSMAX (R106, VOP 0x12). -/
def execAbsmax (c : Nat) (i : Word128) (ok : Bool) (s : State) : Out :=
  onDevice s fun s => vectorRow 0x12 c i ok s

end Sys2Proof.Machine
end

