-- ==== Sys2Proof/Machine/Sync.lean ====
section
/-! DEFINITION. The DMA and SYNC instructions and the commit of epochs (R107 to R109, R112 to R114, R164, R168, R268):
COPY, PUT, GET, the SYNC rows and EPOCH_COMMIT. -/

namespace Sys2Proof.Machine

/-! ## DMA -/

/-- The effect of a COPY (R107): every byte is read before one is written, where the two ranges overlap (log entry 162). -/
def Device.copyEffect (s : Device) (c : Nat) (i : Word128) : Device :=
  let src := ifld i 68 52 * 32; let n := dmaBytes i
  let pz := (List.range (ceilDiv n 16)).filter (fun w => s.corePoison c (src + 16 * w))
  s.coreWrite c (ifld i 90 69) (s.coreRead c src n) pz

/-- The packets that one DMA instruction is split into: offset and bytes of each (R108). -/
def dmaParts (n : Nat) : List (Nat × Nat) := (List.range (ceilDiv n 1024)).map (fun k => (k * 1024, min 1024 (n - k * 1024)))

/-- One packet of a PUT (R108, R164, R168, R268). -/
def Device.putPacket (s : Device) (c : Nat) (i : Word128) (p : Placed) (part : Nat × Nat) : Device :=
  let k := s.core c
  let die := ifld i 119 113; let u := ifld i 112 109
  let local_ := ifld i 68 52 * 32 + part.1
  let last := part.1 + part.2 == dmaBytes i
  let ack := ifld i 34 34 == 1
  let job := s.coreJob c
  let pkt := { pktPlain (if u = 13 then 6 else 1) 0 (coreDie c) (coreUnit c) die u (ifld i 108 69 + part.1) with
    len := ceilDiv part.2 16, job := job.getD 0, jobV := job.isSome, spec := true, specEng := c * 4,
    specEpoch := p.epoch, tag := k.nextTag % 1024, notify := last && ifld i 35 35 == 1, ackReq := ack,
    body := s.coreRead c local_ part.2,
    poison := (List.range (ceilDiv part.2 16)).filter (fun w => s.corePoison c (local_ + 16 * w)) }
  let req : DmaReq := ⟨k.nextTag % 1024, p.seq, die, u, ifld i 108 69 + part.1, local_, part.2, false, false, true⟩
  let s := s.setCore c { k with nextTag := k.nextTag + 1, dma := if ack then k.dma ++ [req] else k.dma }
  (s.send pkt).noteConsumer c p.epoch die u

/-- The effect of a PUT (R108). -/
def Device.putEffect (s : Device) (c : Nat) (i : Word128) (p : Placed) : Device :=
  (dmaParts (dmaBytes i)).foldl (fun a part => a.putPacket c i p part) s

/-- One READ_REQ of a GET or of its reissue (R108). -/
def Device.sendRead (s : Device) (c epoch : Nat) (d : DmaReq) : Device :=
  let job := s.coreJob c
  (s.send { pktPlain 2 0 (coreDie c) (coreUnit c) d.die d.unit d.raddr with
    len := ceilDiv d.bytes 16, job := job.getD 0, jobV := job.isSome, spec := true, specEng := c * 4,
    specEpoch := epoch, tag := d.tag }).noteConsumer c epoch d.die d.unit

/-- READ_REQs of the core's GETs go out while fewer than 32 are outstanding (R108), none to a unit that is reopening (R175). -/
def Device.pumpReads (s : Device) (c : Nat) : Device :=
  (s.core c).dma.foldl (fun a d =>
    let k := a.core c
    if d.read && !d.probe && !d.sent && !a.reopening c d.die d.unit && (k.dma.filter (fun x => x.read && !x.probe && x.sent)).length < 32 then
      let a := a.setCore c { k with dma := k.dma.map (fun x => if x = d then { x with sent := true } else x) }
      a.sendRead c (match k.board.find? (fun p => p.seq = d.seq) with | some p => p.epoch | none => a.epoch c) d
    else a) s

/-- The effect of a GET (R108). -/
def Device.getEffect (s : Device) (c : Nat) (i : Word128) (p : Placed) : Device :=
  let s := (dmaParts (dmaBytes i)).foldl (fun a part =>
    let k := a.core c
    let d : DmaReq := ⟨k.nextTag % 1024, p.seq, ifld i 119 113, ifld i 112 109, ifld i 108 69 + part.1,
      ifld i 68 52 * 32 + part.1, part.2, true, false, false⟩
    a.setCore c { k with nextTag := k.nextTag + 1, dma := k.dma ++ [d] }) s
  s.pumpReads c

/-- COPY (R107). -/
def execCopy (c : Nat) (i : Word128) (s : State) : Out := onDevice s fun s =>
  unitRow 3 1 c i (fun i => s.runUnit c i (fun t _ => t.copyEffect c i))

/-- PUT (R108, R175): nothing goes to a unit that is reopening. -/
def execPut (c : Nat) (i : Word128) (s : State) : Out := onDevice s fun s =>
  unitRow 3 2 c i (fun i => s.runUnit c i (fun t p => t.putEffect c i p))

/-- GET (R108, R175). -/
def execGet (c : Nat) (i : Word128) (s : State) : Out := onDevice s fun s =>
  unitRow 3 3 c i (fun i => s.runUnit c i (fun t p => t.getEffect c i p))

/-! ## SYNC -/

/-- CKPT (R112). -/
def execCkpt (c : Nat) (i : Word128) (s : State) : Out := onDevice s fun s =>
  unitRow 4 1 c i (fun i => s.runSync c i)

/-- FENCE (R109): goes on once every earlier unit instruction has completed. -/
def execFence (c : Nat) (i : Word128) (s : State) : Out := onDevice s fun s =>
  unitRow 4 2 c i (fun i => s.runSync c i)

/-- POST (R109): COUNT is added to semaphore SEM. -/
def execPost (c : Nat) (i : Word128) (s : State) : Out := onDevice s fun s =>
  unitRow 4 3 c i (fun i => s.runSync c i)

/-- HINT (R109, R504 to R508): the issuing core, or every active partition core of its job on its die. -/
def execHint (c : Nat) (i : Word128) (s : State) : Out := onDevice s fun s =>
  unitRow 4 4 c i (fun i => s.runSync c i)

/-- END (R109). -/
def execEndKernel (c : Nat) (i : Word128) (s : State) : Out := onDevice s fun s =>
  unitRow 4 5 c i (fun i => s.runSync c i)

/-! ## Commit -/

/-- Whether the oldest open epoch may commit (R114, R163, R167): closed, every verdict clean, and every input that it had consumed when it
closed from an epoch that its producer has since reported CLEAN. -/
def Device.mayCommit (s : Device) (c : Nat) : Bool :=
  match (s.core c).epochs with
  | [] => false
  | e :: _ => e.closed && e.awaiting == 0 && e.inputs.all (fun x => (s.core c).released x.1 x.2)

/-- Whether a unit answers CLEAN with RELEASE_ACK: every unit but a core's exchange bank (R174). -/
def releaseUnit (t : Nat) : Bool := !(dieKind (t / 16) == 1 && t % 16 ≤ 9)

/-- The handle and the index namespace that the kernel of a core works on (R327, R335). -/
def Device.portHandle (s : Device) (c : Nat) : Option Nat :=
  (s.task c).bind (fun t =>
    if t.kind = 1 then (s.query (t.refs.headD 0)).map (·.h) else if t.kind = 3 then t.refs.head? else none)
def Device.portNs (s : Device) (c : Nat) : Option (Nat × Ns) :=
  ((s.portHandle c).bind s.srchH).bind (fun h => (s.ns h.nsid).map (fun x => (h.nsid, x)))

/-- The byte of the namespace where the node record (kind 1) or vector record (kind 2) of an item stands (R314). -/
def portOff (x : Ns) (kind item : Nat) : Nat :=
  if kind = 1 then x.region 5 + item * x.nodeBytes else x.region 6 + item * x.vecBytes

/-- The search port of a core's die issues the requests that the core wrote in an epoch that has committed (R328): a
READ_REQ with SPEC 0 to the near-flash engines of the SHEAVE die that holds the record. An entry that is no request is
dropped. -/
def Device.issuePorts (s : Device) (c e : Nat) : Device :=
  (s.srch.ports.filter (fun q => q.core == c && !q.sent && q.epoch == e)).foldl (fun a q =>
    let v := leNat (a.readMem 1 c (0xF100 + 8 * q.slot) 8)
    let item := v % 2 ^ 40; let kind := v / 2 ^ 40
    let drop : Device := { a with srch := { a.srch with ports := a.srch.ports.erase q } }
    match a.portNs c with
    | none => drop
    | some (_, x) =>
      if ¬(kind = 1 ∨ kind = 2) ∨ x.capacity ≤ item then drop
      else
        let tag := a.srch.nextTag % 1024
        let ord := a.bandOrd (x.place (portOff x kind item / cwBytes)).1
        let a : Device := { a with srch := { a.srch with nextTag := a.srch.nextTag + 1, ports := a.srch.ports.map (fun p =>
          if p = q then { p with tag, item, kind, sent := true } else p) } }
        a.send { pktPlain 2 0 (coreDie c) 15 (sheaveDie ord) 5 item with
          tag, len := if kind = 1 then ceilDiv x.nodeBytes 16 else 1, job := (a.coreJob c).getD 0,
          jobV := (a.coreJob c).isSome }) s

/-- The oldest open epoch commits (R114, R168): CLEAN goes to every unit of its consumer bitmap, its checkpoint is freed,
the search port issues its requests, and a waiting CKPT or END goes on. -/
def Device.commitEpoch (s : Device) (c : Nat) : Device :=
  let k := s.core c
  match k.epochs with
  | [] => s
  | e :: rest =>
    let s := s.setCore c { k with
      epochs := rest, ckpts := k.ckpts.filter (fun x => x.epoch ≠ e.num),
      sites := k.sites.filter (fun x => x.epoch ≠ e.num),
      releaseWait := k.releaseWait ++ (e.consumers.filter releaseUnit).map (fun t => (t, e.num)) }
    let s := e.consumers.foldl (fun a t =>
      a.send (verdictPacket 7 1 (coreDie c) (coreUnit c) (t / 16) (t % 16) (c * 4) e.num (a.coreJob c))) s
    let s := ((s.wrf Reg.CORE_EPOCH c 15 8 e.num).showEpochs c).issuePorts c e.num
    (s.resumeCkpt c).endIfDone c

/-- The effect of EPOCH_COMMIT. -/
def onEpochCommit (c : Nat) (s : Device) : Device :=
  if s.mayCommit c && !s.halted c then s.commitEpoch c else s

/-- EPOCH_COMMIT (R114): a core halted by debug commits nothing (R575). -/
def execEpochCommit (c : Nat) (s : State) : Out := onDevice s fun s =>
  atCore c (onEpochCommit c s)

/-- The effect of HOLD_TIMEOUT. -/
def onHoldTimeout (die idx : Nat) (s : Device) : Device :=
  let b := s.holdBuf die
  match b.waiting[idx]? with
  | none => s
  | some w =>
    let s := s.setHold die { b with waiting := b.waiting.eraseIdx idx }
    let s := s.inc Reg.TLT_HOLD_TIMEOUTS die 1
    let job := if w.pkt.jobV then some w.pkt.job else none
    let s := s.record 0x0505 (tltBody (0x400 + die) 0xFF w.pkt.specEpoch 4 0 0xFF w.pkt.job 0 0) (s.jobViewer job)
    if w.pkt.typ = 2 then
      (s.inc Reg.TLT_HOLD_READ_WAIT die (s.now - w.since)).send
        { pktReply w.pkt 3 3 with len := w.pkt.len, body := List.replicate (w.pkt.len * 16) 0 }
    else s.ack w.pkt 3

/-- HOLD_TIMEOUT (R171): a request that has waited at a hold buffer past TLT_HOLD_TIMEOUT is answered with RSP_STATUS 3,
counted and logged. `idx` is its place among those waiting. -/
def execHoldTimeout (die idx : Nat) (s : State) : Out := onDevice s fun s =>
  atUnit (decide (die < 100)) (onHoldTimeout die idx s)

end Sys2Proof.Machine
end

