-- ==== Sys2Proof/Machine/Packets.lean ====
section
/-! DEFINITION. What the units do with the packets they receive: writes and reads (R42 to R46, R54, R164 to R171, R192),
answers (R108), MEDIA output (R362, R363), and verdicts and squash orders (R172 to R177). -/

namespace Sys2Proof.Machine

/-! ## Which memory a packet reaches -/

/-- The half-stack that a packet to a DRAM controller names, with the address in it (R45). -/
def dramAt (p : Packet) : Option (Nat × Nat) :=
  if dieKind p.dstDie = 1 ∧ (p.dstUnit = 11 ∨ p.dstUnit = 12) then
    (if p.addr < 0x600000000 then some (sparOrd p.dstDie, p.addr) else some (sparOrd (twinOf p.dstDie), p.addr - 0x600000000))
  else none

/-- A request to a half-stack whose new controllers train waits (R537). -/
def Device.dramWaits (s : Device) (p : Packet) : Bool :=
  match dramAt p with
  | some (o, _) => s.avl.training.contains o && s.hsDie o == p.dstDie
  | none => false

/-- Whether a packet comes from a compute-plane unit (R25). -/
def fromCompute (p : Packet) : Bool := unitCompute p.srcDie p.srcUnit

/-- Whether a DRAM controller refuses a request (R192): it does not serve the half-stack, or a compute-plane request names a free
page or writes a cached page. -/
def Device.dramRefuses (s : Device) (p : Packet) (n : Nat) (write : Bool) : Bool :=
  match dramAt p with
  | none => false
  | some (o, a) =>
    !s.hsUp o || s.hsDie o != p.dstDie || decide (0x600000000 < a + n)
      || (fromCompute p && (rangeFrom (a / 0x200000) ((a + n - 1) / 0x200000 + 1 - a / 0x200000)).any (fun g =>
            s.pageKind o g == 0 || s.pageKind o g == 4 || (write && s.pageKind o g == 3)))

/-- The answer to a request that a unit refuses. -/
def Device.refuse (s : Device) (p : Packet) : Device :=
  if p.typ = 2 then s.send { pktReply p 3 3 with len := p.len, body := List.replicate (p.len * 16) 0 } else s.ack p 3

/-- A DRAM controller refuses a request: TIER_HS_REFUSED_ACCESS counts it. -/
def Device.dramRefuse (s : Device) (p : Packet) : Device :=
  (match dramAt p with
    | some (o, _) => s.inc Reg.TIER_HS_REFUSED_ACCESS o 1
    | none => s).refuse p

/-- Whether a unit refuses every packet with SPEC 1 (R166): mailbox SRAM, SHEAVE units, routers and die management. -/
def specRefused (die u : Nat) : Bool := dieKind die == 0 || u == 14 || u == 15 || (dieKind die == 2 && u == 1)

/-- The truncated copy of a packet: one whose original stands in the list of those that were cut (R68). -/
def Device.isCut (s : Device) (p : Packet) : Bool := s.fab.cut.any (sameHead p)

/-- The original of a cut packet is forgotten. -/
def Device.forgetCut (s : Device) (p : Packet) : Device :=
  { s with fab := { s.fab with cut := s.fab.cut.filter (fun q => !sameHead p q) } }

/-- RSP_STATUS of a WRITE_ACK (R41, R68). -/
def Device.writeRsp (s : Device) (p : Packet) : Nat := if s.isCut p then 2 else if p.poison.isEmpty then 0 else 1

/-! ## Writes -/

/-- NOTIFY of an exchange bank (R93, R94, R112): the semaphore of the segment counts it, and the arrival is kept for a restore. -/
def Device.notify (s : Device) (c addr : Nat) (producer : Option (Nat × Nat)) : Device :=
  let k := s.core c
  let n := addr / 4096 % 16
  let s := s.setCore c { k with arrivals := k.arrivals ++ [⟨k.nextArrival, n, producer⟩], nextArrival := k.nextArrival + 1 }
  (s.inc Reg.CORE_XB_ARRIVALS c 1).postSem c n 1 0 6

/-- A WRITE reaches an exchange bank (R46, R166, R167, R176). -/
def Device.bankWrite (s : Device) (p : Packet) : Device :=
  let c := unitCore p.dstDie p.dstUnit
  let producer := p.specEng / 4
  if p.spec && shutFor (s.core c).shut producer p.specEpoch then (s.inc Reg.TLT_DISCARD_ARRIVALS c 1).ack p 0
  else
    let rsp := s.writeRsp p
    let s := s.applyWrite p
    let s := if p.spec then s.recordDep c producer p.specEpoch else s
    let s := if p.notify then s.notify c p.addr (if p.spec then some (producer, p.specEpoch) else none) else s
    s.ack p rsp

/-- A WRITE takes its way at its unit (R46, R54, R166, R192). -/
def Device.takeWrite (s : Device) (p : Packet) : Device :=
  let n := pktBytes p
  if dieKind p.dstDie = 1 ∧ p.dstUnit ≤ 9 then s.bankWrite p
  else if p.spec && specRefused p.dstDie p.dstUnit then s.ack p 3
  else if (dieKind p.dstDie = 1 ∧ p.dstUnit = 13) ∨ p.dstUnit = 14 ∨ p.dstUnit = 15 then s.wrongUnit p
  else if s.dramRefuses p n true then s.dramRefuse p
  else if unitSpace p.dstDie p.dstUnit ≠ 0 ∧ unitSpace p.dstDie p.dstUnit < p.addr + n then s.ack p 3
  else if p.spec then s.holdWrite p
  else if dieKind p.dstDie = 1 ∧ p.dstUnit = 10 then
    let rsp := s.writeRsp p
    (if rsp = 2 then s.applyWrite p else s.landBytes p.dstDie p.addr (p.body.take n) p.poison).ack p rsp
  else
    let rsp := s.writeRsp p
    (s.applyWrite p).ack p rsp

/-- The effect of WRITE_PACKET. -/
def onWritePacket (p : Packet) (s : Device) : Device :=
  let t := s.takeWrite p
  if p.vc = 3 then t else t.forgetCut p

/-- WRITE_PACKET (R46, R54, R166). -/
def execWritePacket (p : Packet) (s : State) : Out := onDevice s fun s =>
  if s.dramWaits p then .next s else packetRow 1 p s onWritePacket

/-! ## Reads -/

/-- The MEDIA packet that lands in the landing area of a ring position (R328). -/
def portPacket (ord die c slot kind : Nat) (data : List Byte) : Packet :=
  { mediaPacket ord 5 die (coreUnit c) (0x8000 + slot * 512) 0 kind 0 0 false data with notify := true }

/-- The distance of a stored vector for the query that a core works on (R316, R329), with whether the record passes: none for a
fold task, whose query the spec leaves open. -/
def Device.portQuery (s : Device) (c : Nat) (x : Ns) (vec : List Byte) : Option (F32 × Bool) :=
  match s.task c with
  | some t =>
    if t.kind ≠ 1 then none else
    match s.query (t.refs.headD 0) with
    | some q => match s.searchCmd q.n with
      | some cmd =>
        let qv := vecVals x.vecFmt x.dim (s.windowRead cmd.ld (cmd.query + q.idx * cmd.stride) (fmtBytes x.vecFmt x.dim))
        some (distance x.distKind qv (vecVals x.vecFmt x.dim vec), q.mode != 3 || passesAll cmd.terms (recordAttr x vec))
      | none => none
    | none => none
  | none => none

/-- An answer to a search port counts for the handle, and a node record or distance for the query (R324, R329, R337). -/
def Device.countPort (s : Device) (c reg node dist : Nat) : Device :=
  let s := match s.portHandle c with | some h => s.inc reg h 1 | none => s
  match (s.task c).bind (fun t => if t.kind = 1 then s.query (t.refs.headD 0) else none) with
  | some q => s.setQuery { q with nodes := q.nodes + node, survivors := q.survivors + dist }
  | none => s

/-- The near-flash engines answer a request of a search port (R328, R329, R363): a node record, a distance, nothing for a record that
fails the terms, or an UNREADABLE mark. -/
def Device.portAnswer (s : Device) (p : Packet) (bad : Bool) : Device :=
  match s.srch.ports.find? (fun q => q.sent && q.tag == p.tag && coreDie q.core == p.srcDie) with
  | none => s
  | some q => match s.portNs q.core with
    | none => s
    | some (nsid, x) =>
      let off := portOff x q.kind q.item
      let u := x.place (off / cwBytes)
      let ord := s.bandOrd u.1
      let lost := bad || (s.mapAt u.1 u.2).lost || ((s.unitHere u.1 u.2).isNone && !s.ordUp ord && s.groupLost ord)
      if lost then (s.countPort q.core Reg.SRCH_H_UNREADABLE 0 0).send (portPacket ord p.srcDie q.core q.slot 5 (natLe 16 (s.unitLoc u.1 u.2)))
      else if q.kind = 1 then (s.countPort q.core Reg.SRCH_H_NODES_READ 1 0).send (portPacket ord p.srcDie q.core q.slot 1 (s.nsRead nsid off x.nodeBytes))
      else
        let rec_ := fun (d : Nat) => natLe 5 q.item ++ natLe 3 0 ++ natLe 4 d ++ natLe 4 0
        let s := s.inc Reg.MEDIA_ENG_DIST ord (b2n (match s.portQuery q.core x (s.nsRead nsid off x.vecBytes) with | some (_, ok) => ok | none => true))
        match s.portQuery q.core x (s.nsRead nsid off x.vecBytes) with
        | none =>
          let d := s.draw
          (d.2.countPort q.core Reg.SRCH_H_RERANKED 0 1).send (portPacket ord p.srcDie q.core q.slot 2 (rec_ d.1))
        | some (d, true) => (s.countPort q.core Reg.SRCH_H_RERANKED 0 1).send (portPacket ord p.srcDie q.core q.slot 2 (rec_ d.toNat))
        | some (_, false) => { s with srch := { s.srch with ports := s.srch.ports.erase q } }

/-- The words of a READ_REQ that the decoder finds uncorrectable are poisoned first (R465). -/
def Device.readBad (s : Device) (p : Packet) (bad : List Nat) : Device :=
  match s.unitMem p.dstDie p.dstUnit p.addr with
  | some (m, i, a) => (bad.filter (fun w => decide (a / 16 ≤ w) && decide (w * 16 < a + p.len * 16))).foldl
      (fun (b : Device) w => b.badWord m i w (if p.jobV then some p.job else none)) s
  | none => s

/-- A READ_REQ takes its way at its unit (R42, R43, R166, R170, R192, R271, R328): one over another source's held writes waits. -/
def Device.takeRead (s : Device) (p : Packet) (bad : List Nat) : Device :=
  if dieKind p.dstDie = 0 ∧ p.dstUnit = 5 ∧ !p.spec ∧ p.srcUnit = 15 then s.portAnswer p (!bad.isEmpty)
  else if p.spec && specRefused p.dstDie p.dstUnit then s.refuse p
  else if p.dstUnit = 14 ∨ p.dstUnit = 15 then s.wrongUnit p
  else if s.dramRefuses p (p.len * 16) false then s.dramRefuse p
  else
    let s := if unitSpace p.dstDie p.dstUnit < p.addr + p.len * 16 then s else s.readBad p bad
    if s.readBlocked p then
      let b := s.holdBuf p.dstDie
      s.setHold p.dstDie { b with waiting := b.waiting ++ [⟨p, s.now⟩] }
    else s.answerRead p

/-- READ_REQ (R42, R170). -/
def execReadReq (p : Packet) (bad : List Nat) (s : State) : Out := onDevice s fun s =>
  if s.dramWaits p then .next s else packetRow 2 p s (fun p s => s.takeRead p bad)

/-! ## Answers -/

/-- A DMA instruction of a core is refused (R108, R111). -/
def Device.dmaRefused (s : Device) (c : Nat) (d : DmaReq) : Device :=
  let i := match (s.core c).board.find? (fun q => q.seq = d.seq) with
    | some q => q.instr
    | none => 0
  s.instrFault c 5 i 5

/-- A request of a core's DMA mover is answered. -/
def Device.dmaDone (s : Device) (c : Nat) (d : DmaReq) : Device :=
  let k := s.core c
  s.setCore c { k with dma := k.dma.erase d }

/-- A core receives read data (R56, R108, R167, R175, R176): a probe's answer permits REOPEN; data lands at its place. -/
def Device.coreResp (s : Device) (c : Nat) (p : Packet) : Device :=
  match (s.core c).dma.find? (fun d => d.read && d.sent && d.tag == p.tag && d.die == p.srcDie && d.unit == p.srcUnit) with
  | none => s
  | some d =>
    let t := d.die * 16 + d.unit
    if d.probe then
      let epoch := (((s.core c).reopenWait.find? (fun w => w.1 == t)).map (·.2)).getD 0
      (s.dmaDone c d).send (verdictPacket 7 2 (coreDie c) (coreUnit c) d.die d.unit (c * 4) epoch (s.coreJob c))
    else if p.rsp = 3 then (s.dmaDone c d).dmaRefused c d
    else if p.spec && shutFor (s.core c).shut (p.specEng / 4) p.specEpoch then s.inc Reg.TLT_DISCARD_ARRIVALS c 1
    else
      let s := (s.dmaDone c d).coreWrite c d.laddr (p.body.take d.bytes) p.poison
      let s := if p.spec then s.recordDep c (p.specEng / 4) p.specEpoch else s
      s.pumpReads c

/-- The CXL.mem request that an answer to a hub die is for (R416). -/
def Device.memReq (s : Device) (p : Packet) (write : Bool) : Option MemReq :=
  if (p.dstDie = 42 ∨ p.dstDie = 52) ∧ p.dstUnit = 0 then s.hif.reqs.find? (fun r => r.write == write && r.n % 1024 == p.tag) else none

/-- A CXL.mem request is answered: it is no longer under way, and its bytes count (R454). -/
def Device.endReq (s : Device) (r : MemReq) : Device :=
  ({ s with hif := { s.hif with reqs := s.hif.reqs.erase r } }).inc Reg.HIF_LD_MEM_BYTES r.ld r.bytes

/-- WRITE_ACK of a CXL.mem write: its completion returns to the host (R416). -/
def Device.memAck (s : Device) (p : Packet) : Device :=
  match s.memReq p true with
  | some r => (s.endReq r).emit (.memWritten r.ld r.off (p.rsp ≤ 1))
  | none => s

/-- READ_RESP of a CXL.mem read: its data goes to the host, with the poison of its 16-byte chunks (R416). What a refused read returns
is open. -/
def Device.memData (s : Device) (p : Packet) : Device :=
  match s.memReq p false with
  | none => s
  | some r =>
    let d := s.draw
    let s := if p.rsp = 3 then d.2 else s
    let body := if p.rsp = 3 then natLe p.body.length d.1 else p.body
    (s.endReq r).emit (.memData r.ld r.off ((body.drop (r.off % 16)).take r.bytes) p.poison)

/-- The effect of READ_RESP. -/
def onReadResp (p : Packet) (s : Device) : Device :=
  if s.isCut p then s
  else if dieKind p.dstDie = 1 ∧ p.dstUnit ≤ 9 then s.coreResp (unitCore p.dstDie p.dstUnit) p
  else s.memData p

/-- READ_RESP (R108, R175): the truncated copy of a response is discarded, poison included (R68). -/
def execReadResp (p : Packet) (s : State) : Out := onDevice s fun s =>
  packetRow 3 p s onReadResp

/-- The effect of WRITE_ACK. -/
def onWriteAck (p : Packet) (s : Device) : Device :=
  if dieKind p.dstDie = 1 ∧ p.dstUnit ≤ 9 then
    let c := unitCore p.dstDie p.dstUnit
    match (s.core c).dma.find? (fun d => !d.read && d.tag == p.tag && d.die == p.srcDie && d.unit == p.srcUnit) with
    | none => s
    | some d => if p.rsp = 3 then (s.dmaDone c d).dmaRefused c d else s.dmaDone c d
  else match s.fab.cut.find? (fun q => q.typ = 1 ∧ q.tag = p.tag ∧ q.srcDie = p.dstDie ∧ q.srcUnit = p.dstUnit
      ∧ q.dstDie = p.srcDie ∧ q.dstUnit = p.srcUnit) with
    | some q => if p.rsp = 2 then (s.forgetCut q).send q else s.memAck p
    | none => s.memAck p

/-- WRITE_ACK (R54, R68, R108): a core's write is over, refused as an instruction fault; a source in the storage plane rewrites a
truncated packet; a CXL.mem write is answered. -/
def execWriteAck (p : Packet) (s : State) : Out := onDevice s fun s =>
  packetRow 4 p s onWriteAck

/-! ## MEDIA -/

/-- Read data reaches the masthead controller (R348, R358, R433, R434). -/
def Device.readArrives (s : Device) (p : Packet) : Device :=
  match s.media.ios.find? (fun r => r.n % 16384 = p.addr / 67108864 % 16384) with
  | none => s
  | some r => match s.cmd r.n with
    | none => s
    | some q =>
      let off := p.addr % 67108864
      let put := fun (s : Device) (r : IoRead) =>
        ({ s with media := { s.media with ios := s.media.ios.map (fun (y : IoRead) => if y.n = r.n then r else y) } } : Device)
      if p.specEng / 256 = 5 then
        let u := off / cwBytes
        (put s { r with left := r.left - 4, firstBad := match r.firstBad with
          | some v => some (min u v)
          | none => some u }).settleRead r.n
      else
        let data := p.body.take (pktBytes p)
        let data := match s.ns (fld q.slot 16 1) with
          | some x => s.overlayRows x (stOff q.slot + off) data
          | none => data
        let b := stBuf q.ld q.slot
        let s := (s.bufWrite b off data).bufCount b data.length
        (put s { r with left := r.left - 1, moved := r.moved + data.length }).settleRead r.n

/-- A MEDIA packet lands (R188, R328, R362, R363). A truncated copy does not count as arrived (R68). -/
def Device.takeMedia (s : Device) (p : Packet) : Device :=
  let cut := !p.poison.isEmpty && bits p.specEng 4 4 == 0
  if dieKind p.dstDie = 2 then
    (if p.dstUnit = 0 then (if cut then s else s.readArrives p)
     else if p.dstUnit = 2 ∨ p.dstUnit = 3 ∨ p.dstUnit = 1 then s.applyWrite p else s.wrongUnit p)
  else if dieKind p.dstDie = 0 ∨ 13 ≤ p.dstUnit then s.wrongUnit p
  else if p.dstUnit = 10 then
    (if cut then s.applyWrite p else s.landBytes p.dstDie p.addr (p.body.take (pktBytes p)) p.poison)
  else if 11 ≤ p.dstUnit then (if s.dramRefuses p (pktBytes p) true then s.dramRefuse p else s.applyWrite p)
  else
    let c := unitCore p.dstDie p.dstUnit
    let s := s.applyWrite p
    if cut then s else
    let s : Device := { s with srch := { s.srch with ports := s.srch.ports.filter (fun q =>
      !(q.core == c && q.sent && 0x8000 ≤ p.addr && q.slot == (p.addr - 0x8000) / 512)) } }
    if p.notify then s.notify c p.addr none else s

/-- MEDIA (R362). -/
def execMedia (p : Packet) (s : State) : Out := onDevice s fun s =>
  if s.dramWaits p then .next s else packetRow 5 p s (fun p s => s.takeMedia p)

/-! ## Verdicts and squash orders -/

/-- The producer of a verdict (R172). -/
def verdictCore (p : Packet) : Nat := p.specEng / 4

/-- Whether a VC2 packet is addressed to a core. -/
def toCore (p : Packet) : Bool := dieKind p.dstDie == 1 && p.dstUnit ≤ 9

/-- A verdict or squash order of a kind that R172 does not list is ignored and counted. -/
def Device.ignoreVc2 (s : Device) (p : Packet) : Device :=
  if toCore p then s.inc Reg.TLT_VC2_IGNORED (unitCore p.dstDie p.dstUnit) 1 else s

/-- A row of VERDICT packets of one kind (R172), which the row names (log entry 6). -/
def verdictRow (kind : Nat) (p : Packet) (s : Device) (body : Packet → Device → Device) : Effect :=
  let p := { p with addr := kind }
  if 1600 ≤ p.specEng then .refused .noSuchUnit
  else packetRow 7 p s body

/-- CLEAN (R167, R169, R174): a core empties its entry; an adder releases contributions; a hold buffer its writes. A kind that R172
does not list is ignored here. -/
def execClean (p : Packet) (s : State) : Out := onDevice s fun s =>
  if p.addr = 0 ∨ 4 < p.addr then packetRow 7 p s (fun p s => s.ignoreVc2 p)
  else verdictRow 1 p s (fun p s =>
    if toCore p then s.cleanDep (unitCore p.dstDie p.dstUnit) (verdictCore p) p.specEpoch
    else if dieKind p.dstDie = 1 ∧ p.dstUnit = 13 then
      let b := s.holdBuf p.dstDie
      let s := s.setHold p.dstDie (b.noteClean (verdictCore p) 13 p.specEpoch)
      ((s.releaseContribs (sparOrd p.dstDie) (verdictCore p) p.specEpoch).send
        (verdictPacket 7 4 p.dstDie 13 p.srcDie p.srcUnit p.specEng p.specEpoch (pktJob p))).settleAll
    else s.releaseHold p.dstDie p.dstUnit (verdictCore p) p.specEpoch (pktJob p))

/-- The effect of REOPEN. -/
def onReopen (p : Packet) (s : Device) : Device :=
  let s := if toCore p then
      let c := unitCore p.dstDie p.dstUnit
      let k := s.core c
      s.setCore c { k with shut := nset none k.shut (verdictCore p) none }
    else
      let b := s.holdBuf p.dstDie
      s.setHold p.dstDie { b with shut := nset none b.shut (verdictCore p * 16 + p.dstUnit) none }
  s.send (verdictPacket 7 3 p.dstDie p.dstUnit p.srcDie p.srcUnit p.specEng p.specEpoch (pktJob p))

/-- REOPEN (R176): the unit takes the producer's arrivals again and answers. -/
def execReopen (p : Packet) (s : State) : Out := onDevice s fun s =>
  verdictRow 2 p s onReopen

/-- The effect of REOPEN_ACK. -/
def onReopenAck (p : Packet) (s : Device) : Device :=
  if toCore p then
    let c := unitCore p.dstDie p.dstUnit
    let k := s.core c
    s.setCore c { k with reopenWait := k.reopenWait.filter (fun w => w.1 ≠ p.srcDie * 16 + p.srcUnit) }
  else s

/-- REOPEN_ACK (R175): the core may send to the unit again. -/
def execReopenAck (p : Packet) (s : State) : Out := onDevice s fun s =>
  verdictRow 3 p s onReopenAck

/-- The effect of RELEASE_ACK. -/
def onReleaseAck (p : Packet) (s : Device) : Device :=
  if toCore p then
    let c := unitCore p.dstDie p.dstUnit
    let k := s.core c
    s.setCore c { k with releaseWait := k.releaseWait.filter (fun w => !(w.1 == p.srcDie * 16 + p.srcUnit && w.2 == p.specEpoch)) }
  else s

/-- RELEASE_ACK (R174). -/
def execReleaseAck (p : Packet) (s : State) : Out := onDevice s fun s =>
  verdictRow 4 p s onReleaseAck

/-- A core receives SQUASH_FROM epoch `m` of producer `q` (R176, R177): it withdraws the arrivals of those epochs and discards later
ones until REOPEN, counts each, restores its own checkpoint when it consumed the epochs, and keeps the entry for
those below. One that names epochs of which it no longer holds anything is ignored and counted (log entry 54). -/
def Device.coreSquash (s : Device) (c q m : Nat) : Device :=
  let s := s.inc Reg.TLT_SQUASH_IN c 1
  let k := s.core c
  let d : Dep := nget {} k.deps q
  let gone := d.landed.filter (fun e => epochGe e m)
  if squashIdle d.cleaned (nget none k.shut q) m (!gone.isEmpty) then s.inc Reg.TLT_VC2_IGNORED c 1
  else
    let s := s.setCore c { k with
      shut := nset none k.shut q (some (lowerShut k.shut q m)), arrivals := k.arrivals.filter (fun x => !x.ofSquashed q m),
      deps := nset {} k.deps q { d with landed := d.landed.filter (fun e => !epochGe e m) } }
    let s := s.inc Reg.TLT_DISCARD_ARRIVALS c gone.length
    match highEpoch d.epochs with
    | none => s
    | some h =>
      if !epochGe h m then s else
      let s := s.squashTo c d.loc
      let k := s.core c
      let d : Dep := nget {} k.deps q
      (s.setCore c { k with deps := nset {} k.deps q { d with epochs := d.epochs.filter (fun e => !epochGe e m) } }).showDeps c

/-- SQUASH_FROM (R176). -/
def execSquashFrom (p : Packet) (s : State) : Out := onDevice s fun s =>
  if p.addr ≠ 1 then packetRow 8 p s (fun p s => s.ignoreVc2 p)
  else if 1600 ≤ p.specEng then .refused .noSuchUnit
  else packetRow 8 p s (fun p s =>
    if toCore p then s.coreSquash (unitCore p.dstDie p.dstUnit) (verdictCore p) p.specEpoch
    else
      let adder := dieKind p.dstDie == 1 && p.dstUnit == 13
      let s' := s.squashHold p.dstDie p.dstUnit (verdictCore p) p.specEpoch
        (adder && s.holdsContribs (sparOrd p.dstDie) (verdictCore p) p.specEpoch)
      if adder then s'.squashContribs (sparOrd p.dstDie) (verdictCore p) p.specEpoch else s')

end Sys2Proof.Machine
end

