-- ==== Sys2Proof/Machine/Fabric.lean ====
section
/-! DEFINITION. The events of the stay fabric (chapter 02): flits, replay and retraining, failed ports and new routes, truncated
packets, fences, and the hop weights. -/

namespace Sys2Proof.Machine

/-- A port of a die (R10). -/
def portOk (die port : Nat) : Bool := die < 100 && port < 4 && (peerOf die port).isSome

/-- Bits of STAY_PORT_ERR are set (R73). -/
def Device.portErr (s : Device) (die port v : Nat) : Device := s.orr (portReg Reg.STAY_PORT_ERR port) die v

/-! ## Mirror stays (R12, R65, R524) -/

/-- An end of a mirror stay: mirror stays 0 and 1 are ports 4 and 5 of the hub dies (log entry 146). -/
def mirrorOk (die port : Nat) : Bool := (die == 42 || die == 52) && (port == 4 || port == 5)

/-- The state of a mirror stay, coded as STATE of STAY_PORT_STATUS. -/
def Device.mirrorState (s : Device) (m : Nat) : Nat := s.rdf Reg.STAY_MIRROR_STATUS 42 (4 * m + 3) (4 * m)

/-- A mirror stay changes its state, at both ends. When both have failed, mirroring runs over the mesh. -/
def Device.setMirror (s : Device) (m st : Nat) : Device :=
  let s := (s.wrf Reg.STAY_MIRROR_STATUS 42 (4 * m + 3) (4 * m) st).wrf Reg.STAY_MIRROR_STATUS 52 (4 * m + 3) (4 * m) st
  if s.mirrorState 0 = 4 ∧ s.mirrorState 1 = 4 then s.wrf Reg.AVL_STATUS 0 2 2 1 else s

/-- A mirror stay in state `old` goes to state `st`; in another state it stays as it is. -/
def Device.moveMirror (s : Device) (m old st : Nat) : Device := if s.mirrorState m = old then s.setMirror m st else s

/-- What the ends of a mirror stay know of a negative acknowledgement: how often in a row a flit has been refused (R58, R69). -/
def Device.mirrorNak (s : Device) (die port seq : Nat) : Device :=
  if s.mirrorState (port - 4) ≠ 2 then s
  else
    let k := linkKey die port
    let r := nget (0, 0) s.fab.replays k
    { s with fab := { s.fab with replays := nset (0, 0) s.fab.replays k (seq, if r.1 = seq then r.2 + 1 else 1) } }

/-- A mirror stay retrains after 16 replays of one flit, as a mesh stay does (R65, R69). -/
def Device.mirrorRetrain (s : Device) (die port : Nat) : Device :=
  if (nget (0, 0) s.fab.replays (linkKey die port)).2 < 16 then s else s.moveMirror (port - 4) 2 3

/-- The retrain of a mirror stay ends (R65, R69): two spare lanes serve each direction; a third fault fails it. -/
def Device.mirrorRetrainEnd (s : Device) (die port : Nat) (ok : Bool) (lane : Option Nat) : Device :=
  let m := port - 4
  let k := linkKey die port
  if s.mirrorState m ≠ 3 then s
  else if !ok || (lane.isSome && nget 0 s.fab.spares k == 2) then s.setMirror m 4
  else
    let s : Device := { s with fab := { s.fab with
      replays := nset (0, 0) s.fab.replays k (0, 0), spares := nset 0 s.fab.spares k (nget 0 s.fab.spares k + b2n lane.isSome) } }
    s.setMirror m 2

/-! ## Flits -/

/-- The flit that a router has taken is acknowledged: it leaves the sender's replay buffer (R58). -/
def Device.ackFlit (s : Device) (die port : Nat) : Device :=
  let k := linkKey die port
  { s with fab := { s.fab with
      replay := nset [] s.fab.replay k (s.unacked die port).tail, replays := nset (0, 0) s.fab.replays k (0, 0) } }

/-- A head flit that is not allowed: its packet is discarded (R41, R42). -/
def Device.dropHead (s : Device) (die port : Nat) (h : Word128) (cause : Nat) : Device :=
  let p := headPacket h
  let k := bufKey die port p.vc p.cls
  let s := s.discard die p cause false
  { s with
    net := match s.net.find? (sameHead p) with
      | some q => s.net.erase q
      | none => s.net
    fab := { s.fab with
      fly := s.fab.fly.erase (headKey p)
      dropping := if bodyFlits p = 0 then s.fab.dropping else nset none s.fab.dropping k (some h) } }

/-- Whether a flit is the next of its VC and class on a link: a head when no packet is arriving there, else the next flit of that
packet (R40, R52), within its length. -/
def Device.inOrder (s : Device) (die port : Nat) (h : Word128) (ord : Nat) : Bool :=
  let p := headPacket h
  match nget none s.fab.arriving (bufKey die port p.vc p.cls) with
  | none => ord == 0
  | some a => decide (a = (h, ord))

/-- A router takes a flit (R40 to R42, R55): HOPS grows by one, and the flit stands in the buffer of its VC and class, unless its packet is
discarded. -/
def Device.takeFlit (s : Device) (die port : Nat) (h : Word128) (ord : Nat) : Device :=
  let p := headPacket h
  let k := bufKey die port p.vc p.cls
  let more := decide (ord < bodyFlits p)
  let s : Device := { s with fab := { s.fab with arriving := nset none s.fab.arriving k (if more then some (h, ord + 1) else none) } }
  if ord ≠ 0 ∧ nget none s.fab.dropping k = some h then
    { s with fab := { s.fab with dropping := if more then s.fab.dropping else nset none s.fab.dropping k none } }
  else match (if ord = 0 then headCause h else none) with
    | some c => s.dropHead die port h c
    | none => s.setFlits die port p.vc p.cls (s.flits die port p.vc p.cls ++ [{ head := nextHop h, ord, inp := port, cls := p.cls }])

/-- A body flit that carries the poison mark goes on unchanged, so its packet arrives with it (R39). -/
def Device.markFlit (s : Device) (h : Word128) (ord : Nat) : Device :=
  if ord = 0 then s
  else match s.net.find? (sameHead (headPacket h)) with
    | some q => { s with net := s.net.replace q { q with poison := if q.poison.contains (ord - 1) then q.poison else rising (q.poison ++ [ord - 1]) } }
    | none => s

/-- Whether the flit that a router receives is the one that comes next on the link: the oldest that the other end has sent and that is not
acknowledged; with none under way, a flit from outside the run that fits the buffer and the packet that is arriving (log entry 142). -/
def Device.nextFlit (s : Device) (die port : Nat) (h : Word128) (ord : Nat) : Bool :=
  match peerOf die port with
  | none => false
  | some e => match s.unacked e (oppPort port) with
    | f :: _ => decide (f.head = h ∧ f.ord = ord)
    | [] => s.inOrder die port h ord && decide (ord ≤ bodyFlits (headPacket h))
        && decide (0 < s.credits e (oppPort port) (headPacket h).vc (headPacket h).cls)

/-- The receiver refuses a flit that G144 cannot correct: a negative acknowledgement with its sequence number, and no flit is taken until the
replay (R58). -/
def Device.refuseFlit (s : Device) (e port : Nat) : Device :=
  match s.unacked e port with
  | f :: _ => { s with fab := { s.fab with nak := nset none s.fab.nak (linkKey e port) (some f.seq) } }
  | [] => s

/-- A flit that is clean, corrected or poisoned is taken, acknowledged and goes on (R39, R58). -/
def Device.acceptFlit (s : Device) (die port e : Nat) (h : Word128) (ord : Nat) (ecc : Ecc) : Device :=
  let s := s.inc (portReg Reg.STAY_PORT_RX_FLITS port) die 1
  let s := if ecc = .corrected then (s.inc (portReg Reg.STAY_PORT_CORRECTED port) die 1).portErr die port 1 else s
  let s := if ecc = .poison then s.markFlit h ord else s
  (((s.ackFlit e (oppPort port)).takeFlit die port h ord).poisonHeld die).pump

/-- The effect of FLIT_RECEIVE. -/
def onFlitReceive (die port : Nat) (head : BitVec 128) (ord : Nat) (ecc : Ecc) (s : Device) : Device :=
  let s := s.pump
  match peerOf die port with
  | none => s
  | some e =>
    if s.portState die port ≠ 2 ∨ (nget none s.fab.nak (linkKey e (oppPort port))).isSome ∨ !s.nextFlit die port head ord then s
    else if ecc = .uncorrectable then s.refuseFlit e (oppPort port)
    else s.acceptFlit die port e head ord ecc

/-- FLIT_RECEIVE (R39 to R42, R55, R58, R65): flit `ord` of the packet with this head arrives at a port that is up. An uncorrectable flit is not
taken; the sender replays it (LINK_NAK). A mirror stay carries no packet of the mesh (log entry 146). -/
def execFlitReceive (die port : Nat) (head : BitVec 128) (ord : Nat) (ecc : Ecc) (s : State) : Out := onDevice s fun s =>
  if mirrorOk die port then .next s else atUnit (portOk die port) (onFlitReceive die port head ord ecc s)

/-- The effect of LINK_NAK. -/
def onLinkNak (die port seq : Nat) (s : Device) : Device :=
  let k := linkKey die port
  let again := (s.unacked die port).dropWhile (fun f => f.seq ≠ seq)
  if s.portState die port ≠ 2 ∨ again.isEmpty then s
  else
    let r := nget (0, 0) s.fab.replays k
    let s : Device := { s with fab := { s.fab with
      replays := nset (0, 0) s.fab.replays k (seq, if r.1 = seq then r.2 + 1 else 1), nak := nset none s.fab.nak k none } }
    ((s.inc (portReg Reg.STAY_PORT_REPLAYS port) die 1).inc (portReg Reg.STAY_PORT_TX_FLITS port) die again.length).portErr die port 2

/-- LINK_NAK (R58, R65): the sender replays from the flit with a link sequence number. -/
def execLinkNak (die port seq : Nat) (s : State) : Out := onDevice s fun s =>
  if mirrorOk die port then .next (s.mirrorNak die port seq) else atUnit (portOk die port) (onLinkNak die port seq s)

/-- Both ends of a stay take a state (R72). -/
def Device.stayState (s : Device) (die port v : Nat) : Device :=
  let s := s.wrf (portReg Reg.STAY_PORT_STATUS port) die 31 28 v
  match peerOf die port with
  | some e => s.wrf (portReg Reg.STAY_PORT_STATUS (oppPort port)) e 31 28 v
  | none => s

/-- The effect of LINK_RETRAIN. -/
def onLinkRetrain (die port : Nat) (s : Device) : Device :=
  if s.portState die port ≠ 2 ∨ (nget (0, 0) s.fab.replays (linkKey die port)).2 < 16 then s
  else
    let s := (s.stayState die port 3).portErr die port 4
    match peerOf die port with
    | some e => s.portErr e (oppPort port) 4
    | none => s

/-- LINK_RETRAIN (R65): after 16 consecutive replays of one flit the link retrains, and back-pressure holds its flits; a mirror stay
retrains too. -/
def execLinkRetrain (die port : Nat) (s : State) : Out := onDevice s fun s =>
  if mirrorOk die port then .next (s.mirrorRetrain die port) else atUnit (portOk die port) (onLinkRetrain die port s)

/-- Both ends of a stay fail (R66): each router detects it. -/
def Device.stayFail (s : Device) (die port err : Nat) : Device :=
  let s := s.portFail die port err
  match peerOf die port with
  | some e => s.portFail e (oppPort port) 0
  | none => s

/-- A spare lane takes the place of a faulty one, in STAY_PORT_SPARES of one end (R65, R71): `lo` is the field of its direction, and
the lane's number takes the first free place. -/
def Device.useSpare (s : Device) (die port lo lane : Nat) : Device :=
  let r := portReg Reg.STAY_PORT_SPARES port
  let used := s.rdf r die 1 0 + s.rdf r die 3 2
  let s := s.wrf r die (lo + 1) lo (s.rdf r die (lo + 1) lo + 1)
  let s := if used = 0 then s.wrf r die 15 8 lane else if used = 1 then s.wrf r die 23 16 lane else s
  s.portErr die port 8

/-- The link is up again: the flits that it holds are sent again, and the routers go on (R65). -/
def Device.stayUp (s : Device) (die port : Nat) : Device :=
  let s := s.stayState die port 2
  let clear := fun (f : Fabric) (k : Nat) => { f with replays := nset (0, 0) f.replays k (0, 0), nak := nset none f.nak k none }
  let f := clear s.fab (linkKey die port)
  let f := match peerOf die port with
    | some e => clear f (linkKey e (oppPort port))
    | none => f
  ({ s with fab := f } : Device).pump

/-- The effect of LINK_RETRAIN_END. -/
def onLinkRetrainEnd (die port : Nat) (ok : Bool) (lane : Option Nat) (s : Device) : Device :=
  if s.portState die port ≠ 3 then s
  else if !ok || (lane.isSome && s.rdf (portReg Reg.STAY_PORT_SPARES port) die 1 0 == 2) then s.stayFail die port 0
  else
    let s := match lane, peerOf die port with
      | some l, some e => (s.useSpare die port 0 l).useSpare e (oppPort port) 2 l
      | _, _ => s
    s.stayUp die port

/-- LINK_RETRAIN_END (R65): `lane` is a faulty lane that the retrain found in the direction from this port. Two spares serve each
direction; a third fault, or a retrain that fails, fails the port. -/
def execLinkRetrainEnd (die port : Nat) (ok : Bool) (lane : Option Nat) (s : State) : Out := onDevice s fun s =>
  if mirrorOk die port then .next (s.mirrorRetrainEnd die port ok lane)
  else atUnit (portOk die port) (onLinkRetrainEnd die port ok lane s)

/-- The effect of HANDSHAKE_TIMEOUT. -/
def onHandshakeTimeout (die port : Nat) (s : Device) : Device :=
  if s.portState die port = 2 ∧ s.creditsOut die port then s.stayFail die port 0x40 else s

/-- HANDSHAKE_TIMEOUT (R65, R66, R73): no handshake for 4,096 flit slots fails a port that has credits outstanding; of a mirror stay, R524. -/
def execHandshakeTimeout (die port : Nat) (s : State) : Out := onDevice s fun s =>
  if mirrorOk die port then .next (s.moveMirror (port - 4) 2 4)
  else atUnit (portOk die port) (onHandshakeTimeout die port s)

/-! ## New routes -/

/-- A pair of in-service dies that no route joins under R50. -/
def Device.cutOff (s : Device) : Bool := s.diesInService.any (fun a => s.diesInService.any (fun b => !s.reachable a b))

/-- The in-service die with the fewest working stays, the lowest die ID among equals (R51). -/
def Device.loneliest (s : Device) : Option Nat :=
  s.diesInService.foldl (fun (b : Option Nat) d => match b with
    | none => some d
    | some a => if s.workingStays d < s.workingStays a then some d else some a) none

/-- Dies are fenced until a route joins every remaining pair (R51, R533). -/
def Device.fenceApart : Nat → Device → Device
  | 0, s => s
  | fuel + 1, s =>
    if !s.cutOff then s else match s.loneliest with
      | some d => Device.fenceApart fuel (s.fenceDie d 3)
      | none => s

/-- The entries of a router that the working stays change (R49, R50): destination, entry, and whether a class-1 route backs it. -/
def Device.newEntries (s : Device) (die : Nat) : List (Nat × Nat × Bool) :=
  (s.diesInService.map (fun d => (d, s.newRoute die d, s.yxWorks (die % 10) (die / 10) d))).filter
    (fun e => s.route die e.1 != e.2.1 || s.fab.noYx.contains (die * 128 + e.1) == e.2.2)

/-- The effect of FAIL_NOTICE. -/
def onFailNotice (die port : Nat) (s : Device) : Device :=
  let s : Device := match s.net.find? (fun q => q.typ = 10 ∧ q.srcDie = die ∧ q.srcUnit = 14 ∧ q.addr = port ∧ q.len = 0) with
    | some q => { s with net := s.net.erase q, fab := s.fab.purge (sameHead q) }
    | none => s
  let s := Device.fenceApart 100 s
  let todo := (s.diesInService.map (fun d => (d, s.newEntries d))).filter (fun e => !e.2.isEmpty || s.fab.holding.contains e.1)
  (({ s with fab := { s.fab with reroute := todo } } : Device).settleAll).pump

/-- FAIL_NOTICE (R50, R51, R66 step 3, R69): the masthead controller computes new route tables over every stay that works now; what they
change is to be written to the routers. -/
def execFailNotice (die port : Nat) (s : State) : Out := onDevice s fun s =>
  atUnit (portOk die port) (onFailNotice die port s)

/-- The record of step 6 of R66, whose type the spec does not give. -/
def Device.rerouteRecord (s : Device) : Device :=
  let d := s.draw
  d.2.record (d.1 % 65536) (natLe 16 (d.1 / 65536)) none

/-- A router takes one of the entries that step 3 of R66 computed for it. -/
def Device.takeEntry (s : Device) (die : Nat) (e : Nat × Nat × Bool) : Device :=
  let s := s.setRoute die e.1 e.2.1
  let k := die * 128 + e.1
  let rest := s.fab.noYx.filter (fun x => x ≠ k)
  { s with fab := { s.fab with noYx := if e.2.2 then rest else rest ++ [k] } }

/-- A router has all its entries (R66 steps 5 and 6, R69): the packets it holds are routed by them, and after the last router comes the
record. -/
def Device.rerouted (s : Device) (die : Nat) : Device :=
  let s := s.inc Reg.STAY_REROUTE_COUNT die 1
  let left := s.fab.reroute.filter (fun e => e.1 ≠ die)
  let s : Device := { s with fab := { s.fab with reroute := left, holding := s.fab.holding.filter (fun d => d ≠ die) } }
  let s := (s.poisonHeld die).pump
  if left.isEmpty then s.rerouteRecord else s

/-- The effect of ROUTE_TABLE_WRITE. -/
def onRouteTableWrite (die : Nat) (entries : List (Nat × Nat)) (s : Device) : Device :=
  match s.fab.reroute.find? (fun e => e.1 = die) with
  | none => s
  | some (_, todo) =>
    let mine := todo.filter (fun e => entries.contains (e.1, e.2.1))
    let s := mine.foldl (fun (a : Device) e => a.takeEntry die e) s
    let left := todo.filter (fun e => !mine.contains e)
    if left.isEmpty then s.rerouted die
    else { s with fab := { s.fab with reroute := s.fab.reroute.map (fun e => if e.1 = die then (die, left) else e) } }

/-- ROUTE_TABLE_WRITE (R66 steps 4 to 6, R67, R69): a router takes entries of the table computed for it; with the last of them it sends
what it holds by its new table, its replay buffers first. -/
def execRouteTableWrite (die : Nat) (entries : List (Nat × Nat)) (s : State) : Out := onDevice s fun s =>
  atUnit (die < 100 && entries.all (fun e => e.1 < 100 && e.2 < 2 ^ 32)) (onRouteTableWrite die entries s)

/-! ## Notices -/

/-- Whether a packet is the one that a TRUNC notice names. -/
def truncNames (t : Trunc) (q : Packet) : Bool :=
  q.typ == t.typ && q.srcDie == t.srcDie && q.srcUnit == t.srcUnit && q.dstDie == t.dstDie && q.dstUnit == t.dstUnit && q.tag == t.tag

/-- The DMA mover of a core reads the part of a GET again whose answer was truncated (R68, R108). -/
def Device.readAgain (s : Device) (c : Nat) (t : Trunc) : Device :=
  let k := s.core c
  match k.dma.find? (fun d => d.read && d.sent && d.tag == t.tag && d.die == t.srcDie && d.unit == t.srcUnit) with
  | none => s
  | some d =>
    let d' := { d with tag := k.nextTag % 1024 }
    let s := s.setCore c { k with nextTag := k.nextTag + 1, dma := k.dma.map (fun x => if x = d then d' else x) }
    let epoch := match k.board.find? (fun p => p.seq = d.seq) with
      | some p => p.epoch
      | none => s.epoch c
    s.sendRead c epoch d'

/-- The effect of TRUNC_NOTICE. -/
def onTruncNotice (t : Trunc) (s : Device) : Device :=
  let s : Device := match s.net.find? (fun q => q.typ = 10 ∧ q.srcUnit = 14 ∧ q.len = 1 ∧ q.tag = t.tag ∧
      ((q.dstDie = t.srcDie ∧ q.dstUnit = t.srcUnit) ∨ (q.dstDie = t.dstDie ∧ q.dstUnit = t.dstUnit))) with
    | some q => { s with net := s.net.erase q, fab := s.fab.purge (sameHead q) }
    | none => s
  match s.fab.cut.find? (truncNames t) with
  | none => s
  | some q =>
    if t.typ = 3 then
      let s := s.forgetCut q
      if dieKind t.dstDie = 1 ∧ t.dstUnit ≤ 9 then s.readAgain (unitCore t.dstDie t.dstUnit) t else s
    else if t.typ = 5 ∨ t.vc = 2 then (s.forgetCut q).send q
    else if t.vc = 0 ∧ t.spec ∧ t.specEng < 1600 then (s.squashTo (t.specEng / 4) t.specEpoch).settleFaults
    else s

/-- TRUNC_NOTICE (R68, R178): what a source or requester does about a truncated packet. A storage-plane write is written again after its
acknowledgement (WRITE_ACK), and unchecked VC0 data stays poisoned. -/
def execTruncNotice (t : Trunc) (s : State) : Out := onDevice s fun s =>
  atUnit (t.srcDie < 100 && t.dstDie < 100 && t.specEng < 2048) (onTruncNotice t s)

/-- The effect of FENCE_NOTICE. -/
def onFenceNotice (die fenced : Nat) (s : Device) : Device :=
  if !s.fenced fenced then s
  else
    let gone := fun (p : Packet) => p.srcDie == die && p.dstDie == fenced
    let lost := s.net.filter gone
    lost.foldl (fun a p => a.discard die p 3 true) (s.dropNet gone)

/-- FENCE_NOTICE (R42, R533): a die learns that another is fenced: what it has in flight to that die is discarded. -/
def execFenceNotice (die fenced : Nat) (s : State) : Out := onDevice s fun s =>
  atUnit (die < 100 && fenced < 100) (onFenceNotice die fenced s)

/-! ## Hop weights -/

/-- The effect of HOP_EPOCH_END. -/
def onHopEpochEnd (die out vc : Nat) (s : Device) : Device :=
  let o := shareKey die out vc 0
  let f := s.fab
  if nget 0 f.epochAt o < 1024 then s
  else
    let on := s.rdf Reg.STAY_CTL die 0 0 == 1
    let f := (List.range 5).foldl (fun (f : Fabric) i =>
      let k := shareKey die out vc i
      let v := nget 0 f.hopNow k
      { f with
        weight := nset 1 f.weight k (if on then min 16 (max 1 (popCount 32 v)) else 1),
        hopLast := nset 0 f.hopLast k v, hopNow := nset 0 f.hopNow k 0 }) f
    ({ s with fab := { f with epochAt := nset 0 f.epochAt o 0 } } : Device).pump

/-- HOP_EPOCH_END (R61): after 1,024 flits granted on an output in a VC, each input's weight becomes the number of hop values seen, 1
to 16, and the hop vectors are cleared; 1 for every input while hop weighting is off. -/
def execHopEpochEnd (die out vc : Nat) (s : State) : Out := onDevice s fun s =>
  atUnit (die < 100 && out < 5 && vc < 4) (onHopEpochEnd die out vc s)

end Sys2Proof.Machine
end

