-- ==== Sys2Proof/Machine/SelfTest.lean ====
section
/-! DEFINITION. The self-tests of the analogue blocks (R543 to R546, R551): what a die carries, what a failure does, and the tests in
service, at shutdowns and at the start-up. -/

namespace Sys2Proof.Machine

/-- Whether a die carries a sensor of an index (R512). -/
def hasSensor (die i : Nat) : Bool :=
  if dieKind die = 1 then decide (i < 12) || (i == 12 && (die % 10 == 3 || die % 10 == 5))
  else if dieKind die = 0 then decide (i < 4)
  else decide (i < 2) || (die == 42 && decide (i < 4))

/-- Whether a die carries a regulator of an index (R512). -/
def hasRegulator (die i : Nat) : Bool :=
  decide (16 ≤ i) && decide (i < (if dieKind die = 1 then 28 else if dieKind die = 0 then 19 else 18))

/-- Whether a block of a die can be tested in service (R543, R551): a port, a NAND channel, the PHY of the standby hub die, a
sensor. -/
def Device.testable (s : Device) (die block : Nat) : Bool :=
  !s.fenced die &&
    (if block < 4 then (peerOf die block).isSome && s.portState die block != 4
     else if block < 8 then dieKind die == 0 && s.rdf Reg.MEDIA_CH_STATUS (sheaveOrd die * 4 + (block - 4)) 2 0 != 4
     else if block = 8 then (die == 42 || die == 52) && die != s.hubDie
     else decide (10 ≤ block) && decide (block < 26) && hasSensor die (block - 10))

/-- A LUN is fenced (R343, R399): what it was doing ends, reads of it are reconstructed, its data is relocated, and its blocks retire
with cause 4. -/
def Device.fenceLun (s : Device) (nd : Nat) : Device :=
  if s.lunState nd = 7 then s else
  let ord := nd / 32
  let s := match (s.lun nd).job with
    | some (.program q wl slc) => s.groupFail nd q wl slc
    | _ => s
  let s := (s.setLun nd {} 7).orr Reg.MEDIA_CH_STATUS (nd / 8) (2 ^ (16 + nd % 8))
  let reads := s.media.reads.filter (fun r => r.nd = nd)
  let s : Device := { s with media := { s.media with reads := s.media.reads.filter (fun r => r.nd ≠ nd) } }
  let s := reads.foldl (fun a r => match r.dest with
    | .member id => a.memberDone id true
    | _ => match a.stored ord r.loc with
      | some c => a.deliver ord (nd / 8 % 4) (some r.loc) r.dest c.data 7 (a.groupLost ord)
      | none => a) s
  let cws := s.ftl.nand.filterMap (fun e => match e.2 with
    | some c => if e.1 / 2 ^ 32 = ord ∧ locDie (e.1 % 2 ^ 32) = nd % 32 then some (e.1 % 2 ^ 32, c) else none
    | none => none)
  let s := if s.groupLost ord then s
    else (cws.filter (fun x => decide (x.2.kind ≤ 1) && s.cwValid ord x.1 x.2)).foldl (fun a x =>
      a.bufferCw ord x.2.band x.2.unit 1 x.2.key x.2.data none 0 (some x.1) none false) s
  let s := ((cws.map (fun x => locQuad x.1)).eraseDups).foldl (fun a q => a.evacuate nd q (fun c => decide (2 ≤ c.kind))) s
  (List.range 16384).foldl (fun a pbn => a.retire nd pbn 4) s

/-- What the failure of a block's test does (R545): a port fails, a channel's LUNs are fenced, a sensor's readings come from its
neighbour; any other block fences its die with cause 4. A core's blocks fence the core (`rotationResult`). -/
def Device.blockFails (s : Device) (die block : Nat) : Device :=
  if block < 4 then s.stayFail die block 0
  else if block < 8 then (chanDies (sheaveOrd die * 4 + (block - 4))).foldl (fun a nd => a.fenceLun nd) s
  else if 10 ≤ block ∧ block < 26 then s
  else s.fenceDie die 4

/-- Whether a die carries the block of an index (R543, R551): ports, NAND channels, the CXL PHY of a hub die, the die PLL, sensors,
regulators. -/
def carriesBlock (die block : Nat) : Bool :=
  if block < 4 then (peerOf die block).isSome
  else if block < 8 then dieKind die == 0
  else if block = 8 then die == 42 || die == 52
  else if block = 9 then true
  else if block < 26 then hasSensor die (block - 10)
  else decide (block < 38) && hasRegulator die (block - 10)

/-- Whether a block is the regulator of one core (R512). -/
def coreBlock (die block : Nat) : Bool := dieKind die == 1 && decide (26 ≤ block) && decide (block < 36)

/-- The version of the test program that the running firmware carries (R544). -/
def Device.testVersion (s : Device) : Nat := Config.testVersion (s.rd Reg.SEC_FW_VERSION 0) % 2 ^ 16

/-- A test leaves its record (R544, R551): result, method, test-program version and powered hours. A failure is counted and logged. -/
def Device.recordTest (s : Device) (die block method : Nat) (pass : Bool) : Device :=
  let rec_ := (if pass then 1 else 2) + method * 2 ^ 2 + s.testVersion * 2 ^ 20 + s.poweredHours * 2 ^ 36
  let s : Device := { s with avl := { s.avl with tests := nset 0 s.avl.tests (die * 64 + block) rec_ } }
  if pass then s else (s.inc Reg.AVL_ST_FAILS die 1).avlRecord 0x1006 (0x100 + die) 0 block 0 0

/-- A block is tested in service (R543, R545): method 1. -/
def Device.selfTest (s : Device) (die block : Nat) (pass : Bool) : Device :=
  if !s.testable die block then s else
  let s := s.recordTest die block 1 pass
  if pass then s else (s.blockFails die block).settleAll

/-- Blocks of in-service dies are tested at a shutdown (method 0) or at the start-up (method 2). They pass: a failure is an event of
its own, DIE_FENCE with cause 4 or a failed test in service (log entry 122). -/
def Device.testBlocks (s : Device) (method : Nat) (blocks : List (Nat × Nat)) : Device :=
  blocks.foldl (fun (a : Device) b => if a.fenced b.1 then a else a.recordTest b.1 b.2 method true) s

/-- The results of a core's PLL and regulator (R551): each 1 for a pass and 2 for a failure. -/
def Device.recordCore (s : Device) (c pll reg : Nat) : Device :=
  s.wr Reg.AVL_CORE_ST c (pll + reg * 2 ^ 2 + s.poweredHours % 2 ^ 16 * 2 ^ 4)

/-- The PLLs and regulators of cores are tested at the entry of PS2 or at the start-up (R543), and pass (log entry 122). -/
def Device.testCores (s : Device) (cores : List Nat) : Device :=
  cores.foldl (fun (a : Device) c =>
    if a.fenced (coreDie c) || a.rdf Reg.AVL_CORE_ROT c 16 16 == 1 then a else a.recordCore c 1 1) s

/-- The blocks of the dies that satisfy `p`, in rising order. -/
def blocksOf (p : Nat → Nat → Bool) : List (Nat × Nat) :=
  (List.range 100).flatMap (fun d => ((List.range 38).filter (fun b => carriesBlock d b && p d b)).map (fun b => (d, b)))

/-- The blocks that the entry of PS2 tests beside the cores': the sensors of the SPAR dies (R543). -/
def ps2Blocks : List (Nat × Nat) := blocksOf (fun d b => dieKind d == 1 && decide (10 ≤ b) && decide (b < 26))

/-- The blocks that the entry of PS3 tests: NAND PHYs, and the sensors of the SHEAVE dies (R543). -/
def ps3Blocks : List (Nat × Nat) := blocksOf (fun d b => dieKind d == 0 && decide (4 ≤ b) && decide (b < 26) && b != 9)

/-- The blocks that a sled shutdown tests: stay PHYs, NAND PHYs, die PLLs, sensors and die rails (R543). -/
def sledBlocks : List (Nat × Nat) := blocksOf (fun d b => b != 8 && !coreBlock d b)

/-- At a power-on the record of a block stands for its test (R544): a pass of the current test program, not older than MAX_AGE_H, after
a clean close, and FULL_NEXT is 0. -/
def Device.accepted (s : Device) (die block : Nat) : Bool :=
  let r := nget 0 s.avl.tests (die * 64 + block)
  decide (r % 4 = 1) && decide (s.poweredHours ≤ r / 2 ^ 36 + s.rdf Reg.AVL_ST_CTL 0 15 0) && r / 2 ^ 20 % 2 ^ 16 == s.testVersion
    && s.rdf Reg.FTL_DEV_STATUS 0 1 1 == 1 && s.rdf Reg.AVL_ST_CTL 0 16 16 == 0

/-- The same for a core's PLL and regulator, whose record holds no version (R551). -/
def Device.coreAccepted (s : Device) (c : Nat) : Bool :=
  let v := s.rd Reg.AVL_CORE_ST c
  v % 16 == 5 && decide ((s.poweredHours + (2 ^ 16 - bits v 19 4)) % 2 ^ 16 ≤ s.rdf Reg.AVL_ST_CTL 0 15 0)
    && s.rdf Reg.FTL_DEV_STATUS 0 1 1 == 1 && s.rdf Reg.AVL_ST_CTL 0 16 16 == 0

/-- The tests of the start-up (R544): every block and core whose record is not accepted; the time they take is free, within what the
rule bounds. -/
def Device.startTests (s : Device) : Device :=
  let blocks := (blocksOf (fun d b => !coreBlock d b)).filter (fun b => !s.accepted b.1 b.2)
  let cores := (List.range 400).filter (fun c => !s.coreAccepted c)
  let d := s.draw
  let s := d.2.wr Reg.AVL_ST_START_MS 0 (d.1 % (if blocks.isEmpty && cores.isEmpty then 61 else 961))
  (s.testBlocks 2 blocks).testCores cores

end Sys2Proof.Machine
end

