-- ==== Sys2Proof/Machine/Tasks.lean ====
section
/-! DEFINITION. Tasks on cores (R174, R238 to R242, R266, R267, R272, R327, R330, R335, R541, R547): giving, stealing, the
start of a kernel, its end, and the end of an output copy. -/

namespace Sys2Proof.Machine

/-! ## The descriptor -/

/-- A locator (R239). -/
def locator (die unit addr : Nat) : Nat := die % 128 + unit % 16 * 128 + addr % 2 ^ 40 * 2048

/-- The locator of an address of a half-stack: a DRAM controller of the die that serves it, past the die's own half-stack
when it is inherited (R18, R43). -/
def Device.hsLocator (s : Device) (o a : Nat) : Nat :=
  locator (s.hsDie o) 11 (if s.hsDie o = sparDie o then a else a + 0x600000000)

/-- The slice that the tasks of a batch work on. -/
def Device.batchSlice (s : Device) (b : Batch) : Nat :=
  sliceKey (objKey (s.jobOwner b.job) (b.key.getD 1 0)) (b.key.getD 2 0) (b.key.getD 3 0)

/-- The descriptor of a batch's task (R239). -/
def Device.descriptor (s : Device) (x : Job) (b : Batch) : List Byte :=
  let sl := s.slice (s.batchSlice b)
  natLe 1 (b.key.getD 4 0) ++ natLe 1 b.job ++ natLe 1 (b.key.getD 5 0) ++ natLe 1 b.entries.length
    ++ natLe 4 (b.key.getD 6 0) ++ natLe 4 (b.key.getD 7 0) ++ natLe 8 (s.hsLocator b.hs (x.slotAddr b.hs b.slot))
    ++ natLe 8 (match sl with | some y => s.hsLocator y.hs (y.page.getD 0 * pageBytes) | none => 0)
    ++ natLe 4 (match sl with | some y => y.bytes | none => 0)
    ++ natLe 2 (b.key.getD 2 0) ++ natLe 4 (b.key.getD 3 0) ++ natLe 2 (b.key.getD 1 0) ++ natLe 4 b.taskSeq ++ natLe 20 0

/-- The run list of PASS 2 batches (R267). -/
def Device.runList (s : Device) (x : Job) (red : Nat) (bs : List Batch) : List Byte :=
  let b := bs.headD ⟨0, 0, [], 0, 0, [], 0, 0, 0, false, 0⟩
  natLe 8 (bs.length + red * 2 ^ 8 + b.key.getD 8 0 * 2 ^ 16
      + (match s.red red with | some r => r.step | none => b.key.getD 9 0) * 2 ^ 32)
    ++ bs.flatMap (fun b => natLe 8 (s.hsLocator b.hs (x.slotAddr b.hs b.slot) + b.entries.length * 2 ^ 51))

/-! ## The start of a kernel -/

/-- The seed of a generator at kernel entry (R129): `u` is 0 to 3 for the drains, 4 for the vector unit. -/
def Device.kernelSeed (s : Device) (c u : Nat) : BitVec 32 × Device :=
  let d := if s.rdf Reg.QNT_CTL c 0 0 = 1 then s.draw else (s.rd Reg.QNT_SR_SEED c ^^^ (c * 2 ^ 16) ^^^ (u + 1), s)
  (if d.1 % 2 ^ 32 = 0 then 1 else BitVec.ofNat 32 d.1, d.2)

/-- A core starts the kernel of a job (R112, R116, R129, R223, R238, R478, R480): it is in its instruction buffer, the core
reads STATE 2, takes checkpoint 0 and opens epoch 0, and its generators take their seeds. -/
def Device.startKernel (s : Device) (c j : Nat) (x : Job) : Device :=
  let s := (s.stopIdle c).wr Reg.MEM_CORE_RET c 0
  let s := if x.loaded.contains c then s else (s.loadImage j [c]).loadScratch j c
  let s := ((s.clearTiles c).retireWaiting c).forgetClean c
  let s := s.wr Reg.CORE_STATE c (2 + j * 2 ^ 4 + 2 ^ 10)
  let k := s.core c
  let s := s.setCore c { k with
    board := [], iaddr := x.entry, ckpts := [], epochs := [], drains := [], sites := [], dma := [], atSync := none, ckptWait := none,
    ending := none, ended := false, releaseWait := [] }
  let s := (s.openEpoch c 0).showQueues c
  let s := (List.range 4).foldl (fun a u =>
    let d := a.kernelSeed c u
    d.2.setEngine (c * 4 + u) { d.2.engine (c * 4 + u) with lfsr := d.1 }) s
  let d := s.kernelSeed c 4
  d.2.setCore c { d.2.core c with vlfsr := d.1 }

/-! ## Reservations (R266, R272) -/

/-- The reduction that a PASS 2 batch contributes to while it accumulates: its ID, the reduction, the ordinal of the adder,
and EXPERT_ELEMS. -/
def Device.batchRed (s : Device) (b : Batch) : Option (Nat × Red × Nat × Nat) :=
  if b.key.getD 4 0 ≠ 2 then none
  else match s.shardExpert b.job (b.key.getD 1 0) (b.key.getD 3 0) with
    | none => none
    | some (sh, e) => match s.redOf sh e, s.shard sh with
      | some (id, r), some x => if r.phase = 1 then some (id, r, s.expertHome x e, x.elems) else none
      | _, _ => none

/-- The tasks that go to a core together (R266): a PASS 2 batch with every other queued one of its key, at most 16, oldest first. -/
def Device.runOf (s : Device) (t : QTask) : List QTask :=
  match (if t.kind = 0 then s.batch t.ref else none) with
  | some b =>
    if b.key.getD 4 0 ≠ 2 then [t]
    else (s.work.queue.filter (fun q => q.kind == 0 && q.ord == t.ord && (match s.batch q.ref with
      | some y => y.key == b.key
      | none => false))).take 16
  | none => [t]

/-- Whether a queued task stands for its run: it is the oldest of it. -/
def Device.leads (s : Device) (t : QTask) : Bool := (s.runOf t).head? == some t

/-- A run that waits for its reservation has it (R266): the wait counts once for the run, and once for each of its DISPATCHes. -/
def Device.grantWait (s : Device) (t : QTask) : Device :=
  match t.resvFrom with
  | none => s
  | some f =>
    let s := s.inc Reg.TKL_JOB_RESV_WAIT_NS t.job (s.now - f)
    let waits : List (Nat × Nat) := (s.runOf t).flatMap (fun q => match q.resvFrom, s.batch q.ref with
      | some g, some b => b.entries.map (fun e => (e.1, g))
      | _, _ => [])
    ((waits.map (·.1)).eraseDups).foldl (fun a q => match a.disp q with
      | some d => a.addWait d.n 5 (a.now - ((waits.filter (fun w => w.1 == q)).map (·.2)).foldl min a.now)
      | none => a) s

/-- The reservation of a run, held by a core, or under 4096 plus its batch until the run is given. -/
def Device.reserve (s : Device) (id : Nat) (r : Red) (holder o elems : Nat) : Device :=
  s.setRed id (some { r with resv := r.resv ++ [(holder, o, elems)] })

/-- Whether a run has its reservation. -/
def Red.granted (r : Red) (t : QTask) : Bool := r.resv.any (fun v => v.1 == 4096 + t.ref)

/-- The tasks of a run wait for their reservation from now, those that do not wait yet; none waits any more. -/
def Device.waitRun (s : Device) (t : QTask) : Device :=
  let run := s.runOf t
  { s with work := { s.work with queue := s.work.queue.map (fun q =>
      if run.contains q ∧ q.resvFrom.isNone then { q with resvFrom := some s.now } else q) } }
def Device.endWait (s : Device) (t : QTask) : Device :=
  let run := s.runOf t
  { s with work := { s.work with queue := s.work.queue.map (fun q => if run.contains q then { q with resvFrom := none } else q) } }

/-- Whether a task could be given: the slice that a batch works on has landed (R198). -/
def Device.taskReady (s : Device) (t : QTask) : Bool :=
  t.kind != 0 || (match s.batch t.ref with
    | some b => (match s.slice (s.batchSlice b) with | some y => y.resident | none => false)
    | none => false)

/-- The first task of a list that may be given now, and the state; the oldest task of a PASS 2 run stands for it, and a run that
finds no reservation begins to wait for it (R266). -/
def Device.pickTask (s : Device) : List QTask → Option QTask × Device
  | [] => (none, s)
  | t :: rest =>
    if !s.taskReady t || !s.leads t then s.pickTask rest
    else match (if t.kind = 0 then (s.batch t.ref).bind s.batchRed else none), s.batch t.ref with
      | some (id, r, o, elems), some b =>
        if r.granted t || s.mayReserve o id (b.key.getD 8 0) r elems then (some t, s)
        else
          let s := if t.resvFrom.isSome then s else s.inc Reg.TKL_AD_RESV_DENIED o 1
          (s.waitRun t).pickTask rest
      | _, _ => (some t, s)

/-- The effect of RESERVATION_GRANT. -/
def onReservationGrant (ord red : Nat) (s : Device) : Device :=
  match s.red red with
  | none => s
  | some r => match s.work.queue.findSome? (fun t =>
      if t.kind = 0 ∧ t.resvFrom.isSome ∧ s.leads t ∧ !r.granted t then (match s.batch t.ref with
        | some b => (match s.batchRed b with
          | some (id, _, o, elems) =>
            if id = red ∧ o = ord ∧ s.mayReserve o id (b.key.getD 8 0) r elems then some (t, elems) else none
          | none => none)
        | none => none) else none) with
    | none => s
    | some (t, elems) => ((s.grantWait t).endWait t).reserve red r (4096 + t.ref) ord elems

/-- RESERVATION_GRANT (R272): the first run of a reduction that waits for a reservation of an adder takes it, when the space
allows. -/
def execReservationGrant (ord red : Nat) (s : State) : Out := onDevice s fun s =>
  atUnit (ord < 40 && red < 64) (onReservationGrant ord red s)

/-! ## Giving a task -/

/-- The reservation of the run of a task passes to the core that takes it, or is granted with it. -/
def Device.takeReservation (s : Device) (t : QTask) (c : Nat) : Device :=
  match s.batch t.ref with
  | none => s
  | some b => match s.batchRed b with
    | none => s
    | some (id, r, o, elems) =>
      if r.granted t then s.setRed id (some { r with resv := r.resv.map (fun v => if v.1 = 4096 + t.ref then (c, v.2) else v) })
      else (s.grantWait t).reserve id r c o elems

/-- A core of a job takes a task (R238, R239, R266, R267, R327, R330): descriptor, run list, start of the kernel. -/
def Device.giveTask (s : Device) (c : Nat) (t : QTask) : Device :=
  match s.job t.job with
  | none => s
  | some x =>
    let run := s.runOf t
    let bs := run.filterMap (fun q => s.batch q.ref)
    let red := if t.kind = 0 then ((s.batch t.ref).bind s.batchRed).map (·.1) else none
    let s := if t.kind = 0 then s.takeReservation t c else s
    let s : Device := { s with work := { s.work with queue := s.work.queue.filter (fun q => !run.any (fun r => r.kind == q.kind && r.ref == q.ref && r.ord == q.ord)) } }
    let ord := t.ord.getD (c / 10)
    let s := s.setTask c (some ⟨t.kind, run.map (·.ref), t.job, ord, s.now⟩)
    let s := s.startKernel c t.job x
    if t.kind = 0 then
      let b := bs.headD ⟨0, 0, [], 0, 0, [], 0, 0, 0, false, 0⟩
      let s := s.writeMem 1 c 0xF000 (s.descriptor x b) []
      let s := if b.key.getD 4 0 = 2 then s.writeMem 1 c 0xF040 (s.runList x (red.getD 0) bs) [] else s
      ((bs.foldl (fun a b => a.setBatch { b with st := 2 }) s).showBatches ord).showBatches (c / 10)
    else
      let d := s.draw
      let pass := if t.kind = 1 then 0x80 else if t.kind = 2 then 0x81 else d.1 / 2 ^ 496 % 256
      let s := d.2.writeMem 1 c 0xF000 (natLe 1 pass ++ natLe 1 t.job ++ natLe 62 (d.1 % 2 ^ 496)) []
      let s := match (if t.kind = 1 then s.query t.ref else none) with
        | some q => s.setQuery { q with graph := 2 }
        | none => s
      (s.showBatches ord).showBatches (c / 10)

/-- The lowest idle active core of a job on a die (R238). -/
def Device.idleCore (s : Device) (die : Nat) (x : Job) : Option Nat :=
  x.cores.find? (fun c => coreDie c = die ∧ s.coreIdle c ∧ !s.faulted c)

/-- The tasks of a job on the queue of a die, oldest first: those of the half-stacks it serves, and with `any` those of no
die of their own. -/
def Device.dieQueue (s : Device) (die j : Nat) (any : Bool) : List QTask :=
  s.work.queue.filter (fun t => t.job == j && (match t.ord with
    | some h => s.hsDie h == die
    | none => any))

/-- Whether the batch units start no task: the compute plane is in reset, its clocks stand, or even 400 MHz does not fit the
budget (R250, R502, R513). -/
def Device.computeHeld (s : Device) : Bool := s.resetting || s.rdf Reg.PWR_STATUS 0 5 5 == 1 || s.ps != 0

/-- The effect of TASK_GIVE. -/
def onTaskGive (ord j : Nat) (s : Device) : Device :=
  match s.job j with
  | none => s
  | some x =>
    if s.computeHeld || s.fenced (sparDie ord) then s
    else match s.idleCore (sparDie ord) x with
      | none => s
      | some c => match s.pickTask (s.dieQueue (sparDie ord) j true) with
        | (some t, s) => s.giveTask c t
        | (none, s) => s

/-- TASK_GIVE (R238, R266, R327, R330): the oldest task of a job on a die's queue that may be given goes to the die's idle active
core of the job with the lowest core ID. -/
def execTaskGive (ord j : Nat) (s : State) : Out := onDevice s fun s =>
  atUnit (ord < 40 && j < 64) (onTaskGive ord j s)

/-- The stay distance of two dies. -/
def stayDistance (a b : Nat) : Nat :=
  (max (a % 10) (b % 10) - min (a % 10) (b % 10)) + (max (a / 10) (b / 10) - min (a / 10) (b / 10))

/-- The other dies that a batch unit asks for work (R241): by distance, then die ID, up to STEAL_HOPS. -/
def Device.stealOrder (s : Device) (die hops : Nat) : List Nat :=
  (List.range 19).flatMap (fun k =>
    (s.spars.map sparDie).filter (fun d => d ≠ die ∧ stayDistance d die = k ∧ k ≤ hops))

/-- The effect of WORK_STEAL. -/
def onWorkSteal (ord j : Nat) (s : Device) : Device :=
  match s.job j with
  | none => s
  | some x =>
    let die := sparDie ord
    let hops := s.rdf Reg.JOB_CTL j 20 16
    if s.computeHeld || s.fenced die || hops == 0 || !(s.dieQueue die j true).isEmpty then s
    else match s.idleCore die x with
      | none => s
      | some c =>
        match (s.stealOrder die hops).find? (fun d => (s.idleCore d x).isNone && !(s.dieQueue d j false).isEmpty) with
        | none => s
        | some d => match s.pickTask (s.dieQueue d j false) with
          | (some t, s) => (s.giveTask c t).inc Reg.JOB_STEALS j 1
          | (none, s) => s

/-- WORK_STEAL (R241): an idle core whose die's queue for the job is empty takes the oldest task of the first die that has one
and no idle active core of the job. -/
def execWorkSteal (ord j : Nat) (s : State) : Out := onDevice s fun s =>
  atUnit (ord < 40 && j < 64) (onWorkSteal ord j s)

/-! ## The end of a task -/

/-- PIN_SCRATCH objects that waited for a core to end its task are written, and their PLACEs go on (R197). -/
def Device.writeDue (s : Device) (c : Nat) : Device :=
  let mine := s.work.scratchDue.filter (fun d => d.1 = c)
  if mine.isEmpty then s else
  let s : Device := { s with work := { s.work with scratchDue := s.work.scratchDue.filter (fun d => d.1 ≠ c) } }
  mine.foldl (fun a d => match a.obj d.2 with
    | some o => (a.writeScratch d.2 o c).settlePlace d.2
    | none => a) s

/-- The commands that a task works for. -/
def Device.taskCmds (s : Device) (t : Task) : List Nat :=
  (if t.kind = 0 then t.refs.flatMap (fun i => match s.batch i with
      | some b => b.entries.filterMap (fun e => (s.disp e.1).map (·.n))
      | none => [])
    else if t.kind = 1 then t.refs.filterMap (fun i => (s.query i).map (·.n))
    else if t.kind = 2 then t.refs.flatMap (fun i => match s.srch.sideBatches.find? (fun b => b.id = i) with
      | some b => b.queries.filterMap (fun q => (s.query q).map (·.n))
      | none => [])
    else t.refs.filterMap (fun h => (s.srchH h).bind (·.folding))).eraseDups

/-- The time that commands have run below 1,200 MHz counts under reason 3 (R502): since their first running task was given, since
the ceiling was last set, and since it was last counted. -/
def Device.countSlow (s : Device) (ns : List Nat) : Device :=
  if 1200 ≤ s.rd Reg.PWR_CAP_CEIL 0 then s else
  let running := s.work.tasks.filterMap (·.2)
  ns.foldl (fun a n =>
    let since := ((running.filter (fun t => (s.taskCmds t).contains n)).map (·.since)).foldl min s.now
    let from_ := max (max since s.pwr.capAt) (nget 0 a.pwr.slow n)
    (if from_ < s.now then a.addWait n 3 (s.now - from_) else a).setPwr (fun p => { p with slow := nset 0 p.slow n s.now })) s

/-- The core of a task is free (R246, R272, R541, R547): busy time counts, what is left of its reservations and search requests
goes; a core with two retired engines is fenced, and one that awaits rotation enters it. -/
def Device.freeCore (s : Device) (c : Nat) (t : Task) : Device :=
  let s := s.countSlow (s.taskCmds t)
  let s := (s.inc Reg.JOB_BUSY_NS t.job (s.now - s.uncounted t.job t.since)).setTask c none
  let s := s.setCore c { s.core c with ended := false }
  let s := s.wr Reg.CORE_STATE c 1
  let s := s.tkl.reds.foldl (fun a e => match a.red e.1 with
    | some r => if r.resv.any (fun v => v.1 == c) then a.setRed e.1 (some { r with resv := r.resv.filter (fun v => v.1 ≠ c) }) else a
    | none => a) s
  let s : Device := { s with srch := { s.srch with ports := s.srch.ports.filter (fun q => q.core ≠ c) } }
  let s := s.writeDue c
  let s := if 2 ≤ 4 - popCount 4 (s.rdf Reg.CORE_INFO c 15 12) then s.fenceCore c
    else if s.avl.awaiting.contains c then s.enterRotation c
    else s.idleMark t.job
  (s.showBatches t.ord).showBatches (c / 10)

/-- What the end of a task means for its kind (R242, R329, R330, R335). -/
def Device.taskEnd (s : Device) (t : Task) (r : KernelResult) : Device :=
  if t.kind = 0 then t.refs.foldl (fun a i => a.batchEnd i) s
  else
    let s := s.inc Reg.JOB_TASKS t.job 1
    if t.kind = 1 then s.queryEnd (t.refs.headD 0) r
    else if t.kind = 2 then s.sideEnd (t.refs.headD 0) t.ord
    else s.foldEnd (t.refs.headD 0)

/-- The effect of KERNEL_END_REPORT. -/
def onKernelEndReport (c : Nat) (r : KernelResult) (s : Device) : Device :=
  match s.task c with
  | none => s
  | some t =>
    if !(s.core c).ended || !(s.core c).releaseWait.isEmpty then s
    else ((s.freeCore c t).taskEnd t r).settleAll

/-- KERNEL_END_REPORT (R174, R242, R266, R329, R330, R335): after END, once every RELEASE_ACK has come, the core's task or run has
ended. -/
def execKernelEndReport (c : Nat) (r : KernelResult) (s : State) : Out := onDevice s fun s =>
  atUnit (c < 400) (onKernelEndReport c r s)

/-- The effect of OUTPUT_COPY_COMPLETE. -/
def onOutputCopyComplete (ord j slot : Nat) (s : Device) : Device :=
  match s.work.batches.find? (fun b => b.hs = ord ∧ b.job = j ∧ b.slot = slot ∧ b.st = 3) with
  | none => s
  | some b => (s.copyDone b).settleAll

/-- OUTPUT_COPY_COMPLETE (R237, R242). -/
def execOutputCopyComplete (ord j slot : Nat) (s : State) : Out := onDevice s fun s =>
  atUnit (ord < 40 && j < 64) (onOutputCopyComplete ord j slot s)

end Sys2Proof.Machine
end

