-- ==== Sys2Proof/Machine/Power.lean ====
section
/-! DEFINITION. The power manager (chapter 15): hints, the cap, the thermal responses, and the power states. -/

namespace Sys2Proof.Machine

/-! ## Hints -/

/-- The checks of POWER_HINT. -/
def checkPowerHint (c : Cmd) (s : Device) (_n : Nat) : Option (Nat × Nat) :=
  let b := fld c.slot 16 11
  let j := fld c.slot 27 1 % 64
  let valid := bit (fld c.slot 27 1) 6
  firstFail [
    (valid && s.jobState j != 0 && s.jobOwner j != c.ld, St.notOwner),
    (!valid || bit (fld c.slot 27 1) 7 || hintBodyBad b || bits b 82 82 == 0 || !s.jobOpen j, St.invalidField)]

/-- The effect of POWER_HINT. -/
def runPowerHint (c : Cmd) (s : Device) (n : Nat) : Device :=
  let b := fld c.slot 16 11
  let j := fld c.slot 27 1 % 64
  let cores := match s.job j with
    | some x => x.cores.filter s.coreActive
    | none => []
  (s.takeHint cores false b).finish n St.ok 0

/-- POWER_HINT (R442, R504, R505): covers the whole partition of its job. -/
def execPowerHint (c : Cmd) (s : State) : Out := onDevice s fun s =>
  ryern s c 0x18 (bytesOf 28 63) false (checkPowerHint c) (runPowerHint c)

/-- The hint of a core that comes next of those that satisfy a test: the one with the least of a time. -/
def Device.nextHint (s : Device) (c : Nat) (p : Hint → Bool) (time : Hint → Nat) : Option Hint :=
  (s.pwr.hints.filter (fun h => h.core == c && p h)).foldl (fun (b : Option Hint) h => match b with
    | some x => if time h < time x then some h else b
    | none => some h) none

/-- The state with one hint replaced. -/
def Device.setHint (s : Device) (h : Hint) : Device :=
  (s.setPwr (fun p => { p with hints := p.hints.map (fun x => if x.n = h.n then h else x) })).showHints h.core

/-- The HOIST of a core whose staging is due, 20 µs before its phase (R506); the hint whose phase is due, and the one whose duration has
passed (R507). -/
def Device.stagingDue (s : Device) (c : Nat) : Option Hint :=
  s.nextHint c (fun h => h.hoist && !h.started && !h.staged && decide (h.start ≤ s.now + 20000)) (·.start)
def Device.phaseDue (s : Device) (c : Nat) : Option Hint := s.nextHint c (fun h => !h.started && decide (h.start ≤ s.now)) (·.start)
def Device.endDue (s : Device) (c : Nat) : Option Hint :=
  s.nextHint c (fun h => h.started && h.stop.any (· ≤ s.now)) (fun h => h.stop.getD 0)

/-- The effect of HOIST_STAGING_START. -/
def onHoistStagingStart (core : Nat) (s : Device) : Device :=
  match s.stagingDue core with
  | some h => s.setHint { h with staged := true }
  | none => s

/-- HOIST_STAGING_START (R506): the voltage of the next HOIST is raised. -/
def execHoistStagingStart (core : Nat) (s : State) : Out := onDevice s fun s =>
  atUnit (core < 400) (onHoistStagingStart core s)

/-- A hint's phase starts (R507, R508): a HOIST ends the REEFs received before it and joins the HOISTs whose phase has started; the
higher class governs to the later end. -/
def Device.startHint (s : Device) (h : Hint) : Device :=
  let stop := if h.hoist then some (s.now + (h.dur + 10) * 1000) else if h.dur = 0 then none else some (s.now + h.dur * 1000)
  let old := s.pwr.hints.filter (fun x => x.core == h.core && x.hoist && x.started)
  let cls := if h.hoist then old.foldl (fun m x => max m x.cls) h.cls else h.cls
  let stop := if h.hoist then old.foldl (fun (m : Option Nat) x => match m, x.stop with
    | some a, some b => some (max a b)
    | _, _ => m) stop else stop
  let g : Hint := { h with started := true, stop, cls, staged := h.staged || (h.hoist && old.any (·.staged)), sync := h.sync && old.all (·.sync) }
  let s := s.setPwr (fun p => { p with hints := (p.hints.filter (fun x =>
    !(h.hoist && x.core == h.core && x.started && (x.hoist || decide (x.n < h.n))))).map (fun x => if x.n = h.n then g else x) })
  s.showHints h.core

/-- The effect of HINT_PHASE_START. -/
def onHintPhaseStart (core : Nat) (s : Device) : Device :=
  match s.phaseDue core with
  | some h => s.startHint h
  | none => s

/-- HINT_PHASE_START (R507). -/
def execHintPhaseStart (core : Nat) (s : State) : Out := onDevice s fun s =>
  atUnit (core < 400) (onHintPhaseStart core s)

/-- The effect of HINT_END. -/
def onHintEnd (core : Nat) (s : Device) : Device :=
  match s.endDue core with
  | some h => (s.setPwr (fun p => { p with hints := p.hints.erase h })).showHints core
  | none => s

/-- HINT_END (R507): the started hint of the core whose duration passes first ends. -/
def execHintEnd (core : Nat) (s : State) : Out := onDevice s fun s =>
  atUnit (core < 400) (onHintEnd core s)

/-- DROOP_EVENT (R506): the clock is halved until the regulator recovers, and counted. -/
def execDroopEvent (core : Nat) (s : State) : Out := onDevice s fun s =>
  atUnit (core < 400) (s.inc Reg.PWR_CORE_DROOP_EVENTS core 1)

/-! ## The cap -/

/-- The coefficient of a class in hundredths of a W/(GHz·V²) (R500). -/
def classK (cls : Nat) : Nat :=
  if cls = 0 then 29 else if cls = 1 then 145 else if cls = 2 then 347 else if cls = 3 then 578 else 694

/-- The predicted power of a core at a frequency (R500), in units of W / 1.44e16: `ratio` is the thousandths by which its die
scales it. -/
def Device.corePower (s : Device) (c f ratio : Nat) : Nat :=
  if s.rotating c then 72000000000000000
  else
    let v := s.setpoint c f + 4 * s.stagedV c
    ratio * (9 * classK (s.coreClass c true) * f * v ^ 2 + 160 * v ^ 3)

/-- The cores that are in service. -/
def Device.coresUp (s : Device) : List Nat :=
  (List.range 400).filter (fun c => !s.fenced (coreDie c) && s.rdf Reg.CORE_STATE c 2 0 != 0)

/-- The predicted power of all in-service cores under a ceiling (R501). `seed` holds the dies' ratios, which are free. -/
def Device.planePower (s : Device) (seed ceil : Nat) : Nat :=
  s.coresUp.foldl (fun a c => a + s.corePower c (min ceil (s.otherLimits c)) (800 + seed / 451 ^ (c / 10) % 451)) 0

/-- The compute budget (R501) in the same units. -/
def Device.budget (s : Device) : Nat :=
  (s.rdf Reg.PWR_CAP_W 0 11 0 - s.rd Reg.PWR_STORAGE_W 0 - 30) * 92 * 144000000000000

/-- The highest ceiling that fits the budget (R501). -/
def Device.ceilingFor (s : Device) (seed : Nat) : Option Nat :=
  ((List.range 43).reverse.map (fun k => 400 + 25 * k)).find? (fun f => decide (s.planePower seed f ≤ s.budget))

/-- The ceiling is set (R501, R502): falls act at once, rises by at most 25 MHz in 1 ms; when even 400 MHz does not fit, compute is
held. -/
def Device.setCeiling (s : Device) (fit : Option Nat) : Device :=
  let old := s.rd Reg.PWR_CAP_CEIL 0
  let new := fit.getD 400
  let rise := decide (old < new)
  let may := decide (s.pwr.lastRise + 1000000 ≤ s.now)
  let s := if rise && may then s.setPwr (fun p => { p with lastRise := s.now }) else s
  let c := if rise then (if may then min new (old + 25) else old) else new
  let s := (s.wr Reg.PWR_CAP_CEIL 0 c).wrf Reg.PWR_STATUS 0 5 5 (b2n fit.isNone)
  s.wrf Reg.PWR_STATUS 0 3 3 (b2n (s.coresUp.any (fun k => decide (c < s.fmaxAged k))))

/-- The measured powers of CAP_RECOMPUTE go into their registers (R500, R520). -/
def Device.measurePower (s : Device) (storageW inputW : Nat) : Device :=
  let s := ((s.wr Reg.PWR_STORAGE_W 0 (min 4095 storageW)).wr Reg.PWR_INPUT_W 0 (min 4095 inputW)).peak Reg.PWR_INPUT_PEAK_W 0 (min 4095 inputW)
  let s := s.setPwr (fun p => { p with energy := p.energy + inputW })
  let s := s.wr Reg.PWR_ENERGY_J 0 (s.pwr.energy / 10000 % 2 ^ 64)
  s.wrf Reg.PWR_STATUS 0 4 4 (b2n (decide (s.rdf Reg.PWR_CAP_W 0 11 0 < storageW)))

/-- The frequency ceiling is computed anew and takes effect (R500 to R502). -/
def Device.newCeiling (s : Device) : Device :=
  let running := s.work.tasks.filterMap (·.2)
  let s := s.countSlow (running.flatMap s.taskCmds).eraseDups
  let s := s.setPwr (fun p => { p with capAt := s.now, slow := [] })
  let d := s.draw
  let s := d.2.setPwr (fun p => { p with measured := (List.range 400).foldl (fun m c => nset 0 m c (d.1 / 5 ^ c % 5)) [] })
  let e := s.draw
  let s := e.2
  (s.setCeiling (s.ceilingFor e.1)).applyLimits

/-- The effect of CAP_RECOMPUTE. -/
def onCapRecompute (storageW inputW : Nat) (s : Device) : Device :=
  let s := s.measurePower storageW inputW
  if s.ps ≠ 0 then s else s.newCeiling

/-- CAP_RECOMPUTE (R500 to R502): the measured powers, the classes measured on the cores and the ratios of the dies are the
inputs; the last two are free. In PS1 to PS3 the ceiling waits for the exit (R518). -/
def execCapRecompute (storageW inputW : Nat) (s : State) : Out :=
  onDevice s fun s => .next (onCapRecompute storageW inputW s)

/-- HARDWARE_LIMITER (R502): while it is on, every core clock is halved. -/
def execHardwareLimiter (on : Bool) (s : State) : Out :=
  onDevice s fun s => .next (s.setPwr (fun p => { p with limiter := on }))

/-- The effect of VOLTAGE_RAMP_END. -/
def onVoltageRampEnd (core : Nat) (s : Device) : Device :=
  let l := s.rdf Reg.PWR_CORE_FREQ core 21 11
  if s.rdf Reg.PWR_CORE_FREQ core 10 0 < l then s.wrf Reg.PWR_CORE_FREQ core 10 0 l else s

/-- VOLTAGE_RAMP_END (R603): the voltage has risen, and the higher frequency takes effect. -/
def execVoltageRampEnd (core : Nat) (s : State) : Out := onDevice s fun s =>
  atUnit (core < 400) (onVoltageRampEnd core s)

/-! ## Temperatures -/

/-- A response of R510 begins: INT_CAUSE.THERMAL and SB_ALERT.THERMAL. -/
def Device.thermalAlert (s : Device) : Device := (s.raiseAll 5).alert 1

/-- A temperature as a die reports it (R512): with the overlay of the sensor, in eighths of a degree, rounded down (log entry 194). -/
def Device.reported (s : Device) (die idx temp : Nat) : Nat := (8 * Int.ofNat temp + signed 7 (s.overlay die idx)).toNat / 8

/-- The first sensor of a die for a junction, or for its package or stack (R512). -/
def firstSensor (die : Nat) (package : Bool) : Nat :=
  if dieKind die = 1 then (if package then 12 else 10) else if package then 2 else 0

/-- A temperature of a die is reported (R509, R520): the hottest junction, or the hottest DRAM stack or NAND package. -/
def Device.dieTemp (s : Device) (die temp : Nat) (package : Bool) : Device :=
  let t := min 255 (s.reported die (firstSensor die package) temp)
  if package then s.wrf Reg.PWR_DIE_TEMP die 23 16 t
  else (s.wrf Reg.PWR_DIE_TEMP die 7 0 t).wrf Reg.PWR_DIE_TEMP die 15 8 (max t (s.rdf Reg.PWR_DIE_TEMP die 15 8))

/-- The junction temperature of a core as its sensor reports it (R512). -/
def Device.junction (s : Device) (c temp : Nat) : Nat := s.reported (coreDie c) (c % 10) temp

/-- The junction temperature of a core is reported. -/
def Device.coreTemp (s : Device) (c temp : Nat) : Device :=
  let t := min 255 (s.junction c temp)
  (s.wrf Reg.PWR_CORE_TEMP c 7 0 t).wrf Reg.PWR_CORE_TEMP c 15 8 (max t (s.rdf Reg.PWR_CORE_TEMP c 15 8))

/-- The hardware trip of the compute plane (R511, R518): the compute-plane reset runs to its last step, which waits for the end of
the trip; a transition of the power state ends in PS0. -/
def Device.trip (s : Device) (inst temp : Nat) : Device :=
  if s.tripped then s else
  let d := s.draw
  let s := ((d.2.wrf Reg.PWR_STATUS 0 6 6 1).inc Reg.PWR_THERM_TRIPS 0 1).thermalAlert
  let s := s.pwrRecord 0x0F03 inst (temp % 65536) (d.1 % 16)
  let s := if s.inTransition then
      let s := match s.pwr.waiting with
        | some n => if s.pwr.target = 0 then s.finish n St.ok 0 else s.refusePower n
        | none => s
      let s : Device := { s with avl := { s.avl with testing := [] } }
      ((s.wrf Reg.PWR_STATUS 0 2 0 0).setPwr (fun p => { p with waiting := none, target := 0, since := s.now }))
    else s
  let s := if s.resetting then s else s.planeDown none
  s.applyLimits.settleAll

/-- The trip ends: step 8 of the compute-plane reset, when its other steps are over (R510, R511). -/
def Device.endTrip (s : Device) : Device :=
  let s := s.wrf Reg.PWR_STATUS 0 6 6 0
  ((if s.resetOver then s.planeUp else s).applyLimits).settleAll

/-- The effect of THERMAL_TRIP. -/
def onThermalTrip (die temp : Nat) (s : Device) : Device :=
  let s := s.dieTemp die temp false
  if s.fenced die || decide (temp < 115) || s.sled.stage != 0 then s
  else (s.trip (0x200 + die) temp).setPwr (fun p => { p with junction := true })

/-- THERMAL_TRIP (R510, R511): a SPAR or MAST-T junction at 115 °C or above. -/
def execThermalTrip (die temp : Nat) (s : State) : Out := onDevice s fun s =>
  atUnit (die < 100 && (dieKind die == 1 || die == 47 || die == 57)) (onThermalTrip die temp s)

/-- The effect of TRIP_END. -/
def onTripEnd (s : Device) : Device :=
  let s := s.setPwr (fun p => { p with junction := false })
  if s.tripped && s.rdf Reg.PWR_STATUS 0 7 7 == 0 then s.endTrip else s

/-- TRIP_END (R510): every compute-plane junction has been at or below 100 °C for 100 ms; a storage-hot response still holds the
trip. -/
def execTripEnd (s : State) : Out := onDevice s fun s =>
  .next (onTripEnd s)

/-- Whether the thermal limit of a core may take a step: its last one is long enough ago (R510). -/
def Device.stepDue (s : Device) (c ns : Nat) : Bool :=
  match nget none s.pwr.stepAt c with
  | some t => decide (t + ns ≤ s.now)
  | none => true

/-- The thermal limit of a core takes a step (R510). -/
def Device.setThermal (s : Device) (c f : Nat) : Device :=
  s.setPwr (fun p => { p with thermal := nset 1450 p.thermal c f, stepAt := nset none p.stepAt c (some s.now) })

/-- The effect of THERMAL_THROTTLE_STEP. -/
def onThermalThrottleStep (core temp : Nat) (s : Device) : Device :=
  let s := s.coreTemp core temp
  if s.junction core temp < s.rdf Reg.PWR_THERM_CTL 0 7 0 || s.rotating core || s.fenced (coreDie core) || !s.stepDue core 100000 then s
  else
    let l := min (s.thermalLimit core) (s.fmaxAged core)
    let s := if s.thermalLimit core < s.fmaxAged core then s else s.thermalAlert
    (s.setThermal core (max 400 (l - 25))).applyLimit core

/-- THERMAL_THROTTLE_STEP (R510): at or above T_THROTTLE the thermal limit of a core falls by 25 MHz; not in test rotation (R548). -/
def execThermalThrottleStep (core temp : Nat) (s : State) : Out := onDevice s fun s =>
  atUnit (core < 400) (onThermalThrottleStep core temp s)

/-- The effect of THROTTLE_RECOVER_STEP. -/
def onThrottleRecoverStep (core temp : Nat) (s : Device) : Device :=
  let s := s.coreTemp core temp
  if s.rdf Reg.PWR_THERM_CTL 0 7 0 ≤ s.junction core temp + 2 || s.fenced (coreDie core) || !s.stepDue core 1000000 then s
  else (s.setThermal core (min 1450 (s.thermalLimit core + 25))).applyLimit core

/-- THROTTLE_RECOVER_STEP (R510): below T_THROTTLE − 2 °C it rises by 25 MHz. -/
def execThrottleRecoverStep (core temp : Nat) (s : State) : Out := onDevice s fun s =>
  atUnit (core < 400) (onThrottleRecoverStep core temp s)

/-- The effect of STORAGE_WARN. -/
def onStorageWarn (die temp : Nat) (s : Device) : Device :=
  let s := s.dieTemp die temp false
  let o := sheaveOrd die
  if temp < s.rdf Reg.PWR_THERM_CTL 0 15 8 || s.fenced die || s.media.warm.contains o then s
  else
    let s : Device := { s with media := { s.media with warm := s.media.warm ++ [o] } }
    s.thermalAlert

/-- STORAGE_WARN (R510): the background dispatch of a SHEAVE die is limited. -/
def execStorageWarn (die temp : Nat) (s : State) : Out := onDevice s fun s =>
  atUnit (die < 100 && dieKind die == 0) (onStorageWarn die temp s)

/-- STORAGE_WARN_END (R510). -/
def execStorageWarnEnd (die : Nat) (s : State) : Out := onDevice s fun s =>
  atUnit (die < 100 && dieKind die == 0)
    { s with media := { s.media with warm := s.media.warm.filter (· ≠ sheaveOrd die) } }

/-- The effect of STORAGE_HOT. -/
def onStorageHot (inst temp : Nat) (s : Device) : Device :=
  let die := inst - 0x200
  let s := s.dieTemp die temp (dieKind die == 1 || decide (temp < 105))
  if s.fenced die || decide (temp < (if dieKind die = 0 then 85 else 95)) || s.sled.stage != 0 then s
  else
    let hot := s.media.hot
    let s : Device := if dieKind die = 0 ∧ !hot.contains (sheaveOrd die) then
      { s with media := { s.media with hot := hot ++ [sheaveOrd die] } } else s
    let first := s.rdf Reg.PWR_STATUS 0 7 7 == 0
    let d := s.draw
    let s := d.2.wrf Reg.PWR_STATUS 0 7 7 1
    let s := if first then (s.thermalAlert).pwrRecord 0x0F04 inst (temp % 65536) (d.1 % 16) else s
    s.trip inst temp

/-- STORAGE_HOT (R510): a SHEAVE junction at 105 °C, a NAND package at 85 °C or a DRAM stack at 95 °C trips the compute plane, and a
hot SHEAVE die limits programs and reads. `inst` is the PWR instance of the die. -/
def execStorageHot (inst temp : Nat) (s : State) : Out := onDevice s fun s =>
  let die := inst - 0x200
  atUnit (0x200 ≤ inst && die < 100 && (dieKind die == 0 || dieKind die == 1)) (onStorageHot inst temp s)

/-- The effect of STORAGE_HOT_END. -/
def onStorageHotEnd (s : Device) : Device :=
  if s.rdf Reg.PWR_STATUS 0 7 7 = 0 then s
  else
    let s : Device := { s with media := { s.media with hot := [] } }
    let s := s.wrf Reg.PWR_STATUS 0 7 7 0
    let s := s.cmds.foldl (fun a p => if fld p.slot 0 1 = 0x02 ∧ p.phase = .started ∧ p.held.any (fun h => h.1 == 3) then a.unhold p.n else a) s
    if s.tripped && !s.pwr.junction then s.endTrip else s.settleAll

/-- STORAGE_HOT_END (R510): the storage-hot response ends, and with it the trip unless a junction still holds it. -/
def execStorageHotEnd (s : State) : Out := onDevice s fun s =>
  .next (onStorageHotEnd s)

/-- The effect of COOLANT_ALARM. -/
def onCoolantAlarm (inletC flow : Nat) (s : Device) : Device :=
  let s := (s.wrf Reg.PWR_COOLANT 0 7 0 (min 255 inletC)).wrf Reg.PWR_COOLANT 0 31 16 (min 65535 flow)
  if 40 < inletC ∨ flow < 250 then (s.alert 0).raiseAll 5 else s

/-- COOLANT_ALARM (R586): the inlet above 40 °C, or the flow (in 0.01 L/min) below 2.5 L/min, for 1 s. -/
def execCoolantAlarm (inletC flow : Nat) (s : State) : Out := onDevice s fun s =>
  .next (onCoolantAlarm inletC flow s)

/-! ## Power states -/

/-- The condition of a power state (R514, R601); `except` is the POWER_STATE that asks. -/
def Device.psHolds (s : Device) (ps : Nat) (except_ : Option Nat) : Bool :=
  let c1 := s.work.tasks.all (fun e => e.2.isNone) && (List.range 400).all (fun c => s.rdf Reg.CORE_STATE c 2 0 != 3)
    && s.cmds.all (fun p => some p.n == except_ || !s.computeWork p)
    && s.tkl.reds.all (fun e => match e.2 with | some r => r.phase != 1 | none => true)
    && s.work.scratchDue.isEmpty
    && s.work.jobs.all (fun e => match e.2 with | some x => x.opening.isNone | none => true)
  let c2 := (s.holdBuf 47).held.isEmpty && (s.holdBuf 57).held.isEmpty
    && s.srch.handles.all (fun e => match e.2 with
      | some h => h.bitmaps.all (fun b => match b.2 with | some m => !m.building | none => true)
      | none => true)
    && s.srch.sideBatches.isEmpty
  let c3 := s.cmds.all (fun p => some p.n == except_ || p.order == 0)
    && s.tier.loads.isEmpty && s.tier.landing.isEmpty
    && s.ftl.buf.all (fun b => b.done)
    && s.media.reads.all (fun r => r.cls == 5)
    && s.media.luns.all (fun e => match e.2.job with | some (.read _) => true | some _ => false | none => true)
    && s.ftl.erases.isEmpty && s.ftl.secure.isEmpty && s.ftl.gcOn.isEmpty && s.ftl.flagged.isEmpty
  (ps < 1 || c1) && (ps < 2 || c2) && (ps < 3 || c3)

/-- A power state is entered: PS2 and PS3 test the cores' blocks first (R543, R546), until the entry ends. -/
def Device.enterPs (s : Device) (ps : Nat) : Device :=
  let s := s.beginPs ps
  if s.ps < 2 ∧ 2 ≤ ps then { s with avl := { s.avl with testing := s.coresUp } } else s

/-- The checks of POWER_STATE. -/
def checkPowerState (c : Cmd) (s : Device) (n : Nat) : Option (Nat × Nat) :=
  let t := fld c.slot 16 1
  firstFail [
    (decide (3 < t), St.invalidField),
    (t != 0 && (!bit (s.rdf Reg.PWR_PS_CTL 0 3 1) (t - 1) || !s.psHolds t (some n)), St.refusedPower)]

/-- The effect of POWER_STATE. -/
def runPowerState (c : Cmd) (s : Device) (n : Nat) : Device :=
  let t := fld c.slot 16 1
  if s.ps = t then s.finish n St.ok 0
  else (s.enterPs t).setPwr (fun p => { p with waiting := some n })

/-- POWER_STATE (R443, R514, R516). -/
def execPowerState (c : Cmd) (s : State) : Out := onDevice s fun s =>
  ryern s c 0x19 (bytesOf 17 63) true (checkPowerState c) (runPowerState c)

/-- The compute plane goes off (R513, R577): what it does not retain is gone, and its idle cores are in retention. -/
def Device.coresOff (s : Device) : Device :=
  let s : Device := { s with cores := (s.cores.map (fun (e : Nat × Core) => (e.1, { e.2 with sregs := [] }))).filter (fun e => e.2 ≠ {}) }
  s.coresUp.foldl (fun a c =>
    let a := a.blankEngines c
    let a := (List.range 32).foldl (fun b k => b.wr (semReg k) c 0) a
    if a.rdf Reg.CORE_STATE c 2 0 = 1 then a.wrf Reg.CORE_STATE c 2 0 6 else a) s

/-- The compute plane comes back (R480, R515): the retained banks wake, lane registers and coordination memory are filled. -/
def Device.coresOn (s : Device) : Device :=
  let fill := fun (code : Nat) => code == 2 || code == 9
  let s : Device := { s with mem := { s.mem with
    bytes := s.mem.bytes.filter (fun e => !fill (e.1 / 2 ^ 52)),
    poison := s.mem.poison.filter (fun e => !fill (e.1 * 16 / 2 ^ 52)),
    merge := s.mem.merge.filter (fun m => !fill m.mem) } }
  s.coresUp.foldl (fun a c =>
    if a.rdf Reg.CORE_STATE c 2 0 = 6 then (a.wrf Reg.CORE_STATE c 2 0 1).wr Reg.MEM_CORE_RET c 0 else a) s

/-- The channels are trained again at the exit from PS3 (R515). -/
def Device.channelsOn (s : Device) : Device :=
  (List.range 224).foldl (fun a ch => if a.fenced (sheaveDie (ch / 4)) then a else a.inc Reg.MEDIA_CH_RETRAINS ch 1) s

/-- The tests that the entry of a power state has run (R543): at PS2 the PLLs and regulators of the cores under test and the sensors of
the SPAR dies, at PS3 the NAND PHYs and the sensors of the SHEAVE dies. -/
def Device.entryTests (s : Device) (old new : Nat) : Device :=
  let s := if old < 2 ∧ 2 ≤ new then (s.testCores (s.avl.testing.filter (fun c => !s.rotating c))).testBlocks 0 ps2Blocks else s
  if old < 3 ∧ new = 3 then s.testBlocks 0 ps3Blocks else s

/-- The effect of PS_TRANSITION_END. -/
def onPsTransitionEnd (s : Device) : Device :=
  if !s.inTransition then s
  else
    let old := s.ps; let new := s.pwr.target
    let s := (s.inc (Reg.PWR_PS_RESIDENCY + 8 * old) 0 (s.now - s.pwr.since)).entryTests old new
    let s : Device := { s with avl := { s.avl with testing := [] } }
    let s := (s.wrf Reg.PWR_STATUS 0 1 0 new).wrf Reg.PWR_STATUS 0 2 2 0
    let s := if old < 2 ∧ 2 ≤ new then s.coresOff else if 2 ≤ old ∧ new < 2 then s.coresOn else s
    let s := if old = 3 then s.channelsOn else s
    let n := s.pwr.waiting
    let s := s.setPwr (fun p => { p with since := s.now, waiting := none, awake := [] })
    let s := if old = new then s else (s.pwrRecord 0x0F06 0x300 new old).raiseAll 4
    let s := match n with
      | some n => s.finish n St.ok 0
      | none => s
    s.applyLimits.settleAll

/-- PS_TRANSITION_END (R513, R515, R516, R521): the entry or exit has ended; a waiting POWER_STATE completes. -/
def execPsTransitionEnd (s : State) : Out := onDevice s fun s =>
  .next (onPsTransitionEnd s)

/-- The effect of PS_IDLE_TIMER. -/
def onPsIdleTimer (ps : Nat) (s : Device) : Device :=
  if s.inTransition || decide (ps ≤ s.ps) || s.rd (Reg.PWR_PS_IDLE_MS + 4 * (ps - 1)) 0 == 0
      || !bit (s.rdf Reg.PWR_PS_CTL 0 3 1) (ps - 1) || !s.psHolds ps none || s.tripped || s.sled.stage != 0
      || s.lifecycle == 4 then s
  else s.enterPs ps

/-- PS_IDLE_TIMER (R514, R577): the condition of a power state has held for its idle time. -/
def execPsIdleTimer (ps : Nat) (s : State) : Out := onDevice s fun s =>
  atUnit (1 ≤ ps && ps ≤ 3) (onPsIdleTimer ps s)

/-- HALF_STACK_SLEEP (R517): a woken half-stack returns to self-refresh. -/
def execHalfStackSleep (ord : Nat) (s : State) : Out := onDevice s fun s =>
  atUnit (ord < 40) (s.setPwr (fun p => { p with awake := p.awake.filter (· ≠ ord) }))

/-- BACKGROUND_TASK_WAKE (R517): a task of the storage plane falls due in PS3; a RETIRED device stays (R577). -/
def execBackgroundTaskWake (s : State) : Out := onDevice s fun s =>
  .next (if s.ps = 3 ∧ s.lifecycle ≠ 4 then s.wake else s)

end Sys2Proof.Machine
end

