-- ==== Sys2Proof/Machine/Avail.lean ====
section
/-! DEFINITION. The events of availability (chapter 16): the roles of the hub dies and their firmware, fences, self-tests and the test
rotation. -/

namespace Sys2Proof.Machine

/-! ## Roles -/

/-- The effect of HEARTBEAT. -/
def onHeartbeat (s : Device) : Device :=
  if s.hubRuns then { s with avl := { s.avl with beat := s.now } } else s

/-- HEARTBEAT (R525): the active hub die is alive. -/
def execHeartbeat (s : State) : Out := onDevice s fun s =>
  .next (onHeartbeat s)

/-- The effect of HUB_TAKEOVER. -/
def onHubTakeover (oldFailed : Bool) (s : Device) : Device :=
  let old := s.hubDie
  if s.fenced (otherHub old) || s.sled.stage != 0 || (s.avl.beat != 0 && decide (s.now < s.avl.beat + 1000000)) then s
  else if oldFailed then (s.fenceDie old 2).settleAll
  else if s.rdf Reg.AVL_STATUS 0 1 1 = 1 then (s.takeRole false).settleAll
  else s

/-- HUB_TAKEOVER (R523, R525, R526, R532): the standby has met no heartbeat for 1 ms and its receivers show the link out of L0. A
failed active die is fenced; one whose MHC is alive passes the role on. A standby that restarts takes the role when it has. -/
def execHubTakeover (oldFailed : Bool) (s : State) : Out := onDevice s fun s =>
  .next (onHubTakeover oldFailed s)

/-- The effect of PORT_FAILURE. -/
def onPortFailure (s : Device) : Device :=
  if s.sled.stage ≠ 0 then s
  else if s.rdf Reg.AVL_STATUS 0 1 1 = 1 then (s.takeRole false).settleAll
  else s.wrf Reg.HIF_PORT_STATUS 0 6 0 0

/-- PORT_FAILURE (R526): the role passes as in a planned swap, from its step 2; with no standby the link is down. -/
def execPortFailure (s : State) : Out := onDevice s fun s =>
  .next (onPortFailure s)

/-- MHC_LOCKSTEP_MISMATCH (R533): the mismatch repeats within 1 s, and the hub die is fenced. -/
def execMhcLockstepMismatch (die : Nat) (s : State) : Out := onDevice s fun s =>
  atUnit (die == 42 || die == 52) (s.fenceDie die 7).settleAll

/-- DIE_FENCE (R533). -/
def execDieFence (die cause : Nat) (s : State) : Out := onDevice s fun s =>
  atUnit (die < 100 && 1 ≤ cause && cause ≤ 7) (s.fenceDie die cause).settleAll

/-! ## Firmware -/

/-- The active hub die runs the staged image (R529, R559): SEC_FW_VERSION and the running SVN. -/
def Device.runStaged (s : Device) : Device :=
  if s.sec.staged.isEmpty then s
  else (s.wr Reg.SEC_FW_VERSION 0 (leNat ((s.sec.staged.drop 4).take 4))).wrf Reg.SEC_FW_SVN 0 22 16 (leNat ((s.sec.staged.drop 8).take 2))

/-- The update of the hub dies has ended (R529): FW_UPDATE; the FW_ACTIVATE that asked for it completes (R567). -/
def Device.updateDone (s : Device) : Device :=
  let s : Device := { s with avl := { s.avl with update := 0 } }
  let s := if s.sec.activating then
      let s := (s.wrf Reg.SEC_STATUS 0 7 7 0).wr Reg.SEC_LAST_RESULT 0 (6 * 2 ^ 16)
      let s := match s.sec.activator with
        | some n => s.finish n St.ok 0
        | none => s
      { s with sec := { s.sec with activating := false, activator := none } }
    else s
  let d := s.draw
  (d.2.wrf Reg.AVL_STATUS 0 4 4 0).avlRecord 0x1005 0 0 0 (d.1 % 2 ^ 32) 0

/-- The effect of MHC_RESTART_END. -/
def onMhcRestartEnd (die : Nat) (s : Device) : Device :=
  if s.fenced die then s
  else
    let s : Device := { s with avl := { s.avl with restarting := s.avl.restarting.filter (· ≠ die) } }
    if die = s.hubDie then (if s.avl.update = 4 then s.runStaged.updateDone.settleAll else s)
    else if s.fenced s.hubDie then
      let updating := s.avl.update != 0
      let s := ((s.takeRole false).rerun).planeReset
      (if updating then s.runStaged.updateDone else s).settleAll
    else
      let s := s.wrf Reg.AVL_STATUS 0 1 1 1
      if s.avl.update = 1 then
        let old := s.hubDie
        let s := ((s.takeRole true).runStaged).wrf Reg.AVL_STATUS 0 1 1 0
        { s with avl := { s.avl with update := 3, restarting := s.avl.restarting ++ [old] } }
      else if s.avl.update = 3 then s.updateDone
      else s

/-- MHC_RESTART_END (R523, R529, R531, R532): a hub die's MHC has restarted and resynchronised. In an update the roles then swap
and the old active die restarts; a standby whose active die has failed in the meantime takes the role. -/
def execMhcRestartEnd (die : Nat) (s : State) : Out := onDevice s fun s =>
  atUnit (die == 42 || die == 52) (onMhcRestartEnd die s)

/-- The effect of DIE_FIRMWARE_SWITCH. -/
def onDieFirmwareSwitch (die : Nat) (s : Device) : Device :=
  if s.fenced die then s
  else { s with avl := { s.avl with banks := nset 0 s.avl.banks die (1 - nget 0 s.avl.banks die) } }

/-- DIE_FIRMWARE_SWITCH (R530): a die switches to its other firmware bank. -/
def execDieFirmwareSwitch (die : Nat) (s : State) : Out := onDevice s fun s =>
  atUnit (die < 100 && die != 42 && die != 52) (onDieFirmwareSwitch die s)

/-! ## Self-test -/

/-- The effect of SELFTEST_AGE_EXPIRY. -/
def onSelftestAgeExpiry (die block : Nat) (pass : Bool) (s : Device) : Device :=
  let r := nget 0 s.avl.tests (die * 64 + block)
  if r = 0 || decide (s.poweredHours ≤ r / 2 ^ 36 + s.rdf Reg.AVL_ST_CTL 0 15 0) then s else s.selfTest die block pass

/-- SELFTEST_AGE_EXPIRY (R543): the record of a block is older than AVL_ST_CTL.MAX_AGE_H. -/
def execSelftestAgeExpiry (die block : Nat) (pass : Bool) (s : State) : Out := onDevice s fun s =>
  atUnit (die < 100 && block < 38) (onSelftestAgeExpiry die block pass s)

/-- STANDBY_PHY_TEST (R543): the loop-back test of the standby's CXL PHY, every 24 h. -/
def execStandbyPhyTest (pass : Bool) (s : State) : Out :=
  onDevice s fun s => .next (s.selfTest (otherHub s.hubDie) 8 pass)

/-! ## Rotation -/

/-- What a core's rotation has found (R547 to R549, R551): code 1 pass, 2 a failure at the stress point, 3 also at the operating
point, 4 the PLL, 5 the regulator. -/
def Device.rotationResult (s : Device) (c code : Nat) : Device :=
  let n := s.rdf Reg.AVL_CORE_ROT c 3 2
  let last := if code = 2 then 2 else if code = 3 then 3 else if code = 1 then 1 else s.rdf Reg.AVL_CORE_ROT c 1 0
  let row := if code = 2 then min 3 (n + 1) else if code = 1 then 0 else n
  let s := s.wrf Reg.AVL_CORE_ROT c 15 0 (last + row * 2 ^ 2 + min 4095 (s.rdf Reg.AVL_CORE_ROT c 15 4 + 1) * 2 ^ 4)
  let s := s.wr Reg.AVL_CORE_STRESS c (s.stressFreq c % 2 ^ 11 + s.stressVolt c / 4 % 2 ^ 10 * 2 ^ 11 + 105 * 2 ^ 21)
  let s := s.recordCore c (if code = 4 then 2 else 1) (if code = 5 then 2 else 1)
  if code = 2 then
    let s := s.avlRecord 0x1007 (0x400 + c) 0 last (s.stressFreq c) 0
    if row = 3 then s.fenceCore c else s
  else if code = 3 then (s.avlRecord 0x1007 (0x400 + c) 0 last (s.stressFreq c) 0).fenceCore c
  else if code = 4 then (s.avlRecord 0x1006 (0x400 + c) 0 9 0 0).fenceCore c
  else if code = 5 then (s.avlRecord 0x1006 (0x400 + c) 0 (26 + c % 10) 0 0).fenceCore c
  else s

/-- The effect of ROTATION_PERIOD. -/
def onRotationPeriod (results : List (Nat × Nat)) (s : Device) : Device :=
  let p := s.rotGroup
  let s := ((List.range 400).filter s.rotating).foldl (fun a c =>
    a.rotationResult c (((results.find? (fun r => r.1 = c)).map (·.2)).getD 1)) s
  let s := s.endGroup
  if s.rdf Reg.AVL_ROT_CTL 0 0 0 = 0 then s.settleAll
  else
    let s := if p = 24 then s.inc Reg.AVL_ROT_CYCLES 0 1 else s
    (s.startGroup ((p + 1) % 25)).settleAll

/-- ROTATION_PERIOD (R547 to R549): the period of the group in rotation ends. `results` names what its cores found; a core that it
does not name has passed. While AVL_ROT_CTL.EN is 0 no group follows. -/
def execRotationPeriod (results : List (Nat × Nat)) (s : State) : Out := onDevice s fun s =>
  .next (onRotationPeriod results s)

/-! ## Handover -/

/-- The effect of HANDOVER_TRAINING_END. -/
def onHandoverTrainingEnd (ord : Nat) (s : Device) : Device :=
  if !s.avl.training.contains ord then s
  else
    let s : Device := { s with avl := { s.avl with training := s.avl.training.filter (· ≠ ord) } }
    let d := s.draw
    (d.2.avlRecord 0x1002 (0x100 + sparDie ord) 0 0 (d.1 % 2 ^ 32) (s.hsDie ord)).settleAll

/-- HANDOVER_TRAINING_END (R537, R552): the twin's controllers serve the inherited half-stack. -/
def execHandoverTrainingEnd (ord : Nat) (s : State) : Out := onDevice s fun s =>
  atUnit (ord < 40) (onHandoverTrainingEnd ord s)

end Sys2Proof.Machine
end

