-- ==== Sys2Proof/Machine/SecOps.lean ====
section
/-! DEFINITION. The operations of the root of trust (chapter 17): nonces, tokens, debug levels, firmware images, and lifecycle
transitions. -/

namespace Sys2Proof.Machine

/-- The state with the root of trust's part changed. -/
def Device.setSec (s : Device) (f : Sec → Sec) : Device := { s with sec := f s.sec }

/-- SEC_STATUS.DEBUG (R573). -/
def Device.debug (s : Device) : Nat := s.rdf Reg.SEC_STATUS 0 4 3

/-- SEC_STATUS.OP_BUSY (R567, R580). -/
def Device.opBusy (s : Device) : Bool := s.rdf Reg.SEC_STATUS 0 7 7 == 1

/-- SEC_STATUS.TAMPER_LOCKOUT (R578). -/
def Device.lockout (s : Device) : Bool := s.rdf Reg.SEC_STATUS 0 6 6 == 1

/-- The lifecycle state, the debug level or a tamper flag has changed: INT_CAUSE.LIFECYCLE and SB_ALERT.LIFECYCLE (R421, R600). -/
def Device.secAlert (s : Device) : Device := (s.raiseAll 7).alert 5

/-- SEC_LAST_RESULT (R580). -/
def Device.secResult (s : Device) (op status : Nat) : Device := s.wr Reg.SEC_LAST_RESULT 0 (status + op * 2 ^ 16)

/-- The source of an operation as records name it (R582): 0 the admin LD, 1 the fabric-manager path, 2 the monitor. -/
def pathSource : Path → Nat
  | .bar _ => 0
  | .ryern _ => 0
  | .fabric => 1
  | .monitor => 2
  | .core _ => 0   -- reaches no operation (R144)

/-- The secure scratch of both hub dies is wiped (R481): counted, with a record for each. -/
def Device.wipeScratch (s : Device) : Device :=
  [42, 52].foldl (fun (a : Device) d => (a.inc Reg.MEM_SEC_WIPES d 1).record 0x0E06 (memBody 11 0 (0x200 + d) 0 0 0) none) s

/-! ## Nonces and tokens -/

/-- The bytes of SEC_NONCE. -/
def Device.nonceBytes (s : Device) : List Byte := (List.range 16).flatMap (fun i => natLe 4 (s.rd (Reg.SEC_NONCE + 4 * i) 0))

/-- There is no current nonce any longer (R568). -/
def Device.dropNonce (s : Device) : Device :=
  ((List.range 16).foldl (fun a i => a.wr (Reg.SEC_NONCE + 4 * i) 0 0) s).setSec (fun x => { x with nonceAt := none })

/-- NONCE (R568, R569): a fresh nonce of 64 bytes, whose value is free; refused after 8 failures. Answers its status. -/
def Device.secNonce (s : Device) : Nat × Device :=
  if s.opBusy then (St.invalidField, s)
  else if s.sec.refuseFrom.isSome then (St.securityDenied, s.secResult 1 St.securityDenied)
  else
    let d := s.draw
    let s := (List.range 16).foldl (fun a i => a.wr (Reg.SEC_NONCE + 4 * i) 0 (d.1 / 2 ^ (32 * i) % 2 ^ 32)) d.2
    (St.ok, (s.setSec (fun x => { x with nonceAt := some s.now })).secResult 1 St.ok)

/-- A field of a token (R569). -/
def tok (b : List Byte) (at_ n : Nat) : Nat := leNat ((b.drop at_).take n)

/-- The key that a token's signature is checked with (R569, R570): the owner's key, for the first transition the one the token
carries, or the Nyras service key. -/
def Device.tokenKey (s : Device) (b : List Byte) : List Byte :=
  if tok b 6 1 = 1 then Config.serviceKey
  else if tok b 6 1 ≠ 0 then []
  else if tok b 4 1 = 2 ∧ tok b 5 1 = 1 ∧ s.lifecycle = 0 then (b.drop 96).take 67
  else s.sec.owner

/-- The check that a token fails, as TOKEN_REJECTED names it (R569, R582): 1 MAGIC, 2 SERIAL, 3 NONCE, 4 signature. -/
def Device.tokenFails (s : Device) (b : List Byte) : Option Nat :=
  let key := s.tokenKey b
  if tok b 0 4 ≠ 0x4B54594E then some 1
  else if tok b 8 8 ≠ s.rd Reg.SEC_SERIAL 0 then some 2
  else if !s.sec.nonceAt.any (fun t => decide (s.now < t + 600000000000)) || (b.drop 16).take 64 != s.nonceBytes then some 3
  else if b.length ≠ 356 || key.isEmpty || !Config.signatureOk key (b.take 224) (b.drop 224) then some 4
  else none

/-- A token is rejected (R569): counted and logged; after 8 failures NONCE is refused. -/
def Device.rejectToken (s : Device) (b : List Byte) (source detail : Nat) : Device :=
  let s := s.inc Reg.SEC_UNLOCK_FAILS 0 1
  let n := s.sec.fails + 1
  let s := s.setSec (fun x => if n = 8 then { x with fails := 0, refuseFrom := some s.now } else { x with fails := n })
  s.secRecord 0x1106 0 0 (tok b 6 1) source detail

/-! ## Debug levels -/

/-- Halted cores run on (R574, R575). -/
def Device.resumeCore (s : Device) (c : Nat) : Device :=
  let k := s.core c
  let s := if k.halting then s.setCore c { k with halting := false } else s
  if s.rdf Reg.CORE_STATE c 2 0 = 3 then s.wrf Reg.CORE_STATE c 2 0 (if (s.task c).isSome then 2 else 1) else s

/-- The debug level changes (R574, R575): interrupt and DEBUG_CHANGE; below DBG2 halted cores resume; entry to DBG3 resets the
compute plane and empties the key slots, which are loaded again below it. -/
def Device.setDebug (s : Device) (new signer source : Nat) (stop : Option Nat) : Device :=
  let old := s.debug
  let s := s.setSec (fun x => { x with debugEnd := stop })
  if new = old then s else
  let s := ((s.wrf Reg.SEC_STATUS 0 4 3 new).secAlert).secRecord 0x1102 old new signer source 0
  let s := if new < 2 then (List.range 400).foldl (fun a c => a.resumeCore c) s else s
  let s := if new = 3 then s.planeReset.setSec (fun x => { x with slotsEmpty := true }) else s
  if old = 3 then s.setSec (fun x => { x with slotsEmpty := s.lockout }) else s

/-- Whether a level may be taken in a lifecycle state under a signer (R573). -/
def debugAllowed (level life signer : Nat) : Bool :=
  if level = 1 then signer == 0 || (signer == 1 && (life == 0 || life == 3 || life == 4))
  else if level = 2 then life != 4 && (signer == 0 || (signer == 1 && (life == 0 || life == 3)))
  else if level = 3 then signer == 1 && (life == 0 || life == 3)
  else false

/-- UNLOCK (R568, R569, R574). -/
def Device.secUnlock (s : Device) (b : List Byte) (source : Nat) : Nat × Device :=
  if s.opBusy then (St.invalidField, s) else
  let bad := s.tokenFails b
  let s := s.dropNonce
  match bad with
  | some k => (St.securityDenied, (s.rejectToken b source k).secResult 2 St.securityDenied)
  | none =>
    if tok b 4 1 ≠ 1 then (St.invalidField, s.secResult 2 St.invalidField)
    else if !debugAllowed (tok b 5 1) s.lifecycle (tok b 6 1) then (St.lifecycleLocked, s.secResult 2 St.lifecycleLocked)
    else
      let stop := if tok b 80 2 = 0 then none else some (s.now + tok b 80 2 * 60000000000)
      (St.ok, (s.setDebug (tok b 5 1) (tok b 6 1) source stop).secResult 2 St.ok)

/-- LOCK (R567, R574): only a lower level can be taken. -/
def Device.secLock (s : Device) (level source : Nat) : Nat × Device :=
  if s.opBusy then (St.invalidField, s)
  else if s.debug ≤ level then (St.invalidField, s.secResult 3 St.invalidField)
  else (St.ok, (s.setDebug level 0xFF source (if level = 0 then none else s.sec.debugEnd)).secResult 3 St.ok)

/-! ## Firmware -/

/-- The check of R560 that an image fails, none when it passes. -/
def Device.imageFails (s : Device) (b : List Byte) : Bool :=
  let cert := (b.drop 256).take 2048
  let body := (b.drop 4096).take (tok b 16 8)
  let kinds := (List.range 8).map (fun i => tok b (96 + 16 * i) 1)
  !Config.certOk cert
    || !Config.signatureOk (Config.certKey cert) (b.take 2304) ((b.drop 2304).take 132)
    || (b.drop 24).take 64 != Config.sha512 body
    || decide (tok b 8 2 < s.rdf Reg.SEC_FW_SVN 0 6 0)
    || kinds.any (fun k => decide (4 < k)) || !kinds.contains 1

/-- FW_STAGE (R559, R560): a verified image replaces the staged one. What OLD and NEW of its record hold is open. -/
def Device.secStage (s : Device) (b : List Byte) (source : Nat) : Nat × Device :=
  if s.opBusy then (St.invalidField, s)
  else if 67108864 < b.length then (St.invalidField, s.secResult 5 St.invalidField)
  else if s.imageFails b then (St.securityDenied, s.secResult 5 St.securityDenied)
  else
    let d := (s.setSec (fun x => { x with staged := b })).draw
    let s := (d.2.wrf Reg.SEC_STATUS 0 8 8 1).secRecord 0x1104 (d.1 % 256) (d.1 / 256 % 256) 0xFF source (tok b 4 4)
    (St.ok, s.secResult 5 St.ok)

/-- FW_ACTIVATE (R529, R531, R532, R560): the update of the hub dies begins; with one hub die its MHC restarts. It completes
when the update has ended: none. -/
def Device.secActivate (s : Device) (cmd : Option Nat) : Option Nat × Device :=
  if s.opBusy || s.sec.staged.isEmpty || s.rdf Reg.AVL_STATUS 0 4 4 == 1 then (some St.invalidField, s)
  else
    let s := ((s.wrf Reg.AVL_STATUS 0 4 4 1).wrf Reg.SEC_STATUS 0 7 7 1).setSec (fun x => { x with activating := true, activator := cmd })
    let other := otherHub s.hubDie
    (none, if s.fenced other then
        { s with avl := { s.avl with update := 4, restarting := s.avl.restarting ++ [s.hubDie] } }
      else
        let s := s.wrf Reg.AVL_STATUS 0 1 1 0
        { s with avl := { s.avl with update := 1, restarting := (s.avl.restarting.filter (· ≠ other)) ++ [other] } })

/-- SVN_COMMIT (R561). -/
def Device.secCommit (s : Device) (source : Nat) : Nat × Device :=
  let fused := s.rdf Reg.SEC_FW_SVN 0 6 0; let run := s.rdf Reg.SEC_FW_SVN 0 22 16
  if s.opBusy then (St.invalidField, s)
  else if run ≤ fused then (St.invalidField, s.secResult 7 St.invalidField)
  else (St.ok, ((s.wrf Reg.SEC_FW_SVN 0 6 0 run).secRecord 0x1105 fused run 0xFF source 0).secResult 7 St.ok)

/-! ## Lifecycle -/

/-- Superquads are emptied and erased (R353, R571): what their LUNs were programming is abandoned. -/
def Device.eraseSquads (s : Device) (test : Nat → SuperQuad → Bool) : Device :=
  (s.ftl.squads.filter (fun e => e.2.st != 0 && test e.1 e.2)).foldl (fun a e =>
    let g := e.1 / 131072; let t := e.1 / 4096 % 32; let q := e.1 % 4096
    let a := a.setSquad g t q { e.2 with st := 4 }
    (a.members g).foldl (fun b o =>
      let nd := nandDie o t
      let mine := match (b.lun nd).job with
        | some (.program q' _ _) => q' == q
        | some (.erase q' _ _ _) => q' == q
        | _ => false
      let b := if mine then b.setLun nd {} 0 else b
      let b := b.setFtl (fun f => { f with
        erases := f.erases.filter (fun x => !(x.1 == nd && x.2.1 == q)),
        buf := f.buf.filter (fun c => !(c.ord == o && (match c.loc with
          | some l => locDie l == t && locQuad l == q
          | none => false))) })
      b.quadErased nd q e.2.slc) a) s

/-- Every job, handle, shard and placement is torn down (step 4 of R571). -/
def Device.tearDown (s : Device) : Device :=
  let s := s.tkl.reds.foldl (fun a e => match e.2 with
    | some r => ((a.freeRed e.1 r).setRed e.1 none).wr Reg.TKL_RED_STATUS e.1 0
    | none => a) s
  let s := s.tkl.shards.foldl (fun a e => (a.setShard e.1 none).wr Reg.TKL_SHARD_STATUS e.1 0) s
  let s := s.emb.handles.foldl (fun a e => match e.2 with
    | some h => ((h.areas.foldl (fun b p => b.unpinRun p.1 p.2 (ceilDiv h.gatherMib 2 + ceilDiv h.cacheMib 2) h.job) a).setEmbH
        e.1 none).wr Reg.EMB_H_STATUS e.1 0
    | none => a) s
  let s := s.srch.handles.foldl (fun a e => match e.2 with
    | some h => (h.areas.foldl (fun b p => b.unpinRun p.1 p.2.1 p.2.2 h.job) a).setSrchH e.1 none
    | none => a) s
  let s := s.tier.objs.foldl (fun a e => a.releaseObj e.1) s
  (List.range 64).foldl (fun a j => match a.job j with
    | some x => a.endTeardown j a.hif.next x
    | none => a) s

/-- Every namespace is deleted (step 4 of R571); with `secure`, every copy of unencrypted data is erased. -/
def Device.deleteAll (s : Device) (secure : Bool) : Device :=
  let s := s.nss.foldl (fun a e => match e.2 with
    | some x => ((a.discardCws e.1 0 (ceilDiv x.size cwBytes) (secure && x.key == 0) none)).freeNs e.1 x
    | none => a) s
  if !secure then s else
  let plain := fun (c : CodeWord) => c.key == 0 && decide (c.kind ≤ 3)
  let s := s.setFtl (fun f => { f with buf := f.buf.filter (fun b => !(plain b.cw && b.loc.isNone)) })
  let keys := (s.ftl.nand.filterMap (fun e => match e.2 with
    | some c => if plain c then
        some (sqKey (rainGroup (e.1 / 2 ^ 32)) (locDie (e.1 % 2 ^ 32)) (locQuad (e.1 % 2 ^ 32))) else none
    | none => none)).eraseDups
  s.eraseSquads (fun k q => q.use != 3 && keys.contains k)

/-- The transitions that delete namespaces (R570, and for RETURNED to BLANK R577). -/
def Transition.deletes (x : Transition) : Bool := x.goal == 4 || x.goal == 0 || (x.old == 2 && x.goal == 3)

/-- Those that erase every quad, and those that destroy keys (R555, R570). -/
def Transition.erases (x : Transition) : Bool := x.goal == 4 || (x.old == 3 && x.goal == 0)
def Transition.destroys (x : Transition) : Bool := x.deletes || x.erases

/-- Steps 5 to 7 of a lifecycle transition (R555, R570, R571, R574, R577). -/
def Device.finishTransition (s : Device) (x : Transition) : Device :=
  let s := s.wrf Reg.SEC_STATUS 0 2 0 x.goal
  let s := s.wrf Reg.SEC_STATUS 0 15 9 (s.rdf Reg.SEC_STATUS 0 15 9 + 1)
  let owner := if x.goal = 1 ∧ x.old = 0 then x.owner else if x.goal = 0 then [] else s.sec.owner
  let s := (s.setSec (fun y => { y with owner, going := none })).wrf Reg.SEC_STATUS 0 5 5 (b2n !owner.isEmpty)
  let s := if x.destroys then s.wr Reg.SEC_KEK_EPOCH 0 (min 32 (s.rd Reg.SEC_KEK_EPOCH 0 + 1)) else s
  let s := s.wipeScratch
  let s := s.setDebug 0 0xFF 3 none
  let s := (s.secRecord 0x1101 x.old x.goal x.signer x.source 0).secAlert
  let s := if x.erases then s.eraseSquads (fun _ _ => true) else s
  let s := if x.old = 3 ∧ x.goal = 0 then (List.range 40).foldl (fun a o => a.clearMem 5 o 0 0x600000000) s else s
  let s := if x.goal = 4 then
      let s := (s.wr Reg.SEC_DIE_ROT 42 0).wr Reg.SEC_DIE_ROT 52 0
      if s.inTransition || s.ps == 3 then s else s.enterPs 3
    else s
  let s := (s.wrf Reg.SEC_STATUS 0 7 7 0).secResult 4 St.ok
  let s := match x.cmd with
    | some n => s.finish n St.ok 0
    | none => if x.deletes && x.source == 2 then s.emit (.line true 0 []) else s
  s.settleAll

/-- A transition that waits for the admitted commands goes on once all others have completed (step 3 of R571). -/
def Device.settleTransition (s : Device) : Device :=
  match s.sec.going with
  | none => s
  | some x =>
    if s.cmds.any (fun p => p.order != 0 && some p.n != x.cmd) then s
    else ((s.tearDown.deleteAll (x.old == 2 && x.goal == 3))).finishTransition x

/-- Whether a transition exists under a signer (R555, R570). -/
def Device.transitionOk (s : Device) (goal signer : Nat) : Bool :=
  let old := s.lifecycle; let used := s.rdf Reg.SEC_STATUS 0 15 9
  decide (used < 64) && (goal == 4 || decide (used < 63)) && (goal == 4 || decide (s.rd Reg.SEC_KEK_EPOCH 0 < 32))
    && ((old == 0 && goal == 1 && signer == 0) || (old == 1 && (goal == 0 || goal == 2) && signer == 0)
      || (old == 2 && goal == 3 && signer == 0) || (old == 3 && goal == 0 && signer == 1)
      || (old != 4 && goal == 4 && (if s.sec.owner.isEmpty then signer == 1 else signer == 0)))

/-- LIFECYCLE (R568 to R571): the status at once, or none for a transition that waits. -/
def Device.secLifecycle (s : Device) (b : List Byte) (source : Nat) (cmd : Option Nat) : Option Nat × Device :=
  if s.opBusy then (some St.invalidField, s) else
  let bad := s.tokenFails b
  let s := s.dropNonce
  match bad with
  | some k => (some St.securityDenied, (s.rejectToken b source k).secResult 4 St.securityDenied)
  | none =>
    let goal := tok b 5 1; let signer := tok b 6 1; let owner := (b.drop 96).take 67
    if !s.transitionOk goal signer then (some St.lifecycleLocked, s.secResult 4 St.lifecycleLocked)
    else if tok b 4 1 ≠ 2 ∨ (s.lifecycle = 0 ∧ goal = 1 ∧ leNat owner = 0) then (some St.invalidField, s.secResult 4 St.invalidField)
    else
      let x : Transition := { goal, signer, source, owner, cmd, old := s.lifecycle }
      let s := s.wrf Reg.SEC_STATUS 0 7 7 1
      if x.deletes then
        let s : Device := s.setSec (fun y => { y with going := some x })
        (none, (s.planeReset.settleAll).settleTransition)
      else (some St.ok, s.finishTransition { x with cmd := none })

/-- The argument of an operation (R567): bytes of an LD's answer window. -/
def Device.secArg (s : Device) (ld n : Nat) : List Byte := s.windowRead ld (s.rd Reg.SEC_ARG_ADDR 0 * 32) n

/-- A write of SEC_CMD (R567) that a command of the pipeline, or another path, asks for: the status at once, or none for an
operation that ends later. -/
def Device.secOp (s : Device) (value ld source : Nat) (cmd : Option Nat) : Option Nat × Device :=
  let op := bits value 3 0
  let now := fun (r : Nat × Device) => (some r.1, r.2)
  let fits := fun (n : Nat) => s.bufFits ⟨ld, none, s.rd Reg.SEC_ARG_ADDR 0 * 32⟩ n
  if op = 1 then now s.secNonce
  else if op = 2 then (if fits 356 then now (s.secUnlock (s.secArg ld 356) source) else (some St.invalidField, s))
  else if op = 3 then now (s.secLock (bits value 7 4) source)
  else if op = 4 then (if fits 356 then s.secLifecycle (s.secArg ld 356) source cmd else (some St.invalidField, s))
  else if op = 5 then
    (if fits (s.rd Reg.SEC_ARG_LEN 0) then now (s.secStage (s.secArg ld (s.rd Reg.SEC_ARG_LEN 0)) source) else (some St.invalidField, s))
  else if op = 6 then s.secActivate cmd
  else if op = 7 then now (s.secCommit source)
  else (some St.invalidField, s)

end Sys2Proof.Machine
end

