-- ==== Sys2Proof/Machine/HostIf.lean ====
section
/-! DEFINITION. The CXL port, the mailboxes and the command pipeline (chapter 13): doorbells, queue resets, fetching, admission,
completion, host DMA, logical devices and CXL.mem. -/

namespace Sys2Proof.Machine

/-! ## Mailboxes -/

/-- A mailbox. -/
def Device.mbox (s : Device) (ld mb : Nat) : Mailbox := nget {} s.hif.mbs (ld * 64 + mb)

/-- The state with a mailbox replaced. -/
def Device.setMb (s : Device) (ld mb : Nat) (m : Mailbox) : Device :=
  { s with hif := { s.hif with mbs := nset {} s.hif.mbs (ld * 64 + mb) m } }

/-- An event at a mailbox. -/
def atMb (ld mb : Nat) (s : Device) : Effect := atUnit (ld < 16 && mb < 64) s

/-- Where a slot stands in the mailbox SRAM (R419, R460). -/
def slotAt (ld mb slot : Nat) : Nat := (ld * 64 + mb) * 16384 + slot * 64

/-- The pending slots of a mailbox (R422). -/
def Mailbox.waiting (m : Mailbox) : Nat := (m.bells.map (·.slots)).foldl (· + ·) 0

/-- The commands of a mailbox whose completion entries are still to be written. -/
def Device.mbCmds (s : Device) (ld mb : Nat) : List Pending := s.cmds.filter (fun p => p.ld == ld && p.mb == mb && !p.silent)

/-- The link of the active hub die is in L0 (R456, R526). -/
def Device.linkUp (s : Device) : Bool := s.rdf Reg.HIF_PORT_STATUS 0 1 0 != 0

/-- A doorbell makes slots pending (R417, R422). -/
def Device.sqTail (s : Device) (ld mb v : Nat) : Device :=
  let m := s.mbox ld mb
  let new := (v % 256 + 256 - m.tail) % 256
  if !m.enabled || m.resetting || new == 0 || s.sled.stage != 0 then s
  else s.setMb ld mb { m with tail := v % 256, bells := m.bells ++ [⟨new, s.now, s.fullTime, s.hif.nextReq⟩] }

/-- MB_SQ_TAIL (R417, R422). -/
def execMbSqTail (ld mb : Nat) (value : BitVec 32) (s : State) : Out :=
  onDevice s fun s => atMb ld mb (s.sqTail ld mb value.toNat)

/-- Entries of a completion ring are consumed (R423). -/
def Device.cqHead (s : Device) (ld mb v : Nat) : Device :=
  let m := s.mbox ld mb
  s.setMb ld mb { m with cqHead := v % 256, unread := m.unread - (v % 256 + 256 - m.cqHead) % 256 }

/-- MB_CQ_HEAD (R423). -/
def execMbCqHead (ld mb : Nat) (value : BitVec 32) (s : State) : Out :=
  onDevice s fun s => atMb ld mb (s.cqHead ld mb value.toNat)

/-! ## Queue reset -/

/-- An admitted command is cut (R434, R450): a READ drops the units not yet read; a DISPATCH with PASS 0 or 1 routes no more. -/
def Device.cutCmd (s : Device) (p : Pending) : Device :=
  if p.phase = .ended then s
  else if fld p.slot 0 1 = 0x01 then
    let moved := ((s.media.ios.find? (fun r => r.n = p.n)).map (·.moved)).getD 0
    let s : Device := { s with media := { s.media with ios := s.media.ios.filter (fun r => r.n ≠ p.n) } }
    (s.dropReads (fun d => match d with | .cmd m _ => m == p.n | _ => false)).finish p.n St.queueReset moved
  else if fld p.slot 0 1 = 0x23 ∧ fld p.slot 18 1 ≤ 1 then
    match s.work.disps.find? (fun d => d.n = p.n) with
    | some d => (s.setCmd { p with cut := true }).cutDisp d.seq false
    | none => s.finish p.n St.queueReset 0
  else s

/-- A queue reset begins (steps 1 to 3 of R449): commands not yet admitted complete with QUEUE_RESET, admitted ones are cut or run
on. -/
def Device.startReset (s : Device) (ld mb : Nat) : Device :=
  let s := (s.setMb ld mb { s.mbox ld mb with resetting := true }).inc Reg.HIF_LD_QRESETS ld 1
  ((s.mbCmds ld mb).foldl (fun a p => if p.order = 0 then a.finish p.n St.queueReset 0 else a.cutCmd p) s).settleAll

/-- A write of MB_CTL (R420, R449): ENABLE = 1 is ignored while MB_CQ_BASE is 0; ENABLE = 0 with commands outstanding, or RESET, starts
a queue reset. -/
def Device.mbCtlWrite (s : Device) (ld mb value : Nat) : Device :=
  let m := s.mbox ld mb
  let on := bit value 0
  let enabled := if on && m.cqBase == 0 then m.enabled else on
  let busy := m.waiting != 0 || !(s.mbCmds ld mb).isEmpty
  let s := s.setMb ld mb { m with ctl := value / 4 % 2 ^ 26 * 4, enabled }
  if !m.resetting && (bit value 1 || (!on && busy)) then s.startReset ld mb else s

/-- MB_ENABLE (R420): a write of MB_CTL. -/
def execMbEnable (ld mb : Nat) (value : BitVec 32) (s : State) : Out := onDevice s fun s =>
  atMb ld mb (if s.sled.stage = 0 then s.mbCtlWrite ld mb value.toNat else s)

/-- QUEUE_RESET (R449): a write of MB_CTL with RESET. -/
def execQueueReset (ld mb : Nat) (value : BitVec 32) (s : State) : Out := onDevice s fun s =>
  atMb ld mb (if s.sled.stage = 0 then s.mbCtlWrite ld mb (value.toNat ||| 2) else s)

/-- The effect of QUEUE_RESET_END. -/
def onQueueResetEnd (ld mb : Nat) (s : Device) : Device :=
  let m := s.mbox ld mb
  if m.resetting && m.waiting == 0 && (s.mbCmds ld mb).isEmpty then
    s.setMb ld mb { m with sqHead := 0, tail := 0, bells := [], fault := false, resetting := false }
  else s

/-- QUEUE_RESET_END (step 5 of R449). -/
def execQueueResetEnd (ld mb : Nat) (s : State) : Out := onDevice s fun s =>
  atMb ld mb (onQueueResetEnd ld mb s)

/-- A function-level reset of an LD (R451): as a queue reset of every mailbox, without completions; BAR0 takes its reset values. -/
def Device.flr (s : Device) (ld : Nat) : Device :=
  let mine := s.cmds.filter (fun p => p.ld = ld ∧ p.order ≠ 0)
  let s : Device := { s with cmds := (s.cmds.filter (fun p => p.ld ≠ ld || p.order != 0)).map (fun (p : Pending) =>
    if p.ld = ld then { p with silent := true } else p) }
  let s := mine.foldl (fun a p => match a.cmd p.n with
    | some q => a.cutCmd q
    | none => a) s
  let s : Device := { s with hif := { s.hif with mbs := s.hif.mbs.filter (fun e => e.1 / 64 ≠ ld) } }
  let s := s.setLd ld { s.ld ld with intCause := 0, intMask := 0, elogSel := 0 }
  ((s.clearMem 7 42 (slotAt ld 0 0) 0x100000).inc Reg.HIF_LD_QRESETS ld 1).settleAll

/-- FUNCTION_LEVEL_RESET (R451). -/
def execFunctionLevelReset (ld : Nat) (s : State) : Out :=
  onDevice s fun s => atUnit (ld < 16) (s.flr ld)

/-! ## Fetching -/

/-- One slot of the first doorbell is taken. -/
def takeBell : List Bell → List Bell
  | [] => []
  | b :: rest => if b.slots ≤ 1 then rest else { b with slots := b.slots - 1 } :: rest

/-- Whether the mailbox may fetch (R422, R423, R429): a slot pends, the ring has room, and it is enabled and without fault, or in a
queue reset, which takes its pending slots. -/
def Device.mayFetch (s : Device) (ld mb : Nat) : Bool :=
  let m := s.mbox ld mb
  s.hubRuns && s.linkUp && m.waiting != 0 && ((m.enabled && !m.fault) || m.resetting)
    && decide ((s.mbCmds ld mb).length + m.unread < 256)

/-- The next mailbox of an LD in turn after one of them that satisfies a test (R424). -/
def nextMb (last : Nat) (p : Nat → Bool) : Option Nat := ((List.range 64).map (fun k => (last + 1 + k) % 64)).find? p

/-- The effect of COMMAND_FETCH. -/
def onCommandFetch (ld mb : Nat) (s : Device) : Device :=
  let m := s.mbox ld mb
  match m.bells with
  | [] => s
  | b :: _ =>
    if nextMb (s.ld ld).fetchMb (s.mayFetch ld) ≠ some mb then s
    else
      let s := s.setLd ld { s.ld ld with fetchMb := mb }
      let a := slotAt ld mb m.sqHead
      let n := s.hif.next
      let p : Pending :=
        { n, ld, mb, slot := BitVec.ofNat 512 (leNat (s.readMem 7 42 a 64)), phase := .fetched, arrival := b.at_, full := b.full,
          mem := b.mem, held := none, waits := [], ran := false, order := 0, started := 0, status := 0, reason := 0, result := 0,
          resultHi := 0, cut := false, silent := false }
      let s : Device := { s with cmds := s.cmds ++ [p], hif := { s.hif with next := n + 1 } }
      let s := s.setMb ld mb { m with sqHead := (m.sqHead + 1) % 256, bells := takeBell m.bells }
      if m.resetting then s.finish n St.queueReset 0
      else if !(s.poisonIn 7 42 a 64).isEmpty then s.finish n St.invalidField 0
      else s

/-- COMMAND_FETCH (R422 to R424, R449, R468): the mailbox has its turn in its LD, the slot is copied and SQ_HEAD advances; in a queue reset the command ends with
QUEUE_RESET, and one with a poisoned slot word with INVALID_FIELD. -/
def execCommandFetch (ld mb : Nat) (s : State) : Out := onDevice s fun s =>
  atMb ld mb (onCommandFetch ld mb s)

/-! ## Admission -/

/-- The weight of an LD, and its reserve R_i (R444, R454). -/
def Device.weight (s : Device) (ld : Nat) : Nat := s.rdf Reg.HIF_LD_QOS ld 6 0
def Device.ldReserve (s : Device) (ld : Nat) : Nat :=
  if s.rdf Reg.HIF_LD_STATUS ld 0 0 = 0 then 0
  else s.rd Reg.HIF_ADMIT_MAX 0 * s.weight ld / max 1 ((s.boundLds.map s.weight).foldl (· + ·) 0)

/-- The commands that a lifecycle transition still admits (R571). -/
def Device.transitionBars (s : Device) (op : Nat) : Bool := s.sec.going.isSome && op != 0x00 && op != 0x10

/-- Whether a fetched command could take an admission (R417, R424, R425, R571): it is the first of its mailbox that has none, its
FENCE and the window writes before its doorbell hold it no longer. -/
def Device.admissible (s : Device) (p : Pending) : Bool :=
  p.phase == .fetched && !p.silent
    && !(s.cmds.any (fun q => q.ld == p.ld && q.mb == p.mb && decide (q.n < p.n) && (q.phase == .fetched || bit (fld p.slot 1 1) 0)))
    && !(s.hif.reqs.any (fun r => r.write && decide (r.n < p.mem)))
    && !s.transitionBars (fld p.slot 0 1)

/-- The fetched command of a mailbox that could take an admission. -/
def Device.mbReady (s : Device) (ld mb : Nat) : Option Pending := s.cmds.find? (fun p => p.ld == ld && p.mb == mb && s.admissible p)

/-- The LDs that wait for an admission and those of them that take the next one (R445): the ones below their reserve, if there are any. -/
def Device.waitingLds (s : Device) : List Nat :=
  let all := (List.range 16).filter (fun i => s.cmds.any (fun p => p.ld == i && s.admissible p))
  let low := all.filter (fun i => decide (s.rd Reg.HIF_LD_ADMITTED_NOW i < s.ldReserve i))
  if low.isEmpty then all else low

/-- The LD whose turn it is under deficit round robin (R445): the present one while its quantum lasts, else the next that waits. -/
def Device.turnLd (s : Device) : Option Nat :=
  let w := s.waitingLds
  if w.contains s.hif.turn && s.hif.left != 0 then some s.hif.turn
  else ((List.range 16).map (fun k => (s.hif.turn + 1 + k) % 16)).find? w.contains

/-- HIF_LD_RESERVE of every LD (R444, R455): recomputed at an admission, and when an LD is bound or unbound. -/
def Device.showReserves (s : Device) : Device := (List.range 16).foldl (fun a i => a.wr Reg.HIF_LD_RESERVE i (s.ldReserve i)) s

/-- A command is admitted (R427, R444, R445): it counts, and the time in which it waited for an admission carries reason 1. -/
def Device.enter (s : Device) (p : Pending) : Device :=
  let order := s.hif.orders + 1
  let wait := s.fullTime - p.full
  let (wsns, s) := s.reserveWsns p.slot
  let s : Device := { s with hif := { s.hif with orders := order } }
  let s := s.setCmd { s.noteAdmission p with wsns, phase := .admitted, order, waits := if wait = 0 then p.waits else p.waits ++ [(1, wait)] }
  let s := ((s.inc Reg.HIF_LD_QOS_WAIT_NS p.ld wait).countAdmission p.ld).showReserves
  let s := s.setLd p.ld { s.ld p.ld with admitMb := p.mb }
  let left := if s.hif.turn = p.ld ∧ s.hif.left ≠ 0 then s.hif.left - 1 else s.weight p.ld - 1
  let full := decide (s.rd Reg.HIF_ADMIT_MAX 0 ≤ s.rd Reg.HIF_ADMITTED 0)
  let scarce := full || (s.hif.scarce && !s.waitingLds.isEmpty)
  { s with hif := { s.hif with scarce, turn := if s.hif.scarce then p.ld else s.hif.turn, left := if s.hif.scarce then left else 0 } }

/-- The effect of COMMAND_ADMIT. -/
def onCommandAdmit (ld mb : Nat) (s : Device) : Device :=
  match s.mbReady ld mb with
  | none => s
  | some p =>
    if nextMb (s.ld ld).admitMb (fun m => (s.mbReady ld m).isSome) ≠ some mb || !s.hubRuns || !s.linkUp || decide (s.rd Reg.HIF_ADMIT_MAX 0 ≤ s.rd Reg.HIF_ADMITTED 0)
      || (s.hif.scarce && s.turnLd != some ld) then s
    else s.enter p

/-- COMMAND_ADMIT (R424, R444, R445): the mailboxes of an LD are served in turn; while admissions are scarce, only the LD whose turn it is takes one. -/
def execCommandAdmit (ld mb : Nat) (s : State) : Out := onDevice s fun s =>
  atMb ld mb (onCommandAdmit ld mb s)

/-- The effect of ADMIT_DEADLINE_EXPIRY. -/
def onAdmitDeadlineExpiry (n : Nat) (s : Device) : Device :=
  match s.cmd n with
  | none => s
  | some p =>
    let ms := if fld p.slot 4 2 = 0 then s.rdf Reg.HIF_LD_QOS p.ld 31 16 else fld p.slot 4 2
    let wait := s.fullTime - p.full
    if p.phase = .fetched ∧ !p.silent ∧ ms ≠ 0 ∧ ms * 1000000 ≤ wait then
      ((s.addWait n 1 wait).inc Reg.HIF_LD_QOS_WAIT_NS p.ld wait).finish n St.refusedQos 0
    else s

/-- ADMIT_DEADLINE_EXPIRY (R446): only the time in which every admission is in use counts. -/
def execAdmitDeadlineExpiry (n : Nat) (s : State) : Out := onDevice s fun s =>
  .next (onAdmitDeadlineExpiry n s)

/-! ## Execution -/

/-- The opcodes of R431. -/
def opcodes : List Nat :=
  [0x00, 0x01, 0x02, 0x03, 0x08, 0x09, 0x0A, 0x0B, 0x0C, 0x10, 0x11, 0x12, 0x13, 0x14, 0x18, 0x19] ++ rangeFrom 0x20 14
    ++ rangeFrom 0x30 8 ++ [0x40]

/-- The effect of COMMAND_EXECUTION_START. -/
def onCommandExecutionStart (n : Nat) (s : Device) : Device :=
  match s.cmd n with
  | none => s
  | some p =>
    if p.phase ≠ .admitted ∨ !s.hubRuns then s
    else match s.heldBy p with
      | some r => if p.held.any (fun h => h.1 == r) then s else (s.unhold n).hold n r
      | none =>
        let s := s.unhold n
        match s.cmd n with
        | none => s
        | some p =>
          let s := s.setCmd { p with phase := .started, started := s.now, ran := false }
          if opcodes.contains (fld p.slot 0 1) then s else s.finish n St.invalidField 0

/-- COMMAND_EXECUTION_START (R427, R431, R448): an admitted command starts once no hold keeps it; until then the hold that does is
noted. A reserved opcode completes with INVALID_FIELD. -/
def execCommandExecutionStart (n : Nat) (s : State) : Out := onDevice s fun s =>
  .next (onCommandExecutionStart n s)

/-! ## Completion -/

/-- A completion entry (R426). -/
def entryOf (s : Device) (p : Pending) (m : Mailbox) : List Byte :=
  natLe 2 (fld p.slot 2 2) ++ natLe 1 p.mb ++ natLe 1 (b2n m.phase) ++ natLe 2 p.status ++ natLe 1 p.reason ++ natLe 1 m.sqHead
    ++ natLe 4 p.result ++ natLe 4 p.resultHi ++ natLe 8 (p.started - p.arrival) ++ natLe 8 (s.now - p.started)

/-- The pending interrupt of a mailbox is signalled (R429). -/
def Device.signal (s : Device) (ld mb : Nat) : Device :=
  let m := s.mbox ld mb
  (s.setMb ld mb { m with intPending := 0 }).emit (.msix ld (bits m.ctl 8 2))

/-- A completion entry is written (R423, R426, R429): the ring moves on and an interrupt may be due. -/
def Device.writeEntry (s : Device) (p : Pending) : Device :=
  let m := s.mbox p.ld p.mb
  let s := s.hostPut p.ld (m.cqBase + m.cqTail * 32) (entryOf s p m)
  let tail := (m.cqTail + 1) % 256
  let wants := bit m.ctl 9 && !bit (fld p.slot 1 1) 1
  let pend := m.intPending + b2n wants
  let s := s.setMb p.ld p.mb { m with
    cqTail := tail, unread := m.unread + 1, phase := if tail = 0 then !m.phase else m.phase, intPending := pend,
    intSince := if m.intPending = 0 then s.now else m.intSince }
  let s := s.inc Reg.HIF_LD_COMMANDS p.ld 1
  let s := if p.status = St.okDelayed then s.inc Reg.HIF_LD_DELAYED p.ld 1 else s
  let s := if p.status = St.refusedQos then s.inc Reg.HIF_LD_REFUSED_QOS p.ld 1 else s
  if wants && decide (max 1 (bits m.ctl 17 10) ≤ pend) then s.signal p.ld p.mb else s

/-- A command leaves the device: its admission and its holds end, and whatever waits for them goes on (R199, R205, R444, R571). -/
def Device.leave (s : Device) (p : Pending) : Device :=
  let s := (s.endSliceHolds p.n).endLayerHolds p.n
  let s : Device := { s with cmds := s.cmds.filter (fun q => q.n ≠ p.n) }
  let s := if p.order = 0 then s else ((s.dec Reg.HIF_ADMITTED 0 1).dec Reg.HIF_LD_ADMITTED_NOW p.ld 1).showFull
  s.settleAll.settleTransition

/-- The LD whose turn a transfer of the device's own is (R447): among those with a completion entry to write, the present one while its
quantum lasts, else the next. -/
def Device.dmaLd (s : Device) : Option Nat :=
  let w := fun (i : Nat) => s.cmds.any (fun p => p.ld == i && p.phase == .ended && !p.silent && !(s.mbox i p.mb).fault)
  if w s.hif.dmaTurn && decide (32 ≤ s.hif.dmaLeft) then some s.hif.dmaTurn
  else ((List.range 16).map (fun k => (s.hif.dmaTurn + 1 + k) % 16)).find? w

/-- An LD takes its turn for a transfer (R447): a new turn brings a quantum of 4,096 bytes × w_i. -/
def Device.takeDma (s : Device) (ld n : Nat) : Device :=
  let left := if s.hif.dmaTurn = ld ∧ n ≤ s.hif.dmaLeft then s.hif.dmaLeft else 4096 * s.weight ld
  { s with hif := { s.hif with dmaTurn := ld, dmaLeft := left - n } }

/-- The effect of COMPLETION_WRITE. -/
def onCompletionWrite (n : Nat) (linkOk : Bool) (s : Device) : Device :=
  match s.cmd n with
  | none => s
  | some p =>
    if p.phase ≠ .ended ∨ !s.hubRuns then s
    else if p.silent || (s.mbox p.ld p.mb).fault then s.leave p
    else if !s.linkUp ∨ s.dmaLd ≠ some p.ld then s
    else
      let s := s.takeDma p.ld 32
      if linkOk then (s.writeEntry p).leave p
      else ((s.setMb p.ld p.mb { s.mbox p.ld p.mb with fault := true }).raise p.ld 6).leave p

/-- COMPLETION_WRITE (R423, R426, R429, R447, R451): the entry is written in its LD's turn, or discarded after a fault; a write that fails on the link sets
FAULT; after a function-level reset there is none. -/
def execCompletionWrite (n : Nat) (linkOk : Bool) (s : State) : Out := onDevice s fun s =>
  .next (onCompletionWrite n linkOk s)

/-- The effect of INTERRUPT_COALESCE_TIMEOUT. -/
def onInterruptCoalesceTimeout (ld mb : Nat) (linkOk : Bool) (s : Device) : Device :=
  let m := s.mbox ld mb
  if m.intPending = 0 ∨ bits m.ctl 27 18 = 0 ∨ s.now - m.intSince < 1000 * bits m.ctl 27 18 ∨ !s.linkUp ∨ !linkOk then s else s.signal ld mb

/-- INTERRUPT_COALESCE_TIMEOUT (R429): COAL_US has passed since the first pending entry. -/
def execInterruptCoalesceTimeout (ld mb : Nat) (linkOk : Bool) (s : State) : Out := onDevice s fun s =>
  atMb ld mb (onInterruptCoalesceTimeout ld mb linkOk s)

/-! ## Host DMA -/

/-- The HOST_DMA_ERROR record of a command (R602). -/
def Device.dmaErrorRecord (s : Device) (p : Pending) (hreg offset : Nat) : Device :=
  s.record 0x0D01 (natLe 1 p.ld ++ natLe 1 p.mb ++ natLe 2 hreg ++ natLe 8 offset ++ natLe 2 (fld p.slot 2 2) ++ natLe 1 (fld p.slot 0 1)
    ++ natLe 1 0) (some p.ld)

/-- A WRITE whose source transfer was rejected (R439): the units that were transferred before stand; the others, where no program has
taken them yet, are dropped. -/
def Device.dropWrite (s : Device) (p : Pending) (done : Nat) : Device :=
  let first := stOff p.slot / cwBytes
  let keep := match s.ns (fld p.slot 16 1) with
    | some x => (rangeFrom first (done / 4096)).map x.place
    | none => []
  s.setFtl (fun f => { f with
    waitCredit := f.waitCredit.filter (fun w => w.1 ≠ p.n),
    buf := (f.buf.filter (fun b => b.cmd != some p.n || b.loc.isSome || keep.contains (b.cw.band, b.cw.unit))).map (fun (b : BufCw) =>
      if b.cmd = some p.n then { b with cmd := none } else b) })

/-- The effect of HOST_DMA_REJECT. -/
def onHostDmaReject (n hreg offset done : Nat) (s : Device) : Device :=
  match s.cmd n with
  | none => s
  | some p =>
    if p.phase ≠ .started ∨ !p.ran ∨ cmdHreg p.slot ≠ some hreg then s
    else
      let s := s.dmaErrorRecord p hreg offset
      let op := fld p.slot 0 1
      (if op = 0x23 then match s.work.disps.find? (fun d => d.n = n) with
          | some d => s.cutDisp d.seq true
          | none => s
        else if op = 0x01 then
          let moved := ((s.media.ios.find? (fun r => r.n = n)).map (·.moved)).getD 0
          let s : Device := { s with media := { s.media with ios := s.media.ios.filter (fun r => r.n ≠ n) } }
          (s.dropReads (fun d => match d with | .cmd m _ => m == n | _ => false)).finish n St.invalidField moved
        else if op = 0x02 then ((s.unhold n).dropWrite p done).finish n St.invalidField done
        else
          let key := objKey p.ld (fld p.slot 16 2)
          let s : Device := { s with tier := { s.tier with loads := s.tier.loads.filter (fun l => sliceObj l.slice ≠ key) } }
          s.finish n St.invalidField done).settleAll

/-- HOST_DMA_REJECT (R234, R439, R602): the command that names the range starts no further work and ends with INVALID_FIELD; what it
finished stands. `done` is what its result counts; of a READ and a DISPATCH the device knows it. -/
def execHostDmaReject (n hreg offset done : Nat) (s : State) : Out := onDevice s fun s =>
  .next (onHostDmaReject n hreg offset done s)

/-! ## Logical devices -/

/-- Pages of a window are pinned, one after another, on the half-stacks of the in-service ordinals in turn (R415). -/
def Device.pinWindow (s : Device) (ords : List Nat) (n : Nat) : Option (List Nat × Device) :=
  (List.range n).foldl (fun (acc : Option (List Nat × Device)) i => match acc with
    | none => none
    | some (l, a) =>
      let o := ords.getD (i % max 1 ords.length) 0
      match Device.makeRoom 12288 a o 1 none none with
      | (some p, a) => some (l ++ [o * 12288 + p],
          ((a.clearMem 5 o (p * pageBytes) pageBytes).takePages o p 1 1 none).chargePinned o 1 none)
      | (none, _) => none) (some ([], s))

/-- An LD is bound with a window of 256 MiB units (R415): it is refused when pinning it would exceed a limit of R196. -/
def Device.bindLd (s : Device) (ld units : Nat) : Device :=
  if s.rdf Reg.HIF_LD_STATUS ld 0 0 = 1 ∨ s.sled.stage ≠ 0 then s else
  let ords := s.spars
  let n := units * 128; let k := ords.length
  let need := (List.range k).map (fun i => (ords.getD i 0, (n + k - 1 - i) / k))
  let s := s.wr Reg.HIF_LD_STATUS ld (1 + units % 512 * 2 ^ 2)
  let refused := (s.wrf Reg.HIF_LD_STATUS ld 11 11 1).showReserves
  if k = 0 ∨ s.pinExceeds need then (if n = 0 then s.showReserves else refused)
  else match s.pinWindow ords n with
    | some (l, t) => (t.setLd ld { t.ld ld with window := l }).showReserves
    | none => refused

/-- LD_BIND (R415). -/
def execLdBind (ld units : Nat) (s : State) : Out :=
  onDevice s fun s => atUnit (ld < 16 && units ≤ 256) (s.bindLd ld units)

/-- An LD is unbound (R415): a function-level reset, then its window's pages are free. -/
def Device.unbindLd (s : Device) (ld : Nat) : Device :=
  if s.rdf Reg.HIF_LD_STATUS ld 0 0 = 0 then s else
  let s := s.flr ld
  let s := (s.ld ld).window.foldl (fun a w =>
    if a.hsUp (w / 12288) then (a.freePages (w / 12288) (w % 12288)).creditPinned (w / 12288) 1 none else a) s
  ((s.setLd ld { s.ld ld with window := [] }).wr Reg.HIF_LD_STATUS ld 0).showReserves

/-- LD_UNBIND (R415). -/
def execLdUnbind (ld : Nat) (s : State) : Out :=
  onDevice s fun s => atUnit (ld < 16) (s.unbindLd ld)

/-- Another bound LD becomes the admin LD (R418). -/
def Device.setAdmin (s : Device) (ld : Nat) : Device :=
  if s.rdf Reg.HIF_LD_STATUS ld 0 0 = 0 then s else { s with hif := { s.hif with admin := ld } }

/-- ADMIN_LD_DESIGNATE (R418). -/
def execAdminLdDesignate (ld : Nat) (s : State) : Out :=
  onDevice s fun s => atUnit (ld < 16) (s.setAdmin ld)

/-! ## CXL.mem -/

/-- A CXL.mem request lies within one line of 64 bytes (R414). -/
def memReqOk (ld off n : Nat) : Bool := decide (ld < 16) && decide (1 ≤ n) && decide (off % 64 + n ≤ 64)

/-- A CXL.mem request reaches the device: the link is up, and it lies in the window that the LD's decoder claims (R414, R415). -/
def Device.memReaches (s : Device) (ld off n : Nat) : Bool := s.sled.stage == 0 && s.linkUp && decide (off + n ≤ s.windowBytes ld)

/-- A half-stack in self-refresh wakes for an access (R517). -/
def Device.wakeHs (s : Device) (o : Nat) : Device :=
  if s.ps = 3 ∧ !s.pwr.awake.contains o then s.setPwr (fun p => { p with awake := p.awake ++ [o] }) else s

/-- The packet of a request to the DRAM controller of a window byte (R44, R45, R416). -/
def Device.memPacket (s : Device) (typ ld off : Nat) : Packet :=
  let w := s.windowAt ld off
  let d := s.hsDie w.1
  { pktPlain typ 3 s.hubDie 0 d 11 (if d = sparDie w.1 then w.2 else w.2 + 0x600000000) with tag := s.hif.nextReq % 1024 }

/-- A request is under way. -/
def Device.noteReq (s : Device) (ld off n : Nat) (write : Bool) : Device :=
  { s with hif := { s.hif with reqs := s.hif.reqs ++ [⟨s.hif.nextReq, ld, off, n, write⟩], nextReq := s.hif.nextReq + 1 } }

/-- The effect of CXL_MEM_WRITE. -/
def onCxlMemWrite (ld off : Nat) (data : List Byte) (s : Device) : Device :=
  if !s.memReaches ld off data.length then s
  else
    let n := data.length; let flits := (n + 15) / 16
    let p := { s.memPacket 1 ld off with
      len := flits, lastBytes := n % 16, ackReq := true, body := data ++ List.replicate (flits * 16 - n) 0 }
    ((s.wakeHs (s.windowAt ld off).1).send p).noteReq ld off n true

/-- CXL_MEM_WRITE (R416): the write goes to the owning DRAM controller, and is answered once WRITE_ACK has returned. -/
def execCxlMemWrite (ld off : Nat) (data : List Byte) (s : State) : Out := onDevice s fun s =>
  atUnit (memReqOk ld off data.length) (onCxlMemWrite ld off data s)

/-- The effect of CXL_MEM_READ. -/
def onCxlMemRead (ld off count : Nat) (s : Device) : Device :=
  if !s.memReaches ld off count then s
  else
    let base := off / 16 * 16
    let p := { s.memPacket 2 ld base with len := (off + count - base + 15) / 16 }
    ((s.wakeHs (s.windowAt ld off).1).send p).noteReq ld off count false

/-- CXL_MEM_READ (R416). -/
def execCxlMemRead (ld off count : Nat) (s : State) : Out := onDevice s fun s =>
  atUnit (memReqOk ld off count) (onCxlMemRead ld off count s)

/-! ## The memory-device mailbox -/

/-- A command of the CXL memory-device mailbox (R414): the spec names it and leaves what it answers to the CXL specification, so its
return code and payload are free. -/
def Device.memDevice (s : Device) (ld : Nat) : Device :=
  let d := s.draw; let e := d.2.draw; let f := e.2.draw
  f.2.emit (.memDev ld (d.1 % 2 ^ 16) (natLe (e.1 % 2 ^ 16) f.1))

/-- The six commands of the memory-device mailbox (R414). -/
def execIdentifyMemoryDevice (ld : Nat) (s : State) : Out :=
  onDevice s fun s => atUnit (ld < 16) (s.memDevice ld)
def execGetSupportedLogs (ld : Nat) (s : State) : Out :=
  onDevice s fun s => atUnit (ld < 16) (s.memDevice ld)
def execGetLog (ld : Nat) (s : State) : Out :=
  onDevice s fun s => atUnit (ld < 16) (s.memDevice ld)
def execGetHealthInfo (ld : Nat) (s : State) : Out :=
  onDevice s fun s => atUnit (ld < 16) (s.memDevice ld)
def execGetEventRecords (ld : Nat) (s : State) : Out :=
  onDevice s fun s => atUnit (ld < 16) (s.memDevice ld)
def execClearEventRecords (ld : Nat) (s : State) : Out :=
  onDevice s fun s => atUnit (ld < 16) (s.memDevice ld)

/-! ## The link -/

/-- The effect of LINK_L0. -/
def onLinkL0 (rate lanes : Nat) (lopt : Bool) (s : Device) : Device :=
  if s.sled.stage ≠ 0 ∨ s.rdf Reg.SB_STATUS 0 0 0 = 1 ∨ s.fenced s.hubDie then s
  else s.wrf Reg.HIF_PORT_STATUS 0 6 0 (rate + lanes * 2 ^ 2 + b2n lopt * 2 ^ 6)

/-- LINK_L0 (R414, R456, R526): the link has trained; PERST_N holds it down (R594). -/
def execLinkL0 (rate lanes : Nat) (lopt : Bool) (s : State) : Out := onDevice s fun s =>
  atUnit (1 ≤ rate && rate ≤ 3 && (lanes == 4 || lanes == 8)) (onLinkL0 rate lanes lopt s)

end Sys2Proof.Machine
end

