-- ==== Sys2Proof/Machine/Supply.lean ====
section
/-! DEFINITION. The supplies, the quiesce, power-off and power-on, and the sled's pins (R472, R489 to R495, R510, R534, R584,
R593 to R596). -/

namespace Sys2Proof.Machine

/-! ## Quiesce (R371, R407, R494, R495) -/

/-- What the journal still held at the supply-loss notice is closed, in order; records made after the notice are not (R407). -/
def Device.closeJournals (s : Device) (n0 : Nat) : Device :=
  s.ordsUp.foldl (fun a o =>
    let old := nget [] a.ftl.journal o
    let due := old.filter (fun (r : JRec) => decide (r.n < n0) && decide (r.copies < 2))
    let a := a.setFtl (fun f => { f with journal := nset [] f.journal o ((old.filter (fun (r : JRec) => decide (r.n < n0))).map
      (fun (r : JRec) => { r with copies := 2 })) })
    due.foldl (fun b r => b.recDurable o r) a) s

/-- Steps 2 to 5 of R494: the compute plane is shed, the merge buffers of the DRAM are written out, programs in BUSY end, erases and
reads are abandoned, and the journal is closed. `clean`: the hold-up lasts for it. Whether a program passes is free (log entry 2). -/
def Device.quiesce (s : Device) (clean : Bool) : Device :=
  if s.sled.stage ≠ 0 then s else
  let n0 := s.ftl.nextRec
  let s := (s.losePlane none).wrf Reg.JOB_DEV_STATUS 0 0 0 0
  let s := (s.mem.merge.filter (fun m => m.mem = 5)).foldl (fun a m => a.writeOut m) s
  let s := s.ordsUp.foldl (fun a o => (a.wrf Reg.MEDIA_DIE_STATUS o 1 1 1).wrf Reg.FTL_DIE_STATUS o 2 2 1) s
  let s : Device := { s with media := { s.media with reads := [], ios := [] } }
  let s := ((List.range 1792).filter (fun nd => s.lunState nd == 3)).foldl (fun a nd =>
    let d := a.draw
    d.2.programCheck nd (d.1 % 2 == 0)) s
  let s := if clean then s.closeJournals n0 else s
  s.wrf Reg.FTL_DEV_STATUS 0 1 1 (b2n clean)

/-- The hold-up lasts for the journal-close (R492, R493, R542): 3 ms or more, or a bank that has not been measured. -/
def Device.holdupLasts (s : Device) : Bool := s.rd Reg.PWR_HOLDUP 0 == 0 || decide (3 ≤ s.rdf Reg.PWR_HOLDUP 0 31 16)

/-- A sled shutdown (R495): the planes are quiesced with the feeds present, and the blocks that shut down are tested (R543). -/
def Device.sledDown (s : Device) : Device := if s.sled.stage ≠ 0 then s else (s.quiesce true).testBlocks 0 sledBlocks

/-! ## Power-off -/

/-- The registers whose values outlast power: what the media and the fuses hold, the persistent configuration (R182, R413, R512, R533,
R551), and the pins. Every RWL register is one too (R556). -/
def lastingRegs : List Nat :=
  [Reg.PWR_CAP_W, Reg.PWR_DERATE_DEV, Reg.PWR_PS_IDLE_MS, Reg.PWR_THERM_CTL, Reg.PWR_CORE_DERATE, Reg.PWR_SUP_STATUS, Reg.SEC_FW_SVN,
    Reg.SEC_FW_VERSION, Reg.SEC_KEK_EPOCH, Reg.SEC_NS_KEYS, Reg.SEC_SERIAL, Reg.AVL_ST_CTL, Reg.AVL_DIE_FENCE_TIME, Reg.AVL_CORE_ST,
    Reg.FTL_WSN, Reg.FTL_RETIRED, Reg.FTL_HOST_BYTES, Reg.FTL_NAND_BYTES, Reg.FTL_BANDS, Reg.FTL_WEAR, Reg.FTL_JRNL_RETAINED,
    Reg.FTL_BLOCK_NS_BYTES, Reg.FTL_NS_BYTES, Reg.MEDIA_LUN_RETIRED, Reg.MEM_DIE_PPR_USED, Reg.MEM_CORE_REPAIR,
    Reg.MEM_SEC_SPARES_LEFT]

/-- The registers of which some bits outlast power, with those bits. -/
def lastingBits : List (Nat × Nat) :=
  [(Reg.SEC_STATUS, 0xFF27), (Reg.PWR_STATUS, 0x700), (Reg.SB_STATUS, 0x7), (Reg.FTL_DEV_STATUS, 0x7FE),
    (Reg.MEDIA_CH_STATUS, 0xFF0000), (Reg.MEDIA_DIE_STATUS, 0x1C), (Reg.AVL_CORE_ROT, 0x10000)]

/-- Two addresses name instances of one register. -/
def sameReg (a b : Nat) : Bool :=
  a / 2 ^ 24 == b / 2 ^ 24 && (match regAt a, regAt b with
    | some (t, r, _), some (u, q, _) => t.base == u.base && r.off == q.off
    | _, _ => false)

/-- What the register at an address reads after power-off; its reset value where none of it lasts. A die fenced for cause 2 or 3 is
admitted again (R533). -/
def lasting (addr v : Nat) : Nat :=
  match regAt addr with
  | none => regReset addr
  | some (_, r, _) =>
    if r.access == .rwl || lastingRegs.any (sameReg addr) then v
    else if sameReg addr Reg.AVL_DIE_STATUS then
      (if v % 4 = 1 then (if bits v 5 2 = 2 ∨ bits v 5 2 = 3 then 2 else 1) + bits v 5 2 * 2 ^ 2 else 0)
    else if sameReg addr Reg.MEDIA_LUN_STATUS then (if v % 16 = 7 then 7 else 0)
    else match lastingBits.find? (fun e => sameReg addr e.1) with
      | some e => (v &&& e.2) ||| (regReset addr &&& (2 ^ 64 - 1 - e.2))
      | none => regReset addr

/-- Whether a register is one that the active hub die answers from its record of a die that stays fenced (R24, R533). -/
def Device.keptAtFence (s : Device) (addr : Nat) : Bool :=
  match regAt addr with
  | none => false
  | some (t, r, k) =>
    let x := posOf addr t r k
    fencedReads.any (fun e => e.1 == x.reg) && (match instDie t x.i with
      | some d => s.fenced d && !(s.rdf Reg.AVL_DIE_STATUS d 5 2 == 2 || s.rdf Reg.AVL_DIE_STATUS d 5 2 == 3)
      | none => false)

/-- Power goes off (step 6 of R494): media, fuses, persistent configuration and pins stay, DRAM and everything else is lost (R534).
`stage`: 2 unpowered, 3 off until a power cycle. -/
def Device.powerOff (s : Device) (stage : Nat) : Device :=
  let t : Device :=
    { free := s.free
      out := s.out
      hif := { hostMem := s.hif.hostMem }
      nss := s.nss
      ftl := { s.ftl with credit := [], gcOn := [], pins := [], waitCredit := [] }
      media := { eclog := s.media.eclog, raw := s.media.raw, flags := s.media.flags, luns := s.media.luns, faulty := s.media.faulty }
      srch := { kept := s.srch.kept }
      mem := { repaired := s.mem.repaired, secMoved := s.mem.secMoved }
      pwr := { overlays := s.pwr.overlays }
      avl := { tests := s.avl.tests, banks := s.avl.banks, fused := s.avl.fused, silent := s.avl.silent }
      sec := { owner := s.sec.owner, staged := s.sec.staged }
      sled := { mated := s.sled.mated, stage, up := false, poweredNs := s.sled.poweredNs + s.now } }
  let t := s.regs.foldl (fun (a : Device) e =>
    { a with regs := nset (regReset e.1) a.regs e.1 (if s.keptAtFence e.1 then e.2 else lasting e.1 e.2) }) t
  let fences := (List.range 100).filter t.fenced
  let t := t.wr Reg.AVL_FENCE_LO 0 (((fences.filter (· < 64)).map (2 ^ ·)).foldl (· + ·) 0)
  let t := t.wr Reg.AVL_FENCE_HI 0 (((fences.filter (64 ≤ ·)).map (fun d => 2 ^ (d - 64))).foldl (· + ·) 0)
  t.keepRetired s

/-! ## Power-on -/

/-- The half-stacks of fenced SPAR dies go to their twins, or are lost (R534); the cores of those dies, and fenced cores, are out of
service. -/
def Device.startSpars (s : Device) : Device :=
  let s := (List.range 40).foldl (fun (a : Device) o =>
    if !a.fenced (sparDie o) then a
    else if a.fenced (twinOf (sparDie o)) then a.loseHalfStack o
    else ((a.wrf Reg.TIER_HS_STATUS o 14 8 (twinOf (sparDie o))).wrf Reg.TIER_HS_STATUS o 7 6 2).wrf
      Reg.AVL_DIE_STATUS (twinOf (sparDie o)) 6 6 1) s
  (List.range 400).foldl (fun (a : Device) c =>
    if a.fenced (coreDie c) || a.rdf Reg.AVL_CORE_ROT c 16 16 == 1 then a.wrf Reg.CORE_STATE c 2 0 0 else a) s

/-- The SHEAVE dies train their channels (step 1 of R408, R343); those of fenced dies are out of service. -/
def Device.startSheaves (s : Device) : Device :=
  (List.range 56).foldl (fun (a : Device) o =>
    if a.ordUp o then (rangeFrom (o * 4) 4).foldl (fun (b : Device) c =>
      let there := ((List.range 8).filter (fun t => !b.media.faulty.contains (c * 8 + t))).map (2 ^ ·)
      let b := (b.wrf Reg.MEDIA_CH_STATUS c 2 0 2).wrf Reg.MEDIA_CH_STATUS c 15 8 (there.foldl (· + ·) 0)
      { b with media := { b.media with trained := nset 0 b.media.trained c (b.chanTemp c) } }) a
    else
      let a := (rangeFrom (o * 4) 4).foldl (fun b c => b.wrf Reg.MEDIA_CH_STATUS c 2 0 4) (a.wrf Reg.FTL_DIE_STATUS o 1 0 2)
      (rangeFrom (o * 32) 32).foldl (fun b nd => b.wrf Reg.MEDIA_LUN_STATUS nd 3 0 7) a) s

/-- The LUNs whose identification or training fails are fenced (R343, R399). -/
def Device.startLuns (s : Device) : Device := (s.media.faulty.filter (fun nd => s.ordUp (nd / 32))).foldl (fun a nd => a.fenceLun nd) s

/-- The memories are filled (R472): the status of every die in service, and of the device; the time it took is free. -/
def Device.startFill (s : Device) : Device :=
  let s := (List.range 100).foldl (fun (a : Device) d =>
    if a.fenced d then a else a.wr Reg.MEM_DIE_STATUS d (1 + b2n (dieKind d = 1) * 2)) s.showFill
  let d := s.draw
  (d.2.wr Reg.MEM_DEV_STATUS 0 3).wr Reg.MEM_DEV_FILL_US 0 (d.1 % 62001)

/-- What a die's fused record should read: its kind and its grid position (R35). -/
def fusedRecord (d : Nat) : Nat := dieKind d * 128 + d

/-- Whether a die passes the start-up identity check (R35): it answers, with the record of its kind and position. -/
def Device.identityOk (s : Device) (d : Nat) : Bool := !s.avl.silent.contains d && nget (fusedRecord d) s.avl.fused d == fusedRecord d

/-- A die is fenced at start-up (R35, R533): cause 1 for its record, 2 for no answer. -/
def Device.startFence (s : Device) (d : Nat) : Device :=
  let cause := if s.avl.silent.contains d then 2 else 1
  let s := (s.wrf Reg.AVL_DIE_STATUS d 5 0 (1 + cause * 4)).wr Reg.AVL_DIE_FENCE_TIME d (s.clock (mastIndex s.hubDie)).value
  let s := if d < 64 then s.orr Reg.AVL_FENCE_LO 0 (2 ^ d) else s.orr Reg.AVL_FENCE_HI 0 (2 ^ (d - 64))
  s.avlRecord 0x1001 (0x100 + d) cause 0 0 0

/-- The start-up identity check (R13, R35): the hub die that passes compares every die's record, and fences those that disagree or do not
answer, before anything else starts. -/
def Device.startChecks (s : Device) : Device :=
  let out := fun (d : Nat) => s.fenced d || !s.identityOk d
  let bad := (List.range 100).filter (fun d => !s.fenced d && !s.identityOk d)
  bad.foldl (fun a d => a.startFence d) (s.wrf Reg.HIF_PORT_STATUS 0 7 7 (b2n (out 42 && !out 52)))

/-- The hub dies take their roles (R13, R454): die 42 is active unless it is fenced. Their roots of trust derive their keys and issue
their alias certificates (R554), unless the device is RETIRED. -/
def Device.startHubs (s : Device) : Device :=
  let v := b2n (s.fenced 42 && !s.fenced 52)
  let single := s.fenced 42 || s.fenced 52
  let s := (s.wrf Reg.HIF_PORT_STATUS 0 7 7 v).wr Reg.AVL_STATUS 0 (v + b2n (!single) * 2 + b2n single * 2 ^ 3)
  let s := if single then s else (s.setMirror 0 2).setMirror 1 2
  let s := if s.lifecycle = 4 then s
    else [42, 52].foldl (fun (a : Device) d => if a.fenced d then a else a.wr Reg.SEC_DIE_ROT d 3) s
  if (List.range 100).any s.fenced || (List.range 400).any (fun c => s.rdf Reg.AVL_CORE_ROT c 16 16 == 1) then s.degraded else s

/-- The device starts (R472, R534, R544, R593, R408, R577): a RETIRED one goes to PS3. Its blocks are tested where no record is accepted (R544). -/
def Device.startUp (s : Device) : Device :=
  let s : Device := { s with sled := { s.sled with stage := 0, up := true } }
  let s := (s.startChecks.startHubs).startSpars.startSheaves.startFill
  let s := s.recoverFtl.startLuns
  let s := if s.dataCapacity < 392000000000000 then s.wrf Reg.AVL_STATUS 0 8 8 1 else s
  let s := if s.rdf Reg.AVL_ROT_CTL 0 0 0 = 1 then s.startGroup 0 else s
  let s := s.startTests
  if s.lifecycle = 4 then s.beginPs 3 else s

/-- A start from power-on (R494, R593): the pin SHUTDOWN_REQ_N is taken as released. -/
def Device.coldStart (s : Device) : Device := ((s.powerOff 2).wrf Reg.SB_STATUS 0 1 1 0).startUp

/-! ## Feeds -/

/-- The sled has no power, or has not started yet. -/
def Device.dark (s : Device) : Bool := s.sled.stage == 2 || (s.sled.stage == 0 && !s.sled.up)

/-- Whether a feed is good (R490), and its voltage in 0.1 V; `b`: feed B. -/
def Device.feedGood (s : Device) (b : Bool) : Bool := s.rdf Reg.PWR_STATUS 0 (9 + b2n b) (9 + b2n b) == 1
def Device.feedVolts (s : Device) (b : Bool) : Nat := if b then s.rdf Reg.PWR_SUP_STATUS 0 19 10 else s.rdf Reg.PWR_SUP_STATUS 0 9 0

/-- What a feed measures, and whether it is good. -/
def Device.setFeed (s : Device) (b : Bool) (volts : Nat) (good : Bool) : Device :=
  let s := if b then s.wrf Reg.PWR_SUP_STATUS 0 19 10 volts else s.wrf Reg.PWR_SUP_STATUS 0 9 0 volts
  s.wrf Reg.PWR_STATUS 0 (9 + b2n b) (9 + b2n b) (b2n good)

/-- The feed that carries the load: true for feed B. -/
def Device.onB (s : Device) : Bool := s.rdf Reg.PWR_SUP_STATUS 0 20 20 == 1
def Device.setActive (s : Device) (b : Bool) : Device := (s.wrf Reg.PWR_SUP_STATUS 0 20 20 (b2n b)).wrf Reg.PWR_STATUS 0 8 8 (b2n b)

/-- The monitor switches to the other feed (R490, R491, R600). -/
def Device.switchFeed (s : Device) (b : Bool) : Device :=
  let old := s.feedVolts (!b); let new := s.feedVolts b
  ((((s.setActive b).inc Reg.PWR_SWITCHOVERS 0 1).alert 2).raiseAll 4).pwrRecord 0x0F01 0x300 old new

/-- Both feeds are lost (R494): the sequence runs to its end, power-off. A sled that a thermal shutdown has put off has its power
cycle now (R510). -/
def Device.supplyLoss (s : Device) (a b : Nat) : Device :=
  if s.dark then s
  else if s.sled.stage = 3 then { s with sled := { s.sled with stage := 2 } }
  else
  let s := (s.alert 2).pwrRecord 0x0F02 0x300 a b
  (s.quiesce s.holdupLasts).powerOff 2

/-- The effect of FEED_LOST. -/
def onFeedLost (b : Bool) (volts : Nat) (s : Device) : Device :=
  if 440 ≤ volts then s
  else
    let s := s.setFeed b volts false
    if s.dark then s
    else if s.feedGood (!b) then
      (if s.onB = b ∧ s.sled.stage < 2 then s.switchFeed (!b) else if s.onB = b then s.setActive (!b) else (s.alert 2).raiseAll 4)
    else if b then s.supplyLoss (s.feedVolts true) (s.feedVolts false) else s.supplyLoss (s.feedVolts false) (s.feedVolts true)

/-- FEED_LOST (R490, R494): below 44 V for 5 µs. -/
def execFeedLost (b : Bool) (volts : Nat) (s : State) : Out := onDevice s fun s =>
  .next (onFeedLost b volts s)

/-- The effect of FEED_GOOD. -/
def onFeedGood (b : Bool) (volts : Nat) (s : Device) : Device :=
  if volts < 480 ∨ 1024 ≤ volts then s
  else
    let s := s.setFeed b volts true
    if s.sled.mated && s.dark then (s.setActive b).coldStart else s

/-- FEED_GOOD (R490, R494, R584, R593): at or above 48 V for 100 ms; an unpowered sled that is mated starts on it. -/
def execFeedGood (b : Bool) (volts : Nat) (s : State) : Out := onDevice s fun s =>
  .next (onFeedGood b volts s)

/-- The effect of FEED_RETURN. -/
def onFeedReturn (s : Device) : Device :=
  if s.rdf Reg.PWR_SUP_CTL 0 0 0 = 1 ∧ s.onB ∧ s.feedGood false ∧ s.sled.stage < 2 ∧ !s.dark then s.switchFeed false else s

/-- FEED_RETURN (R491): feed A has been good for 1 s. -/
def execFeedReturn (s : State) : Out := onDevice s fun s =>
  .next (onFeedReturn s)

/-- The effect of HOLDUP_MEASURE. -/
def onHoldupMeasure (cap ms : Nat) (s : Device) : Device :=
  if 2 ≤ s.sled.stage then s
  else
    let was := s.rdf Reg.PWR_STATUS 0 11 11
    let s := s.wr Reg.PWR_HOLDUP 0 (min 65535 cap + min 65535 ms * 2 ^ 16)
    let s := (s.wrf Reg.PWR_STATUS 0 11 11 (b2n (ms < 40))).wrf Reg.AVL_STATUS 0 7 7 (b2n (ms < 8))
    if ms < 40 ∧ was = 0 then (s.raiseAll 4).pwrRecord 0x0F07 0x300 (min 65535 ms) (min 65535 cap) else s

/-- HOLDUP_MEASURE (R493, R542): the capacitance in 0.1 mF, and the predicted hold-up in ms. -/
def execHoldupMeasure (cap ms : Nat) (s : State) : Out := onDevice s fun s =>
  .next (onHoldupMeasure cap ms s)

/-! ## Pins -/

/-- The effect of SHUTDOWN_REQUEST. -/
def onShutdownRequest (s : Device) : Device :=
  if 2 ≤ s.sled.stage then s
  else
    let s := (s.wrf Reg.SB_STATUS 0 1 1 1).inc Reg.SB_SHUTDOWN_COUNT 0 1
    let s := s.sledDown
    { s with sled := { s.sled with stage := 1 } }

/-- SHUTDOWN_REQUEST (R495, R595): steps 2 to 5 of R494 with the feeds present; both planes stay quiesced. -/
def execShutdownRequest (s : State) : Out := onDevice s fun s =>
  .next (onShutdownRequest s)

/-- The effect of THERMAL_SHUTDOWN. -/
def onThermalShutdown (inst temp : Nat) (s : Device) : Device :=
  let die := inst - 0x200
  if 2 ≤ s.sled.stage ∨ (temp < 125 ∧ !(dieKind die = 0 ∧ 95 ≤ temp)) then s
  else s.thermalAlert.sledDown.powerOff 3

/-- THERMAL_SHUTDOWN (R510): R495, then power-off until a power cycle. -/
def execThermalShutdown (inst temp : Nat) (s : State) : Out := onDevice s fun s =>
  let die := inst - 0x200
  atUnit (0x200 ≤ inst && die < 100) (onThermalShutdown inst temp s)

/-- The effect of PERST_ASSERT. -/
def onPerstAssert (us : Nat) (s : Device) : Device :=
  if us < 100 ∨ 2 ≤ s.sled.stage then s
  else
    let s := s.wrf Reg.SB_STATUS 0 0 0 1
    if s.sled.stage = 1 then s.coldStart.inc Reg.SB_PERST_COUNT 0 1
    else (List.range 16).foldl (fun a ld => a.flr ld) ((s.inc Reg.SB_PERST_COUNT 0 1).wrf Reg.HIF_PORT_STATUS 0 6 0 0)

/-- PERST_ASSERT (R594): an assertion of 100 µs takes the link down and acts on every LD as a function-level reset; after a quiesce
the device starts as at power-on. -/
def execPerstAssert (us : Nat) (s : State) : Out := onDevice s fun s =>
  .next (onPerstAssert us s)

/-- The effect of PERST_RELEASE. -/
def onPerstRelease (s : Device) : Device :=
  if s.rdf Reg.SB_STATUS 0 0 0 = 0 ∨ 2 ≤ s.sled.stage then s
  else
    let s := s.wrf Reg.SB_STATUS 0 0 0 0
    if s.sled.stage = 1 then s.coldStart else s

/-- PERST_RELEASE (R594, R596): training may begin; where a quiesce has run meanwhile, the device starts as at power-on. -/
def execPerstRelease (s : State) : Out := onDevice s fun s =>
  .next (onPerstRelease s)

/-- The effect of PRSNT_MATE. -/
def onPrsntMate (s : Device) : Device :=
  let s : Device := { s with sled := { s.sled with mated := true } }
  if !s.dark then s
  else if s.feedGood false then (s.setActive false).coldStart
  else if s.feedGood true then (s.setActive true).coldStart
  else s

/-- PRSNT_MATE (R584): the sled may draw current. -/
def execPrsntMate (s : State) : Out := onDevice s fun s =>
  .next (onPrsntMate s)

/-- The effect of PRSNT_BREAK. -/
def onPrsntBreak (s : Device) : Device :=
  let s : Device := { s with sled := { s.sled with mated := false } }
  let s := (s.setFeed false 0 false).setFeed true 0 false
  s.supplyLoss 0 0

/-- PRSNT_BREAK (R584, R596): the loss of both feeds. -/
def execPrsntBreak (s : State) : Out := onDevice s fun s =>
  .next (onPrsntBreak s)

end Sys2Proof.Machine
end

