-- ==== Sys2Proof/Machine/Sec.lean ====
section
/-! DEFINITION. The signed operations, tamper events and attestation (chapter 17). -/

namespace Sys2Proof.Machine

/-! ## Signed operations (R566 to R574) -/

/-- Whether a path may ask for a signed operation: the privileged view (R566); of a RETIRED device no command writes a register
(R572). -/
def Device.secPath (s : Device) (p : Path) : Bool :=
  s.hubRuns && (match p with
    | .ryern ld => ld == s.hif.admin && s.lifecycle != 4
    | .bar _ => false
    | .fabric => true
    | .monitor => !s.fenced 47
    | .core _ => false)

/-- NONCE (R567, R568). -/
def execNonce (p : Path) (s : State) : Out :=
  onDevice s fun s => .next (if s.secPath p then s.secNonce.2 else s)

/-- The effect of UNLOCK. -/
def onUnlock (p : Path) (t : Token) (s : Device) : Device :=
  if s.secPath p then (s.secUnlock t.bytes (pathSource p)).2.settleAll else s

/-- UNLOCK (R567 to R569, R574). -/
def execUnlock (p : Path) (t : Token) (s : State) : Out := onDevice s fun s =>
  .next (onUnlock p t s)

/-- The effect of LOCK. -/
def onLock (p : Path) (level : Nat) (s : Device) : Device :=
  if s.secPath p then (s.secLock level (pathSource p)).2.settleAll else s

/-- LOCK (R567, R574). -/
def execLock (p : Path) (level : Nat) (s : State) : Out := onDevice s fun s =>
  .next (onLock p level s)

/-- The effect of LIFECYCLE. -/
def onLifecycle (p : Path) (t : Token) (s : Device) : Device :=
  if s.secPath p then (s.secLifecycle t.bytes (pathSource p) none).2.settleAll else s

/-- LIFECYCLE (R567 to R571). -/
def execLifecycle (p : Path) (t : Token) (s : State) : Out := onDevice s fun s =>
  .next (onLifecycle p t s)

/-- FW_STAGE (R560). -/
def execFwStage (p : Path) (image : List Byte) (s : State) : Out := onDevice s fun s =>
  .next (if s.secPath p then (s.secStage image (pathSource p)).2 else s)

/-- FW_ACTIVATE (R529, R560). -/
def execFwActivate (p : Path) (s : State) : Out :=
  onDevice s fun s => .next (if s.secPath p then (s.secActivate none).2 else s)

/-- SVN_COMMIT (R561). -/
def execSvnCommit (p : Path) (s : State) : Out :=
  onDevice s fun s => .next (if s.secPath p then (s.secCommit (pathSource p)).2 else s)

/-! ## What time ends -/

/-- Nanoseconds of a minute. -/
def minuteNs : Nat := 60000000000

/-- The effect of NONCE_EXPIRY. -/
def onNonceExpiry (s : Device) : Device :=
  match s.sec.nonceAt with
  | some t => if t + 10 * minuteNs ≤ s.now then s.dropNonce else s
  | none => s

/-- NONCE_EXPIRY (R568): ten minutes after it was issued. -/
def execNonceExpiry (s : State) : Out := onDevice s fun s =>
  .next (onNonceExpiry s)

/-- The effect of NONCE_REFUSAL_END. -/
def onNonceRefusalEnd (s : Device) : Device :=
  match s.sec.refuseFrom with
  | some t => if t + minuteNs ≤ s.now then s.setSec (fun x => { x with refuseFrom := none }) else s
  | none => s

/-- NONCE_REFUSAL_END (R569): 60 s after the eighth failure. -/
def execNonceRefusalEnd (s : State) : Out := onDevice s fun s =>
  .next (onNonceRefusalEnd s)

/-- The effect of DEBUG_EXPIRY. -/
def onDebugExpiry (s : Device) : Device :=
  match s.sec.debugEnd with
  | some t => if t ≤ s.now then (s.setDebug 0 0xFF 3 none).settleAll else s
  | none => s

/-- DEBUG_EXPIRY (R574): EXPIRY_MIN has passed, and the level is DBG0. -/
def execDebugExpiry (s : State) : Out := onDevice s fun s =>
  .next (onDebugExpiry s)

/-! ## Tamper (R578) -/

/-- The effect of TAMPER_EVENT. -/
def onTamperEvent (die kinds : Nat) (s : Device) : Device :=
  if s.fenced die || decide (2 ≤ s.sled.stage) then s
  else
    let s := (s.orr Reg.SEC_DIE_TAMPER die kinds).wipeScratch
    let s := (s.inc Reg.SEC_TAMPER_COUNT 0 1).secAlert
    let s := s.secRecord 0x1103 0 (s.rd Reg.SEC_DIE_TAMPER die % 16) 0xFF 3 0
    let recent := s.sec.tampers.filter (fun t => decide (s.now < t + dayNs)) ++ [s.now]
    let s := s.setSec (fun x => { x with tampers := recent })
    if recent.length < 3 then s
    else (((s.wrf Reg.SEC_STATUS 0 6 6 1).setSec (fun x => { x with slotsEmpty := true })).wr Reg.SEC_DIE_ROT 42 0).wr Reg.SEC_DIE_ROT 52 0

/-- TAMPER_EVENT (R578): `kinds` are SEC_DIE_TAMPER bits. Both hub dies wipe their secure scratch; a third event within 24 h locks the
keys out until the next power-on. -/
def execTamperEvent (die kinds : Nat) (s : State) : Out := onDevice s fun s =>
  atUnit ((die == 42 || die == 52) && 1 ≤ kinds && kinds < 16) (onTamperEvent die kinds s)

/-! ## Attestation (R554, R556, R557)

The codes of the SPDM messages and errors are those of DMTF DSP0274 (log entry 20). -/

/-- SPDM response codes and error codes. -/
def Spdm.version : Nat := 0x04
def Spdm.capabilities : Nat := 0x61
def Spdm.algorithms : Nat := 0x63
def Spdm.digests : Nat := 0x01
def Spdm.certificate : Nat := 0x02
def Spdm.challengeAuth : Nat := 0x03
def Spdm.measurements : Nat := 0x60
def Spdm.chunkResponse : Nat := 0x06
def Spdm.error : Nat := 0x7F
def Spdm.invalidRequest : Nat := 0x01
def Spdm.unspecified : Nat := 0x05
def Spdm.unsupported : Nat := 0x07

/-- An ERROR message. -/
def Device.spdmError (s : Device) (ld code : Nat) : Device := s.emit (.spdm ld Spdm.error (natLe 1 code))

/-- A request of the DOE mailbox of an LD (R556): the active hub die answers it; a RETIRED device answers GET_VERSION only (R572). -/
def atDoe (ld : Nat) (s : Device) (answer : Device) : Effect :=
  atUnit (ld < 16) (if !s.hubRuns then s else if s.lifecycle = 4 then s.spdmError ld Spdm.unsupported else answer)

/-- The firmware that a hub die runs, as its certificate chain names it (R554). -/
def Device.firmware (s : Device) : List Byte := natLe 4 (s.rd Reg.SEC_FW_VERSION 0)

/-- The certificate chain of slot 0: that of the die with the active role (R554, R556). -/
def Device.chain (s : Device) : List Byte := Config.certChain s.hubDie s.firmware

/-- The persistent configuration (R557): RWL values, fences, overlays and the cap. -/
def Device.configNumbers (s : Device) : List Nat :=
  (s.regs.filter (fun e => match regAt e.1 with
    | some (_, r, _) => r.access == .rwl
    | none => false)).flatMap (fun e => [e.1, e.2])
  ++ [s.rd Reg.AVL_FENCE_LO 0, s.rd Reg.AVL_FENCE_HI 0, s.rd Reg.PWR_CAP_W 0] ++ s.pwr.overlays.flatMap (fun e => [e.1, e.2])

/-- The value of a measurement index (R557). -/
def Device.measurement (s : Device) (i : Nat) : List Byte :=
  if i = 1 then Config.digest 1 [s.hubDie]
  else if i ≤ 5 then Config.digest i [s.rd Reg.SEC_FW_VERSION 0]
  else if i = 6 then Config.digest 6 s.configNumbers
  else if i = 7 then
    natLe 1 s.lifecycle ++ natLe 1 s.debug ++ natLe 1 (s.rd Reg.SEC_KEK_EPOCH 0) ++ natLe 1 (s.rdf Reg.SEC_FW_SVN 0 6 0) ++ natLe 4 0
  else if s.sec.owner.isEmpty then List.replicate 64 0 else Config.sha512 s.sec.owner

/-- The value type of a measurement index in the DMTF format: 0 ROM digest, 1 firmware digest, 3 configuration digest, 0x87 raw bit
stream. -/
def measurementType (i : Nat) : Nat := if i = 1 then 0 else if i ≤ 5 then 1 else if i = 7 then 0x87 else 3

/-- One measurement block: index, type and value. -/
def Device.measurementBlock (s : Device) (i : Nat) : List Byte :=
  let v := s.measurement i
  natLe 1 i ++ natLe 1 (measurementType i) ++ natLe 2 v.length ++ v

/-- The effect of GET_VERSION. -/
def onGetVersion (ld : Nat) (s : Device) : Device :=
  if !s.hubRuns then s else s.emit (.spdm ld Spdm.version (natLe 2 0x1300))

/-- GET_VERSION: SPDM 1.3. -/
def execGetVersion (ld : Nat) (s : State) : Out := onDevice s fun s =>
  atUnit (ld < 16) (onGetVersion ld s)

/-- GET_CAPABILITIES (R556): CTExponent 17, and CERT_CAP, CHAL_CAP, MEAS_CAP with signatures and CHUNK_CAP. -/
def execGetCapabilities (ld : Nat) (s : State) : Out := onDevice s fun s =>
  atDoe ld s (s.emit (.spdm ld Spdm.capabilities (natLe 1 17 ++ natLe 4 0x20016)))

/-- The effect of NEGOTIATE_ALGORITHMS. -/
def onNegotiateAlgorithms (ld baseAsym baseHash : Nat) (s : Device) : Device :=
  s.emit (.spdm ld Spdm.algorithms (natLe 4 (baseAsym &&& 0x100) ++ natLe 4 (baseHash &&& 0x4)))

/-- NEGOTIATE_ALGORITHMS (R556): ECDSA P-521 and SHA-512 where the request offers them. -/
def execNegotiateAlgorithms (ld baseAsym baseHash : Nat) (s : State) : Out := onDevice s fun s =>
  atDoe ld s (onNegotiateAlgorithms ld baseAsym baseHash s)

/-- GET_DIGESTS (R556): slot 0 alone is provisioned. -/
def execGetDigests (ld : Nat) (s : State) : Out := onDevice s fun s =>
  atDoe ld s (s.emit (.spdm ld Spdm.digests (natLe 1 1 ++ Config.sha512 s.chain)))

/-- The effect of GET_CERTIFICATE. -/
def onGetCertificate (ld slot offset length : Nat) (s : Device) : Device :=
  let all := s.chain
  if slot ≠ 0 ∨ all.length ≤ offset then s.spdmError ld Spdm.invalidRequest
  else
    let part := (all.drop offset).take length
    s.emit (.spdm ld Spdm.certificate (natLe 2 part.length ++ natLe 2 (all.length - offset - part.length) ++ part))

/-- GET_CERTIFICATE (R556): a part of the chain, its length and what remains. -/
def execGetCertificate (ld slot offset length : Nat) (s : State) : Out := onDevice s fun s =>
  atDoe ld s (onGetCertificate ld slot offset length s)

/-- The effect of CHALLENGE. -/
def onChallenge (ld slot : Nat) (nonce : BitVec 256) (s : Device) : Device :=
  if s.lockout then s.spdmError ld Spdm.unspecified
  else if slot ≠ 0 then s.spdmError ld Spdm.invalidRequest
  else
    let d := s.draw
    let body := Config.sha512 s.chain ++ natLe 32 d.1
    d.2.emit (.spdm ld Spdm.challengeAuth (body ++ Config.aliasSign s.hubDie (natLe 32 nonce.toNat ++ body)))

/-- CHALLENGE (R556, R578): the chain's digest and a nonce of the device's own, signed with the alias key. -/
def execChallenge (ld slot : Nat) (nonce : BitVec 256) (s : State) : Out := onDevice s fun s =>
  atDoe ld s (onChallenge ld slot nonce s)

/-- The effect of GET_MEASUREMENTS. -/
def onGetMeasurements (ld index : Nat) (signed : Bool) (nonce : BitVec 256) (s : Device) : Device :=
  if signed && s.lockout then s.spdmError ld Spdm.unspecified
  else if 8 < index ∧ index ≠ 0xFF then s.spdmError ld Spdm.invalidRequest
  else
    let blocks := if index = 0 then [] else if index = 0xFF then (rangeFrom 1 8).flatMap s.measurementBlock else s.measurementBlock index
    let d := s.draw
    let body := natLe 1 (if index = 0xFF then 8 else if index = 0 then 0 else 1) ++ natLe 1 (if index = 0 then 8 else 0) ++ blocks ++ natLe 32 d.1
    d.2.emit (.spdm ld Spdm.measurements (if signed then body ++ Config.aliasSign s.hubDie (natLe 32 nonce.toNat ++ body) else body))

/-- GET_MEASUREMENTS (R556, R557, R578): index 0 asks for their number, 0xFF for all. -/
def execGetMeasurements (ld index : Nat) (signed : Bool) (nonce : BitVec 256) (s : State) : Out := onDevice s fun s =>
  atDoe ld s (onGetMeasurements ld index signed nonce s)

/-- The effect of CHUNK_GET. -/
def onChunkGet (ld handle seq : Nat) (s : Device) : Device :=
  let d := s.draw
  let e := d.2.draw
  e.2.emit (.spdm ld Spdm.chunkResponse (natLe 1 handle ++ natLe 2 seq ++ natLe (d.1 % 2 ^ 16) e.1))

/-- CHUNK_GET (R556): a chunk of a large response; what a chunk holds is not stated, and is free. -/
def execChunkGet (ld handle seq : Nat) (s : State) : Out := onDevice s fun s =>
  atDoe ld s (onChunkGet ld handle seq s)

/-- The effect of SPDM_UNSUPPORTED_REQUEST. -/
def onSpdmUnsupportedRequest (ld code : Nat) (s : Device) : Device :=
  s.emit (.spdm ld Spdm.error (natLe 1 Spdm.unsupported ++ natLe 1 code))

/-- Any other request (R556). -/
def execSpdmUnsupportedRequest (ld code : Nat) (s : State) : Out := onDevice s fun s =>
  atDoe ld s (onSpdmUnsupportedRequest ld code s)

end Sys2Proof.Machine
end

