-- ==== Sys2Proof/Machine/Registers.lean ====
section
/-! DEFINITION. Access to the register space (R2 to R4, R24, R440, R566) and to BAR0 (R419): which view a path has, what registers
that are views of other state read, and what a write does beyond storing its value. -/

namespace Sys2Proof.Machine

/-! ## Where a register lies -/

/-- Whether the instance of a register is out of service, so that it is not implemented (R24, R218). -/
def Device.regGone (s : Device) (t : RegTable) (x : RegAt) (write : Bool) : Bool :=
  if t.block = 6 ∧ t.base = 0x200 then
    (if x.reg = Reg.TIER_HS_STATUS then write && (!s.hsUp x.i || s.fenced (sparDie x.i)) else !s.hsUp x.i)
  else match instDie t x.i with
    | some d => s.fenced d && (write || !fencedReads.any (fun e => e.1 == x.reg))
    | none => false

/-! ## Views (R566) -/

/-- Whether a path has the privileged view. -/
def Device.privileged (s : Device) : Path → Bool
  | .bar _ => false
  | .ryern ld => ld == s.hif.admin
  | .fabric => true
  | .monitor => decide (1 ≤ s.debug)
  | .core _ => false

/-- Whether a register lies in the core-local window of a core: its own QNT and ENG registers (R144). -/
def inWindow (c : Nat) (t : RegTable) (x : RegAt) : Bool := (t.block == 3 && x.i / 4 == c) || (t.block == 4 && x.i == c)

/-- Whether a core belongs to the partition of a job that an LD owns. -/
def Device.ownsCore (s : Device) (ld c : Nat) : Bool :=
  (List.range 64).any (fun j => s.jobState j != 0 && s.jobOwner j == ld && (match s.job j with
    | some x => x.cores.contains c
    | none => false))

/-- Whether the instance of a register lies in the unprivileged view of an LD, and whether the LD may write it there. -/
def Device.inView (s : Device) (ld : Nat) (r : RegRow) (x : RegAt) (write : Bool) : Bool :=
  let mayWrite := !write || r.access == .rw || r.access == .rw1c || r.access == .rws
  let ownsJob := fun (j : Nat) => s.jobState j != 0 && s.jobOwner j == ld
  match r.view with
  | .other => !write
  | .privileged => !write
  | .secret => false
  | .ld => x.i == ld && !write
  | .core => mayWrite && s.ownsCore ld x.i
  | .engine => mayWrite && s.ownsCore ld (x.i / 4)
  | .job => mayWrite && ownsJob x.i
  | .shard => mayWrite && (match nget none s.tkl.shards x.i with | some y => y.ld == ld | none => false)
  | .reduction => mayWrite && (match nget none s.tkl.reds x.i with | some y => ownsJob y.job | none => false)
  | .gather => mayWrite && (match nget none s.emb.handles x.i with | some y => y.ld == ld | none => false)
  | .search => mayWrite && (match nget none s.srch.handles x.i with | some y => y.ld == ld | none => false)

/-- The LD that a path speaks for: the admin LD for the paths that are no LD's. -/
def Device.pathLd (s : Device) : Path → Nat
  | .bar ld => ld
  | .ryern ld => ld
  | .fabric => s.hif.admin
  | .monitor => s.hif.admin
  | .core _ => s.hif.admin

/-- Whether a path reaches an instance of a register at all: by its view (R566), kernel code by its core's window (R144). -/
def Device.pathSees (s : Device) (p : Path) (t : RegTable) (r : RegRow) (x : RegAt) (write : Bool) : Bool :=
  match p with
  | .core c => inWindow c t x
  | p => s.privileged p || s.inView (s.pathLd p) r x write

/-- The status that an access ends with before it reaches its register (R3, R24, R430, R440, R566); none when it reaches it. -/
def Device.accessFails (s : Device) (p : Path) (addr : Nat) (wide write : Bool) : Option Nat :=
  match regAt addr with
  | none => some St.invalidField
  | some (t, r, k) =>
    let x := posOf addr t r k
    if s.regGone t x write || r.wide != wide then some St.invalidField
    else if !s.pathSees p t r x write then some St.securityDenied
    else if write && r.access == .rwl && decide (2 ≤ s.lifecycle) then some St.lifecycleLocked
    else none

/-! ## What is read -/

/-- Counters that time fills in a way the model does not follow: what they have grown by since they were last read is a free value, and
so is a die's measured power (log entry 152). -/
def freeReads : List Nat :=
  [Reg.CORE_CYCLES, Reg.CORE_CKPT_WAIT, Reg.CORE_XB_COLLIDE, Reg.CORE_BANK_LOSS, Reg.CORE_BANK_PROMOTE, Reg.ENG_GATED_CYCLES,
    Reg.ENG_WAIT_WEIGHT, Reg.ENG_WAIT_OTHER,
    Reg.MEDIA_ENG_SCANNED, Reg.MEDIA_ENG_OUT, Reg.PWR_DIE_W]

/-- The selection of STAY_SHARE_SEL, none where the share registers read 0 (R63, R74). -/
def Device.shareSel (s : Device) (die : Nat) : Option (Nat × Nat × Nat) :=
  let v := s.rd Reg.STAY_SHARE_SEL die
  let o := bits v 2 0; let vc := bits v 5 4; let i := bits v 10 8
  let there := fun (p : Nat) => p == 4 || (decide (p < 4) && (peerOf die p).isSome)
  if o = i ∨ !there o ∨ !there i then none else some (o, vc, i)

/-- Whether an LD sees a log record (R453, R573): at DBG1 or above the admin LD sees every one. -/
def Device.sees (s : Device) (ld : Nat) (r : LogRecord) : Bool :=
  (match r.viewer with
    | none => true
    | some v => v == ld) || (ld == s.hif.admin && decide (1 ≤ s.debug))

/-- The record of a block's test as AVL_ST_RECORD shows it (R551). -/
def Device.testRecord (s : Device) (die block : Nat) : Nat :=
  let r := nget 0 s.avl.tests (die * 64 + block)
  if r = 0 then 0
  else r % 16 + min 65535 (s.poweredHours - r / 2 ^ 36) * 2 ^ 4 + r / 2 ^ 20 % 2 ^ 16 * 2 ^ 20

/-- The frequency a core runs at (R502, R511, R513). -/
def Device.freqNow (s : Device) (c : Nat) : Nat :=
  if s.tripped || s.ps != 0 then 0
  else s.rdf Reg.PWR_CORE_FREQ c 10 0 / (if s.pwr.limiter then 2 else 1)

/-- AVL_CAPACITY (R540, R547, R550): service cores, in-service cores, pool GiB and data capacity in GB. -/
def Device.capacity (s : Device) : Nat :=
  let up := ((List.range 400).filter (fun c => !s.fenced (coreDie c) && s.rdf Reg.CORE_STATE c 2 0 != 0)).length
  let turning := ((List.range 400).filter s.rotating).length
  (up - turning) + up * 2 ^ 9 + s.rd Reg.TIER_POOL_BYTES 0 / 2 ^ 30 * 2 ^ 19 + s.dataCapacity / 1000000000 * 2 ^ 30

/-- FAULT_N is asserted (R590, R600): a cause that SB_FAULT_MASK enables is present. -/
def Device.faultPin (s : Device) : Bool :=
  let m := s.rd Reg.SB_FAULT_MASK 0
  (bit m 0 && (s.tripped || s.rdf Reg.PWR_STATUS 0 7 7 == 1))
    || (bit m 1 && s.rdf Reg.AVL_STATUS 0 3 3 == 1)
    || (bit m 2 && s.rdf Reg.AVL_STATUS 0 8 8 == 1)
    || (bit m 3 && s.rdf Reg.AVL_STATUS 0 7 7 == 1)
    || (bit m 4 && s.lockout)
    || (bit m 5 && (!s.feedGood false || !s.feedGood true))

/-- The erase-counter record that MEDIA_ECLOG_SEL selects (R369, R374). -/
def Device.eclogSel (s : Device) (ord : Nat) : Nat :=
  let v := s.rd Reg.MEDIA_ECLOG_SEL ord
  s.ecRec (nandDie ord (v % 32)) (bits v 18 5)

/-- The oldest evictable slice of a half-stack in ms (R201, R219). -/
def Device.oldestMs (s : Device) (o : Nat) : Nat :=
  match s.victim o none with
  | some (_, x) => s.ageMs x
  | none => 0

/-- Registers that show other state: what one reads, none for a register that holds its own value. -/
def Device.viewRead (s : Device) (x : RegAt) : Option Nat :=
  let i := x.i
  if x.reg = Reg.STAY_ROUTE_DATA then some (s.route i (s.rdf Reg.STAY_ROUTE_SEL i 6 0))
  else if x.reg = Reg.STAY_SHARE_GRANTED then some (match s.shareSel i with
    | some (o, vc, n) => nget 0 s.fab.granted (shareKey i o vc n)
    | none => 0)
  else if x.reg = Reg.STAY_SHARE_WEIGHT then some (match s.shareSel i with
    | some (o, vc, n) => nget 0 s.fab.hopLast (shareKey i o vc n) % 2 ^ 32 + nget 1 s.fab.weight (shareKey i o vc n) * 2 ^ 32
    | none => 0)
  else if x.reg = Reg.STAY_SHARE_OUT_FLITS then some (match s.shareSel i with
    | some (o, vc, _) => nget 0 s.fab.outFlits (shareKey i o vc 0)
    | none => 0)
  else if x.reg = Reg.STAY_SHARE_MAXWAIT then some (match s.shareSel i with
    | some (o, vc, n) => nget 0 s.fab.maxWait (shareKey i o vc n)
    | none => 0)
  else if x.reg = Reg.TIER_HS_OLDEST_AGE then some (s.oldestMs i)
  else if x.reg = Reg.TKL_AD_PTR then some (match nget none s.tkl.reds (s.rdf Reg.TKL_AD_SEL i 5 0) with
    | some r => nget 0 r.ptrs i
    | none => 0)
  else if x.reg = Reg.TKL_RED_ELAPSED_MS then some (match nget none s.tkl.reds i with
    | some r => (s.now - r.opened) / 1000000
    | none => 0)
  else if x.reg = Reg.JOB_BUSY_NS then some (s.rd x.reg i + s.openBusy i)
  else if x.reg = Reg.JOB_IDLE_NS then some (s.rd x.reg i + s.openIdle i)
  else if x.reg = Reg.JOB_BARRIER_WAIT_NS then some (s.rd x.reg i + s.openBarrier i)
  else if x.reg = Reg.JOB_SLOT_WAIT_NS then some (s.rd x.reg i + s.openSlotWait i)
  else if x.reg = Reg.JOB_CORES then some (match s.job i with
    | some j => setBits (s.rd x.reg i) 27 19 (j.cores.filter s.coreActive).length
    | none => s.rd x.reg i)
  else if x.reg = Reg.JOB_FREQ then some (match s.job i with
    | some j =>
      let fs := (j.cores.filter s.coreActive).map s.freqNow
      if fs.isEmpty then 0 else fs.foldl min 65535 + fs.foldl max 0 * 2 ^ 16
    | none => 0)
  else if x.reg = Reg.MEDIA_ECLOG_LO then some (s.eclogSel i % 2 ^ 64)
  else if x.reg = Reg.MEDIA_ECLOG_HI then some (s.eclogSel i / 2 ^ 64)
  else if x.reg = Reg.FTL_ROWLOG_ROWS then some (nget [] s.ftl.rowLog i).length
  else if x.reg = Reg.HIF_LD_STATUS then some (setBits (s.rd x.reg i) 1 1 (b2n (i == s.hif.admin)))
  else if x.reg = Reg.PWR_CORE_FMAX_AGED then some (s.fmaxAged i)
  else if x.reg = Reg.PWR_CORE_FREQ then some (setBits (s.rd x.reg i) 10 0 (s.freqNow i))
  else if x.reg = Reg.PWR_PS_RESIDENCY then
    some (s.rd (x.reg + 8 * x.k) 0 + (if s.ps = x.k then s.now - s.pwr.since else 0))
  else if x.reg = Reg.PWR_CAL_FACTORY then
    some (let n := s.rdf Reg.PWR_CAL_SEL i 4 0
      if hasSensor i n || hasRegulator i n then Config.calFactory i n % 2 ^ 32 else 0)
  else if x.reg = Reg.PWR_CAL_OVERLAY then some (s.overlay i (s.rdf Reg.PWR_CAL_SEL i 4 0))
  else if x.reg = Reg.AVL_CAPACITY then some s.capacity
  else if x.reg = Reg.AVL_ST_RECORD then some (s.testRecord i (s.rdf Reg.AVL_ST_SEL i 5 0))
  else if x.reg = Reg.AVL_CORE_ST then
    some (let v := s.rd x.reg i
      if v = 0 then 0 else setBits v 19 4 ((s.poweredHours + 2 ^ 16 - bits v 19 4) % 2 ^ 16))
  else if x.reg = Reg.SEC_DBG_EXPIRY then
    some (if s.debug = 0 then 0 else match s.sec.debugEnd with
      | none => 0xFFFF
      | some t => min 65534 (ceilDiv (t - s.now) minuteNs))
  else if x.reg = Reg.MEM_DIE_STATUS then
    some (setBits (s.rd x.reg i) 2 2 (b2n (dieKind i == 1 && s.rdf x.reg i 0 0 == 1 && !s.fenced i && s.rdf Reg.MEM_PATROL_CTL i 7 0 != 0)))
  else if x.reg = Reg.SB_STATUS then some (setBits (s.rd x.reg i) 18 18 (b2n s.faultPin))
  else none

/-- The value that a register reads, and the state after it (R4): WO registers read 0. -/
def Device.regValue (s : Device) (addr : Nat) (t : RegTable) (r : RegRow) (k : Nat) : Nat × Device :=
  let x := posOf addr t r k
  if r.access = .wo then (0, s)
  else match s.viewRead x with
    | some v => (min v (regMax addr), s)
    | none =>
      let v := nget (regReset addr) s.regs addr
      if freeReads.contains x.reg then
        if s.now ≤ max (nget 0 s.counted addr) (if t.compute then s.work.resetAt else 0) then (v, s)
        else
          let d := s.draw
          let n := min (regMax addr) ((if x.reg = Reg.PWR_DIE_W then 0 else v) + d.1)
          (n, { d.2 with regs := nset (regReset addr) s.regs addr n, counted := nset 0 s.counted addr s.now })
      else
        match instDie t x.i, fencedReads.find? (fun e => e.1 == x.reg) with
        | some d, some e => (if s.fenced d then setBits v e.2.1 0 e.2.2 else v, s)
        | _, _ => (v, s)

/-- A read by a path: its status, its value, and the state after it. -/
def Device.regReadBy (s : Device) (p : Path) (addr : Nat) (wide : Bool) : Nat × Nat × Device :=
  match s.accessFails p addr wide false, regAt addr with
  | none, some (t, r, k) =>
    let v := s.regValue addr t r k
    (St.ok, v.1, v.2)
  | some st, _ => (st, 0, s)
  | none, none => (St.invalidField, 0, s)

/-! ## What a write does -/

/-- Whether a value lies in the ranges of its fields (R411, R455, R519 and the other tables). -/
def checksOk (r : RegRow) (v : Nat) : Bool :=
  r.checks.all (fun c => let f := bits v c.hi c.lo; decide (c.min ≤ f) && decide (f ≤ c.max) && f % max 1 c.mult == 0)

/-- The addresses of an array of registers. -/
def regArr (r stride n : Nat) : List Nat := (List.range n).map (fun k => r + stride * k)

/-- What the bits of a counter-clearing register clear (R70, R149, R218, R220, R251, R287, R311, R337, R373, R374, R411, R454, R483, R484,
R519, R550, R580). -/
def clears (reg : Nat) : List (Nat × List Nat) :=
  if reg = Reg.STAY_CNT_CLR then
    (List.range 4).map (fun p => (p, [Reg.STAY_PORT_TX_FLITS, Reg.STAY_PORT_RX_FLITS, Reg.STAY_PORT_CORRECTED, Reg.STAY_PORT_REPLAYS,
      Reg.STAY_PORT_CREDIT_STALL, Reg.STAY_PORT_TRUNCATED].map (fun r => portReg r p))) ++ [(5, [Reg.STAY_DISCARD])]
  else if reg = Reg.QNT_CNT_CLR then
    (List.range 4).map (fun e => (e, (Reg.QNT_NAN + 4 * e) :: regArr (Reg.QNT_SAT + 32 * e) 4 8))
      ++ [(4, [Reg.QNT_VSAT, Reg.QNT_VNAN]), (5, [Reg.QNT_SR_DRAWS])]
  else if reg = Reg.TIER_CNT_CLR then [(0, [Reg.TIER_EVICTIONS, Reg.TIER_FLASH_BYTES, Reg.TIER_HOST_BYTES, Reg.TIER_REFUSED])]
  else if reg = Reg.TIER_JOB_CNT_CLR then
    [(0, [Reg.TIER_JOB_EVICT_OWN, Reg.TIER_JOB_EVICT_OTHER, Reg.TIER_JOB_REFETCH_BYTES, Reg.TIER_JOB_DEMAND_FETCH,
      Reg.TIER_JOB_DEMAND_HIT, Reg.TIER_JOB_SPACE_WAIT, Reg.TIER_JOB_WINDOW_STALL, Reg.TIER_JOB_REFUSED])]
  else if reg = Reg.JOB_CNT_CLR then
    [(0, [Reg.JOB_RECORDS, Reg.JOB_TASKS, Reg.JOB_REL_FULL, Reg.JOB_REL_FLUSH, Reg.JOB_REL_TIMER, Reg.JOB_REL_PRESSURE, Reg.JOB_STEALS,
      Reg.JOB_BUSY_NS, Reg.JOB_IDLE_NS, Reg.JOB_BARRIER_WAIT_NS, Reg.JOB_SLOT_WAIT_NS])]
  else if reg = Reg.TKL_JOB_CNT_CLR then
    [(0, [Reg.TKL_JOB_ELEMS, Reg.TKL_JOB_ADD_WAIT_NS, Reg.TKL_JOB_RESV_WAIT_NS, Reg.TKL_JOB_LATE_DISCARD, Reg.TKL_JOB_REFUSED_PKT])]
  else if reg = Reg.EMB_H_CNT_CLR then
    [(0, [Reg.EMB_H_COMMANDS, Reg.EMB_H_ENTRIES, Reg.EMB_H_ROWS_READ, Reg.EMB_H_CACHE_HITS, Reg.EMB_H_FLASH_READS,
      Reg.EMB_H_ROWS_UPDATED, Reg.EMB_H_PF_EVICT, Reg.EMB_H_PF_DROP, Reg.EMB_H_DUP_MAX, Reg.EMB_H_DUP_SAT])]
  else if reg = Reg.SRCH_H_CNT_CLR then
    [(0, [Reg.SRCH_H_QUERIES, Reg.SRCH_H_NODES_READ, Reg.SRCH_H_PF_WASTED, Reg.SRCH_H_RERANKED, Reg.SRCH_H_SHORT, Reg.SRCH_H_BM_HITS,
      Reg.SRCH_H_BM_BUILDS, Reg.SRCH_H_POSTFILTER, Reg.SRCH_H_UNREADABLE, Reg.SRCH_H_BM_BUILD_NS])]
  else if reg = Reg.MEDIA_CH_CNT_CLR then
    [(0, [Reg.MEDIA_CH_BUS_NS, Reg.MEDIA_CH_READS, Reg.MEDIA_CH_PROGRAMS, Reg.MEDIA_CH_ERASES, Reg.MEDIA_CH_RETRAINS]
      ++ regArr Reg.MEDIA_CH_DECODE 4 8 ++ regArr Reg.MEDIA_ARB_DISPATCH 8 5 ++ regArr Reg.MEDIA_ARB_PROMOTE 4 4
      ++ regArr Reg.MEDIA_ARB_MAXWAIT 4 4)]
  else if reg = Reg.MEDIA_DIE_CNT_CLR then
    [(0, [Reg.MEDIA_ENG_SCANNED, Reg.MEDIA_ENG_OUT, Reg.MEDIA_ENG_DIST, Reg.MEDIA_SUSPENDS, Reg.MEDIA_RECONS, Reg.MEDIA_NOT_ERASED,
      Reg.MEDIA_PROG_FAILS, Reg.MEDIA_ERASE_FAILS, Reg.MEDIA_PATROL_FLAGS])]
  else if reg = Reg.FTL_CNT_CLR then
    [(0, [Reg.FTL_HOST_CW, Reg.FTL_RELOC_CW, Reg.FTL_LOG_CW, Reg.FTL_PARITY_CW, Reg.FTL_THROTTLE_NS, Reg.FTL_GC_CAS_LOST,
      Reg.FTL_RETIRED, Reg.FTL_RELOCATIONS, Reg.FTL_REFRESHES])]
  else if reg = Reg.HIF_LD_CNT_CLR then
    [(0, [Reg.HIF_LD_COMMANDS, Reg.HIF_LD_QOS_WAIT_NS, Reg.HIF_LD_REFUSED_QOS, Reg.HIF_LD_DELAYED, Reg.HIF_LD_DMA_BYTES,
      Reg.HIF_LD_MEM_BYTES, Reg.HIF_LD_QRESETS])]
  else if reg = Reg.MEM_CORE_CNT_CLR then
    [(0, [Reg.MEM_CORE_CORRECTED, Reg.MEM_CORE_UNCORR, Reg.MEM_CORE_POISON_READ, Reg.MEM_CORE_POISON_PASS, Reg.MEM_CORE_MERGE_RMW,
      Reg.MEM_CORE_MERGE_POISON, Reg.MEM_CORE_LTEST_PASSES])]
  else if reg = Reg.MEM_DIE_CNT_CLR then
    [(0, [Reg.MEM_DIE_CORRECTED, Reg.MEM_DIE_UNCORR, Reg.MEM_DIE_POISON_READ, Reg.MEM_DIE_MERGE_RMW, Reg.MEM_DIE_MERGE_POISON])]
  else if reg = Reg.PWR_CNT_CLR then
    [(0, [Reg.PWR_SWITCHOVERS, Reg.PWR_HINTS_HOIST, Reg.PWR_HINTS_REEF, Reg.PWR_HINTS_LATE, Reg.PWR_HINTS_IGNORED,
      Reg.PWR_THERM_TRIPS])]
  else if reg = Reg.AVL_CNT_CLR then [(0, [Reg.AVL_ROT_CYCLES, Reg.AVL_FAILOVERS])]
  else if reg = Reg.SEC_CNT_CLR then [(0, [Reg.SEC_UNLOCK_FAILS])]
  else []

/-- The counters that a value written to a counter-clearing register names return to 0; bit 4 of STAY_CNT_CLR clears the share
counters (R63, R70). -/
def Device.clearCounters (s : Device) (x : RegAt) (v : Nat) : Device :=
  let s := (clears x.reg).foldl (fun a e =>
    if bit v e.1 then
      let a := (if x.reg = Reg.JOB_CNT_CLR then a.countOpen x.i else a).zero x.i e.2
      { a with counted := (e.2.filter freeReads.contains).foldl (fun (m : NMap Nat) r => nset 0 m (regAddr r x.i) s.now) a.counted }
    else a) s
  if x.reg = Reg.STAY_CNT_CLR ∧ bit v 4 then
    { s with fab := { s.fab with
      granted := s.fab.granted.filter (fun e => e.1 / 256 ≠ x.i), outFlits := s.fab.outFlits.filter (fun e => e.1 / 256 ≠ x.i),
      maxWait := s.fab.maxWait.filter (fun e => e.1 / 256 ≠ x.i) } }
  else s

/-- A write of MEM_CORE_RET (R480): none unless the core is idle or in retention. -/
def Device.retain (s : Device) (c v : Nat) : Option Device :=
  let st := s.rdf Reg.CORE_STATE c 2 0
  if st ≠ 1 ∧ st ≠ 6 then none
  else
    let s := s.wr Reg.MEM_CORE_RET c v
    if v = 0 then some (s.wrf Reg.CORE_STATE c 2 0 1)
    else some ((s.wrf Reg.CORE_STATE c 2 0 6).blankEngines c)

/-- A write of PWR_CAL_OVERLAY (R512, R520): none for an index that the die lacks or a trim outside its range. -/
def Device.setOverlay (s : Device) (die v : Nat) : Option Device :=
  let n := s.rdf Reg.PWR_CAL_SEL die 4 0
  let x := signed 7 v
  let ok := (hasSensor die n && decide (-16 ≤ x) && decide (x ≤ 16)) || (hasRegulator die n && decide (-10 ≤ x) && decide (x ≤ 10))
  if !ok then none
  else
    let s := s.setPwr (fun p => { p with overlays := nset 0 p.overlays (die * 32 + n) (v % 128) })
    some (if dieKind die = 1 then (rangeFrom (sparOrd die * 10) 10).foldl (fun a c => a.showHints c) s else s)

/-- A write of PWR_CAP_W in its range (R503). -/
def Device.setCap (s : Device) (v : Nat) : Device :=
  let old := s.rd Reg.PWR_CAP_W 0
  ((s.wr Reg.PWR_CAP_W 0 v).raiseAll 4).pwrRecord 0x0F05 0x300 v old

/-- A write of AVL_SWAP (R528): none while the standby cannot take the role, or an update runs. -/
def Device.swapRoles (s : Device) (v : Nat) : Option Device :=
  if !bit v 0 then some s
  else if s.rdf Reg.AVL_STATUS 0 1 1 = 0 ∨ s.rdf Reg.AVL_STATUS 0 4 4 = 1 then none
  else some (s.takeRole true).settleAll

/-- A write of AVL_ROT_CTL (R547): EN from 0 to 1 starts the rotation at group 0. -/
def Device.rotCtl (s : Device) (v : Nat) : Device :=
  let was := s.rdf Reg.AVL_ROT_CTL 0 0 0
  let s := s.wr Reg.AVL_ROT_CTL 0 v
  if was = 0 ∧ bit v 0 then (s.endGroup.startGroup 0).settleAll else s

/-- A write of AVL_ST_RUN (R543): the block that AVL_ST_SEL selects is tested. -/
def Device.runTest (s : Device) (die v : Nat) (pass : Bool) : Device :=
  if bit v 0 then s.selfTest die (s.rdf Reg.AVL_ST_SEL die 5 0) pass else s

/-- A write of MEDIA_RAW_GRANT (R359, R374). -/
def Device.rawGrant (s : Device) (ord v : Nat) : Nat × Device :=
  let r := if bit v 30 ∧ bit v 31 ∨ 3312 ≤ bits v 16 5 then (St.invalidField, s)
    else if bit v 31 then s.quadGrant ord v
    else if bit v 30 then s.quadRelease ord v
    else (St.ok, s)
  (r.1, if r.1 = St.ok then r.2.wr Reg.MEDIA_RAW_GRANT ord (v &&& 0xC001FFFF) else r.2)

/-- The value of a plain register after a write under its access type (R4). -/
def storedValue (r : RegRow) (old v : Nat) : Nat :=
  match r.access with
  | .rw1c => old &&& (2 ^ 64 - 1 - v % 2 ^ 64)
  | .rw => (old &&& (2 ^ 64 - 1 - r.mask)) ||| (v &&& r.mask)
  | .rws => (old &&& (2 ^ 64 - 1 - r.mask)) ||| (v &&& r.mask)
  | .rwl => (old &&& (2 ^ 64 - 1 - r.mask)) ||| (v &&& r.mask)
  | .ro => old
  | .wo => old

/-- A write that has passed its checks takes effect: its status, none while it lasts, and the state. `cmd` is the REG_WRITE that
carries it; `pass` what a self-test that it starts finds. -/
def Device.regEffect (s : Device) (p : Path) (cmd : Option Nat) (pass : Bool) (addr : Nat) (r : RegRow) (x : RegAt) (v : Nat) :
    Option Nat × Device :=
  let orInvalid := fun (o : Option Device) => match o with
    | some t => (some St.ok, t)
    | none => (some St.invalidField, s)
  let old := nget (regReset addr) s.regs addr
  let new := storedValue r old v
  let plain := ({ s with regs := nset (regReset addr) s.regs addr new } : Device)
  if x.reg = Reg.SEC_CMD then s.secOp v (s.pathLd p) (pathSource p) cmd
  else if x.reg = Reg.MEDIA_RAW_GRANT then
    let g := s.rawGrant x.i v
    (some g.1, g.2)
  else if x.reg = Reg.MEM_SCRUB_CTL_CORE then orInvalid (s.scrubCtl x.i v)
  else if x.reg = Reg.MEM_SCRUB_CTL_DIE then orInvalid (s.scrubCtl (0x200 + x.i) v)
  else if x.reg = Reg.MEM_CORE_RET then orInvalid (s.retain x.i v)
  else if x.reg = Reg.PWR_CAP_W then (some St.ok, s.setCap new)
  else if x.reg = Reg.PWR_CAL_OVERLAY then orInvalid (s.setOverlay x.i v)
  else if x.reg = Reg.PWR_DERATE_DEV then (some St.ok, plain.applyLimits)
  else if x.reg = Reg.PWR_CORE_DERATE then (some St.ok, plain.applyLimit x.i)
  else if x.reg = Reg.AVL_SWAP then orInvalid (s.swapRoles v)
  else if x.reg = Reg.AVL_ROT_CTL then (some St.ok, s.rotCtl new)
  else if x.reg = Reg.AVL_ST_RUN then (some St.ok, s.runTest x.i v pass)
  else if x.reg = Reg.TIER_PIN_LIMIT then
    (if v < s.rd Reg.TIER_PINNED 0 ∨ 11264 * pageBytes * ((List.range 40).filter s.hsUp).length < v then (some St.invalidField, s)
     else (some St.ok, plain))
  else if x.reg = Reg.FTL_GC_URGENT_CTL then (some St.ok, plain.showGroup x.i)
  else if r.access = .wo then (some St.ok, s.clearCounters x v)
  else (some St.ok, plain)

/-- A write by a path (R440): its status, none while the operation it starts lasts, and the state. -/
def Device.regWriteBy (s : Device) (p : Path) (cmd : Option Nat) (pass : Bool) (addr : Nat) (wide : Bool) (v : Nat) : Option Nat × Device :=
  match s.accessFails p addr wide true, regAt addr with
  | none, some (t, r, k) =>
    if r.access = .ro then (some St.ok, s)
    else if !checksOk r v then (some St.invalidField, s)
    else s.regEffect p cmd pass addr r (posOf addr t r k) v
  | some st, _ => (some st, s)
  | none, none => (some St.invalidField, s)

/-! ## BAR0 (R419 to R421, R453) -/

/-- A 32-bit field of a 64-bit register replaced, or all of it. -/
def barPart (old off : Nat) (wide : Bool) (v : Nat) : Nat :=
  if wide then v else if off % 8 = 0 then setBits old 31 0 v else setBits old 63 32 v

/-- A write of BAR0 (R419): doorbells, interrupt registers, the log index, completion rings, mailbox control and command slots. Every
other offset ignores writes. -/
def Device.barWrite (s : Device) (ld off : Nat) (wide : Bool) (v : Nat) : Device :=
  let l := s.ld ld
  if 0x100000 ≤ off ∧ off < 0x200000 then
    (if off % (if wide then 8 else 4) = 0 then s.writeMem 7 42 (slotAt ld 0 0 + (off - 0x100000)) (natLe (if wide then 8 else 4) v) []
     else s)
  else if 0x8000 ≤ off ∧ off < 0x8800 then
    let mb := (off - 0x8000) / 0x20; let o := (off - 0x8000) % 0x20
    let m := s.mbox ld mb
    if o = 0 ∨ (o = 4 ∧ !wide) then s.setMb ld mb { m with cqBase := barPart m.cqBase o wide v % 2 ^ 64 / 2 ^ 13 * 2 ^ 13 }
    else if o = 8 ∧ !wide then s.mbCtlWrite ld mb (v % 2 ^ 32)
    else s
  else if wide then s
  else if 0x1000 ≤ off ∧ off < 0x1200 then
    let mb := (off - 0x1000) / 8
    (if off % 8 = 0 then s.sqTail ld mb v else if off % 8 = 4 then s.cqHead ld mb v else s)
  else if off = 0x3000 then s.setLd ld { l with intCause := l.intCause &&& (0xFF - v % 2 ^ 8) }
  else if off = 0x3004 then s.setLd ld { l with intMask := v % 2 ^ 32 }
  else if off = 0x4008 then s.setLd ld { l with elogSel := v % 2 ^ 32 }
  else s

/-- The status word of a mailbox (R420). -/
def mbStatus (m : Mailbox) : Nat :=
  m.sqHead % 2 ^ 8 + m.cqTail % 2 ^ 8 * 2 ^ 8 + b2n m.phase * 2 ^ 16 + b2n m.enabled * 2 ^ 17 + b2n m.resetting * 2 ^ 18
    + b2n m.fault * 2 ^ 19

/-- What BAR0 reads at the offset of a 32-bit register or of four bytes of a slot (R419, R420, R453): offsets that are not listed read
0. -/
def Device.barRead (s : Device) (ld off : Nat) : Nat :=
  let l := s.ld ld
  let seen := (s.log.filter (s.sees ld)).map (·.index)
  if 0x100000 ≤ off ∧ off < 0x200000 then leNat (s.readMem 7 42 (slotAt ld 0 0 + (off - 0x100000)) 4)
  else if 0x8000 ≤ off ∧ off < 0x8800 then
    let m := s.mbox ld ((off - 0x8000) / 0x20); let o := (off - 0x8000) % 0x20
    if o = 0 then bits m.cqBase 31 0 else if o = 4 then bits m.cqBase 63 32 else if o = 8 then m.ctl else 0
  else if 0x2000 ≤ off ∧ off < 0x2100 then (if off % 4 = 0 then mbStatus (s.mbox ld ((off - 0x2000) / 4)) else 0)
  else if 0x4020 ≤ off ∧ off < 0x4040 then
    match s.log.find? (fun r => r.index = l.elogSel && s.sees ld r) with
    | some r => leNat ((r.bytes.drop (off - 0x4020)).take 4)
    | none => 0
  else if off = 0 then 0x0384 + ld * 2 ^ 16 + b2n (ld == s.hif.admin) * 2 ^ 20
  else if off = 4 then 0x00410840
  else if off = 8 then s.windowBytes ld / 2 ^ 28
  else if off = 0x3000 then l.intCause
  else if off = 0x3004 then l.intMask
  else if off = 0x4000 then seen.head?.getD 0
  else if off = 0x4004 then seen.getLast?.getD 0
  else if off = 0x4008 then l.elogSel
  else 0

end Sys2Proof.Machine
end

