-- ==== Sys2Proof/Machine/RegRows.lean ====
section
/-! DEFINITION. The rows that read and write registers: REG_READ and REG_WRITE (R440), the register writes of the other paths
(R4, R418, R419, R566), and REG packets (R42). -/

namespace Sys2Proof.Machine

/-! ## Ryern commands (R440) -/

/-- The register that a REG_READ or REG_WRITE names, and whether it asks for 64 bits. -/
def cmdReg (slot : BitVec 512) : Nat := fld slot 20 4
def cmdWide (slot : BitVec 512) : Bool := fld slot 16 1 % 2 == 1

/-- The value that a REG_WRITE carries: a 32-bit write uses bytes 24 to 27. -/
def cmdValue (slot : BitVec 512) : Nat := if cmdWide slot then fld slot 24 8 else fld slot 24 4

/-- The checks of REG_READ. -/
def checkRegRead (c : Cmd) (s : Device) (_n : Nat) : Option (Nat × Nat) :=
  if 2 ≤ fld c.slot 16 1 then some (St.invalidField, 0)
    else (s.accessFails (.ryern c.ld) (cmdReg c.slot) (cmdWide c.slot) false).map (fun st => (st, 0))

/-- The effect of REG_READ. -/
def runRegRead (c : Cmd) (s : Device) (n : Nat) : Device :=
  let r := s.regReadBy (.ryern c.ld) (cmdReg c.slot) (cmdWide c.slot)
  (r.2.2.finish n r.1 (r.2.1 % 2 ^ 32)).setResultHi n (r.2.1 / 2 ^ 32)

/-- REG_READ (R440). -/
def execRegRead (c : Cmd) (s : State) : Out := onDevice s fun s =>
  ryern s c 0x10 (bytesOf 17 19 ++ bytesOf 24 63) false (checkRegRead c) (runRegRead c)

/-- The checks of REG_WRITE. -/
def checkRegWrite (c : Cmd) (s : Device) (_n : Nat) : Option (Nat × Nat) :=
  if 2 ≤ fld c.slot 16 1 then some (St.invalidField, 0)
    else (s.accessFails (.ryern c.ld) (cmdReg c.slot) (cmdWide c.slot) true).map (fun st => (st, 0))

/-- The effect of REG_WRITE. -/
def runRegWrite (c : Cmd) (s : Device) (n : Nat) : Device :=
  let d := s.draw
  let r := d.2.regWriteBy (.ryern c.ld) (some n) (d.1 % 2 == 0) (cmdReg c.slot) (cmdWide c.slot) (cmdValue c.slot)
  (match r.1 with
    | some st => (r.2.finish n st 0)
    | none => r.2).settleFaults

/-- REG_WRITE (R440): the write takes effect before the completion is written; an operation of SEC_CMD that lasts ends the command
when it ends. What a self-test that a write starts finds is a free value. -/
def execRegWrite (c : Cmd) (s : State) : Out := onDevice s fun s =>
  ryern s c 0x11 (bytesOf 17 19 ++ bytesOf 32 63) false (checkRegWrite c) (runRegWrite c)

/-! ## Writes by any path -/

/-- Whether a path reaches the registers: BAR0 is no path to the register space (R419); a RETIRED device runs no REG_WRITE (R572); the
monitor needs DBG2 for RW and its die in service (R576, R24); kernel code needs a core that runs it, and no hub (R144). -/
def Device.regPath (s : Device) (p : Path) : Bool :=
  match p with
  | .core c => s.rdf Reg.CORE_STATE c 2 0 == 2 && !s.faulted c
  | p => s.hubRuns && (match p with
    | .bar _ => false
    | .ryern _ => s.lifecycle != 4
    | .fabric => true
    | .monitor => decide (2 ≤ s.debug) && !s.fenced 47
    | .core _ => false)

/-- A write of a register by a path: refused, it changes nothing; else its effect (R4, R440, R566). -/
def Device.writeBy (s : Device) (p : Path) (pass : Bool) (addr : Nat) (wide : Bool) (v : Nat) : Device :=
  if !s.regPath p then s
  else
    let r := s.regWriteBy p none pass addr wide v
    match r.1 with
    | some st => if st = St.ok then r.2.settleFaults else s
    | none => r.2.settleFaults

/-- A write of instance `i` of a 32-bit register by a path. -/
def Device.writeReg (s : Device) (p : Path) (reg i : Nat) (v : BitVec 32) : Device := s.writeBy p true (regAddr reg i) false v.toNat

/-- REGISTER_WRITE (R4): a write of a register by its address; on BAR0 the address is the offset of R419. What a self-test that a write
starts finds is a free value. -/
def execRegisterWrite (p : Path) (addr : Nat) (wide : Bool) (value : BitVec 64) (s : State) : Out := onDevice s fun s =>
  let v := if wide then value.toNat else value.toNat % 2 ^ 32
  match p with
  | .bar ld => atUnit (ld < 16) (if s.hubRuns then (s.barWrite ld addr wide v).settleFaults else s)
  | .ryern ld => atUnit (ld < 16) (s.draw.2.writeBy p (s.draw.1 % 2 == 0) addr wide v)
  | .fabric => .next (s.draw.2.writeBy p (s.draw.1 % 2 == 0) addr wide v)
  | .monitor => .next (s.draw.2.writeBy p (s.draw.1 % 2 == 0) addr wide v)
  | .core c => atUnit (c < 400) (s.draw.2.writeBy p (s.draw.1 % 2 == 0) addr wide v)

/-- A path names a logical device of the sixteen, or a core of the 400. -/
def pathOk : Path → Bool
  | .bar ld => ld < 16
  | .ryern ld => ld < 16
  | .fabric => true
  | .monitor => true
  | .core c => c < 400

/-! ## Registers whose writes start something -/

/-- QUAD_GRANT (R359): MEDIA_RAW_GRANT written with GRANT set (log entry 6). -/
def execQuadGrant (p : Path) (ord : Nat) (value : BitVec 32) (s : State) : Out := onDevice s fun s =>
  atUnit (pathOk p && ord < 56) (s.writeReg p Reg.MEDIA_RAW_GRANT ord (value ||| 0x80000000#32))

/-- QUAD_RELEASE (R359): MEDIA_RAW_GRANT written with RELEASE set. -/
def execQuadRelease (p : Path) (ord : Nat) (value : BitVec 32) (s : State) : Out := onDevice s fun s =>
  atUnit (pathOk p && ord < 56) (s.writeReg p Reg.MEDIA_RAW_GRANT ord (value ||| 0x40000000#32))

/-- A scrub instance: a core, or 0x200 and a die (R475). -/
def scrubUnit (inst : Nat) : Bool := inst < 400 || (0x200 ≤ inst && inst < 0x200 + 100)

/-- A write of MEM_SCRUB_CTL of a scrub instance. -/
def Device.scrubWrite (s : Device) (p : Path) (inst : Nat) (value : BitVec 32) : Device :=
  if inst < 400 then s.writeReg p Reg.MEM_SCRUB_CTL_CORE inst value else s.writeReg p Reg.MEM_SCRUB_CTL_DIE (inst - 0x200) value

/-- SCRUB_START (R475): MEM_SCRUB_CTL with START set. -/
def execScrubStart (p : Path) (inst : Nat) (value : BitVec 32) (s : State) : Out := onDevice s fun s =>
  atUnit (pathOk p && scrubUnit inst) (s.scrubWrite p inst (value ||| 1#32))

/-- SCRUB_ABORT (R476): MEM_SCRUB_CTL with ABORT set. -/
def execScrubAbort (p : Path) (inst : Nat) (value : BitVec 32) (s : State) : Out := onDevice s fun s =>
  atUnit (pathOk p && scrubUnit inst) (s.scrubWrite p inst (value ||| 2#32))

/-- MEM_CORE_RET (R480). -/
def execMemCoreRet (p : Path) (core : Nat) (value : BitVec 32) (s : State) : Out := onDevice s fun s =>
  atUnit (pathOk p && core < 400) (s.writeReg p Reg.MEM_CORE_RET core value)

/-- PWR_CAP_W (R503). -/
def execPwrCapW (p : Path) (value : BitVec 32) (s : State) : Out :=
  onDevice s fun s => atUnit (pathOk p) (s.writeReg p Reg.PWR_CAP_W 0 value)

/-- AVL_SWAP (R528). -/
def execAvlSwap (p : Path) (value : BitVec 32) (s : State) : Out :=
  onDevice s fun s => atUnit (pathOk p) (s.writeReg p Reg.AVL_SWAP 0 value)

/-- AVL_ST_RUN (R543): the block that AVL_ST_SEL selects is tested and `pass` is what the test finds. -/
def execAvlStRun (p : Path) (die : Nat) (value : BitVec 32) (pass : Bool) (s : State) : Out := onDevice s fun s =>
  atUnit (pathOk p && die < 100) (s.writeBy p pass (regAddr Reg.AVL_ST_RUN die) false value.toNat)

/-- ROTATION_RESTART (R547): AVL_ROT_CTL.EN changes to 1. -/
def execRotationRestart (p : Path) (value : BitVec 32) (s : State) : Out := onDevice s fun s =>
  atUnit (pathOk p) (s.writeReg p Reg.AVL_ROT_CTL 0 value)

/-- HIF_LD_QOS (R455): reserves follow at the next admission (R444). -/
def execHifLdQos (p : Path) (ld : Nat) (value : BitVec 32) (s : State) : Out := onDevice s fun s =>
  atUnit (pathOk p && ld < 16) (s.writeReg p Reg.HIF_LD_QOS ld value)

/-! ## Registers that clear counters -/

/-- STAY_CNT_CLR (R70). -/
def execStayCntClr (p : Path) (die : Nat) (value : BitVec 32) (s : State) : Out := onDevice s fun s =>
  atUnit (pathOk p && die < 100) (s.writeReg p Reg.STAY_CNT_CLR die value)

/-- QNT_CNT_CLR (R149). -/
def execQntCntClr (p : Path) (core : Nat) (value : BitVec 32) (s : State) : Out := onDevice s fun s =>
  atUnit (pathOk p && core < 400) (s.writeReg p Reg.QNT_CNT_CLR core value)

/-- TIER_CNT_CLR (R218). -/
def execTierCntClr (p : Path) (value : BitVec 32) (s : State) : Out :=
  onDevice s fun s => atUnit (pathOk p) (s.writeReg p Reg.TIER_CNT_CLR 0 value)

/-- TIER_JOB_CNT_CLR (R220). -/
def execTierJobCntClr (p : Path) (job : Nat) (value : BitVec 32) (s : State) : Out := onDevice s fun s =>
  atUnit (pathOk p && job < 64) (s.writeReg p Reg.TIER_JOB_CNT_CLR job value)

/-- JOB_CNT_CLR (R251). -/
def execJobCntClr (p : Path) (job : Nat) (value : BitVec 32) (s : State) : Out := onDevice s fun s =>
  atUnit (pathOk p && job < 64) (s.writeReg p Reg.JOB_CNT_CLR job value)

/-- TKL_JOB_CNT_CLR (R287). -/
def execTklJobCntClr (p : Path) (job : Nat) (value : BitVec 32) (s : State) : Out := onDevice s fun s =>
  atUnit (pathOk p && job < 64) (s.writeReg p Reg.TKL_JOB_CNT_CLR job value)

/-- EMB_H_CNT_CLR (R311). -/
def execEmbHCntClr (p : Path) (h : Nat) (value : BitVec 32) (s : State) : Out := onDevice s fun s =>
  atUnit (pathOk p && h < 256) (s.writeReg p Reg.EMB_H_CNT_CLR h value)

/-- SRCH_H_CNT_CLR (R337). -/
def execSrchHCntClr (p : Path) (h : Nat) (value : BitVec 32) (s : State) : Out := onDevice s fun s =>
  atUnit (pathOk p && h < 64) (s.writeReg p Reg.SRCH_H_CNT_CLR h value)

/-- MEDIA_CH_CNT_CLR (R373). -/
def execMediaChCntClr (p : Path) (ch : Nat) (value : BitVec 32) (s : State) : Out := onDevice s fun s =>
  atUnit (pathOk p && ch < 224) (s.writeReg p Reg.MEDIA_CH_CNT_CLR ch value)

/-- MEDIA_DIE_CNT_CLR (R374). -/
def execMediaDieCntClr (p : Path) (ord : Nat) (value : BitVec 32) (s : State) : Out := onDevice s fun s =>
  atUnit (pathOk p && ord < 56) (s.writeReg p Reg.MEDIA_DIE_CNT_CLR ord value)

/-- FTL_CNT_CLR (R411). -/
def execFtlCntClr (p : Path) (ord : Nat) (value : BitVec 32) (s : State) : Out := onDevice s fun s =>
  atUnit (pathOk p && ord < 56) (s.writeReg p Reg.FTL_CNT_CLR ord value)

/-- HIF_LD_CNT_CLR (R454). -/
def execHifLdCntClr (p : Path) (ld : Nat) (value : BitVec 32) (s : State) : Out := onDevice s fun s =>
  atUnit (pathOk p && ld < 16) (s.writeReg p Reg.HIF_LD_CNT_CLR ld value)

/-- MEM_CORE_CNT_CLR (R483). -/
def execMemCoreCntClr (p : Path) (core : Nat) (value : BitVec 32) (s : State) : Out := onDevice s fun s =>
  atUnit (pathOk p && core < 400) (s.writeReg p Reg.MEM_CORE_CNT_CLR core value)

/-- MEM_DIE_CNT_CLR (R484). -/
def execMemDieCntClr (p : Path) (die : Nat) (value : BitVec 32) (s : State) : Out := onDevice s fun s =>
  atUnit (pathOk p && die < 100) (s.writeReg p Reg.MEM_DIE_CNT_CLR die value)

/-- PWR_CNT_CLR (R519). -/
def execPwrCntClr (p : Path) (value : BitVec 32) (s : State) : Out :=
  onDevice s fun s => atUnit (pathOk p) (s.writeReg p Reg.PWR_CNT_CLR 0 value)

/-- AVL_CNT_CLR (R550). -/
def execAvlCntClr (p : Path) (value : BitVec 32) (s : State) : Out :=
  onDevice s fun s => atUnit (pathOk p) (s.writeReg p Reg.AVL_CNT_CLR 0 value)

/-- SEC_CNT_CLR (R580). -/
def execSecCntClr (p : Path) (value : BitVec 32) (s : State) : Out :=
  onDevice s fun s => atUnit (pathOk p) (s.writeReg p Reg.SEC_CNT_CLR 0 value)

/-! ## REG packets (R42, R69) -/

/-- Whether an address names a register of a die. -/
def onDie (die addr : Nat) : Bool :=
  match regAt addr with
  | none => false
  | some (t, r, k) => instDie t (posOf addr t r k).i == some die

/-- The effect of REG. -/
def onReg (p : Packet) (s : Device) : Device :=
  let a := Config.regAddr p.addr p.body
  let answer := fun (t : Device) (rsp v : Nat) => t.send { pktReply p 9 rsp with vc := 2, len := 1, body := Config.replyBody v }
  if Config.regKind p.addr p.body = 0 then
    (if !onDie p.dstDie a then answer s 3 0
     else
      let r := s.regReadBy .fabric a (Config.regWide p.addr p.body)
      answer r.2.2 (if r.1 = St.ok then 0 else 3) r.2.1)
  else if Config.regKind p.addr p.body = 1 then
    (if !onDie p.dstDie a then answer s 3 0
     else
      let r := s.regWriteBy .fabric none (s.draw.1 % 2 == 0) a (Config.regWide p.addr p.body)
        (if Config.regWide p.addr p.body then Config.regValue p.addr p.body % 2 ^ 64 else Config.regValue p.addr p.body % 2 ^ 32)
      match r.1 with
      | some st => if st = St.ok then answer r.2 0 0 else answer s 3 0
      | none => answer r.2 0 0)
  else s

/-- REG: the unit that holds the register reads or writes it and answers; an access outside its die's registers is refused with RSP 3
and a reply ends at its requester. What the body asks and what a reply holds are open (log entry 2). -/
def execReg (p : Packet) (s : State) : Out := onDevice s fun s =>
  packetRow 9 p s onReg

end Sys2Proof.Machine
end

