-- ==== Sys2Proof/WellFormed.lean ====
section
/-! DEFINITION. The well-formed commands: those whose operands name units that exist (R2, R22, R23) and whose bits belong to their row
(R42, R99, R431). A command that is not well formed is no command of the device. -/

namespace Sys2Proof

open Machine

/-- A Ryern command of a row with this opcode (R431), from a logical device and a mailbox that exist (R419). -/
def Cmd.of (op : Nat) (c : Cmd) : Bool := fld c.slot 0 1 == op && decide (c.ld < 16) && decide (c.mb < 64)

/-- A raw-media command of one operation (R359); the row of an operation also takes the reserved codes. -/
def Cmd.rawOf (op : Nat) (c : Cmd) : Bool :=
  Cmd.of 0x40 c && (fld c.slot 16 1 == op || fld c.slot 16 1 == 0 || decide (4 ≤ fld c.slot 16 1))

/-- A unit instruction of a unit and operation (R99), at a core that exists. -/
def unitOf (unit op core : Nat) (i : Word128) : Bool :=
  decide (core < 400) && ifld i 127 124 == unit && (if unit == 2 then ifld i 123 118 else ifld i 123 120) == op

/-- A packet of a type between dies that exist, with a job that exists (R42). -/
def Packet.of (typ : Nat) (p : Packet) : Bool :=
  p.typ == typ && decide (p.dstDie < 100) && decide (p.srcDie < 100) && decide (p.job < 64)

/-- A verdict packet of a kind (R172) from an engine that exists. -/
def Packet.verdict (kind : Nat) (p : Packet) : Bool := Packet.of 7 p && p.addr == kind && decide (p.specEng < 1600)

/-- A mailbox that exists. -/
def mbOk (ld mb : Nat) : Bool := decide (ld < 16) && decide (mb < 64)

/-- A NAND operation that a dispatcher can issue (R365, R366). -/
def NandOp.ok : NandOp → Bool
  | .read cls => decide (1 ≤ cls) && decide (cls ≤ 5)
  | .program cls quad wl _ => (cls == 2 || cls == 3) && decide (quad < 3312) && decide (wl < 384)
  | .erase quad _ => decide (quad < 3312)

/-- A command is well formed. -/
def Instr.wf : Instr → Bool
  -- Ryern commands
  | .nop c => Cmd.of 0x00 c
  | .read c => Cmd.of 0x01 c
  | .write c => Cmd.of 0x02 c
  | .discard c => Cmd.of 0x03 c
  | .secureDiscard c => Cmd.of 0x03 c
  | .nsCreate c => Cmd.of 0x08 c
  | .nsDelete c => Cmd.of 0x09 c
  | .nsFormat c => Cmd.of 0x0A c
  | .nsAccess c => Cmd.of 0x0B c
  | .nsInfo c => Cmd.of 0x0C c
  | .regRead c => Cmd.of 0x10 c
  | .regWrite c => Cmd.of 0x11 c
  | .registerWrite p _ _ _ => pathOk p
  | .timeAnchor c => Cmd.of 0x12 c
  | .timeAnchorMgmt die _ => die == 42 || die == 52 || die == 47 || die == 57
  | .hostRegister c => Cmd.of 0x13 c
  | .hostDeregister c => Cmd.of 0x14 c
  | .powerHint c => Cmd.of 0x18 c
  | .powerState c => Cmd.of 0x19 c
  | .jobOpen c => Cmd.of 0x20 c
  | .jobClose c => Cmd.of 0x21 c
  | .routeWrite c => Cmd.of 0x22 c
  | .dispatch c => Cmd.of 0x23 c
  | .shardOpen c => Cmd.of 0x24 c
  | .shardClose c => Cmd.of 0x25 c
  | .reduceOpen c => Cmd.of 0x26 c
  | .rankDone c => Cmd.of 0x27 c
  | .reduceCommit c => Cmd.of 0x28 c
  | .checkpoint c => Cmd.of 0x29 c
  | .embOpen c => Cmd.of 0x2A c
  | .embClose c => Cmd.of 0x2B c
  | .gather c => Cmd.of 0x2C c
  | .gatherPrefetch c => Cmd.of 0x2C c && bit (fld c.slot 18 1) 0
  | .embUpdate c => Cmd.of 0x2D c
  | .place c => Cmd.of 0x30 c
  | .unplace c => Cmd.of 0x31 c
  | .srchOpen c => Cmd.of 0x32 c
  | .srchClose c => Cmd.of 0x33 c
  | .search c => Cmd.of 0x34 c
  | .vecInsert c => Cmd.of 0x35 c
  | .vecDelete c => Cmd.of 0x36 c
  | .indexFold c => Cmd.of 0x37 c
  | .mediaRawRead c _ => Cmd.rawOf 1 c
  | .mediaRawProgram c _ => Cmd.rawOf 2 c
  | .mediaRawErase c _ => Cmd.rawOf 3 c
  | .quadGrant p ord v => v.getLsbD 31 && pathOk p && decide (ord < 56)
  | .quadRelease p ord v => v.getLsbD 30 && pathOk p && decide (ord < 56)
  -- mailboxes and the command pipeline
  | .mbSqTail ld mb _ => mbOk ld mb
  | .mbCqHead ld mb _ => mbOk ld mb
  | .mbEnable ld mb _ => mbOk ld mb
  | .queueReset ld mb _ => mbOk ld mb
  | .queueResetEnd ld mb => mbOk ld mb
  | .functionLevelReset ld => decide (ld < 16)
  | .commandFetch ld mb => mbOk ld mb
  | .commandAdmit ld mb => mbOk ld mb
  | .commandExecutionStart _ => true
  | .admitDeadlineExpiry _ => true
  | .completionWrite _ _ => true
  | .interruptCoalesceTimeout ld mb _ => mbOk ld mb
  | .hostDmaReject _ _ _ _ => true
  | .ldBind ld units => decide (ld < 16) && decide (units ≤ 256)
  | .ldUnbind ld => decide (ld < 16)
  | .adminLdDesignate ld => decide (ld < 16)
  | .cxlMemWrite ld off data => memReqOk ld off data.length
  | .cxlMemRead ld off n => memReqOk ld off n
  | .identifyMemoryDevice ld => decide (ld < 16)
  | .getSupportedLogs ld => decide (ld < 16)
  | .getLog ld => decide (ld < 16)
  | .getHealthInfo ld => decide (ld < 16)
  | .getEventRecords ld => decide (ld < 16)
  | .clearEventRecords ld => decide (ld < 16)
  -- SPDM on the DOE mailbox
  | .getVersion ld => decide (ld < 16)
  | .getCapabilities ld => decide (ld < 16)
  | .negotiateAlgorithms ld _ _ => decide (ld < 16)
  | .getDigests ld => decide (ld < 16)
  | .getCertificate ld _ _ _ => decide (ld < 16)
  | .challenge ld _ _ => decide (ld < 16)
  | .getMeasurements ld _ _ _ => decide (ld < 16)
  | .chunkGet ld _ _ => decide (ld < 16)
  | .spdmUnsupportedRequest ld _ => decide (ld < 16)
  -- management transport
  | .mctpControlMessage _ => true
  | .fmApiMessage _ => true
  | .mctpUnsupportedType typ => typ != 0 && typ != 7
  -- stay fabric
  | .flitReceive die port _ _ _ => portOk die port || mirrorOk die port
  | .linkNak die port _ => portOk die port || mirrorOk die port
  | .linkRetrain die port => portOk die port || mirrorOk die port
  | .handshakeTimeout die port => portOk die port || mirrorOk die port
  | .failNotice die port => portOk die port
  | .routeTableWrite die es => decide (die < 100) && es.all (fun e => decide (e.1 < 100) && decide (e.2 < 2 ^ 32))
  | .truncNotice t => decide (t.srcDie < 100) && decide (t.dstDie < 100) && decide (t.specEng < 2048)
  | .fenceNotice die fenced => decide (die < 100) && decide (fenced < 100)
  | .hopEpochEnd die out vc => decide (die < 100) && decide (out < 5) && decide (vc < 4)
  | .writePacket p => Packet.of 1 p
  | .readReq p _ => Packet.of 2 p
  | .readResp p => Packet.of 3 p
  | .writeAck p => Packet.of 4 p
  | .media p => Packet.of 5 p
  | .reg p => Packet.of 9 p
  | .clean p => Packet.verdict 1 p || (Packet.of 7 p && (p.addr == 0 || decide (4 < p.addr)))
  | .reopen p => Packet.verdict 2 p
  | .reopenAck p => Packet.verdict 3 p
  | .releaseAck p => Packet.verdict 4 p
  | .squashFrom p => Packet.of 8 p && (p.addr != 1 || decide (p.specEng < 1600))
  -- cores: unit instructions
  | .unitInstructionPlace core _ => decide (core < 400)
  | .wload core i => unitOf 1 1 core i
  | .mac core i => unitOf 1 2 core i
  | .drain core i => unitOf 1 3 core i
  | .add core i _ => unitOf 2 0x01 core i
  | .sub core i _ => unitOf 2 0x02 core i
  | .mul core i _ => unitOf 2 0x03 core i
  | .fma core i _ => unitOf 2 0x04 core i
  | .max core i _ => unitOf 2 0x05 core i
  | .min core i _ => unitOf 2 0x06 core i
  | .abs core i _ => unitOf 2 0x07 core i
  | .exp core i _ => unitOf 2 0x08 core i
  | .recip core i _ => unitOf 2 0x09 core i
  | .rsqrt core i _ => unitOf 2 0x0A core i
  | .sigmoid core i _ => unitOf 2 0x0B core i
  | .siluMul core i _ => unitOf 2 0x0C core i
  | .cvt core i _ => unitOf 2 0x0D core i
  | .rsum core i _ => unitOf 2 0x10 core i
  | .rmax core i _ => unitOf 2 0x11 core i
  | .absmax core i _ => unitOf 2 0x12 core i
  | .copy core i => unitOf 3 1 core i
  | .put core i => unitOf 3 2 core i
  | .get core i => unitOf 3 3 core i
  | .ckpt core i => unitOf 4 1 core i
  | .fence core i => unitOf 4 2 core i
  | .post core i => unitOf 4 3 core i
  | .hint core i => unitOf 4 4 core i
  | .endKernel core i => unitOf 4 5 core i
  | .unitInstructionComplete core _ => decide (core < 400)
  | .rowGate eng => decide (eng < 1600)
  | .verdictIssue eng _ => decide (eng / 4 < 400)
  | .sequencerMismatch core => decide (core < 400)
  | .epochCommit core => decide (core < 400)
  | .holdTimeout die _ => decide (die < 100)
  | .kernelEndReport core _ => decide (core < 400)
  -- placement, batching and tasks
  | .sliceFetchIssue ord => decide (ord < 40)
  | .stagingMove ord slot => decide (ord < 40) && decide (slot < 32)
  | .recordRoute _ => true
  | .batchTimerExpiry ord job _ => decide (ord < 40) && decide (job < 64)
  | .taskGive ord job => decide (ord < 40) && decide (job < 64)
  | .workSteal ord job => decide (ord < 40) && decide (job < 64)
  | .outputCopyComplete ord job _ => decide (ord < 40) && decide (job < 64)
  | .barrierDispatchStart _ => true
  | .paceInterval => true
  -- gradient reduction
  | .tackleContext p => Packet.of 6 p && p.addr == 0xF00000000
  | .tackleCodes p => Packet.of 6 p && decide (p.addr < 0xF00000000)
  | .tackleStatistics p => Packet.of 6 p && p.addr == 0xF00000020
  | .reservationGrant ord red => decide (ord < 40) && decide (red < 64)
  | .reductionTimeout red => decide (red < 64)
  | .updatePhaseStart red => decide (red < 64)
  | .updatePhaseEnd red => decide (red < 64)
  -- embedding tables and search
  | .gatherRowRead _ _ _ => true
  | .gatherReduce _ _ => true
  | .embApplyPhase _ => true
  | .bitmapBuildComplete h slot => decide (h < 64) && decide (slot < 8)
  | .sideBatchTimer h => decide (h < 64)
  | .foldApplyPhase h _ => decide (h < 64)
  -- flash media
  | .zqCalibrationShort ch => decide (ch < 224)
  | .dqRetrain ch => decide (ch < 224)
  | .nandOperationDispatch lun op => decide (lun < 1792) && op.ok
  | .eraseResume lun => decide (lun < 1792)
  | .arrayReadComplete lun step => decide (lun < 1792) && decide (step < 8)
  | .programDataInEnd lun => decide (lun < 1792)
  | .programCheck lun _ _ => decide (lun < 1792)
  | .eraseCheck lun _ => decide (lun < 1792)
  | .patrolRead lun quad plane step => decide (lun < 1792) && decide (quad < 3312) && decide (plane < 4) && decide (step < 8)
  | .blockRefresh lun quad plane => decide (lun < 1792) && decide (quad < 3312) && decide (plane < 4)
  -- flash translation
  | .journalPageClose ord => decide (ord < 56)
  | .quadProgress ord die quad _ => decide (ord < 56) && decide (die < 32) && decide (quad < 3312)
  | .txnCommit _ => true
  | .streamFlush ord => decide (ord < 56)
  | .gcErase grp t quad => decide (grp < 4) && decide (t < 32) && decide (quad < 3312)
  -- memory integrity
  | .mergeWriteOut _ _ => true
  | .dramPatrol ord _ _ => decide (ord < 40)
  | .scrubStart p inst v => v.getLsbD 0 && pathOk p && scrubUnit inst
  | .scrubAbort p inst v => v.getLsbD 1 && pathOk p && scrubUnit inst
  | .scrubSummary inst _ _ => scrubUnit inst
  | .laneRegionTest eng _ => decide (eng < 1600)
  | .secureScratchTest die _ => die == 42 || die == 52
  | .memCoreRet p core _ => pathOk p && decide (core < 400)
  -- power, supplies and thermal
  | .feedLost _ _ => true
  | .feedGood _ _ => true
  | .feedReturn => true
  | .holdupMeasure _ _ => true
  | .shutdownRequest => true
  | .capRecompute _ _ => true
  | .hardwareLimiter _ => true
  | .pwrCapW p _ => pathOk p
  | .hoistStagingStart core => decide (core < 400)
  | .hintPhaseStart core => decide (core < 400)
  | .hintEnd core => decide (core < 400)
  | .droopEvent core => decide (core < 400)
  | .thermalTrip die _ => decide (die < 100) && (dieKind die == 1 || die == 47 || die == 57)
  | .tripEnd => true
  | .thermalThrottleStep core _ => decide (core < 400)
  | .throttleRecoverStep core _ => decide (core < 400)
  | .storageWarn die _ => decide (die < 100) && dieKind die == 0
  | .storageHot inst _ => decide (0x200 ≤ inst) && decide (inst - 0x200 < 100) && (dieKind (inst - 0x200) == 0 || dieKind (inst - 0x200) == 1)
  | .thermalShutdown inst _ => decide (0x200 ≤ inst) && decide (inst - 0x200 < 100)
  | .psIdleTimer ps => decide (1 ≤ ps) && decide (ps ≤ 3)
  | .halfStackSleep ord => decide (ord < 40)
  | .backgroundTaskWake => true
  | .coolantAlarm _ _ => true
  -- availability
  | .heartbeat => true
  | .hubTakeover _ => true
  | .mhcLockstepMismatch die => die == 42 || die == 52
  | .avlSwap p _ => pathOk p
  | .dieFirmwareSwitch die => decide (die < 100) && die != 42 && die != 52
  | .dieFence die cause => decide (die < 100) && decide (1 ≤ cause) && decide (cause ≤ 7)
  | .avlStRun p die _ _ => pathOk p && decide (die < 100)
  | .selftestAgeExpiry die block _ => decide (die < 100) && decide (block < 38)
  | .rotationPeriod _ => true
  | .rotationRestart p _ => pathOk p
  -- security
  | .tamperEvent die kinds => (die == 42 || die == 52) && decide (1 ≤ kinds) && decide (kinds < 16)
  | .nonce _ => true
  | .unlock _ _ => true
  | .lock _ _ => true
  | .lifecycle _ _ => true
  | .fwStage _ _ => true
  | .fwActivate _ => true
  | .svnCommit _ => true
  | .nonceExpiry => true
  | .nonceRefusalEnd => true
  | .debugExpiry => true
  -- the Wesko monitor
  | .weskoId => true
  | .weskoStatus => true
  | .weskoNonce => true
  | .weskoToken _ _ => true
  | .weskoUnlock => true
  | .weskoLifecycle => true
  | .weskoLock _ => true
  | .weskoLog _ => true
  | .weskoRr _ => true
  | .weskoRw _ _ => true
  | .weskoHalt _ => true
  | .weskoResume _ => true
  | .weskoMr _ _ _ _ => true
  | .weskoMw _ _ _ _ => true
  | .weskoFuse => true
  | .weskoTest => true
  -- pins
  | .perstAssert _ => true
  | .perstRelease => true
  | .prsntMate => true
  | .prsntBreak => true
  -- register writes with a behaviour of their own
  | .hifLdQos p ld _ => pathOk p && decide (ld < 16)
  | .stayCntClr p die _ => pathOk p && decide (die < 100)
  | .qntCntClr p core _ => pathOk p && decide (core < 400)
  | .tierCntClr p _ => pathOk p
  | .tierJobCntClr p job _ => pathOk p && decide (job < 64)
  | .jobCntClr p job _ => pathOk p && decide (job < 64)
  | .tklJobCntClr p job _ => pathOk p && decide (job < 64)
  | .embHCntClr p h _ => pathOk p && decide (h < 256)
  | .srchHCntClr p h _ => pathOk p && decide (h < 64)
  | .mediaChCntClr p ch _ => pathOk p && decide (ch < 224)
  | .mediaDieCntClr p ord _ => pathOk p && decide (ord < 56)
  | .ftlCntClr p ord _ => pathOk p && decide (ord < 56)
  | .hifLdCntClr p ld _ => pathOk p && decide (ld < 16)
  | .memCoreCntClr p core _ => pathOk p && decide (core < 400)
  | .memDieCntClr p die _ => pathOk p && decide (die < 100)
  | .pwrCntClr p _ => pathOk p
  | .avlCntClr p _ => pathOk p
  | .secCntClr p _ => pathOk p
  -- ends of transitions
  | .linkRetrainEnd die port _ _ => portOk die port || mirrorOk die port
  | .eraseSuspendReady lun => decide (lun < 1792)
  | .linkL0 rate lanes _ => decide (1 ≤ rate) && decide (rate ≤ 3) && (lanes == 4 || lanes == 8)
  | .portFailure => true
  | .storageWarnEnd die => decide (die < 100) && dieKind die == 0
  | .storageHotEnd => true
  | .mhcRestartEnd die => die == 42 || die == 52
  | .voltageRampEnd core => decide (core < 400)
  | .standbyPhyTest _ => true
  | .dynamicAddressAssign addr => decide (addr < 128)
  | .handoverTrainingEnd ord => decide (ord < 40)
  | .psTransitionEnd => true

end Sys2Proof
end

