-- ==== Sys2Proof/Machine/Mem.lean ====
section
/-! DEFINITION. The events of memory integrity (R463, R474, R475, R478, R479). -/

namespace Sys2Proof.Machine

/-- The effect of MERGE_WRITE_OUT. -/
def onMergeWriteOut (m : Nat) (stored : Ecc) (s : Device) : Device :=
  match s.mem.merge[m]? with
  | none => s
  | some e =>
    if e.mem = 5 ∧ s.now - e.at_ < 64 then s
    else
      let s := match stored with
        | .clean => s
        | .corrected => s.goodWord e.mem e.inst e.word
        | .uncorrectable => s.badWord e.mem e.inst e.word none
        | .poison => s.markPoison e.mem e.inst e.word true
      s.writeOut e

/-- MERGE_WRITE_OUT (R463, R464): entry `m` has had no write for 16 cycles of its island, or for 64 ns in a DRAM controller, and is written out by a read-modify-write, which decodes the
stored word. -/
def execMergeWriteOut (m : Nat) (stored : Ecc) (s : State) : Out := onDevice s fun s =>
  .next (onMergeWriteOut m stored s)

/-- The effect of DRAM_PATROL. -/
def onDramPatrol (ord : Nat) (corrected bad : List Nat) (s : Device) : Device :=
  if s.fenced (s.hsDie ord) || !s.hsUp ord || s.rdf Reg.MEM_PATROL_CTL (s.hsDie ord) 7 0 == 0 then s
  else s.readWords 5 ord 0 (0x600000000 / 16) corrected bad

/-- DRAM_PATROL (R474): a DRAM controller reads every word of its half-stack, unless MEM_PATROL_CTL disables the patrol. -/
def execDramPatrol (ord : Nat) (corrected bad : List Nat) (s : State) : Out := onDevice s fun s =>
  atUnit (ord < 40) (onDramPatrol ord corrected bad s)

/-- The effect of SCRUB_SUMMARY. -/
def onScrubSummary (inst : Nat) (corrected bad : List Nat) (s : Device) : Device :=
  match nget none s.mem.scrubs inst with
  | none => s
  | some (t, base, len) =>
    let runs := scrubRuns inst t base len
    let found := s.poisonFoundIn t runs
    let pick := fun (l : List Nat) (k : Nat) (r : Nat × Nat × Nat) =>
      (l.filter (fun w => decide (k * r.2.2 ≤ w) && decide (w < (k + 1) * r.2.2))).map (fun w => w - k * r.2.2 + r.2.1)
    let total := (runs.map (·.2.2)).foldl (· + ·) 0
    let bad := (bad.filter (· < total)).eraseDups
    let corrected := ((corrected.filter (· < total)).eraseDups).filter (fun w => !bad.contains w)
    let s := (List.range runs.length).foldl (fun a k =>
      let r := runs.getD k (0, 0, 0)
      a.readWords t r.1 r.2.1 r.2.2 (pick corrected k r) (pick bad k r)) s
    s.scrubEnd inst t corrected.length bad.length found 1

/-- SCRUB_SUMMARY (R475): the pass of an instance has read every word of its range; words are numbered over the runs of the
pass. -/
def execScrubSummary (inst : Nat) (corrected bad : List Nat) (s : State) : Out := onDevice s fun s =>
  atUnit (inst < 400 || (512 ≤ inst && inst < 612)) (onScrubSummary inst corrected bad s)

/-- The effect of LANE_REGION_TEST. -/
def onLaneRegionTest (eng : Nat) (pass : Bool) (s : Device) : Device :=
  let c := eng / 4
  let g := s.engine eng
  if s.rdf Reg.MEM_CORE_LTEST_CTL c 0 0 == 0 || s.rdf Reg.ENG_STATUS eng 11 11 == 1 || !g.standIn.isEmpty
      || s.fenced (coreDie c) || s.rdf Reg.CORE_STATE c 2 0 == 0 || s.rdf Reg.CORE_STATE c 2 0 == 6 then s
  else if pass then
    let s := s.setEngine eng { g with region := (g.region + 1) % 272 }
    if g.region = 271 then s.inc Reg.MEM_CORE_LTEST_PASSES c 1 else s
  else
    let s := s.setEngine eng { g with region := (g.region + 1) % 272, standIn := [g.region], retireNext := true }
    (s.inc Reg.MEM_CORE_LTEST_FAILS c 1).record 0x0E04 (memBody 2 0 c (eng + g.region * 2 ^ 11) 0 0) none

/-- LANE_REGION_TEST (R478, R182): an engine tests its next region of 256 bytes. A failing region stays on the stand-in row, and the
engine is retired at the core's next kernel start or restore; its stand-in is in use, so it tests no further. -/
def execLaneRegionTest (eng : Nat) (pass : Bool) (s : State) : Out := onDevice s fun s =>
  atUnit (eng < 1600) (onLaneRegionTest eng pass s)

/-- The effect of SECURE_SCRATCH_TEST. -/
def onSecureScratchTest (die : Nat) (pass : Bool) (s : Device) : Device :=
  if s.fenced die then s else
  let r := nget 0 s.mem.secRegion die
  let s : Device := { s with mem := { s.mem with secRegion := nset 0 s.mem.secRegion die ((r + 1) % 1024) } }
  let s := if r = 1023 then s.inc Reg.MEM_SEC_TEST_PASSES die 1 else s
  if pass then s else
  let left := s.rd Reg.MEM_SEC_SPARES_LEFT die
  let s := s.record 0x0E05 (memBody 11 0 (0x200 + die) (r * 256) 0 0) none
  let s : Device := if left = 0 then s
    else ({ s with mem := { s.mem with secMoved := nset [] s.mem.secMoved die (nget [] s.mem.secMoved die ++ [r]) } } : Device).wr
      Reg.MEM_SEC_SPARES_LEFT die (left - 1)
  if left ≤ 1 then (s.fenceDie die 6).settleAll else s

/-- SECURE_SCRATCH_TEST (R479, R533): the root of trust of a hub die tests its next region; a failing one moves to a spare, and a die
with no spare left is fenced. -/
def execSecureScratchTest (die : Nat) (pass : Bool) (s : State) : Out := onDevice s fun s =>
  atUnit (die == 42 || die == 52) (onSecureScratchTest die pass s)

end Sys2Proof.Machine
end

