-- ==== Sys2Proof/Machine/Sideband.lean ====
section
/-! DEFINITION. The sideband (chapter 18): the management port and the fabric-manager path (R415, R418, R597), and what the
output pins and LEDs show (R590, R591, R598). -/

namespace Sys2Proof.Machine

/-! ## Management transport -/

/-- MCTP message types and codes of DMTF DSP0236 and DSP0234 (log entry 20). -/
def Mctp.control : Nat := 0
def Mctp.cxlFm : Nat := 7
def Mctp.invalid : Nat := 2
def Mctp.unsupported : Nat := 5
def Mctp.refused : Nat := 1

/-- The management port serves from step 4 of R593 (R597): the sled is started and its hub dies run. -/
def Device.portUp (s : Device) : Bool := s.sled.stage == 0 && s.hubRuns

/-- An answer of the management port. -/
def Device.mctp (s : Device) (typ code : Nat) (data : List Byte) : Device := s.emit (.mctp typ code data)

/-- The effect of MCTP_CONTROL_MESSAGE. -/
def onMctpControlMessage (setEid : Option Nat) (s : Device) : Device :=
  if !s.portUp then s
  else match setEid with
    | some e =>
      if 8 ≤ e ∧ e < 255 then (s.wrf Reg.SB_STATUS 0 17 10 e).mctp Mctp.control 0 (natLe 1 e)
      else s.mctp Mctp.control Mctp.invalid []
    | none => s.draw.2.mctp Mctp.control 0 (natLe 8 s.draw.1)

/-- MCTP_CONTROL_MESSAGE (R597, R600): the bus owner assigns the endpoint ID, which SB_STATUS shows; what another control message is
answered is open. -/
def execMctpControlMessage (setEid : Option Nat) (s : State) : Out := onDevice s fun s =>
  .next (onMctpControlMessage setEid s)

/-- The status of a register access as an FM API answer gives it: the 16 bits of R5. -/
def Device.fmStatus (s : Device) (status : Nat) (data : List Byte) : Device := s.mctp Mctp.cxlFm 0 (natLe 2 status ++ data)

/-- The effect of FM_API_MESSAGE. -/
def onFmApiMessage (m : FmMsg) (s : Device) : Device :=
  if !s.portUp then s
  else match m with
    | .bind ld units =>
      if 16 ≤ ld ∨ 256 < units ∨ s.rdf Reg.HIF_LD_STATUS ld 0 0 = 1 then s.mctp Mctp.cxlFm Mctp.invalid []
      else (s.bindLd ld units).mctp Mctp.cxlFm 0 []
    | .unbind ld =>
      if 16 ≤ ld ∨ s.rdf Reg.HIF_LD_STATUS ld 0 0 = 0 then s.mctp Mctp.cxlFm Mctp.invalid []
      else (s.unbindLd ld).mctp Mctp.cxlFm 0 []
    | .admin ld =>
      if 16 ≤ ld ∨ s.rdf Reg.HIF_LD_STATUS ld 0 0 = 0 then s.mctp Mctp.cxlFm Mctp.invalid []
      else (s.setAdmin ld).mctp Mctp.cxlFm 0 []
    | .regRead addr wide =>
      let r := s.regReadBy .fabric addr wide
      r.2.2.fmStatus r.1 (natLe 8 r.2.1)
    | .regWrite addr wide value =>
      let d := s.draw
      let r := d.2.regWriteBy .fabric none (d.1 % 2 == 0) addr wide (if wide then value.toNat else value.toNat % 2 ^ 32)
      r.2.settleFaults.fmStatus (r.1.getD St.ok) []
    | .other _ => s.draw.2.mctp Mctp.cxlFm 0 (natLe 8 s.draw.1)

/-- FM_API_MESSAGE (R415, R418, R566, R597): binding and unbinding of an LD, the designation of the admin LD, and accesses to
registers; what another message of the FM API is answered is open. What a self-test that a write starts finds is a free value. -/
def execFmApiMessage (m : FmMsg) (s : State) : Out := onDevice s fun s =>
  .next (onFmApiMessage m s)

/-- MCTP_UNSUPPORTED_TYPE (R597): any other message type is answered with MCTP's error for unsupported types (log entry 6). -/
def execMctpUnsupportedType (typ : Nat) (s : State) : Out := onDevice s fun s =>
  .next (if s.portUp then s.mctp typ Mctp.unsupported [] else s)

/-- The effect of DYNAMIC_ADDRESS_ASSIGN. -/
def onDynamicAddressAssign (addr : Nat) (s : Device) : Device :=
  if !s.portUp ∨ s.rdf Reg.SB_STATUS 0 2 2 = 1 then s else s.wrf Reg.SB_STATUS 0 9 3 addr

/-- DYNAMIC_ADDRESS_ASSIGN (R597, R600): in I3C mode the controller assigns the port's address; in SMBus mode it stays fixed. -/
def execDynamicAddressAssign (addr : Nat) (s : State) : Out := onDevice s fun s =>
  atUnit (addr < 128) (onDynamicAddressAssign addr s)

/-! ## Pins and LEDs -/

/-- The level of an open-drain output. -/
inductive Pin where
  | low
  | highZ
  deriving DecidableEq, Repr

/-- What an LED shows. -/
inductive Led where
  | off
  | on
  | blink1Hz
  | blink4Hz
  deriving DecidableEq, Repr

/-- A feed powers the sled. -/
def Device.powered (s : Device) : Bool := decide (s.sled.stage < 2)

/-- PWRGOOD (R590, R591): low while the sled is quiesced, otherwise released. -/
def Device.pwrgoodPin (s : Device) : Pin := if s.sled.stage = 1 then .low else .highZ

/-- FAULT_N (R590, R600). -/
def Device.faultNPin (s : Device) : Pin := if s.sled.stage = 0 && s.faultPin then .low else .highZ

/-- ALERT_N (R590, R597): in I3C mode in-band interrupts stand in its place. -/
def Device.alertNPin (s : Device) : Pin :=
  if s.sled.stage = 0 && s.rdf Reg.SB_STATUS 0 2 2 == 1
    && s.rd Reg.SB_ALERT 0 &&& (2 ^ 32 - 1 - s.rd Reg.SB_ALERT_MASK 0) != 0 then .low else .highZ

/-- LED0_N, green (R598). -/
def Device.led0 (s : Device) : Led :=
  if s.sled.stage ≠ 0 then .off
  else if !s.sled.up then .blink4Hz
  else if s.ps ≠ 0 then .blink1Hz
  else .on

/-- LED1_N, amber (R598). -/
def Device.led1 (s : Device) : Led :=
  if s.sled.stage ≠ 0 then .off
  else if s.faultPin then .on
  else if s.rdf Reg.SB_LED_CTL 0 0 0 = 1 then .blink1Hz
  else if s.rdf Reg.AVL_STATUS 0 4 4 = 1 ∨ s.rdf Reg.AVL_STATUS 0 6 6 = 1 then .blink4Hz
  else .off

end Sys2Proof.Machine
end

