-- ==== Sys2Proof/Machine/Wesko.lean ====
section
/-! DEFINITION. The Wesko monitor (R575, R576): its commands, and its answers as status and data, before they are written as
hexadecimal digits. -/

namespace Sys2Proof.Machine

/-- The monitor listens: its die serves (R576) and the hub die that it asks does. -/
def Device.weskoUp (s : Device) : Bool := s.hubRuns && !s.fenced 47

/-- The answer lines: OK and data, or ERR and a status. -/
def Device.weskoOk (s : Device) (data : List Byte) : Device := s.emit (.line true 0 data)
def Device.weskoErr (s : Device) (status : Nat) : Device := s.emit (.line false status [])

/-- The answer of an operation by its status. -/
def Device.weskoStatus (s : Device) (status : Nat) : Device := if status = St.ok then s.weskoOk [] else s.weskoErr status

/-- A command of the monitor (R576): above the present level it answers ERR 0701. -/
def wesko (level : Nat) (s : Device) (body : Device) : Effect :=
  .next (if !s.weskoUp then s else if s.debug < level then s.weskoErr St.securityDenied else body)

/-- The part number. -/
def partNumber : List Byte := [0x50, 0x46, 0x33, 0x38, 0x34, 0x2D, 0x4C, 0x32]

/-- The effect of WESKO_ID. -/
def onWeskoId (s : Device) : Device :=
  s.weskoOk (partNumber ++ natLe 8 (s.rd Reg.SEC_SERIAL 0) ++ natLe 1 s.lifecycle ++ natLe 1 s.debug
  ++ natLe 4 (s.rd Reg.SEC_FW_VERSION 0) ++ natLe 1 (s.rdf Reg.SEC_FW_SVN 0 6 0))

/-- ID (R576): part, serial, lifecycle, debug level, firmware VERSION, fused SVN. -/
def execWeskoId (s : State) : Out := onDevice s fun s =>
  wesko 0 s (onWeskoId s)

/-- The effect of WESKO_STATUS. -/
def onWeskoStatus (s : Device) : Device :=
  s.weskoOk (natLe 4 (s.rd Reg.SEC_STATUS 0) ++ natLe 4 (s.rd Reg.AVL_STATUS 0) ++ natLe 4 (s.rd Reg.PWR_STATUS 0))

/-- STATUS (R576): SEC_STATUS, AVL_STATUS, PWR_STATUS. -/
def execWeskoStatus (s : State) : Out := onDevice s fun s =>
  wesko 0 s (onWeskoStatus s)

/-- The effect of WESKO_NONCE. -/
def onWeskoNonce (s : Device) : Device :=
  let r := s.secNonce; if r.1 = St.ok then r.2.weskoOk r.2.nonceBytes else r.2.weskoErr r.1

/-- NONCE (R576): OP 1, and the nonce. -/
def execWeskoNonce (s : State) : Out := onDevice s fun s =>
  wesko 0 s (onWeskoNonce s)

/-- The effect of WESKO_TOKEN. -/
def onWeskoToken (n : Nat) (data : List Byte) (s : Device) : Device :=
  if 5 < n ∨ data.length ≠ (if n = 5 then 36 else 64) then s.weskoErr St.invalidField
  else (s.setSec (fun x => { x with token := nset [] x.token n data })).weskoOk []

/-- TOKEN (R576): one of six lines is loaded. -/
def execWeskoToken (n : Nat) (data : List Byte) (s : State) : Out := onDevice s fun s =>
  wesko 0 s (onWeskoToken n data s)

/-- The loaded token: its lines in order, bytes that no line has loaded 0. -/
def Device.loadedToken (s : Device) : List Byte :=
  (List.range 6).flatMap (fun n =>
    let b := nget [] s.sec.token n
    if b.isEmpty then List.replicate (if n = 5 then 36 else 64) 0 else b)

/-- The state without a loaded token. -/
def Device.dropToken (s : Device) : Device := s.setSec (fun x => { x with token := [] })

/-- The effect of WESKO_UNLOCK. -/
def onWeskoUnlock (s : Device) : Device :=
  let r := s.dropToken.secUnlock s.loadedToken 2; r.2.settleAll.weskoStatus r.1

/-- UNLOCK (R576): OP 2 on the loaded token. -/
def execWeskoUnlock (s : State) : Out := onDevice s fun s =>
  wesko 0 s (onWeskoUnlock s)

/-- The effect of WESKO_LIFECYCLE. -/
def onWeskoLifecycle (s : Device) : Device :=
  let r := s.dropToken.secLifecycle s.loadedToken 2 none
  match r.1 with
  | some st => r.2.settleAll.weskoStatus st
  | none => r.2.settleAll

/-- LIFECYCLE (R576): OP 4 on the loaded token; a transition that lasts is answered at its end. -/
def execWeskoLifecycle (s : State) : Out := onDevice s fun s =>
  wesko 0 s (onWeskoLifecycle s)

/-- LOCK (R576): OP 3. -/
def execWeskoLock (level : Nat) (s : State) : Out := onDevice s fun s =>
  wesko 0 s (let r := s.secLock level 2; r.2.settleAll.weskoStatus r.1)

/-- The effect of WESKO_LOG. -/
def onWeskoLog (index : Nat) (s : Device) : Device :=
  s.weskoOk (match s.log.find? (fun r => r.index = index) with
  | some r => r.bytes
  | none => List.replicate 32 0)

/-- LOG (R576, R453): the 32 bytes of the record with a log index, zeros for one that is not in the ring. -/
def execWeskoLog (index : Nat) (s : State) : Out := onDevice s fun s =>
  wesko 1 s (onWeskoLog index s)

/-- The width of the register at an address, 32 bits where there is none. -/
def regWidth (addr : Nat) : Bool :=
  match regAt addr with
  | some (_, r, _) => r.wide
  | none => false

/-- The effect of WESKO_RR. -/
def onWeskoRr (addr : Nat) (s : Device) : Device :=
  let r := s.regReadBy .monitor addr (regWidth addr)
  if r.1 = St.ok then r.2.2.weskoOk (natLe (if regWidth addr then 8 else 4) r.2.1) else r.2.2.weskoErr r.1

/-- RR (R576): REG_READ in the privileged view, at the register's width. -/
def execWeskoRr (addr : Nat) (s : State) : Out := onDevice s fun s =>
  wesko 1 s (onWeskoRr addr s)

/-- The effect of WESKO_RW. -/
def onWeskoRw (addr : Nat) (value : BitVec 64) (s : Device) : Device :=
  let d := s.draw
  let r := d.2.regWriteBy .monitor none (d.1 % 2 == 0) addr (regWidth addr) (if regWidth addr then value.toNat else value.toNat % 2 ^ 32)
  match r.1 with
  | some st => r.2.settleFaults.weskoStatus st
  | none => r.2.settleFaults

/-- RW (R576): REG_WRITE in the privileged view, at the register's width; an operation of SEC_CMD that lasts is answered at its end.
What a self-test that it starts finds is a free value. -/
def execWeskoRw (addr : Nat) (value : BitVec 64) (s : State) : Out := onDevice s fun s =>
  wesko 2 s (onWeskoRw addr value s)

/-- The effect of WESKO_HALT. -/
def onWeskoHalt (core : Nat) (s : Device) : Device :=
  let st := s.rdf Reg.CORE_STATE core 2 0
  if 400 ≤ core then s.weskoErr St.invalidField
  else if s.fenced (coreDie core) ∨ (st ≠ 1 ∧ st ≠ 2) then s.weskoErr St.invalidField
  else ((s.setCore core { s.core core with halting := true }).settleHalt core).weskoOk []

/-- HALT (R575): the core places no further unit instructions; it reads STATE 3 once the queued ones have completed. -/
def execWeskoHalt (core : Nat) (s : State) : Out := onDevice s fun s =>
  wesko 2 s (onWeskoHalt core s)

/-- The effect of WESKO_RESUME. -/
def onWeskoResume (core : Nat) (s : Device) : Device :=
  if 400 ≤ core then s.weskoErr St.invalidField
  else if s.fenced (coreDie core) ∨ !s.halted core then s.weskoErr St.invalidField
  else (s.resumeCore core).settleFaults.weskoOk []

/-- RESUME (R575). -/
def execWeskoResume (core : Nat) (s : State) : Out := onDevice s fun s =>
  wesko 2 s (onWeskoResume core s)

/-! ## Memory -/

/-- The die of a MEM instance, where there is one (R460, R483, R484). -/
def memDie (inst : Nat) : Option Nat :=
  if inst < 400 then some (coreDie inst) else if 0x200 ≤ inst ∧ inst < 0x200 + 100 then some (inst - 0x200) else none

/-- Whether a memory code of a MEM instance belongs to the compute plane (R460). -/
def memCompute (code inst : Nat) : Bool :=
  code ≤ 4 || code == 9 || (code == 6 && (memDie inst == some 47 || memDie inst == some 57))

/-- The status that a memory command of the monitor ends with before it reaches the memory (R573, R576): no level reaches the secure
scratch or the map reserve; codes beyond those of DBG2 can be read at DBG3. -/
def Device.memDenied (s : Device) (code inst addr n : Nat) (write : Bool) : Option Nat :=
  if 11 ≤ code then some (if code = 11 then St.securityDenied else St.invalidField)
  else if !([0, 1, 4, 5].contains code) && (write || s.debug < 3) then some St.securityDenied
  else
    match memDie inst, scrubSize inst code with
    | some d, some size =>
      if s.fenced d ∨ addr % 16 ≠ 0 ∨ size < addr + n then some St.invalidField
      else if code = 5 ∧ (poolPages * pageBytes < addr + n
          ∨ (rangeFrom (addr / pageBytes) ((addr + n - 1) / pageBytes + 1 - addr / pageBytes)).any (fun g => s.pageKind (scrubInst inst code 0) g == 4)) then some St.securityDenied
      else none
    | _, _ => some St.invalidField

/-- A memory command wakes what it reaches (R576), whatever AUTO_WAKE holds; the wake is not waited for (log entry 21). -/
def Device.wakeMem (s : Device) (code inst : Nat) : Device :=
  if memCompute code inst then s.wake
  else if code = 5 then s.wakeHs (scrubInst inst code 0)
  else s

/-- The instance and address that a monitor's address names: of the lane registers, four engines in a row; the mailbox SRAM is one
mirrored memory (R420). -/
def weskoPlace (code inst addr : Nat) : Nat × Nat :=
  if code = 2 then (scrubInst inst 2 (addr / 69632), addr % 69632)
  else if code = 7 then (42, addr)
  else (scrubInst inst code 0, addr)

/-- The bytes that a monitor reads, and whether one of their words is poisoned. -/
def Device.weskoRead (s : Device) (code inst addr n : Nat) : List Byte × Bool :=
  ((List.range n).map (fun i => let p := weskoPlace code inst (addr + i); s.byteAt code p.1 p.2),
   (List.range ((n + 15) / 16)).any (fun k => let p := weskoPlace code inst (addr + 16 * k); s.wordPoison code p.1 (p.2 / 16)))

/-- The effect of WESKO_MR. -/
def onWeskoMr (code inst addr count : Nat) (s : Device) : Device :=
  if count = 0 ∨ 64 < count then s.weskoErr St.invalidField
  else match s.memDenied code inst addr count false with
    | some st => s.weskoErr st
    | none =>
      let r := s.weskoRead code inst addr count
      let s := s.wakeMem code inst
      let s := if r.2 then s.memCount code (weskoPlace code inst addr).1 Reg.MEM_CORE_POISON_READ Reg.MEM_DIE_POISON_READ 1 else s
      s.weskoOk (r.1 ++ (if r.2 then [0x50] else []))

/-- MR (R576): up to 64 bytes; a poisoned word adds the tag P. -/
def execWeskoMr (code inst addr count : Nat) (s : State) : Out := onDevice s fun s =>
  wesko 2 s (onWeskoMr code inst addr count s)

/-- The effect of WESKO_MW. -/
def onWeskoMw (code inst addr : Nat) (data : BitVec 128) (s : Device) : Device :=
  match s.memDenied code inst addr 16 true with
  | some st => s.weskoErr st
  | none =>
    let p := weskoPlace code inst addr
    (((s.wakeMem code inst).writeMem code p.1 p.2 (natLe 16 data.toNat) []).settleFaults).weskoOk []

/-- MW (R576): 16 bytes as a whole word. -/
def execWeskoMw (code inst addr : Nat) (data : BitVec 128) (s : State) : Out := onDevice s fun s =>
  wesko 2 s (onWeskoMw code inst addr data s)

/-- FUSE (R573, R576): factory access at DBG3; what it answers is open. -/
def execWeskoFuse (s : State) : Out :=
  onDevice s fun s => wesko 3 s (s.draw.2.weskoOk (natLe 8 s.draw.1))

/-- TEST (R573, R576): factory test modes at DBG3; what it answers is open. -/
def execWeskoTest (s : State) : Out :=
  onDevice s fun s => wesko 3 s (s.draw.2.weskoOk (natLe 8 s.draw.1))

end Sys2Proof.Machine
end

