-- ==== Sys2Proof/Machine/Dispatch.lean ====
section
/-! DEFINITION. What each command does: one arm for each constructor of `Instr`. -/

namespace Sys2Proof.Machine

/-- The effect of a command on everything but the queue. -/
def exec (i : Instr) (s : State) : Host.Outcome State Fault Refusal :=
  match i with
  -- Ryern commands
  | .nop c => Sys2Proof.Machine.execNop c s
  | .read c => Sys2Proof.Machine.execRead c s
  | .write c => Sys2Proof.Machine.execWrite c s
  | .discard c => Sys2Proof.Machine.execDiscard c s
  | .secureDiscard c => Sys2Proof.Machine.execSecureDiscard c s
  | .nsCreate c => Sys2Proof.Machine.execNsCreate c s
  | .nsDelete c => Sys2Proof.Machine.execNsDelete c s
  | .nsFormat c => Sys2Proof.Machine.execNsFormat c s
  | .nsAccess c => Sys2Proof.Machine.execNsAccess c s
  | .nsInfo c => Sys2Proof.Machine.execNsInfo c s
  | .regRead c => Sys2Proof.Machine.execRegRead c s
  | .regWrite c => Sys2Proof.Machine.execRegWrite c s
  | .registerWrite p addr wide value => Sys2Proof.Machine.execRegisterWrite p addr wide value s
  | .timeAnchor c => Sys2Proof.Machine.execTimeAnchor c s
  | .timeAnchorMgmt die utc => Sys2Proof.Machine.execTimeAnchorMgmt die utc s
  | .hostRegister c => Sys2Proof.Machine.execHostRegister c s
  | .hostDeregister c => Sys2Proof.Machine.execHostDeregister c s
  | .powerHint c => Sys2Proof.Machine.execPowerHint c s
  | .powerState c => Sys2Proof.Machine.execPowerState c s
  | .jobOpen c => Sys2Proof.Machine.execJobOpen c s
  | .jobClose c => Sys2Proof.Machine.execJobClose c s
  | .routeWrite c => Sys2Proof.Machine.execRouteWrite c s
  | .dispatch c => Sys2Proof.Machine.execDispatch c s
  | .shardOpen c => Sys2Proof.Machine.execShardOpen c s
  | .shardClose c => Sys2Proof.Machine.execShardClose c s
  | .reduceOpen c => Sys2Proof.Machine.execReduceOpen c s
  | .rankDone c => Sys2Proof.Machine.execRankDone c s
  | .reduceCommit c => Sys2Proof.Machine.execReduceCommit c s
  | .checkpoint c => Sys2Proof.Machine.execCheckpoint c s
  | .embOpen c => Sys2Proof.Machine.execEmbOpen c s
  | .embClose c => Sys2Proof.Machine.execEmbClose c s
  | .gather c => Sys2Proof.Machine.execGather c s
  | .gatherPrefetch c => Sys2Proof.Machine.execGatherPrefetch c s
  | .embUpdate c => Sys2Proof.Machine.execEmbUpdate c s
  | .place c => Sys2Proof.Machine.execPlace c s
  | .unplace c => Sys2Proof.Machine.execUnplace c s
  | .srchOpen c => Sys2Proof.Machine.execSrchOpen c s
  | .srchClose c => Sys2Proof.Machine.execSrchClose c s
  | .search c => Sys2Proof.Machine.execSearch c s
  | .vecInsert c => Sys2Proof.Machine.execVecInsert c s
  | .vecDelete c => Sys2Proof.Machine.execVecDelete c s
  | .indexFold c => Sys2Proof.Machine.execIndexFold c s
  | .mediaRawRead c step => Sys2Proof.Machine.execMediaRawRead c step s
  | .mediaRawProgram c fail => Sys2Proof.Machine.execMediaRawProgram c fail s
  | .mediaRawErase c fail => Sys2Proof.Machine.execMediaRawErase c fail s
  | .quadGrant p ord value => Sys2Proof.Machine.execQuadGrant p ord value s
  | .quadRelease p ord value => Sys2Proof.Machine.execQuadRelease p ord value s
  -- mailboxes and the command pipeline
  | .mbSqTail ld mb value => Sys2Proof.Machine.execMbSqTail ld mb value s
  | .mbCqHead ld mb value => Sys2Proof.Machine.execMbCqHead ld mb value s
  | .mbEnable ld mb value => Sys2Proof.Machine.execMbEnable ld mb value s
  | .queueReset ld mb value => Sys2Proof.Machine.execQueueReset ld mb value s
  | .queueResetEnd ld mb => Sys2Proof.Machine.execQueueResetEnd ld mb s
  | .functionLevelReset ld => Sys2Proof.Machine.execFunctionLevelReset ld s
  | .commandFetch ld mb => Sys2Proof.Machine.execCommandFetch ld mb s
  | .commandAdmit ld mb => Sys2Proof.Machine.execCommandAdmit ld mb s
  | .commandExecutionStart n => Sys2Proof.Machine.execCommandExecutionStart n s
  | .admitDeadlineExpiry n => Sys2Proof.Machine.execAdmitDeadlineExpiry n s
  | .completionWrite n linkOk => Sys2Proof.Machine.execCompletionWrite n linkOk s
  | .interruptCoalesceTimeout ld mb linkOk => Sys2Proof.Machine.execInterruptCoalesceTimeout ld mb linkOk s
  | .hostDmaReject n hreg offset done => Sys2Proof.Machine.execHostDmaReject n hreg offset done s
  | .ldBind ld units => Sys2Proof.Machine.execLdBind ld units s
  | .ldUnbind ld => Sys2Proof.Machine.execLdUnbind ld s
  | .adminLdDesignate ld => Sys2Proof.Machine.execAdminLdDesignate ld s
  | .cxlMemWrite ld offset data => Sys2Proof.Machine.execCxlMemWrite ld offset data s
  | .cxlMemRead ld offset count => Sys2Proof.Machine.execCxlMemRead ld offset count s
  | .identifyMemoryDevice ld => Sys2Proof.Machine.execIdentifyMemoryDevice ld s
  | .getSupportedLogs ld => Sys2Proof.Machine.execGetSupportedLogs ld s
  | .getLog ld => Sys2Proof.Machine.execGetLog ld s
  | .getHealthInfo ld => Sys2Proof.Machine.execGetHealthInfo ld s
  | .getEventRecords ld => Sys2Proof.Machine.execGetEventRecords ld s
  | .clearEventRecords ld => Sys2Proof.Machine.execClearEventRecords ld s
  -- SPDM on the DOE mailbox
  | .getVersion ld => Sys2Proof.Machine.execGetVersion ld s
  | .getCapabilities ld => Sys2Proof.Machine.execGetCapabilities ld s
  | .negotiateAlgorithms ld baseAsym baseHash => Sys2Proof.Machine.execNegotiateAlgorithms ld baseAsym baseHash s
  | .getDigests ld => Sys2Proof.Machine.execGetDigests ld s
  | .getCertificate ld slot offset length => Sys2Proof.Machine.execGetCertificate ld slot offset length s
  | .challenge ld slot nonce => Sys2Proof.Machine.execChallenge ld slot nonce s
  | .getMeasurements ld index signed nonce => Sys2Proof.Machine.execGetMeasurements ld index signed nonce s
  | .chunkGet ld handle seq => Sys2Proof.Machine.execChunkGet ld handle seq s
  | .spdmUnsupportedRequest ld code => Sys2Proof.Machine.execSpdmUnsupportedRequest ld code s
  -- management transport
  | .mctpControlMessage setEid => Sys2Proof.Machine.execMctpControlMessage setEid s
  | .fmApiMessage m => Sys2Proof.Machine.execFmApiMessage m s
  | .mctpUnsupportedType typ => Sys2Proof.Machine.execMctpUnsupportedType typ s
  -- stay fabric
  | .flitReceive die port head body ecc => Sys2Proof.Machine.execFlitReceive die port head body ecc s
  | .linkNak die port seq => Sys2Proof.Machine.execLinkNak die port seq s
  | .linkRetrain die port => Sys2Proof.Machine.execLinkRetrain die port s
  | .handshakeTimeout die port => Sys2Proof.Machine.execHandshakeTimeout die port s
  | .failNotice die port => Sys2Proof.Machine.execFailNotice die port s
  | .routeTableWrite die entries => Sys2Proof.Machine.execRouteTableWrite die entries s
  | .truncNotice t => Sys2Proof.Machine.execTruncNotice t s
  | .fenceNotice die fenced => Sys2Proof.Machine.execFenceNotice die fenced s
  | .hopEpochEnd die out vc => Sys2Proof.Machine.execHopEpochEnd die out vc s
  | .writePacket p => Sys2Proof.Machine.execWritePacket p s
  | .readReq p bad => Sys2Proof.Machine.execReadReq p bad s
  | .readResp p => Sys2Proof.Machine.execReadResp p s
  | .writeAck p => Sys2Proof.Machine.execWriteAck p s
  | .media p => Sys2Proof.Machine.execMedia p s
  | .reg p => Sys2Proof.Machine.execReg p s
  | .clean p => Sys2Proof.Machine.execClean p s
  | .reopen p => Sys2Proof.Machine.execReopen p s
  | .reopenAck p => Sys2Proof.Machine.execReopenAck p s
  | .releaseAck p => Sys2Proof.Machine.execReleaseAck p s
  | .squashFrom p => Sys2Proof.Machine.execSquashFrom p s
  -- cores: unit instructions
  | .unitInstructionPlace core w => Sys2Proof.Machine.execUnitInstructionPlace core w s
  | .wload core w => Sys2Proof.Machine.execWload core w s
  | .mac core w => Sys2Proof.Machine.execMac core w s
  | .drain core w => Sys2Proof.Machine.execDrain core w s
  | .add core w residueOk => Sys2Proof.Machine.execAdd core w residueOk s
  | .sub core w residueOk => Sys2Proof.Machine.execSub core w residueOk s
  | .mul core w residueOk => Sys2Proof.Machine.execMul core w residueOk s
  | .fma core w residueOk => Sys2Proof.Machine.execFma core w residueOk s
  | .max core w residueOk => Sys2Proof.Machine.execMax core w residueOk s
  | .min core w residueOk => Sys2Proof.Machine.execMin core w residueOk s
  | .abs core w residueOk => Sys2Proof.Machine.execAbs core w residueOk s
  | .exp core w residueOk => Sys2Proof.Machine.execExp core w residueOk s
  | .recip core w residueOk => Sys2Proof.Machine.execRecip core w residueOk s
  | .rsqrt core w residueOk => Sys2Proof.Machine.execRsqrt core w residueOk s
  | .sigmoid core w residueOk => Sys2Proof.Machine.execSigmoid core w residueOk s
  | .siluMul core w residueOk => Sys2Proof.Machine.execSiluMul core w residueOk s
  | .cvt core w residueOk => Sys2Proof.Machine.execCvt core w residueOk s
  | .rsum core w residueOk => Sys2Proof.Machine.execRsum core w residueOk s
  | .rmax core w residueOk => Sys2Proof.Machine.execRmax core w residueOk s
  | .absmax core w residueOk => Sys2Proof.Machine.execAbsmax core w residueOk s
  | .copy core w => Sys2Proof.Machine.execCopy core w s
  | .put core w => Sys2Proof.Machine.execPut core w s
  | .get core w => Sys2Proof.Machine.execGet core w s
  | .ckpt core w => Sys2Proof.Machine.execCkpt core w s
  | .fence core w => Sys2Proof.Machine.execFence core w s
  | .post core w => Sys2Proof.Machine.execPost core w s
  | .hint core w => Sys2Proof.Machine.execHint core w s
  | .endKernel core w => Sys2Proof.Machine.execEndKernel core w s
  | .unitInstructionComplete core seq => Sys2Proof.Machine.execUnitInstructionComplete core seq s
  | .rowGate eng => Sys2Proof.Machine.execRowGate eng s
  | .verdictIssue eng twinOk => Sys2Proof.Machine.execVerdictIssue eng twinOk s
  | .sequencerMismatch core => Sys2Proof.Machine.execSequencerMismatch core s
  | .epochCommit core => Sys2Proof.Machine.execEpochCommit core s
  | .holdTimeout die idx => Sys2Proof.Machine.execHoldTimeout die idx s
  | .kernelEndReport core r => Sys2Proof.Machine.execKernelEndReport core r s
  -- placement, batching and tasks
  | .sliceFetchIssue ord => Sys2Proof.Machine.execSliceFetchIssue ord s
  | .stagingMove ord slot => Sys2Proof.Machine.execStagingMove ord slot s
  | .recordRoute seq => Sys2Proof.Machine.execRecordRoute seq s
  | .batchTimerExpiry ord job slot => Sys2Proof.Machine.execBatchTimerExpiry ord job slot s
  | .taskGive ord job => Sys2Proof.Machine.execTaskGive ord job s
  | .workSteal ord job => Sys2Proof.Machine.execWorkSteal ord job s
  | .outputCopyComplete ord job slot => Sys2Proof.Machine.execOutputCopyComplete ord job slot s
  | .barrierDispatchStart seq => Sys2Proof.Machine.execBarrierDispatchStart seq s
  | .paceInterval => Sys2Proof.Machine.execPaceInterval s
  -- gradient reduction
  | .tackleContext p => Sys2Proof.Machine.execTackleContext p s
  | .tackleCodes p => Sys2Proof.Machine.execTackleCodes p s
  | .tackleStatistics p => Sys2Proof.Machine.execTackleStatistics p s
  | .reservationGrant ord red => Sys2Proof.Machine.execReservationGrant ord red s
  | .reductionTimeout red => Sys2Proof.Machine.execReductionTimeout red s
  | .updatePhaseStart red => Sys2Proof.Machine.execUpdatePhaseStart red s
  | .updatePhaseEnd red => Sys2Proof.Machine.execUpdatePhaseEnd red s
  -- embedding tables and search
  | .gatherRowRead n row bad => Sys2Proof.Machine.execGatherRowRead n row bad s
  | .gatherReduce n bag => Sys2Proof.Machine.execGatherReduce n bag s
  | .embApplyPhase n => Sys2Proof.Machine.execEmbApplyPhase n s
  | .bitmapBuildComplete h slot => Sys2Proof.Machine.execBitmapBuildComplete h slot s
  | .sideBatchTimer h => Sys2Proof.Machine.execSideBatchTimer h s
  | .foldApplyPhase h recs => Sys2Proof.Machine.execFoldApplyPhase h recs s
  -- flash media
  | .zqCalibrationShort ch => Sys2Proof.Machine.execZqCalibrationShort ch s
  | .dqRetrain ch => Sys2Proof.Machine.execDqRetrain ch s
  | .nandOperationDispatch lun op => Sys2Proof.Machine.execNandOperationDispatch lun op s
  | .eraseResume lun => Sys2Proof.Machine.execEraseResume lun s
  | .arrayReadComplete lun step => Sys2Proof.Machine.execArrayReadComplete lun step s
  | .programDataInEnd lun => Sys2Proof.Machine.execProgramDataInEnd lun s
  | .programCheck lun ok cws => Sys2Proof.Machine.execProgramCheck lun ok cws s
  | .eraseCheck lun ok => Sys2Proof.Machine.execEraseCheck lun ok s
  | .patrolRead lun quad plane step => Sys2Proof.Machine.execPatrolRead lun quad plane step s
  | .blockRefresh lun quad plane => Sys2Proof.Machine.execBlockRefresh lun quad plane s
  -- flash translation
  | .journalPageClose ord => Sys2Proof.Machine.execJournalPageClose ord s
  | .quadProgress ord die quad wls => Sys2Proof.Machine.execQuadProgress ord die quad wls s
  | .txnCommit txn => Sys2Proof.Machine.execTxnCommit txn s
  | .streamFlush ord => Sys2Proof.Machine.execStreamFlush ord s
  | .gcErase grp t quad => Sys2Proof.Machine.execGcErase grp t quad s
  -- memory integrity
  | .mergeWriteOut m stored => Sys2Proof.Machine.execMergeWriteOut m stored s
  | .dramPatrol ord corrected bad => Sys2Proof.Machine.execDramPatrol ord corrected bad s
  | .scrubStart p inst value => Sys2Proof.Machine.execScrubStart p inst value s
  | .scrubAbort p inst value => Sys2Proof.Machine.execScrubAbort p inst value s
  | .scrubSummary inst corrected bad => Sys2Proof.Machine.execScrubSummary inst corrected bad s
  | .laneRegionTest eng pass => Sys2Proof.Machine.execLaneRegionTest eng pass s
  | .secureScratchTest die pass => Sys2Proof.Machine.execSecureScratchTest die pass s
  | .memCoreRet p core value => Sys2Proof.Machine.execMemCoreRet p core value s
  -- power, supplies and thermal
  | .feedLost b volts => Sys2Proof.Machine.execFeedLost b volts s
  | .feedGood b volts => Sys2Proof.Machine.execFeedGood b volts s
  | .feedReturn => Sys2Proof.Machine.execFeedReturn s
  | .holdupMeasure cap ms => Sys2Proof.Machine.execHoldupMeasure cap ms s
  | .shutdownRequest => Sys2Proof.Machine.execShutdownRequest s
  | .capRecompute storageW inputW => Sys2Proof.Machine.execCapRecompute storageW inputW s
  | .hardwareLimiter on => Sys2Proof.Machine.execHardwareLimiter on s
  | .pwrCapW p value => Sys2Proof.Machine.execPwrCapW p value s
  | .hoistStagingStart core => Sys2Proof.Machine.execHoistStagingStart core s
  | .hintPhaseStart core => Sys2Proof.Machine.execHintPhaseStart core s
  | .hintEnd core => Sys2Proof.Machine.execHintEnd core s
  | .droopEvent core => Sys2Proof.Machine.execDroopEvent core s
  | .thermalTrip die temp => Sys2Proof.Machine.execThermalTrip die temp s
  | .tripEnd => Sys2Proof.Machine.execTripEnd s
  | .thermalThrottleStep core temp => Sys2Proof.Machine.execThermalThrottleStep core temp s
  | .throttleRecoverStep core temp => Sys2Proof.Machine.execThrottleRecoverStep core temp s
  | .storageWarn die temp => Sys2Proof.Machine.execStorageWarn die temp s
  | .storageHot inst temp => Sys2Proof.Machine.execStorageHot inst temp s
  | .thermalShutdown inst temp => Sys2Proof.Machine.execThermalShutdown inst temp s
  | .psIdleTimer ps => Sys2Proof.Machine.execPsIdleTimer ps s
  | .halfStackSleep ord => Sys2Proof.Machine.execHalfStackSleep ord s
  | .backgroundTaskWake => Sys2Proof.Machine.execBackgroundTaskWake s
  | .coolantAlarm inletC flow => Sys2Proof.Machine.execCoolantAlarm inletC flow s
  -- availability
  | .heartbeat => Sys2Proof.Machine.execHeartbeat s
  | .hubTakeover oldFailed => Sys2Proof.Machine.execHubTakeover oldFailed s
  | .mhcLockstepMismatch die => Sys2Proof.Machine.execMhcLockstepMismatch die s
  | .avlSwap p value => Sys2Proof.Machine.execAvlSwap p value s
  | .dieFirmwareSwitch die => Sys2Proof.Machine.execDieFirmwareSwitch die s
  | .dieFence die cause => Sys2Proof.Machine.execDieFence die cause s
  | .avlStRun p die value pass => Sys2Proof.Machine.execAvlStRun p die value pass s
  | .selftestAgeExpiry die block pass => Sys2Proof.Machine.execSelftestAgeExpiry die block pass s
  | .rotationPeriod results => Sys2Proof.Machine.execRotationPeriod results s
  | .rotationRestart p value => Sys2Proof.Machine.execRotationRestart p value s
  -- security
  | .tamperEvent die kinds => Sys2Proof.Machine.execTamperEvent die kinds s
  | .nonce p => Sys2Proof.Machine.execNonce p s
  | .unlock p t => Sys2Proof.Machine.execUnlock p t s
  | .lock p level => Sys2Proof.Machine.execLock p level s
  | .lifecycle p t => Sys2Proof.Machine.execLifecycle p t s
  | .fwStage p image => Sys2Proof.Machine.execFwStage p image s
  | .fwActivate p => Sys2Proof.Machine.execFwActivate p s
  | .svnCommit p => Sys2Proof.Machine.execSvnCommit p s
  | .nonceExpiry => Sys2Proof.Machine.execNonceExpiry s
  | .nonceRefusalEnd => Sys2Proof.Machine.execNonceRefusalEnd s
  | .debugExpiry => Sys2Proof.Machine.execDebugExpiry s
  -- the Wesko monitor
  | .weskoId => Sys2Proof.Machine.execWeskoId s
  | .weskoStatus => Sys2Proof.Machine.execWeskoStatus s
  | .weskoNonce => Sys2Proof.Machine.execWeskoNonce s
  | .weskoToken n data => Sys2Proof.Machine.execWeskoToken n data s
  | .weskoUnlock => Sys2Proof.Machine.execWeskoUnlock s
  | .weskoLifecycle => Sys2Proof.Machine.execWeskoLifecycle s
  | .weskoLock level => Sys2Proof.Machine.execWeskoLock level s
  | .weskoLog index => Sys2Proof.Machine.execWeskoLog index s
  | .weskoRr addr => Sys2Proof.Machine.execWeskoRr addr s
  | .weskoRw addr value => Sys2Proof.Machine.execWeskoRw addr value s
  | .weskoHalt core => Sys2Proof.Machine.execWeskoHalt core s
  | .weskoResume core => Sys2Proof.Machine.execWeskoResume core s
  | .weskoMr code inst addr count => Sys2Proof.Machine.execWeskoMr code inst addr count s
  | .weskoMw code inst addr data => Sys2Proof.Machine.execWeskoMw code inst addr data s
  | .weskoFuse => Sys2Proof.Machine.execWeskoFuse s
  | .weskoTest => Sys2Proof.Machine.execWeskoTest s
  -- pins
  | .perstAssert us => Sys2Proof.Machine.execPerstAssert us s
  | .perstRelease => Sys2Proof.Machine.execPerstRelease s
  | .prsntMate => Sys2Proof.Machine.execPrsntMate s
  | .prsntBreak => Sys2Proof.Machine.execPrsntBreak s
  -- register writes with a behaviour of their own
  | .hifLdQos p ld value => Sys2Proof.Machine.execHifLdQos p ld value s
  | .stayCntClr p die value => Sys2Proof.Machine.execStayCntClr p die value s
  | .qntCntClr p core value => Sys2Proof.Machine.execQntCntClr p core value s
  | .tierCntClr p value => Sys2Proof.Machine.execTierCntClr p value s
  | .tierJobCntClr p job value => Sys2Proof.Machine.execTierJobCntClr p job value s
  | .jobCntClr p job value => Sys2Proof.Machine.execJobCntClr p job value s
  | .tklJobCntClr p job value => Sys2Proof.Machine.execTklJobCntClr p job value s
  | .embHCntClr p h value => Sys2Proof.Machine.execEmbHCntClr p h value s
  | .srchHCntClr p h value => Sys2Proof.Machine.execSrchHCntClr p h value s
  | .mediaChCntClr p ch value => Sys2Proof.Machine.execMediaChCntClr p ch value s
  | .mediaDieCntClr p ord value => Sys2Proof.Machine.execMediaDieCntClr p ord value s
  | .ftlCntClr p ord value => Sys2Proof.Machine.execFtlCntClr p ord value s
  | .hifLdCntClr p ld value => Sys2Proof.Machine.execHifLdCntClr p ld value s
  | .memCoreCntClr p core value => Sys2Proof.Machine.execMemCoreCntClr p core value s
  | .memDieCntClr p die value => Sys2Proof.Machine.execMemDieCntClr p die value s
  | .pwrCntClr p value => Sys2Proof.Machine.execPwrCntClr p value s
  | .avlCntClr p value => Sys2Proof.Machine.execAvlCntClr p value s
  | .secCntClr p value => Sys2Proof.Machine.execSecCntClr p value s
  -- ends of transitions
  | .linkRetrainEnd die port ok lane => Sys2Proof.Machine.execLinkRetrainEnd die port ok lane s
  | .eraseSuspendReady lun => Sys2Proof.Machine.execEraseSuspendReady lun s
  | .linkL0 rate lanes lopt => Sys2Proof.Machine.execLinkL0 rate lanes lopt s
  | .portFailure => Sys2Proof.Machine.execPortFailure s
  | .storageWarnEnd die => Sys2Proof.Machine.execStorageWarnEnd die s
  | .storageHotEnd => Sys2Proof.Machine.execStorageHotEnd s
  | .mhcRestartEnd die => Sys2Proof.Machine.execMhcRestartEnd die s
  | .voltageRampEnd core => Sys2Proof.Machine.execVoltageRampEnd core s
  | .standbyPhyTest pass => Sys2Proof.Machine.execStandbyPhyTest pass s
  | .dynamicAddressAssign addr => Sys2Proof.Machine.execDynamicAddressAssign addr s
  | .handoverTrainingEnd ord => Sys2Proof.Machine.execHandoverTrainingEnd ord s
  | .psTransitionEnd => Sys2Proof.Machine.execPsTransitionEnd s

end Sys2Proof.Machine
end

