-- ==== Sys2Proof/Safety.lean ====
section
/-! DEFINITION. What a safe run is: every waiting command is well formed, and no step stops. -/

namespace Sys2Proof

open Machine

/-- Every waiting command is well formed. -/
def Machine.State.queueOk (s : Machine.State) : Bool := s.pending.all Instr.wf

/-- The state with the same queue and another device. -/
def Machine.State.after (s : Machine.State) (d : Machine.Device) : Machine.State := { s with toDevice := d }

/-- A command that nothing keeps from running: no reserved bit, the right LD, the device in service, no hold, no plane at rest. -/
def Machine.Device.runs (s : Machine.Device) (c : Cmd) (reserved : List Nat) (admin : Bool) : Bool :=
  let n := (s.begin c).1; let t := (s.begin c).2
  !headerBad c.slot reserved && !(admin && c.ld != t.hif.admin) && !t.keyless c.slot && t.lifecycle != 4
    && (match t.cmd n with
      | some p => (t.heldBy p).isNone
      | none => false) && !t.asleep c.slot

/-- A path reaches instance `i` of a 32-bit register for a write: the path leads to the registers and no check of R440 stops the
access. -/
def Machine.Device.reaches (s : Machine.Device) (p : Path) (reg i : Nat) : Bool :=
  pathOk p && s.regPath p && (s.accessFails p (regAddr reg i) false true).isNone

/-- A Ryern row of the opcode table (R431): its command, its opcode, the bytes of its slot that are reserved, and whether only the
admin LD may issue it. -/
structure RyernRow where
  instr : Instr
  op : Nat
  reserved : List Nat
  admin : Bool

open Machine in
/-- Every Ryern row of the opcode table, as rows of a slot; `step` and `fail` are what the medium answers to a raw-media command. -/
def ryernRows (c : Cmd) (step : Nat) (fail : Bool) : List RyernRow := [
  ⟨.nop c, 0x00, bytesOf 16 63, false⟩,
  ⟨.read c, 0x01, bytesOf 36 63, false⟩,
  ⟨.write c, 0x02, bytesOf 36 63, false⟩,
  ⟨.discard c, 0x03, bytesOf 36 63, false⟩,
  ⟨.secureDiscard c, 0x03, bytesOf 36 63, false⟩,
  ⟨.nsCreate c, 0x08, [19, 22, 23], false⟩,
  ⟨.nsDelete c, 0x09, bytesOf 18 63, false⟩,
  ⟨.nsFormat c, 0x0A, bytesOf 18 63, false⟩,
  ⟨.nsAccess c, 0x0B, 17 :: bytesOf 20 63, false⟩,
  ⟨.nsInfo c, 0x0C, bytesOf 17 23 ++ bytesOf 28 63, false⟩,
  ⟨.regRead c, 0x10, bytesOf 17 19 ++ bytesOf 24 63, false⟩,
  ⟨.regWrite c, 0x11, bytesOf 17 19 ++ bytesOf 32 63, false⟩,
  ⟨.timeAnchor c, 0x12, bytesOf 24 63, true⟩,
  ⟨.hostRegister c, 0x13, bytesOf 33 63, false⟩,
  ⟨.hostDeregister c, 0x14, bytesOf 18 63, false⟩,
  ⟨.powerHint c, 0x18, bytesOf 28 63, false⟩,
  ⟨.powerState c, 0x19, bytesOf 17 63, true⟩,
  ⟨.jobOpen c, 0x20, [17, 26, 27] ++ bytesOf 54 63, false⟩,
  ⟨.jobClose c, 0x21, bytesOf 17 63, false⟩,
  ⟨.routeWrite c, 0x22, bytesOf 17 19 ++ bytesOf 32 63, false⟩,
  ⟨.dispatch c, 0x23, 45 :: bytesOf 48 63, false⟩,
  ⟨.shardOpen c, 0x24, 33 :: bytesOf 54 63, false⟩,
  ⟨.shardClose c, 0x25, bytesOf 18 63, false⟩,
  ⟨.reduceOpen c, 0x26, [34, 35] ++ bytesOf 40 63, false⟩,
  ⟨.rankDone c, 0x27, bytesOf 19 63, false⟩,
  ⟨.reduceCommit c, 0x28, bytesOf 18 63, false⟩,
  ⟨.checkpoint c, 0x29, 19 :: bytesOf 28 63, false⟩,
  ⟨.embOpen c, 0x2A, bytesOf 22 63, false⟩,
  ⟨.embClose c, 0x2B, bytesOf 18 63, false⟩,
  ⟨.gather c, 0x2C, bytesOf 40 63, false⟩,
  ⟨.gatherPrefetch c, 0x2C, bytesOf 40 63, false⟩,
  ⟨.embUpdate c, 0x2D, bytesOf 48 63, false⟩,
  ⟨.place c, 0x30, bytesOf 57 63, false⟩,
  ⟨.unplace c, 0x31, bytesOf 19 63, false⟩,
  ⟨.srchOpen c, 0x32, 19 :: bytesOf 22 63, false⟩,
  ⟨.srchClose c, 0x33, bytesOf 17 63, false⟩,
  ⟨.search c, 0x34, [29, 30, 31] ++ bytesOf 48 63, false⟩,
  ⟨.vecInsert c, 0x35, [17, 18, 19] ++ bytesOf 28 63, false⟩,
  ⟨.vecDelete c, 0x36, [17, 18, 19] ++ bytesOf 28 63, false⟩,
  ⟨.indexFold c, 0x37, 17 :: bytesOf 20 63, false⟩,
  ⟨.mediaRawRead c step, 0x40, bytesOf 28 63, true⟩,
  ⟨.mediaRawProgram c fail, 0x40, bytesOf 28 63, true⟩,
  ⟨.mediaRawErase c fail, 0x40, bytesOf 28 63, true⟩]

/-- A unit instruction comes to the head of its queue and issues (R97, R98): the device in which it acts and its entry on the
scoreboard. None when the core has faulted, the instruction is malformed, or it may not issue yet. -/
def Machine.Device.issuesAs (s : Machine.Device) (c : Nat) (i : BitVec 128) : Option (Machine.Device × Machine.Placed) :=
  if s.faulted c || (Machine.malformed i).isSome then none
  else match (match s.findPlaced c i with
    | some p => some (p.seq, s)
    | none => if s.mayPlace c i then some (s.place c i) else none) with
  | none => none
  | some (seq, t) => match (t.core c).board.find? (fun p => p.seq = seq) with
    | none => none
    | some p => if t.mayIssue c p then some (t.issue c p, p) else none

/-- A SYNC instruction acts (R109): the core has not faulted, its sequencer stands still at no other instruction, the instruction is
well formed, its wait is met, and nothing is left on the scoreboard where it drains. -/
def Machine.Device.syncActs (s : Machine.Device) (c : Nat) (i : BitVec 128) (drain : Bool) : Bool :=
  !s.faulted c && !s.seqWaits c && (Machine.malformed i).isNone && s.waitMet c i && !(drain && !(s.core c).board.isEmpty)

/-- The device with the sequencer of a core at a SYNC instruction, and past it again with its semaphore taken (R94, R109). -/
def Machine.Device.syncTaken (s : Machine.Device) (c : Nat) (i : BitVec 128) : Machine.Device :=
  let t := s.setCore c { s.core c with atSync := some i }
  (t.setCore c { t.core c with atSync := none }).takeSem c i

/-- The rows of unit instructions with the unit and operation of each (R99 to R109). -/
def unitRows (c : Nat) (i : BitVec 128) (ok : Bool) : List (Instr × Nat × Nat) := [
  (.wload c i, 1, 1), (.mac c i, 1, 2), (.drain c i, 1, 3), (.add c i ok, 2, 1), (.sub c i ok, 2, 2), (.mul c i ok, 2, 3),
  (.fma c i ok, 2, 4), (.max c i ok, 2, 5), (.min c i ok, 2, 6), (.abs c i ok, 2, 7), (.exp c i ok, 2, 8),
  (.recip c i ok, 2, 9), (.rsqrt c i ok, 2, 0x0A), (.sigmoid c i ok, 2, 0x0B), (.siluMul c i ok, 2, 0x0C), (.cvt c i ok, 2, 0x0D),
  (.rsum c i ok, 2, 0x10), (.rmax c i ok, 2, 0x11), (.absmax c i ok, 2, 0x12), (.copy c i, 3, 1), (.put c i, 3, 2), (.get c i, 3, 3),
  (.ckpt c i, 4, 1), (.fence c i, 4, 2), (.post c i, 4, 3), (.hint c i, 4, 4), (.endKernel c i, 4, 5)]

/-- A step answers a next state. -/
def goesOn (s : Machine.State) : Prop := ∃ t, Machine.step s = .next t

end Sys2Proof
end

