-- ==== Sys2Proof/Certificates/Slice0/Obligations.lean ====
section
/-! DEFINITION. The statements for the provers: what the rules of the spec say each command does, what the machine keeps, and that
every command completes. -/

open Sys2Proof Sys2Proof.Machine

/-- With command c at the front of the queue, a step is exec of c on the state with the queue's rest. (from R424) -/
def Obligations.StepRunsFront : Prop :=
  ∀ (s : State) (c : Instr) (rest : List Instr), s.pending = c :: rest → step s = exec c { s with pending := rest }

/-- With an empty queue a step answers a next state: the device after one nanosecond, and while it is unpowered (stage 2 or 3 of the
sled) the device as it was. In that nanosecond the counters of the four MAST dies run on, each on its own oscillator: the time
run grows by 1 and the counter stays within 20 ppm of it (R30); then routers, adders and busy times go on, and a compute-plane
reset whose time has passed ends. That the tick is what a step does on an empty queue is the model's choice (log entry 1), and
how an oscillator drifts within its bound is free (log entry 153). (from R30, R247) -/
def Obligations.IdleTick : Prop :=
  (∀ s : State, s.pending = [] → step s = .next (s.after s.tick) ∧ (2 ≤ s.sled.stage → s.tick = s.toDevice) ∧
    (s.sled.stage < 2 →
      let t := s.tickNet.tickAdders.tickUnits
      s.tick = if t.resetOver then t.planeUp.settleAll else t)) ∧
  (∀ (s : Device) (i : Nat), { s.tickClock i with free := s.free, clocks := s.clocks } = s ∧ (∀ j, j ≠ i → (s.tickClock i).clock j = s.clock j) ∧
    ∃ v, (s.tickClock i).clock i = (s.clock i).advance v) ∧
  (∀ (c : MastClock) (v : Nat), (c.advance v).ran = c.ran + 1 ∧
    (c.advance v).ran - oscBound (c.advance v).ran ≤ (c.advance v).counter ∧
    (c.advance v).counter ≤ (c.advance v).ran + oscBound (c.advance v).ran)

/-- A command that goes on leaves the queue of waiting commands as it was: only the step takes commands from it. (from R424) -/
def Obligations.QueueUntouched : Prop :=
  ∀ (c : Instr) (s t : State), exec c s = .next t → t.pending = s.pending

/-- The invariant that every waiting command is well formed is kept by every step, and from every state that has it the step answers
a next state: no well-formed command faults or is refused, in any state of the device, reached by a run or not. (from R22, R42,
R99, R431) -/
def Obligations.WellFormedRunsOn : Prop :=
  ∀ s : State, s.queueOk = true → ∃ t, step s = .next t ∧ t.queueOk = true

/-- No command ends in a fault, well formed or not: one that names a unit the device lacks is refused by name, and every other one
has a next state. (from R22, R431) -/
def Obligations.NothingFaults : Prop :=
  ∀ (c : Instr) (s : State), (∃ t, exec c s = .next t) ∨ exec c s = .refused .noSuchUnit

/-- After reset nothing waits and nothing has been sent; the counters of the MAST dies are 0 (R30); every location of every memory
reads 0 and no word is poisoned (R472); LD 0 is the admin LD (R418); the registers of the tables hold their reset values, among
them HIF_ADMIT_MAX 8,192 (R444) and MEM_PATROL_CTL.HOURS 24 (R474), and the cap is 2,600 W. (from R30, R418, R444, R472, R474,
R519) -/
def Obligations.ResetState : Prop :=
  State.reset.pending = [] ∧ State.reset.out = [] ∧ State.reset.net = [] ∧ State.reset.cmds = [] ∧
  (∀ i, (State.reset.clock i).counter = 0) ∧
  (∀ m i a, State.reset.byteAt m i a = 0) ∧ (∀ m i w, State.reset.wordPoison m i w = false) ∧
  State.reset.hif.admin = 0 ∧ State.reset.rd Reg.HIF_ADMIT_MAX 0 = 8192 ∧
  State.reset.rd Reg.MEM_PATROL_CTL 0 = 24 ∧ State.reset.rdf Reg.PWR_CAP_W 0 11 0 = 2600 ∧ State.reset.queueOk = true ∧ State.reset.mem.wf = true

/-- A write that reaches a counter-clearing register with bit 0 set returns the counters that the block's rule names to 0, and
leaves every other register and all else of the device as it was; the spells of a job that still last are counted up to the
write first (R246), so that the time before it is not counted after it. (from R218, R220, R246, R251, R287, R311, R337, R454) -/
def Obligations.CountersClearedPerJobAndHandle : Prop :=
  (∀ (s : State) (p : Path) (v : BitVec 32), s.reaches p Reg.TIER_CNT_CLR 0 = true → s.faults = [] → v.getLsbD 0 = true →
    exec (.tierCntClr p v) s = .next (s.after (s.zero 0 ([Reg.TIER_EVICTIONS, Reg.TIER_FLASH_BYTES, Reg.TIER_HOST_BYTES, Reg.TIER_REFUSED])))) ∧
  (∀ (s : State) (p : Path) (j : Nat) (v : BitVec 32), j < 64 → s.reaches p Reg.TIER_JOB_CNT_CLR j = true → s.faults = [] → v.getLsbD 0 = true →
    exec (.tierJobCntClr p j v) s = .next (s.after (s.zero j ([Reg.TIER_JOB_EVICT_OWN, Reg.TIER_JOB_EVICT_OTHER, Reg.TIER_JOB_REFETCH_BYTES, Reg.TIER_JOB_DEMAND_FETCH, Reg.TIER_JOB_DEMAND_HIT, Reg.TIER_JOB_SPACE_WAIT, Reg.TIER_JOB_WINDOW_STALL, Reg.TIER_JOB_REFUSED])))) ∧
  (∀ (s : State) (p : Path) (j : Nat) (v : BitVec 32), j < 64 → s.reaches p Reg.JOB_CNT_CLR j = true → s.faults = [] → v.getLsbD 0 = true →
    exec (.jobCntClr p j v) s = .next (s.after ((s.countOpen j).zero j ([Reg.JOB_RECORDS, Reg.JOB_TASKS, Reg.JOB_REL_FULL, Reg.JOB_REL_FLUSH, Reg.JOB_REL_TIMER, Reg.JOB_REL_PRESSURE, Reg.JOB_STEALS, Reg.JOB_BUSY_NS, Reg.JOB_IDLE_NS, Reg.JOB_BARRIER_WAIT_NS, Reg.JOB_SLOT_WAIT_NS])))) ∧
  (∀ (s : State) (p : Path) (j : Nat) (v : BitVec 32), j < 64 → s.reaches p Reg.TKL_JOB_CNT_CLR j = true → s.faults = [] → v.getLsbD 0 = true →
    exec (.tklJobCntClr p j v) s = .next (s.after (s.zero j ([Reg.TKL_JOB_ELEMS, Reg.TKL_JOB_ADD_WAIT_NS, Reg.TKL_JOB_RESV_WAIT_NS, Reg.TKL_JOB_LATE_DISCARD, Reg.TKL_JOB_REFUSED_PKT])))) ∧
  (∀ (s : State) (p : Path) (h : Nat) (v : BitVec 32), h < 64 → s.reaches p Reg.EMB_H_CNT_CLR h = true → s.faults = [] → v.getLsbD 0 = true →
    exec (.embHCntClr p h v) s = .next (s.after (s.zero h ([Reg.EMB_H_COMMANDS, Reg.EMB_H_ENTRIES, Reg.EMB_H_ROWS_READ, Reg.EMB_H_CACHE_HITS, Reg.EMB_H_FLASH_READS, Reg.EMB_H_ROWS_UPDATED, Reg.EMB_H_PF_EVICT, Reg.EMB_H_PF_DROP, Reg.EMB_H_DUP_MAX, Reg.EMB_H_DUP_SAT])))) ∧
  (∀ (s : State) (p : Path) (h : Nat) (v : BitVec 32), h < 64 → s.reaches p Reg.SRCH_H_CNT_CLR h = true → s.faults = [] → v.getLsbD 0 = true →
    exec (.srchHCntClr p h v) s = .next (s.after (s.zero h ([Reg.SRCH_H_QUERIES, Reg.SRCH_H_NODES_READ, Reg.SRCH_H_PF_WASTED, Reg.SRCH_H_RERANKED, Reg.SRCH_H_SHORT, Reg.SRCH_H_BM_HITS, Reg.SRCH_H_BM_BUILDS, Reg.SRCH_H_POSTFILTER, Reg.SRCH_H_UNREADABLE, Reg.SRCH_H_BM_BUILD_NS])))) ∧
  (∀ (s : State) (p : Path) (ld : Nat) (v : BitVec 32), ld < 16 → s.reaches p Reg.HIF_LD_CNT_CLR ld = true → s.faults = [] → v.getLsbD 0 = true →
    exec (.hifLdCntClr p ld v) s = .next (s.after (s.zero ld ([Reg.HIF_LD_COMMANDS, Reg.HIF_LD_QOS_WAIT_NS, Reg.HIF_LD_REFUSED_QOS, Reg.HIF_LD_DELAYED, Reg.HIF_LD_DMA_BYTES, Reg.HIF_LD_MEM_BYTES, Reg.HIF_LD_QRESETS]))))

/-- A write that reaches a counter-clearing register returns the counters that its bits name to 0 and leaves every other register
and all else of the device as it was; a write with no such bit changes nothing. (from R70, R149, R373, R374, R411, R483, R484,
R519, R550, R580) -/
def Obligations.CountersClearedPerUnit : Prop :=
  (∀ (s : State) (p : Path) (c : Nat) (v : BitVec 32), c < 224 → s.reaches p Reg.MEDIA_CH_CNT_CLR c = true → s.faults = [] → v.getLsbD 0 = true →
    exec (.mediaChCntClr p c v) s = .next (s.after (s.zero c ([Reg.MEDIA_CH_BUS_NS, Reg.MEDIA_CH_READS, Reg.MEDIA_CH_PROGRAMS, Reg.MEDIA_CH_ERASES, Reg.MEDIA_CH_RETRAINS] ++
      regArr Reg.MEDIA_CH_DECODE 4 8 ++ regArr Reg.MEDIA_ARB_DISPATCH 8 5 ++ regArr Reg.MEDIA_ARB_PROMOTE 4 4 ++ regArr Reg.MEDIA_ARB_MAXWAIT 4 4)))) ∧
  (∀ (s : State) (p : Path) (o : Nat) (v : BitVec 32), o < 56 → s.reaches p Reg.MEDIA_DIE_CNT_CLR o = true → s.faults = [] → v.getLsbD 0 = true →
    exec (.mediaDieCntClr p o v) s = .next (s.after { s.zero o [Reg.MEDIA_ENG_SCANNED, Reg.MEDIA_ENG_OUT, Reg.MEDIA_ENG_DIST, Reg.MEDIA_SUSPENDS, Reg.MEDIA_RECONS, Reg.MEDIA_NOT_ERASED, Reg.MEDIA_PROG_FAILS, Reg.MEDIA_ERASE_FAILS, Reg.MEDIA_PATROL_FLAGS] with
      counted := nset 0 (nset 0 s.counted (regAddr Reg.MEDIA_ENG_SCANNED o) s.now) (regAddr Reg.MEDIA_ENG_OUT o) s.now })) ∧
  (∀ (s : State) (p : Path) (o : Nat) (v : BitVec 32), o < 56 → s.reaches p Reg.FTL_CNT_CLR o = true → s.faults = [] → v.getLsbD 0 = true →
    exec (.ftlCntClr p o v) s = .next (s.after (s.zero o ([Reg.FTL_HOST_CW, Reg.FTL_RELOC_CW, Reg.FTL_LOG_CW, Reg.FTL_PARITY_CW, Reg.FTL_THROTTLE_NS, Reg.FTL_GC_CAS_LOST, Reg.FTL_RETIRED, Reg.FTL_RELOCATIONS, Reg.FTL_REFRESHES])))) ∧
  (∀ (s : State) (p : Path) (c : Nat) (v : BitVec 32), c < 400 → s.reaches p Reg.MEM_CORE_CNT_CLR c = true → s.faults = [] → v.getLsbD 0 = true →
    exec (.memCoreCntClr p c v) s = .next (s.after (s.zero c ([Reg.MEM_CORE_CORRECTED, Reg.MEM_CORE_UNCORR, Reg.MEM_CORE_POISON_READ, Reg.MEM_CORE_POISON_PASS, Reg.MEM_CORE_MERGE_RMW, Reg.MEM_CORE_MERGE_POISON, Reg.MEM_CORE_LTEST_PASSES])))) ∧
  (∀ (s : State) (p : Path) (d : Nat) (v : BitVec 32), d < 100 → s.reaches p Reg.MEM_DIE_CNT_CLR d = true → s.faults = [] → v.getLsbD 0 = true →
    exec (.memDieCntClr p d v) s = .next (s.after (s.zero d ([Reg.MEM_DIE_CORRECTED, Reg.MEM_DIE_UNCORR, Reg.MEM_DIE_POISON_READ, Reg.MEM_DIE_MERGE_RMW, Reg.MEM_DIE_MERGE_POISON])))) ∧
  (∀ (s : State) (p : Path) (v : BitVec 32), s.reaches p Reg.PWR_CNT_CLR 0 = true → s.faults = [] → v.getLsbD 0 = true →
    exec (.pwrCntClr p v) s = .next (s.after (s.zero 0 ([Reg.PWR_SWITCHOVERS, Reg.PWR_HINTS_HOIST, Reg.PWR_HINTS_REEF, Reg.PWR_HINTS_LATE, Reg.PWR_HINTS_IGNORED, Reg.PWR_THERM_TRIPS])))) ∧
  (∀ (s : State) (p : Path) (v : BitVec 32), s.reaches p Reg.AVL_CNT_CLR 0 = true → s.faults = [] → v.getLsbD 0 = true →
    exec (.avlCntClr p v) s = .next (s.after (s.zero 0 ([Reg.AVL_ROT_CYCLES, Reg.AVL_FAILOVERS])))) ∧
  (∀ (s : State) (p : Path) (v : BitVec 32), s.reaches p Reg.SEC_CNT_CLR 0 = true → s.faults = [] → v.getLsbD 0 = true →
    exec (.secCntClr p v) s = .next (s.after (s.zero 0 ([Reg.SEC_UNLOCK_FAILS])))) ∧
  (∀ (s : State) (p : Path) (c : Nat) (v : BitVec 32), c < 400 → s.reaches p Reg.QNT_CNT_CLR c = true → s.faults = [] →
    ∃ t, exec (.qntCntClr p c v) s = .next (s.after t) ∧ { t with regs := s.regs } = s.toDevice ∧
      (∀ e < 4, v.getLsbD e = true → t.rd (Reg.QNT_NAN + 4 * e) c = 0 ∧ ∀ k < 8, t.rd (Reg.QNT_SAT + 32 * e + 4 * k) c = 0) ∧
      (v.getLsbD 4 = true → t.rd Reg.QNT_VSAT c = 0 ∧ t.rd Reg.QNT_VNAN c = 0) ∧
      (v.getLsbD 5 = true → t.rd Reg.QNT_SR_DRAWS c = 0) ∧
      (v.toNat % 64 = 0 → t = s.toDevice)) ∧
  (∀ (s : State) (p : Path) (d : Nat) (v : BitVec 32), d < 100 → s.reaches p Reg.STAY_CNT_CLR d = true → s.faults = [] →
    ∃ t, exec (.stayCntClr p d v) s = .next (s.after t) ∧ { t with regs := s.regs, fab := s.fab } = s.toDevice ∧
      (∀ q < 4, v.getLsbD q = true → ∀ r ∈ [Reg.STAY_PORT_TX_FLITS, Reg.STAY_PORT_RX_FLITS, Reg.STAY_PORT_CORRECTED,
        Reg.STAY_PORT_REPLAYS, Reg.STAY_PORT_CREDIT_STALL, Reg.STAY_PORT_TRUNCATED], t.rd (portReg r q) d = 0) ∧
      (v.getLsbD 5 = true → t.rd Reg.STAY_DISCARD d = 0) ∧
      (v.getLsbD 4 = false → t.fab = s.fab) ∧
      (v.toNat % 64 = 0 → t = s.toDevice))

/-- A write of PWR_CAP_W outside 1,200 to 3,000 completes with INVALID_FIELD and changes nothing, by the register operation and by
the event alike. One inside the range sets the register, raises INT_CAUSE.POWER (bit 4) of every bound LD and writes a
CAP_CHANGE record (0x0F05) with the new and the old value; the ceiling and the frequencies are as they were, and the next
recomputation in PS0 sets the ceiling anew from a device whose PWR_CAP_W is the value written. (states R503) -/
def Obligations.CapWrite : Prop :=
  ∀ (s : State) (p : Path) (v : BitVec 32), s.reaches p Reg.PWR_CAP_W 0 = true → s.faults = [] → s.rd Reg.PWR_CAP_W 0 < 4096 →
    v.toNat < 4096 →
    ((v.toNat < 1200 ∨ 3000 < v.toNat) → exec (.pwrCapW p v) s = .next s ∧
      ∀ cmd pass, s.regWriteBy p cmd pass (regAddr Reg.PWR_CAP_W 0) false v.toNat = (some St.invalidField, s.toDevice)) ∧
    (1200 ≤ v.toNat → v.toNat ≤ 3000 →
      let t := ((s.wr Reg.PWR_CAP_W 0 v.toNat).raiseAll 4).pwrRecord 0x0F05 0x300 v.toNat (s.rd Reg.PWR_CAP_W 0)
      exec (.pwrCapW p v) s = .next (s.after t) ∧
      (∀ ld < 16, s.rdf Reg.HIF_LD_STATUS ld 0 0 = 1 → (t.ld ld).intCause.testBit 4 = true) ∧
      t.rd Reg.PWR_CAP_W 0 = v.toNat ∧ t.pwr = s.pwr ∧
      (∀ q j, regAddr q j ≠ regAddr Reg.PWR_CAP_W 0 → t.rd q j = s.rd q j) ∧
      (∀ w i, t.ps = 0 → ((t.measurePower w i).rd Reg.PWR_CAP_W 0 = v.toNat ∧
        exec (.capRecompute w i) (s.after t) = .next (s.after (t.measurePower w i).newCeiling))))

/-- A write that sets WEIGHT outside 1 to 64 changes nothing; any other sets WEIGHT and REFUSE_MS to the bits written and leaves
every other register and all else of the device as it was, so that the reserves of R444 follow from the new weight at once.
(from R455, R444) -/
def Obligations.QosWrite : Prop :=
  ∀ (s : State) (p : Path) (ld : Nat) (v : BitVec 32), ld < 16 → s.reaches p Reg.HIF_LD_QOS ld = true → s.faults = [] →
    s.rd Reg.HIF_LD_QOS ld < 2 ^ 32 →
    ((v.toNat % 128 = 0 ∨ 64 < v.toNat % 128) → exec (.hifLdQos p ld v) s = .next s) ∧
    (1 ≤ v.toNat % 128 → v.toNat % 128 ≤ 64 → ∃ t, exec (.hifLdQos p ld v) s = .next (s.after t) ∧
      t.weight ld = v.toNat % 128 ∧ t.rdf Reg.HIF_LD_QOS ld 31 16 = v.toNat / 2 ^ 16 ∧
      (∀ q j, regAddr q j ≠ regAddr Reg.HIF_LD_QOS ld → t.rd q j = s.rd q j) ∧ { t with regs := s.regs } = s.toDevice)

/-- A write that reaches MEDIA_RAW_GRANT, MEM_SCRUB_CTL, MEM_CORE_RET, AVL_SWAP, AVL_ST_RUN or AVL_ROT_CTL carries out the operation
that its rule gives where the operation's conditions hold, and changes nothing where they do not: a grant or release of a quad
(R359), the start or abort of a scrub pass (R475, R476), retention of banks (R480), a planned swap (R528), a self-test of the
selected block with what it finds (R543), and a rotation from group 0 when EN changes to 1 (R547). The operations are the
model's own functions for those rules. (from R359, R475, R476, R480, R528, R543, R547, R440) -/
def Obligations.RegisterOperations : Prop :=
  (∀ (s : State) (p : Path) (o : Nat) (v : BitVec 32), o < 56 → s.reaches p Reg.MEDIA_RAW_GRANT o = true → v.getLsbD 31 = true →
    ((s.rawGrant o v.toNat).1 = St.ok → exec (.quadGrant p o v) s = .next (s.after (s.rawGrant o v.toNat).2.settleFaults)) ∧
    ((s.rawGrant o v.toNat).1 ≠ St.ok → exec (.quadGrant p o v) s = .next s)) ∧
  (∀ (s : State) (p : Path) (o : Nat) (v : BitVec 32), o < 56 → s.reaches p Reg.MEDIA_RAW_GRANT o = true → v.getLsbD 30 = true →
    ((s.rawGrant o v.toNat).1 = St.ok → exec (.quadRelease p o v) s = .next (s.after (s.rawGrant o v.toNat).2.settleFaults)) ∧
    ((s.rawGrant o v.toNat).1 ≠ St.ok → exec (.quadRelease p o v) s = .next s)) ∧
  (∀ (s : State) (p : Path) (c : Nat) (v : BitVec 32), c < 400 → s.reaches p Reg.MEM_SCRUB_CTL_CORE c = true → v.getLsbD 0 = true →
    (∀ t, s.scrubCtl c v.toNat = some t → exec (.scrubStart p c v) s = .next (s.after t.settleFaults)) ∧
    (s.scrubCtl c v.toNat = none → exec (.scrubStart p c v) s = .next s)) ∧
  (∀ (s : State) (p : Path) (d : Nat) (v : BitVec 32), d < 100 → s.reaches p Reg.MEM_SCRUB_CTL_DIE d = true → v.getLsbD 0 = true →
    (∀ t, s.scrubCtl (0x200 + d) v.toNat = some t → exec (.scrubStart p (0x200 + d) v) s = .next (s.after t.settleFaults)) ∧
    (s.scrubCtl (0x200 + d) v.toNat = none → exec (.scrubStart p (0x200 + d) v) s = .next s)) ∧
  (∀ (s : State) (p : Path) (c : Nat) (v : BitVec 32) (t : Device), c < 400 → s.reaches p Reg.MEM_SCRUB_CTL_CORE c = true →
    v.getLsbD 1 = true → s.scrubCtl c v.toNat = some t → exec (.scrubAbort p c v) s = .next (s.after t.settleFaults)) ∧
  (∀ (s : State) (p : Path) (d : Nat) (v : BitVec 32) (t : Device), d < 100 → s.reaches p Reg.MEM_SCRUB_CTL_DIE d = true →
    v.getLsbD 1 = true → s.scrubCtl (0x200 + d) v.toNat = some t →
    exec (.scrubAbort p (0x200 + d) v) s = .next (s.after t.settleFaults)) ∧
  (∀ (s : State) (p : Path) (c : Nat) (v : BitVec 32), c < 400 → s.reaches p Reg.MEM_CORE_RET c = true →
    (s.rdf Reg.CORE_STATE c 2 0 ≠ 1 ∧ s.rdf Reg.CORE_STATE c 2 0 ≠ 6 → exec (.memCoreRet p c v) s = .next s) ∧
    (∀ t, s.retain c v.toNat = some t → exec (.memCoreRet p c v) s = .next (s.after t.settleFaults))) ∧
  (∀ (s : State) (p : Path) (v : BitVec 32), s.reaches p Reg.AVL_SWAP 0 = true → v.getLsbD 0 = true →
    (s.rdf Reg.AVL_STATUS 0 1 1 = 0 ∨ s.rdf Reg.AVL_STATUS 0 4 4 = 1 → exec (.avlSwap p v) s = .next s) ∧
    (s.rdf Reg.AVL_STATUS 0 1 1 = 1 ∧ s.rdf Reg.AVL_STATUS 0 4 4 = 0 →
      exec (.avlSwap p v) s = .next (s.after (s.takeRole true).settleAll.settleFaults))) ∧
  (∀ (s : State) (p : Path) (d : Nat) (v : BitVec 32) (pass : Bool), d < 100 → s.reaches p Reg.AVL_ST_RUN d = true →
    v.getLsbD 0 = true → exec (.avlStRun p d v pass) s =
      .next (s.after (s.selfTest d (s.rdf Reg.AVL_ST_SEL d 5 0) pass).settleFaults)) ∧
  (∀ (s : State) (p : Path) (v : BitVec 32), s.reaches p Reg.AVL_ROT_CTL 0 = true → v.toNat < 2 ^ 13 →
    60 ≤ v.toNat / 2 → v.toNat / 2 ≤ 3600 → v.getLsbD 0 = true → s.rd Reg.AVL_ROT_CTL 0 < 2 ^ 13 → s.rdf Reg.AVL_ROT_CTL 0 0 0 = 0 →
    exec (.rotationRestart p v) s =
      .next (s.after (((s.wr Reg.AVL_ROT_CTL 0 v.toNat).endGroup.startGroup 0).settleAll).settleFaults))

/-- A REGISTER_WRITE by the fabric manager, an LD or the monitor changes nothing but the count of free values where the path does
not lead to the registers, where R3 or R566 stops the access, and where the register is read-only (R4); BAR0 takes its offset
(R419). A write that its checks let through has the register's effect. (from R3, R4, R419, R440, R566) -/
def Obligations.RegisterWriteByPath : Prop :=
  (∀ (s : State) (p : Path) (addr : Nat) (wide : Bool) (v : BitVec 64), pathOk p = true → (∀ ld, p ≠ .bar ld) →
    (s.draw.2.regPath p = false ∨ (s.draw.2.accessFails p addr wide true).isSome = true ∨
      (∃ t r k, regAt addr = some (t, r, k) ∧ r.access = .ro ∧ s.faults = [])) →
    exec (.registerWrite p addr wide v) s = .next (s.after s.draw.2)) ∧
  (∀ (s : State) (p : Path) (addr : Nat) (wide : Bool) (v : BitVec 64) (t : RegTable) (r : RegRow) (k : Nat),
    pathOk p = true → (∀ ld, p ≠ .bar ld) → s.draw.2.regPath p = true → s.draw.2.accessFails p addr wide true = none →
    regAt addr = some (t, r, k) → r.access ≠ .ro → checksOk r (if wide then v.toNat else v.toNat % 2 ^ 32) = true →
    (s.draw.2.regEffect p none (s.draw.1 % 2 == 0) addr r (posOf addr t r k) (if wide then v.toNat else v.toNat % 2 ^ 32)).1 = some St.ok →
    exec (.registerWrite p addr wide v) s = .next (s.after (s.draw.2.regEffect p none (s.draw.1 % 2 == 0) addr r (posOf addr t r k)
      (if wide then v.toNat else v.toNat % 2 ^ 32)).2.settleFaults)) ∧
  (∀ (s : State) (ld off : Nat) (wide : Bool) (v : BitVec 64), ld < 16 → s.hubRuns = true →
    exec (.registerWrite (.bar ld) off wide v) s =
      .next (s.after (s.barWrite ld off wide (if wide then v.toNat else v.toNat % 2 ^ 32)).settleFaults))

/-- A doorbell to a mailbox that is not enabled, or that is resetting, is ignored. A doorbell to one that is enabled makes the slots
from the last doorbell value up to the new one pending and leaves all else as it was. The mailbox whose turn it is among those
of its LD that may fetch takes one pending slot: the 64 bytes at SQ_HEAD in the mailbox SRAM become a fetched command, SQ_HEAD
advances by one modulo 256, the turn is noted, and nothing else changes; a mailbox whose turn it is not waits; a slot with a
poisoned word, or one taken in a queue reset, makes a command that ends at once. (from R417, R419, R422, R423, R424, R449, R468) -/
def Obligations.MailboxSlots : Prop :=
  (∀ (s : State) (ld mb : Nat) (v : BitVec 32), ld < 16 → mb < 64 →
    ((s.mbox ld mb).enabled = false ∨ (s.mbox ld mb).resetting = true → exec (.mbSqTail ld mb v) s = .next s) ∧
    ((s.mbox ld mb).enabled = true → (s.mbox ld mb).resetting = false → s.sled.stage = 0 →
      (v.toNat % 256 + 256 - (s.mbox ld mb).tail) % 256 ≠ 0 →
      exec (.mbSqTail ld mb v) s = .next (s.after (s.setMb ld mb { s.mbox ld mb with
        tail := v.toNat % 256,
        bells := (s.mbox ld mb).bells ++
          [⟨(v.toNat % 256 + 256 - (s.mbox ld mb).tail) % 256, s.now, s.fullTime, s.hif.nextReq⟩] })))) ∧
  (∀ (s : State) (ld mb : Nat) (b : Bell) (rest : List Bell), ld < 16 → mb < 64 → (s.mbox ld mb).bells = b :: rest →
    nextMb (s.ld ld).fetchMb (s.mayFetch ld) = some mb →
    let u := s.setLd ld { s.ld ld with fetchMb := mb }
    let m := s.mbox ld mb
    let p : Pending :=
      { n := s.hif.next, ld, mb, slot := BitVec.ofNat 512 (leNat (s.readMem 7 42 (slotAt ld mb m.sqHead) 64)), phase := .fetched,
        arrival := b.at_, full := b.full, mem := b.mem, held := none, waits := [], ran := false, order := 0, started := 0, status := 0,
        reason := 0, result := 0, resultHi := 0, cut := false, silent := false }
    let t : Device := ({ u with cmds := s.cmds ++ [p], hif := { u.hif with next := s.hif.next + 1 } }).setMb ld mb
      { m with sqHead := (m.sqHead + 1) % 256, bells := takeBell m.bells }
    (m.resetting = false → s.poisonIn 7 42 (slotAt ld mb m.sqHead) 64 = [] → exec (.commandFetch ld mb) s = .next (s.after t)) ∧
    (m.resetting = true → exec (.commandFetch ld mb) s = .next (s.after (t.finish s.hif.next St.queueReset 0))) ∧
    (m.resetting = false → s.poisonIn 7 42 (slotAt ld mb m.sqHead) 64 ≠ [] →
      exec (.commandFetch ld mb) s = .next (s.after (t.finish s.hif.next St.invalidField 0)))) ∧
  (∀ (s : State) (ld mb : Nat), ld < 16 → mb < 64 → nextMb (s.ld ld).fetchMb (s.mayFetch ld) ≠ some mb →
    exec (.commandFetch ld mb) s = .next s)

/-- A write of MB_CQ_HEAD consumes the entries it passes. A write of MB_CTL stores the vector and coalescing fields; ENABLE = 1 is
ignored while MB_CQ_BASE is 0; ENABLE = 0 with nothing outstanding disables the mailbox; ENABLE = 0 with commands outstanding,
or RESET, starts a queue reset. A queue reset ends once nothing of the mailbox is pending or outstanding: SQ_HEAD and the
doorbells return to 0 and FAULT clears; until then its end does nothing. A function-level reset resets the mailboxes of its LD
without completions. (from R420, R423, R429, R449, R451) -/
def Obligations.MailboxControl : Prop :=
  (∀ (s : State) (ld mb : Nat) (v : BitVec 32), ld < 16 → mb < 64 →
    exec (.mbCqHead ld mb v) s = .next (s.after (s.setMb ld mb { s.mbox ld mb with
      cqHead := v.toNat % 256, unread := (s.mbox ld mb).unread - (v.toNat % 256 + 256 - (s.mbox ld mb).cqHead) % 256 }))) ∧
  (∀ (s : State) (ld mb : Nat) (v : BitVec 32), ld < 16 → mb < 64 → s.sled.stage = 0 → v.getLsbD 0 = true → v.getLsbD 1 = false →
    exec (.mbEnable ld mb v) s = .next (s.after (s.setMb ld mb { s.mbox ld mb with
      ctl := v.toNat / 4 % 2 ^ 26 * 4, enabled := (if (s.mbox ld mb).cqBase = 0 then (s.mbox ld mb).enabled else true) }))) ∧
  (∀ (s : State) (ld mb : Nat) (v : BitVec 32), ld < 16 → mb < 64 → s.sled.stage = 0 → v.getLsbD 0 = false → v.getLsbD 1 = false →
    let t := s.setMb ld mb { s.mbox ld mb with ctl := v.toNat / 4 % 2 ^ 26 * 4, enabled := false }
    ((s.mbox ld mb).waiting = 0 → s.mbCmds ld mb = [] → exec (.mbEnable ld mb v) s = .next (s.after t)) ∧
    ((s.mbox ld mb).waiting ≠ 0 ∨ s.mbCmds ld mb ≠ [] → (s.mbox ld mb).resetting = false →
      exec (.mbEnable ld mb v) s = .next (s.after (t.startReset ld mb)))) ∧
  (∀ (s : State) (ld mb : Nat) (v : BitVec 32), ld < 16 → mb < 64 → s.sled.stage = 0 → v.getLsbD 0 = false →
    (s.mbox ld mb).resetting = false → exec (.queueReset ld mb v) s = .next (s.after
      ((s.setMb ld mb { s.mbox ld mb with ctl := (v.toNat ||| 2) / 4 % 2 ^ 26 * 4, enabled := false }).startReset ld mb))) ∧
  (∀ (s : State) (ld mb : Nat), ld < 16 → mb < 64 → (s.mbox ld mb).resetting = true →
    ((s.mbox ld mb).waiting = 0 → s.mbCmds ld mb = [] → exec (.queueResetEnd ld mb) s = .next (s.after (s.setMb ld mb { s.mbox ld mb with
      sqHead := 0, tail := 0, bells := [], fault := false, resetting := false }))) ∧
    ((s.mbox ld mb).waiting ≠ 0 ∨ s.mbCmds ld mb ≠ [] → exec (.queueResetEnd ld mb) s = .next s)) ∧
  (∀ (s : State) (ld : Nat), ld < 16 → exec (.functionLevelReset ld) s = .next (s.after (s.flr ld)))

/-- An admissible command takes an admission while one is free, its mailbox has the turn in its LD and, when admissions are scarce,
its LD has the turn; while every admission is in use it waits. An admitted command starts once no hold keeps it, and a reserved
opcode then ends with INVALID_FIELD; one that is held notes the hold with its delay reason, once. A command that has waited its
deadline for an admission, counted over the time in which every admission was in use, completes with REFUSED_QOS under reason 1;
one that has not stays. A completion entry is written to the ring in its LD's turn for CXL.io, when the link takes it; when the
write fails, the mailbox sets FAULT and MB_FAULT (bit 6) is raised; after a fault or for a silent command the entry is
discarded. (from R423, R424, R426, R427, R429, R431, R444, R445, R446, R447, R448, R451) -/
def Obligations.CommandPipeline : Prop :=
  (∀ (s : State) (ld mb : Nat) (p : Pending), ld < 16 → mb < 64 →
    s.mbReady ld mb = some p → nextMb (s.ld ld).admitMb (fun m => (s.mbReady ld m).isSome) = some mb → s.hubRuns = true → s.linkUp = true →
    (s.rd Reg.HIF_ADMITTED 0 < s.rd Reg.HIF_ADMIT_MAX 0 → s.hif.scarce = false ∨ s.turnLd = some ld →
      exec (.commandAdmit ld mb) s = .next (s.after (s.enter p))) ∧
    (s.rd Reg.HIF_ADMIT_MAX 0 ≤ s.rd Reg.HIF_ADMITTED 0 → exec (.commandAdmit ld mb) s = .next s)) ∧
  (∀ (s : State) (n : Nat) (p : Pending), s.cmd n = some p → p.n = n → p.phase = .admitted → p.held = none → s.hubRuns = true →
    let t := s.setCmd { p with phase := .started, started := s.now, ran := false }
    (s.heldBy p = none → opcodes.contains (fld p.slot 0 1) = true → exec (.commandExecutionStart n) s = .next (s.after t)) ∧
    (s.heldBy p = none → opcodes.contains (fld p.slot 0 1) = false →
      exec (.commandExecutionStart n) s = .next (s.after (t.finish n St.invalidField 0))) ∧
    (∀ r, s.heldBy p = some r →
      exec (.commandExecutionStart n) s = .next (s.after (s.setCmd { p with held := some (r, s.now) })))) ∧
  (∀ (s : State) (n r t : Nat) (p : Pending), s.cmd n = some p → p.phase = .admitted → s.hubRuns = true → s.heldBy p = some r →
    p.held = some (r, t) → exec (.commandExecutionStart n) s = .next s) ∧
  (∀ (s : State) (n : Nat) (p : Pending), s.cmd n = some p → p.phase = .fetched → p.silent = false →
    let ms := if fld p.slot 4 2 = 0 then s.rdf Reg.HIF_LD_QOS p.ld 31 16 else fld p.slot 4 2
    let wait := s.fullTime - p.full
    (ms ≠ 0 → ms * 1000000 ≤ wait → exec (.admitDeadlineExpiry n) s =
      .next (s.after (((s.addWait n 1 wait).inc Reg.HIF_LD_QOS_WAIT_NS p.ld wait).finish n St.refusedQos 0))) ∧
    (ms = 0 ∨ wait < ms * 1000000 → exec (.admitDeadlineExpiry n) s = .next s)) ∧
  (∀ (s : State) (n : Nat) (p : Pending), s.cmd n = some p → p.phase = .ended → s.hubRuns = true →
    (p.silent = false → (s.mbox p.ld p.mb).fault = false → s.linkUp = true → s.dmaLd = some p.ld →
      let t := s.takeDma p.ld 32
      exec (.completionWrite n true) s = .next (s.after ((t.writeEntry p).leave p)) ∧
      exec (.completionWrite n false) s =
        .next (s.after (((t.setMb p.ld p.mb { t.mbox p.ld p.mb with fault := true }).raise p.ld 6).leave p))) ∧
    (∀ ok, p.silent = true ∨ (s.mbox p.ld p.mb).fault = true → exec (.completionWrite n ok) s = .next (s.after (s.leave p)))) ∧
  (∀ (s : State) (ld mb : Nat), ld < 16 → mb < 64 → (s.mbox ld mb).intPending ≠ 0 → bits (s.mbox ld mb).ctl 27 18 ≠ 0 →
    1000 * bits (s.mbox ld mb).ctl 27 18 ≤ s.now - (s.mbox ld mb).intSince → s.linkUp = true → exec (.interruptCoalesceTimeout ld mb true) s =
      .next (s.after ((s.setMb ld mb { s.mbox ld mb with intPending := 0 }).emit (.msix ld (bits (s.mbox ld mb).ctl 8 2)))))

/-- A rejection of a transfer of a started command that names the range writes a HOST_DMA_ERROR record that its LD sees. A READ
drops the units not yet read and ends with INVALID_FIELD and the bytes it had moved; a WRITE ends with INVALID_FIELD and what it
had transferred stands; a DISPATCH routes no further record; a PLACE drops its loads and ends with INVALID_FIELD. A command that
does not name the range is not touched. (from R234, R439, R602, R453) -/
def Obligations.DmaReject : Prop :=
  (∀ (s : State) (n hreg off done : Nat) (p : Pending), s.cmd n = some p → cmdHreg p.slot ≠ some hreg →
    exec (.hostDmaReject n hreg off done) s = .next s) ∧
  (∀ (s : State) (n hreg off done : Nat) (p : Pending), s.cmd n = some p → p.phase = .started → p.ran = true →
    cmdHreg p.slot = some hreg →
    let t := s.dmaErrorRecord p hreg off
    (fld p.slot 0 1 = 0x02 → exec (.hostDmaReject n hreg off done) s =
      .next (s.after (((t.unhold n).dropWrite p done).finish n St.invalidField done).settleAll)) ∧
    (∀ r, fld p.slot 0 1 = 0x01 → t.media.ios.find? (fun q => q.n = n) = some r → exec (.hostDmaReject n hreg off done) s =
      .next (s.after (((({ t with media := { t.media with ios := t.media.ios.filter (fun q => q.n ≠ n) } } : Device).dropReads
        (fun d => match d with | .cmd m _ => m == n | _ => false)).finish n St.invalidField r.moved).settleAll))) ∧
    (∀ d, fld p.slot 0 1 = 0x23 → t.work.disps.find? (fun e => e.n = n) = some d →
      exec (.hostDmaReject n hreg off done) s = .next (s.after (t.cutDisp d.seq true).settleAll)) ∧
    (fld p.slot 0 1 = 0x30 → exec (.hostDmaReject n hreg off done) s = .next (s.after
      ((({ t with tier := { t.tier with loads := t.tier.loads.filter (fun l => sliceObj l.slice ≠ objKey p.ld (fld p.slot 16 2)) } } : Device).finish
        n St.invalidField done).settleAll))))

/-- The fabric manager makes another bound LD the admin LD and nothing else changes; an LD that is not bound is not designated. An
LD that is bound already, or a device out of service, takes no binding. A binding sets BOUND and SIZE; where pinning its window
would exceed a limit of R196, WINDOW_REFUSED is set as well and no page is pinned; otherwise the window holds the pages pinned.
The reserves of every LD follow (R444). An unbinding leaves HIF_LD_STATUS 0 and no window. (from R415, R418, R444, R455, R196) -/
def Obligations.LogicalDevices : Prop :=
  (∀ (s : State) (ld : Nat), ld < 16 →
    (s.rdf Reg.HIF_LD_STATUS ld 0 0 = 1 →
      exec (.adminLdDesignate ld) s = .next (s.after { s.toDevice with hif := { s.hif with admin := ld } })) ∧
    (s.rdf Reg.HIF_LD_STATUS ld 0 0 = 0 → exec (.adminLdDesignate ld) s = .next s)) ∧
  (∀ (s : State) (ld u : Nat), ld < 16 → u ≤ 256 → s.rdf Reg.HIF_LD_STATUS ld 0 0 = 1 ∨ s.sled.stage ≠ 0 →
    exec (.ldBind ld u) s = .next s) ∧
  (∀ (s : State) (ld u : Nat), ld < 16 → u ≤ 256 → s.rdf Reg.HIF_LD_STATUS ld 0 0 = 0 → s.sled.stage = 0 → s.spars ≠ [] →
    let k := s.spars.length
    let need := (List.range k).map (fun i => (s.spars.getD i 0, (u * 128 + k - 1 - i) / k))
    let t := s.wr Reg.HIF_LD_STATUS ld (1 + u % 512 * 2 ^ 2)
    (t.pinExceeds need = true → 0 < u → exec (.ldBind ld u) s = .next (s.after (t.wrf Reg.HIF_LD_STATUS ld 11 11 1).showReserves)) ∧
    (∀ l d, t.pinExceeds need = false → t.pinWindow s.spars (u * 128) = some (l, d) →
      exec (.ldBind ld u) s = .next (s.after (d.setLd ld { d.ld ld with window := l }).showReserves))) ∧
  (∀ (s : State) (ld : Nat), ld < 16 →
    (s.rdf Reg.HIF_LD_STATUS ld 0 0 = 0 → exec (.ldUnbind ld) s = .next s) ∧
    (s.rdf Reg.HIF_LD_STATUS ld 0 0 = 1 → ∃ t, exec (.ldUnbind ld) s = .next (s.after t) ∧ t.rd Reg.HIF_LD_STATUS ld = 0 ∧
      (t.ld ld).window = []))

/-- A CXL.mem request that reaches the device is sent to the DRAM controller of its window byte and noted as under way: a write
carries its bytes and asks for an acknowledgement, a read asks for the flits of its 16-byte words. A request beyond the window,
with the link down, or with the device out of service is not taken. (from R414, R415, R416, R44, R45) -/
def Obligations.CxlMem : Prop :=
  (∀ (s : State) (ld off : Nat) (data : List Byte), memReqOk ld off data.length = true →
    (s.memReaches ld off data.length = true → exec (.cxlMemWrite ld off data) s = .next (s.after
      (((s.wakeHs (s.windowAt ld off).1).send { s.memPacket 1 ld off with
        len := (data.length + 15) / 16, lastBytes := data.length % 16, ackReq := true,
        body := data ++ List.replicate ((data.length + 15) / 16 * 16 - data.length) 0 }).noteReq ld off data.length true))) ∧
    (s.memReaches ld off data.length = false → exec (.cxlMemWrite ld off data) s = .next s)) ∧
  (∀ (s : State) (ld off n : Nat), memReqOk ld off n = true →
    (s.memReaches ld off n = true → exec (.cxlMemRead ld off n) s = .next (s.after
      (((s.wakeHs (s.windowAt ld off).1).send { s.memPacket 2 ld (off / 16 * 16) with
        len := (off + n - off / 16 * 16 + 15) / 16 }).noteReq ld off n false))) ∧
    (s.memReaches ld off n = false → exec (.cxlMemRead ld off n) s = .next s))

/-- Each of the six commands of the memory-device mailbox answers its LD; what it answers is left to the CXL specification, so the
return code and the payload are free values (log entry 2), and nothing else of the device changes than the answer and the count
of free values drawn. (from R414) -/
def Obligations.MemoryDeviceMailbox : Prop :=
  ∀ (s : State) (ld : Nat), ld < 16 → ∃ code payload,
    let t : Device := { s.toDevice with free := s.free + 3, out := s.out ++ [.memDev ld code payload] }
    exec (.identifyMemoryDevice ld) s = .next (s.after t) ∧ exec (.getSupportedLogs ld) s = .next (s.after t) ∧
    exec (.getLog ld) s = .next (s.after t) ∧ exec (.getHealthInfo ld) s = .next (s.after t) ∧
    exec (.getEventRecords ld) s = .next (s.after t) ∧ exec (.clearEventRecords ld) s = .next (s.after t)

/-- For every Ryern command of the opcode table, a slot in which a reserved bit of the header or a reserved byte of the row is not 0
ends the command with INVALID_FIELD and result 0, before any other check, and does nothing else. (from R425, R430, R431) -/
def Obligations.ReservedFieldsEndCommand : Prop :=
  ∀ (s : State) (c : Cmd) (step : Nat) (fail : Bool) (r : RyernRow), r ∈ ryernRows c step fail → r.instr.wf = true →
    headerBad c.slot r.reserved = true →
    exec r.instr s = .next (s.after ((s.begin c).2.finish (s.begin c).1 St.invalidField 0))

/-- For every Ryern command of the opcode table with its reserved fields 0: one of the admin LD issued by another LD, and one that
names an encrypted namespace while the key slots are empty, ends with SECURITY_DENIED; in state RETIRED every other command but
NOP, REG_READ and TIME_ANCHOR ends with LIFECYCLE_LOCKED; nothing else happens. One that a hold keeps does not run: it waits
with the delay reason of the hold noted and its start withdrawn (R448); the reasons are those of the model's list of holds.
(from R427, R430, R431, R448, R572, R575, R578) -/
def Obligations.DeniedLockedAndHeldCommands : Prop :=
  (∀ (s : State) (c : Cmd) (step : Nat) (fail : Bool) (r : RyernRow), r ∈ ryernRows c step fail → r.instr.wf = true →
    headerBad c.slot r.reserved = false →
    ((r.admin = true ∧ c.ld ≠ s.hif.admin) ∨ (s.begin c).2.keyless c.slot = true →
      exec r.instr s = .next (s.after ((s.begin c).2.finish (s.begin c).1 St.securityDenied 0))) ∧
    ((r.admin = false ∨ c.ld = s.hif.admin) → (s.begin c).2.keyless c.slot = false → s.lifecycle = 4 →
      r.op ≠ 0x00 → r.op ≠ 0x10 → r.op ≠ 0x12 →
      exec r.instr s = .next (s.after ((s.begin c).2.finish (s.begin c).1 St.lifecycleLocked 0)))) ∧
  (∀ (s : State) (c : Cmd) (step : Nat) (fail : Bool) (r : RyernRow) (p : Pending) (reason : Nat),
    r ∈ ryernRows c step fail → r.instr.wf = true → headerBad c.slot r.reserved = false →
    (r.admin = false ∨ c.ld = s.hif.admin) → (s.begin c).2.keyless c.slot = false → s.lifecycle ≠ 4 →
    (s.begin c).2.cmd (s.begin c).1 = some p → (s.begin c).2.heldBy p = some reason →
    exec r.instr s = .next (s.after ((s.begin c).2.setCmd
      { p with phase := .admitted, held := some (reason, (s.begin c).2.now), ran := false })))

/-- The delay reason of a completion is the reason whose holds on the command lasted longest, the lowest code among equals, and 0
when no hold with a reason was noted (reasons are 1 to 6; a FENCE or ordering wait notes 0). Several holds of one reason count
together, which is the model's reading (log entry 145). NOP ends with OK when the reason is 0, with OK_DELAYED and the reason
otherwise, and changes nothing but its own entry. (from R7, R427, R428, R431) -/
def Obligations.DelayReason : Prop :=
  (∀ waits : List (Nat × Nat), (∀ w ∈ waits, w.1 < 7) →
    let total := fun r => ((waits.filter (fun w => w.1 = r)).map (·.2)).sum
    ((∀ w ∈ waits, w.1 = 0) → delayReason waits = 0) ∧
    ((∃ w ∈ waits, w.1 ≠ 0) → (∃ w ∈ waits, w.1 = delayReason waits) ∧ delayReason waits ≠ 0 ∧
      ∀ w ∈ waits, w.1 ≠ 0 → total w.1 ≤ total (delayReason waits) ∧
        (total w.1 = total (delayReason waits) → delayReason waits ≤ w.1))) ∧
  (∀ (s : State) (c : Cmd) (p : Pending), Cmd.of 0x00 c = true → s.runs c (bytesOf 16 63) false = true →
    (s.begin c).2.cmd (s.begin c).1 = some p → p.phase = .started → p.cut = false →
    exec (.nop c) s = .next (s.after ((s.begin c).2.setCmd { p with
      phase := .ended, status := (if delayReason p.waits = 0 then St.ok else St.okDelayed), reason := delayReason p.waits, result := 0 })))

/-- A storage command that nothing keeps from running and that passes its checks has its effect: a READ reads every code word of its
range and moves its data as it arrives, a WRITE takes its credit and enters the write buffers or waits for credit, a DISCARD
clears its range of the map and of every cache, and, if secure, empties every quad that may hold a copy. A check that fails ends
it with the first status in the order of R430, and a pin that refused it is counted. The effects and the checks are the model's
functions for those rules. (from R378, R384, R394, R403, R404, R405, R430, R432, R433, R434) -/
def Obligations.StorageCommands : Prop :=
  ∀ (s : State) (c : Cmd),
  (Cmd.of 0x01 c = true → s.runs c (bytesOf 36 63) false = true →
    ((s.begin c).2.stCheck c.ld (s.begin c).1 c.slot (some 1) false = none → exec (.read c) s = .next (s.after (runRead c (s.begin c).2 (s.begin c).1))) ∧
    (∀ st r, (s.begin c).2.stCheck c.ld (s.begin c).1 c.slot (some 1) false = some (st, r) → exec (.read c) s = .next (s.after
      ((if st = St.codePinned then (s.begin c).2.pinRefused (fld c.slot 16 1) (stOff c.slot / cwBytes) else (s.begin c).2).finish (s.begin c).1 st r)))) ∧
  (Cmd.of 0x02 c = true → s.runs c (bytesOf 36 63) false = true →
    ((s.begin c).2.stCheck c.ld (s.begin c).1 c.slot (some 0) true = none → exec (.write c) s = .next (s.after (runWrite c (s.begin c).2 (s.begin c).1))) ∧
    (∀ st r, (s.begin c).2.stCheck c.ld (s.begin c).1 c.slot (some 0) true = some (st, r) → exec (.write c) s = .next (s.after
      ((if st = St.codePinned then (s.begin c).2.pinRefused (fld c.slot 16 1) (stOff c.slot / cwBytes) else (s.begin c).2).finish (s.begin c).1 st r)))) ∧
  (Cmd.of 0x03 c = true → s.runs c (bytesOf 36 63) false = true →
    ((s.begin c).2.stCheck c.ld (s.begin c).1 c.slot none true = none → exec (.discard c) s = .next (s.after (runDiscard c (s.begin c).2 (s.begin c).1))) ∧
    (∀ st r, (s.begin c).2.stCheck c.ld (s.begin c).1 c.slot none true = some (st, r) → exec (.discard c) s = .next (s.after
      ((if st = St.codePinned then (s.begin c).2.pinRefused (fld c.slot 16 1) (stOff c.slot / cwBytes) else (s.begin c).2).finish (s.begin c).1 st r)))) ∧
  (Cmd.of 0x03 c = true → s.runs c (bytesOf 36 63) false = true →
    ((s.begin c).2.stCheck c.ld (s.begin c).1 c.slot none true = none → exec (.secureDiscard c) s = .next (s.after (runSecureDiscard c (s.begin c).2 (s.begin c).1))) ∧
    (∀ st r, (s.begin c).2.stCheck c.ld (s.begin c).1 c.slot none true = some (st, r) → exec (.secureDiscard c) s = .next (s.after
      ((if st = St.codePinned then (s.begin c).2.pinRefused (fld c.slot 16 1) (stOff c.slot / cwBytes) else (s.begin c).2).finish (s.begin c).1 st r))))

/-- A namespace command that nothing keeps from running and that passes its checks has its effect: NS_CREATE takes the NSID, the
band IDs and, if encrypted, a key; NS_DELETE starts a teardown that discards every unit; NS_FORMAT discards every unit and
renews the key; NS_ACCESS sets the access mask with the owner in it; NS_INFO writes the 64 bytes of R437 to the window. A failed
check ends the command with its status and nothing else, but that a pin which refuses an NS_DELETE or NS_FORMAT is counted.
(from R376, R377, R405, R406, R430, R435, R436, R437, R575) -/
def Obligations.NamespaceCommands : Prop :=
  ∀ (s : State) (c : Cmd),
  (Cmd.of 0x08 c = true → s.runs c ([19, 22, 23]) false = true →
    (checkNsCreate c (s.begin c).2 (s.begin c).1 = none → exec (.nsCreate c) s = .next (s.after (runNsCreate c (s.begin c).2 (s.begin c).1))) ∧
    (∀ st r, checkNsCreate c (s.begin c).2 (s.begin c).1 = some (st, r) → exec (.nsCreate c) s = .next (s.after
      ((s.begin c).2.finish (s.begin c).1 st r)))) ∧
  (Cmd.of 0x09 c = true → s.runs c (bytesOf 18 63) false = true →
    ((s.begin c).2.nsDropCheck c.ld (s.begin c).1 c.slot = none → exec (.nsDelete c) s = .next (s.after (runNsDelete c (s.begin c).2 (s.begin c).1))) ∧
    (∀ st r, (s.begin c).2.nsDropCheck c.ld (s.begin c).1 c.slot = some (st, r) → exec (.nsDelete c) s = .next (s.after
      ((if st = St.codePinned then (s.begin c).2.pinRefused (fld c.slot 16 1) 0 else (s.begin c).2).finish (s.begin c).1 st r)))) ∧
  (Cmd.of 0x0A c = true → s.runs c (bytesOf 18 63) false = true →
    ((s.begin c).2.nsDropCheck c.ld (s.begin c).1 c.slot = none → exec (.nsFormat c) s = .next (s.after (runNsFormat c (s.begin c).2 (s.begin c).1))) ∧
    (∀ st r, (s.begin c).2.nsDropCheck c.ld (s.begin c).1 c.slot = some (st, r) → exec (.nsFormat c) s = .next (s.after
      ((if st = St.codePinned then (s.begin c).2.pinRefused (fld c.slot 16 1) 0 else (s.begin c).2).finish (s.begin c).1 st r)))) ∧
  (Cmd.of 0x0B c = true → s.runs c (17 :: bytesOf 20 63) false = true →
    (checkNsAccess c (s.begin c).2 (s.begin c).1 = none → exec (.nsAccess c) s = .next (s.after (runNsAccess c (s.begin c).2 (s.begin c).1))) ∧
    (∀ st r, checkNsAccess c (s.begin c).2 (s.begin c).1 = some (st, r) → exec (.nsAccess c) s = .next (s.after
      ((s.begin c).2.finish (s.begin c).1 st r)))) ∧
  (Cmd.of 0x0C c = true → s.runs c (bytesOf 17 23 ++ bytesOf 28 63) false = true →
    (checkNsInfo c (s.begin c).2 (s.begin c).1 = none → exec (.nsInfo c) s = .next (s.after (runNsInfo c (s.begin c).2 (s.begin c).1))) ∧
    (∀ st r, checkNsInfo c (s.begin c).2 (s.begin c).1 = some (st, r) → exec (.nsInfo c) s = .next (s.after
      ((s.begin c).2.finish (s.begin c).1 st r)))) ∧
  (Cmd.of 0x0B c = true → s.runs c (17 :: bytesOf 20 63) false = true → checkNsAccess c (s.begin c).2 (s.begin c).1 = none →
    ∀ x, (s.begin c).2.ns (fld c.slot 16 1) = some x → exec (.nsAccess c) s = .next (s.after
      (((s.begin c).2.setNs (fld c.slot 16 1) (some { x with access := fld c.slot 18 2 ||| 2 ^ x.owner })).finish (s.begin c).1 St.ok 0)))

/-- HOST_REGISTER gives the range the lowest free number of its LD and answers it; with a range of 4 KiB units, at most 2^40 bytes
and access bits 0 and 1 only, else INVALID_FIELD, and REFUSED_CAPACITY when all 4,096 numbers are in use. HOST_DEREGISTER frees
the number. TIME_ANCHOR anchors the clock of the active hub die, sends the time to the other coordination dies and answers the
generation. REG_READ and REG_WRITE act on the register by the path of the LD. TIME_ANCHOR_MGMT anchors the clock of the die it
names. (from R30, R31, R431, R438, R440, R441) -/
def Obligations.HostRangesAndTime : Prop :=
  ∀ (s : State) (c : Cmd),
  (Cmd.of 0x10 c = true → s.runs c (bytesOf 17 19 ++ bytesOf 24 63) false = true →
    (checkRegRead c (s.begin c).2 (s.begin c).1 = none → exec (.regRead c) s = .next (s.after (runRegRead c (s.begin c).2 (s.begin c).1))) ∧
    (∀ st r, checkRegRead c (s.begin c).2 (s.begin c).1 = some (st, r) → exec (.regRead c) s = .next (s.after
      ((s.begin c).2.finish (s.begin c).1 st r)))) ∧
  (Cmd.of 0x11 c = true → s.runs c (bytesOf 17 19 ++ bytesOf 32 63) false = true →
    (checkRegWrite c (s.begin c).2 (s.begin c).1 = none → exec (.regWrite c) s = .next (s.after (runRegWrite c (s.begin c).2 (s.begin c).1))) ∧
    (∀ st r, checkRegWrite c (s.begin c).2 (s.begin c).1 = some (st, r) → exec (.regWrite c) s = .next (s.after
      ((s.begin c).2.finish (s.begin c).1 st r)))) ∧
  (Cmd.of 0x12 c = true → s.runs c (bytesOf 24 63) true = true →
    exec (.timeAnchor c) s = .next (s.after (runTimeAnchor c (s.begin c).2 (s.begin c).1))) ∧
  (Cmd.of 0x13 c = true → s.runs c (bytesOf 33 63) false = true →
    ((fld c.slot 16 8 % 4096 ≠ 0 ∨ fld c.slot 24 8 % 4096 ≠ 0 ∨ 2 ^ 40 < fld c.slot 24 8 ∨ 4 ≤ fld c.slot 32 1) →
      exec (.hostRegister c) s = .next (s.after ((s.begin c).2.finish (s.begin c).1 St.invalidField 0))) ∧
    (fld c.slot 16 8 % 4096 = 0 → fld c.slot 24 8 % 4096 = 0 → fld c.slot 24 8 ≤ 2 ^ 40 → fld c.slot 32 1 < 4 →
      ((∀ h < 4096, ((s.begin c).2.hreg c.ld h).isSome = true) →
        exec (.hostRegister c) s = .next (s.after ((s.begin c).2.finish (s.begin c).1 St.refusedCapacity 0))) ∧
      (∀ h < 4096, ((s.begin c).2.hreg c.ld h) = none → (∀ k < h, ((s.begin c).2.hreg c.ld k).isSome = true) →
        exec (.hostRegister c) s = .next (s.after (((s.begin c).2.setLd c.ld { (s.begin c).2.ld c.ld with
          hregs := nset none ((s.begin c).2.ld c.ld).hregs h (some (fld c.slot 16 8, fld c.slot 24 8, fld c.slot 32 1)) }).finish
            (s.begin c).1 St.ok h))))) ∧
  (Cmd.of 0x14 c = true → s.runs c (bytesOf 18 63) false = true →
    ((s.begin c).2.hreg c.ld (fld c.slot 16 2) = none →
      exec (.hostDeregister c) s = .next (s.after ((s.begin c).2.finish (s.begin c).1 St.invalidField 0))) ∧
    (checkHostDeregister c (s.begin c).2 (s.begin c).1 = none →
      exec (.hostDeregister c) s = .next (s.after (((s.begin c).2.setLd c.ld { (s.begin c).2.ld c.ld with
        hregs := nset none ((s.begin c).2.ld c.ld).hregs (fld c.slot 16 2) none }).finish (s.begin c).1 St.ok 0)))) ∧
  (∀ (die utc : Nat), die = 42 ∨ die = 52 ∨ die = 47 ∨ die = 57 →
    exec (.timeAnchorMgmt die utc) s = .next (s.after (onTimeAnchorMgmt die utc s.toDevice)))

/-- POWER_HINT for an open job of its LD, with a sound body, gives the hint to the active cores of the job and ends with OK.
POWER_STATE ends with INVALID_FIELD for a state above 3, with REFUSED_POWER for one that is not enabled or whose condition does
not hold, with OK at once for the state the device is in, and otherwise starts the transition and waits for its end. (from R504,
R505, R513, R514, R515, R601) -/
def Obligations.PowerCommands : Prop :=
  ∀ (s : State) (c : Cmd),
  (Cmd.of 0x18 c = true → s.runs c (bytesOf 28 63) false = true →
    (checkPowerHint c (s.begin c).2 (s.begin c).1 = none → exec (.powerHint c) s = .next (s.after (runPowerHint c (s.begin c).2 (s.begin c).1))) ∧
    (∀ st r, checkPowerHint c (s.begin c).2 (s.begin c).1 = some (st, r) → exec (.powerHint c) s = .next (s.after
      ((s.begin c).2.finish (s.begin c).1 st r)))) ∧
  (Cmd.of 0x19 c = true → s.runs c (bytesOf 17 63) true = true →
    let t := (s.begin c).2; let n := (s.begin c).1; let ps := fld c.slot 16 1
    (3 < ps → exec (.powerState c) s = .next (s.after (t.finish n St.invalidField 0))) ∧
    (1 ≤ ps → ps ≤ 3 → bit (t.rdf Reg.PWR_PS_CTL 0 3 1) (ps - 1) = false ∨ t.psHolds ps (some n) = false →
      exec (.powerState c) s = .next (s.after (t.finish n St.refusedPower 0))) ∧
    (ps = 0 ∨ (ps ≤ 3 ∧ bit (t.rdf Reg.PWR_PS_CTL 0 3 1) (ps - 1) = true ∧ t.psHolds ps (some n) = true) →
      (t.ps = ps → exec (.powerState c) s = .next (s.after (t.finish n St.ok 0))) ∧
      (t.ps ≠ ps → exec (.powerState c) s = .next (s.after ((t.enterPs ps).setPwr (fun p => { p with waiting := some n }))))))

/-- A job command that nothing keeps from running and that passes its checks has its effect: JOB_OPEN takes the lowest free job,
pins its areas, clears its counters and loads its image; JOB_CLOSE starts the teardown; ROUTE_WRITE writes the table entries
once the job's records are routed; DISPATCH resolves its records and queues them. The first check that fails, in the order of
R430, ends the command and nothing else happens, but that a DISPATCH of pass 2 that fails with NOT_OWNER is counted. (from R223,
R225, R227, R229, R230, R231, R233, R430, R257) -/
def Obligations.JobCommands : Prop :=
  ∀ (s : State) (c : Cmd),
  (Cmd.of 0x20 c = true → s.runs c ([17, 26, 27] ++ bytesOf 54 63) false = true →
    (checkJobOpen c (s.begin c).2 (s.begin c).1 = none → exec (.jobOpen c) s = .next (s.after (runJobOpen c (s.begin c).2 (s.begin c).1))) ∧
    (∀ st r, checkJobOpen c (s.begin c).2 (s.begin c).1 = some (st, r) → exec (.jobOpen c) s = .next (s.after
      ((s.begin c).2.finish (s.begin c).1 st r)))) ∧
  (Cmd.of 0x21 c = true → s.runs c (bytesOf 17 63) false = true →
    (checkJobClose c (s.begin c).2 (s.begin c).1 = none → exec (.jobClose c) s = .next (s.after (runJobClose c (s.begin c).2 (s.begin c).1))) ∧
    (∀ st r, checkJobClose c (s.begin c).2 (s.begin c).1 = some (st, r) → exec (.jobClose c) s = .next (s.after
      ((s.begin c).2.finish (s.begin c).1 st r)))) ∧
  (Cmd.of 0x22 c = true → s.runs c (bytesOf 17 19 ++ bytesOf 32 63) false = true →
    (checkRouteWrite c (s.begin c).2 (s.begin c).1 = none → exec (.routeWrite c) s = .next (s.after (runRouteWrite c (s.begin c).2 (s.begin c).1))) ∧
    (∀ st r, checkRouteWrite c (s.begin c).2 (s.begin c).1 = some (st, r) → exec (.routeWrite c) s = .next (s.after
      ((s.begin c).2.finish (s.begin c).1 st r)))) ∧
  (Cmd.of 0x23 c = true → s.runs c (45 :: bytesOf 48 63) false = true →
    ((s.begin c).2.dispCheck c.ld (s.begin c).1 c.slot = none →
      exec (.dispatch c) s = .next (s.after ((s.begin c).2.dispEffect c.ld c.slot (s.begin c).1))) ∧
    (∀ st r, (s.begin c).2.dispCheck c.ld (s.begin c).1 c.slot = some (st, r) → exec (.dispatch c) s = .next (s.after
      ((if st = St.notOwner ∧ fld c.slot 18 1 = 2 then (s.begin c).2.inc Reg.TKL_DEV_NOT_OWNER 0 1 else (s.begin c).2).finish
        (s.begin c).1 st r))))

/-- A PLACE that passes its checks places its object by its policy; a failed check ends it with the first status in the order of
R430, and one that a limit refuses counts in TIER_REFUSED and, where it names a job of the 64, in the job's TIER_JOB_REFUSED, as
do one whose namespace is absent and one that the LD may not reach. An UNPLACE that passes its check starts the removal of the
object; one that fails ends with INVALID_FIELD. (from R204, R210, R211, R212, R213, R214, R215, R217, R430) -/
def Obligations.PlacementCommands : Prop :=
  ∀ (s : State) (c : Cmd),
  (Cmd.of 0x30 c = true → s.runs c (bytesOf 57 63) false = true →
    let t := (s.begin c).2; let n := (s.begin c).1; let o := placeObj t c.slot n
    (t.placeCheck c.ld n c.slot o = none → exec (.place c) s = .next (s.after (t.placeEffect (objKey c.ld (fld c.slot 16 2)) o))) ∧
    (∀ st r, t.placeCheck c.ld n c.slot o = some (st, r) →
      let u := if st = St.refusedCapacity then t.inc Reg.TIER_REFUSED 0 1 else t
      let counts := st = St.refusedCapacity ∨ st = St.nsAbsent ∨ st = St.notOwner
      (∀ j, bit (fld c.slot 19 1) 1 = true → fld c.slot 20 1 = j → j < 64 → counts →
        exec (.place c) s = .next (s.after ((u.inc Reg.TIER_JOB_REFUSED j 1).finish n st r))) ∧
      (bit (fld c.slot 19 1) 1 = false ∨ 64 ≤ fld c.slot 20 1 ∨ ¬counts → exec (.place c) s = .next (s.after (u.finish n st r))))) ∧
  (Cmd.of 0x31 c = true → s.runs c (bytesOf 19 63) false = true →
    (checkUnplace c (s.begin c).2 (s.begin c).1 = none → exec (.unplace c) s = .next (s.after (runUnplace c (s.begin c).2 (s.begin c).1))) ∧
    (∀ st r, checkUnplace c (s.begin c).2 (s.begin c).1 = some (st, r) → exec (.unplace c) s = .next (s.after
      ((s.begin c).2.finish (s.begin c).1 st r))))

/-- A reduction command that nothing keeps from running and that passes its checks has its effect: SHARD_OPEN and SHARD_CLOSE make
and end a shard, REDUCE_OPEN opens a reduction, RANK_DONE and REDUCE_COMMIT record a rank and the commit and end when the
reduction has what they wait for, CHECKPOINT writes the shard to the namespace. A failed check ends the command, and NOT_OWNER
is counted in TKL_DEV_NOT_OWNER. (from R255, R256, R257, R258, R261, R265, R266, R286, R287, R430) -/
def Obligations.ReductionCommands : Prop :=
  ∀ (s : State) (c : Cmd),
  (Cmd.of 0x24 c = true → s.runs c (33 :: bytesOf 54 63) false = true →
    (checkShardOpen c (s.begin c).2 (s.begin c).1 = none → exec (.shardOpen c) s = .next (s.after (runShardOpen c (s.begin c).2 (s.begin c).1))) ∧
    (∀ st r, checkShardOpen c (s.begin c).2 (s.begin c).1 = some (st, r) → exec (.shardOpen c) s = .next (s.after
      ((if st = St.notOwner then (s.begin c).2.inc Reg.TKL_DEV_NOT_OWNER 0 1 else (s.begin c).2).finish (s.begin c).1 st r)))) ∧
  (Cmd.of 0x25 c = true → s.runs c (bytesOf 18 63) false = true →
    (checkShardClose c (s.begin c).2 (s.begin c).1 = none → exec (.shardClose c) s = .next (s.after (runShardClose c (s.begin c).2 (s.begin c).1))) ∧
    (∀ st r, checkShardClose c (s.begin c).2 (s.begin c).1 = some (st, r) → exec (.shardClose c) s = .next (s.after
      ((if st = St.notOwner then (s.begin c).2.inc Reg.TKL_DEV_NOT_OWNER 0 1 else (s.begin c).2).finish (s.begin c).1 st r)))) ∧
  (Cmd.of 0x26 c = true → s.runs c ([34, 35] ++ bytesOf 40 63) false = true →
    (checkReduceOpen c (s.begin c).2 (s.begin c).1 = none → exec (.reduceOpen c) s = .next (s.after (runReduceOpen c (s.begin c).2 (s.begin c).1))) ∧
    (∀ st r, checkReduceOpen c (s.begin c).2 (s.begin c).1 = some (st, r) → exec (.reduceOpen c) s = .next (s.after
      ((if st = St.notOwner then (s.begin c).2.inc Reg.TKL_DEV_NOT_OWNER 0 1 else (s.begin c).2).finish (s.begin c).1 st r)))) ∧
  (Cmd.of 0x27 c = true → s.runs c (bytesOf 19 63) false = true →
    (checkRankDone c (s.begin c).2 (s.begin c).1 = none → exec (.rankDone c) s = .next (s.after (runRankDone c (s.begin c).2 (s.begin c).1))) ∧
    (∀ st r, checkRankDone c (s.begin c).2 (s.begin c).1 = some (st, r) → exec (.rankDone c) s = .next (s.after
      ((if st = St.notOwner then (s.begin c).2.inc Reg.TKL_DEV_NOT_OWNER 0 1 else (s.begin c).2).finish (s.begin c).1 st r)))) ∧
  (Cmd.of 0x28 c = true → s.runs c (bytesOf 18 63) false = true →
    (checkReduceCommit c (s.begin c).2 (s.begin c).1 = none → exec (.reduceCommit c) s = .next (s.after (runReduceCommit c (s.begin c).2 (s.begin c).1))) ∧
    (∀ st r, checkReduceCommit c (s.begin c).2 (s.begin c).1 = some (st, r) → exec (.reduceCommit c) s = .next (s.after
      ((if st = St.notOwner then (s.begin c).2.inc Reg.TKL_DEV_NOT_OWNER 0 1 else (s.begin c).2).finish (s.begin c).1 st r)))) ∧
  (Cmd.of 0x29 c = true → s.runs c (19 :: bytesOf 28 63) false = true →
    (checkCheckpoint c (s.begin c).2 (s.begin c).1 = none → exec (.checkpoint c) s = .next (s.after (runCheckpoint c (s.begin c).2 (s.begin c).1))) ∧
    (∀ st r, checkCheckpoint c (s.begin c).2 (s.begin c).1 = some (st, r) → exec (.checkpoint c) s = .next (s.after
      ((if st = St.notOwner then (s.begin c).2.inc Reg.TKL_DEV_NOT_OWNER 0 1 else (s.begin c).2).finish (s.begin c).1 st r))))

/-- An embedding command that nothing keeps from running and that passes its checks has its effect: EMB_OPEN and EMB_CLOSE open and
close a handle, GATHER and GATHER_PREFETCH resolve their rows and read those that no cache holds, EMB_UPDATE merges its entries.
A failed check ends the command with its status. (from R292, R295, R296, R298, R305, R306, R430) -/
def Obligations.EmbeddingCommands : Prop :=
  ∀ (s : State) (c : Cmd),
  (Cmd.of 0x2A c = true → s.runs c (bytesOf 22 63) false = true →
    (checkEmbOpen c (s.begin c).2 (s.begin c).1 = none → exec (.embOpen c) s = .next (s.after (runEmbOpen c (s.begin c).2 (s.begin c).1))) ∧
    (∀ st r, checkEmbOpen c (s.begin c).2 (s.begin c).1 = some (st, r) → exec (.embOpen c) s = .next (s.after
      ((s.begin c).2.finish (s.begin c).1 st r)))) ∧
  (Cmd.of 0x2B c = true → s.runs c (bytesOf 18 63) false = true →
    (checkEmbClose c (s.begin c).2 (s.begin c).1 = none → exec (.embClose c) s = .next (s.after (runEmbClose c (s.begin c).2 (s.begin c).1))) ∧
    (∀ st r, checkEmbClose c (s.begin c).2 (s.begin c).1 = some (st, r) → exec (.embClose c) s = .next (s.after
      ((s.begin c).2.finish (s.begin c).1 st r)))) ∧
  (Cmd.of 0x2D c = true → s.runs c (bytesOf 48 63) false = true →
    (checkEmbUpdate c (s.begin c).2 (s.begin c).1 = none → exec (.embUpdate c) s = .next (s.after (runEmbUpdate c (s.begin c).2 (s.begin c).1))) ∧
    (∀ st r, checkEmbUpdate c (s.begin c).2 (s.begin c).1 = some (st, r) → exec (.embUpdate c) s = .next (s.after
      ((s.begin c).2.finish (s.begin c).1 st r)))) ∧
  (Cmd.of 0x2C c = true → s.runs c (bytesOf 40 63) false = true →
    ((s.begin c).2.embCheck c.ld (s.begin c).1 c.slot false = none →
      exec (.gather c) s = .next (s.after (((s.begin c).2.embStart (s.begin c).1 c.ld c.slot false).embEnd (s.begin c).1)) ∧
      (bit (fld c.slot 18 1) 0 = true →
        exec (.gatherPrefetch c) s = .next (s.after (((s.begin c).2.embStart (s.begin c).1 c.ld c.slot false).embEnd (s.begin c).1)))) ∧
    (∀ st r, (s.begin c).2.embCheck c.ld (s.begin c).1 c.slot false = some (st, r) →
      exec (.gather c) s = .next (s.after ((s.begin c).2.finish (s.begin c).1 st r))))

/-- A search command that nothing keeps from running and that passes its checks has its effect: SRCH_OPEN and SRCH_CLOSE open and
close a handle, SEARCH walks the graph and answers its best candidates, VEC_INSERT and VEC_DELETE change the side list or the
tombstones, INDEX_FOLD starts a fold. A failed check ends the command with its status. (from R316, R320, R321, R322, R328, R330,
R332, R333, R430) -/
def Obligations.SearchCommands : Prop :=
  ∀ (s : State) (c : Cmd),
  (Cmd.of 0x32 c = true → s.runs c (19 :: bytesOf 22 63) false = true →
    (checkSrchOpen c (s.begin c).2 (s.begin c).1 = none → exec (.srchOpen c) s = .next (s.after (runSrchOpen c (s.begin c).2 (s.begin c).1))) ∧
    (∀ st r, checkSrchOpen c (s.begin c).2 (s.begin c).1 = some (st, r) → exec (.srchOpen c) s = .next (s.after
      ((s.begin c).2.finish (s.begin c).1 st r)))) ∧
  (Cmd.of 0x33 c = true → s.runs c (bytesOf 17 63) false = true →
    (checkSrchClose c (s.begin c).2 (s.begin c).1 = none → exec (.srchClose c) s = .next (s.after (runSrchClose c (s.begin c).2 (s.begin c).1))) ∧
    (∀ st r, checkSrchClose c (s.begin c).2 (s.begin c).1 = some (st, r) → exec (.srchClose c) s = .next (s.after
      ((s.begin c).2.finish (s.begin c).1 st r)))) ∧
  (Cmd.of 0x34 c = true → s.runs c ([29, 30, 31] ++ bytesOf 48 63) false = true →
    (checkSearch c (s.begin c).2 (s.begin c).1 = none → exec (.search c) s = .next (s.after (runSearch c (s.begin c).2 (s.begin c).1))) ∧
    (∀ st r, checkSearch c (s.begin c).2 (s.begin c).1 = some (st, r) → exec (.search c) s = .next (s.after
      ((s.begin c).2.finish (s.begin c).1 st r)))) ∧
  (Cmd.of 0x35 c = true → s.runs c ([17, 18, 19] ++ bytesOf 28 63) false = true →
    (checkVecInsert c (s.begin c).2 (s.begin c).1 = none → exec (.vecInsert c) s = .next (s.after (runVecInsert c (s.begin c).2 (s.begin c).1))) ∧
    (∀ st r, checkVecInsert c (s.begin c).2 (s.begin c).1 = some (st, r) → exec (.vecInsert c) s = .next (s.after
      ((s.begin c).2.finish (s.begin c).1 st r)))) ∧
  (Cmd.of 0x36 c = true → s.runs c ([17, 18, 19] ++ bytesOf 28 63) false = true →
    (checkVecDelete c (s.begin c).2 (s.begin c).1 = none → exec (.vecDelete c) s = .next (s.after (runVecDelete c (s.begin c).2 (s.begin c).1))) ∧
    (∀ st r, checkVecDelete c (s.begin c).2 (s.begin c).1 = some (st, r) → exec (.vecDelete c) s = .next (s.after
      ((s.begin c).2.finish (s.begin c).1 st r)))) ∧
  (Cmd.of 0x37 c = true → s.runs c (17 :: bytesOf 20 63) false = true →
    (checkIndexFold c (s.begin c).2 (s.begin c).1 = none → exec (.indexFold c) s = .next (s.after (runIndexFold c (s.begin c).2 (s.begin c).1))) ∧
    (∀ st r, checkIndexFold c (s.begin c).2 (s.begin c).1 = some (st, r) → exec (.indexFold c) s = .next (s.after
      ((s.begin c).2.finish (s.begin c).1 st r))))

/-- A raw-media command of the admin LD that nothing keeps from running acts on a block of a granted quad: a read answers one page,
a program writes one word line, an erase clears the block in the mode chosen, and the command counts as dispatched in class 5 of
its channel; with the LUN at work it waits. A block that is not of a granted quad answers SECURITY_DENIED; other fields out of
range, and the reserved operation codes, INVALID_FIELD. (from R359, R360, R365, R430, R431) -/
def Obligations.RawMediaCommands : Prop :=
  ∀ (s : State) (c : Cmd) (step : Nat) (fail : Bool), s.runs c (bytesOf 28 63) true = true →
    let t := (s.begin c).2; let n := (s.begin c).1
    let u := t.countDispatch (fld c.slot 18 2 / 8) 5
    let idle := (t.lun (fld c.slot 18 2)).job = none
    (Cmd.rawOf 1 c = true → (t.rawCheck c.ld c.slot 1 1 = none → idle → exec (.mediaRawRead c step) s = .next (s.after (runMediaRawRead c step u n))) ∧
      (∀ st r, t.rawCheck c.ld c.slot 1 1 = some (st, r) → exec (.mediaRawRead c step) s = .next (s.after (t.finish n st r)))) ∧
    (Cmd.rawOf 2 c = true → (t.rawCheck c.ld c.slot 2 (rawPages c.slot t) = none → idle →
        exec (.mediaRawProgram c fail) s = .next (s.after (runMediaRawProgram c fail u n))) ∧
      (∀ st r, t.rawCheck c.ld c.slot 2 (rawPages c.slot t) = some (st, r) →
        exec (.mediaRawProgram c fail) s = .next (s.after (t.finish n st r)))) ∧
    (Cmd.rawOf 3 c = true → (t.rawCheck c.ld c.slot 3 0 = none → idle →
        exec (.mediaRawErase c fail) s = .next (s.after (runMediaRawErase c fail u n))) ∧
      (∀ st r, t.rawCheck c.ld c.slot 3 0 = some (st, r) → exec (.mediaRawErase c fail) s = .next (s.after (t.finish n st r)))) ∧
    (¬idle → ∀ p, t.cmd n = some p → let v := s.after (t.setCmd { p with ran := false })
      (Cmd.rawOf 1 c = true → t.rawCheck c.ld c.slot 1 1 = none → exec (.mediaRawRead c step) s = .next v) ∧
      (Cmd.rawOf 2 c = true → t.rawCheck c.ld c.slot 2 (rawPages c.slot t) = none → exec (.mediaRawProgram c fail) s = .next v) ∧
      (Cmd.rawOf 3 c = true → t.rawCheck c.ld c.slot 3 0 = none → exec (.mediaRawErase c fail) s = .next v))

/-- While the active hub die runs and the device is not RETIRED, each SPDM request of an LD is answered to that LD and nothing else
changes but the count of free values drawn: capabilities with CTExponent 17 and the four capabilities; the intersection of what
is offered with ECDSA P-521 and SHA-512; slot 0 as the one slot with digests; a part of the chain of slot 0 within its length,
and an error outside it or for another slot; a signed challenge; the measurements; a chunk (whose content no rule states, and is
free); and ERROR UnsupportedRequest to every other request. In lockout a challenge or a signed measurement is an error (R578). A
RETIRED device answers GET_VERSION alone (R572); with the hub die restarting nothing is answered. The message codes are PRESUMED
from the DMTF document (log entry 20). (from R556, R557, R572, R578) -/
def Obligations.SpdmRequests : Prop :=
  (∀ (s : State) (ld asym hash slot off len i : Nat) (signed : Bool) (nonce : BitVec 256) (c : Instr), ld < 16 →
    c ∈ [.getCapabilities ld, .negotiateAlgorithms ld asym hash, .getDigests ld, .getCertificate ld slot off len,
      .challenge ld slot nonce, .getMeasurements ld i signed nonce, .chunkGet ld slot off, .spdmUnsupportedRequest ld i] →
    (s.hubRuns = false → exec c s = .next s ∧ exec (.getVersion ld) s = .next s) ∧
    (s.hubRuns = true → s.lifecycle = 4 → exec c s = .next (s.after (s.spdmError ld Spdm.unsupported)))) ∧
  ∀ (s : State) (ld : Nat), ld < 16 → s.hubRuns = true →
    exec (.getVersion ld) s = .next (s.after (s.emit (.spdm ld Spdm.version (natLe 2 0x1300)))) ∧
    (s.lifecycle ≠ 4 →
      exec (.getCapabilities ld) s = .next (s.after (s.emit (.spdm ld Spdm.capabilities (natLe 1 17 ++ natLe 4 0x20016)))) ∧
      (∀ asym hash, exec (.negotiateAlgorithms ld asym hash) s =
        .next (s.after (s.emit (.spdm ld Spdm.algorithms (natLe 4 (asym &&& 0x100) ++ natLe 4 (hash &&& 0x4)))))) ∧
      exec (.getDigests ld) s = .next (s.after (s.emit (.spdm ld Spdm.digests (natLe 1 1 ++ Config.sha512 s.chain)))) ∧
      (∀ slot off len, slot ≠ 0 → exec (.getCertificate ld slot off len) s = .next (s.after (s.spdmError ld Spdm.invalidRequest))) ∧
      (∀ off len, exec (.getCertificate ld 0 off len) s = .next (s.after (if s.chain.length ≤ off then s.spdmError ld Spdm.invalidRequest
        else s.emit (.spdm ld Spdm.certificate (natLe 2 (min len (s.chain.length - off)) ++
          natLe 2 (s.chain.length - off - min len (s.chain.length - off)) ++ (s.chain.drop off).take len))))) ∧
      (∀ nonce, s.lockout = false → ∃ own : List Byte, own.length = 32 ∧ exec (.challenge ld 0 nonce) s =
        .next (s.after (s.draw.2.emit (.spdm ld Spdm.challengeAuth ((Config.sha512 s.chain ++ own) ++
          Config.aliasSign s.hubDie (natLe 32 nonce.toNat ++ (Config.sha512 s.chain ++ own))))))) ∧
      (∀ slot nonce, s.lockout = false → slot ≠ 0 →
        exec (.challenge ld slot nonce) s = .next (s.after (s.spdmError ld Spdm.invalidRequest))) ∧
      (∀ slot nonce, s.lockout = true → exec (.challenge ld slot nonce) s = .next (s.after (s.spdmError ld Spdm.unspecified))) ∧
      (∀ i nonce, 1 ≤ i → i ≤ 8 → ∃ own : List Byte, own.length = 32 ∧ exec (.getMeasurements ld i false nonce) s =
        .next (s.after (s.draw.2.emit (.spdm ld Spdm.measurements (natLe 1 1 ++ natLe 1 0 ++ s.measurementBlock i ++ own))))) ∧
      (∀ i nonce, 8 < i → i ≠ 0xFF →
        exec (.getMeasurements ld i false nonce) s = .next (s.after (s.spdmError ld Spdm.invalidRequest))) ∧
      (∀ i nonce, s.lockout = true → exec (.getMeasurements ld i true nonce) s = .next (s.after (s.spdmError ld Spdm.unspecified))) ∧
      (∀ handle seq, ∃ chunk, exec (.chunkGet ld handle seq) s =
        .next (s.after (s.draw.2.draw.2.emit (.spdm ld Spdm.chunkResponse (natLe 1 handle ++ natLe 2 seq ++ chunk))))) ∧
      (∀ code, exec (.spdmUnsupportedRequest ld code) s =
        .next (s.after (s.emit (.spdm ld Spdm.error (natLe 1 Spdm.unsupported ++ natLe 1 code))))))

/-- The management port answers while the sled is in service and its active hub die runs, and is silent otherwise. An endpoint ID of
8 to 254 is stored in SB_STATUS and answered; another control message is answered with open content. A fabric-manager message
binds, unbinds or designates an LD, or reads or writes a register by the fabric-manager path, and is answered; a bind of a bound
LD, and an unbind or designation of one that is not bound, is answered with an error and nothing else happens. Every other MCTP
type is answered with the error for unsupported types. In I3C mode an assigned address is stored; in SMBus mode it is ignored.
The MCTP codes are PRESUMED (log entry 20). (from R415, R418, R566, R597, R600) -/
def Obligations.ManagementPort : Prop :=
  ∀ s : State,
    (s.portUp = false → (∀ e, exec (.mctpControlMessage e) s = .next s) ∧ (∀ m, exec (.fmApiMessage m) s = .next s) ∧
      (∀ typ, typ ≠ 0 → typ ≠ 7 → exec (.mctpUnsupportedType typ) s = .next s) ∧
      (∀ a, a < 128 → exec (.dynamicAddressAssign a) s = .next s)) ∧
    (s.portUp = true →
      (∀ e, 8 ≤ e → e < 255 → exec (.mctpControlMessage (some e)) s =
        .next (s.after ((s.wrf Reg.SB_STATUS 0 17 10 e).mctp Mctp.control 0 (natLe 1 e)))) ∧
      (∀ e, e < 8 ∨ 255 ≤ e → exec (.mctpControlMessage (some e)) s = .next (s.after (s.mctp Mctp.control Mctp.invalid []))) ∧
      (∃ data, exec (.mctpControlMessage none) s = .next (s.after (s.draw.2.mctp Mctp.control 0 data))) ∧
      (∀ ld u, ld < 16 → u ≤ 256 → s.rdf Reg.HIF_LD_STATUS ld 0 0 = 0 →
        exec (.fmApiMessage (.bind ld u)) s = .next (s.after ((s.bindLd ld u).mctp Mctp.cxlFm 0 []))) ∧
      (∀ ld u, 16 ≤ ld ∨ 256 < u ∨ s.rdf Reg.HIF_LD_STATUS ld 0 0 = 1 →
        exec (.fmApiMessage (.bind ld u)) s = .next (s.after (s.mctp Mctp.cxlFm Mctp.invalid []))) ∧
      (∀ ld, ld < 16 → s.rdf Reg.HIF_LD_STATUS ld 0 0 = 1 →
        exec (.fmApiMessage (.unbind ld)) s = .next (s.after ((s.unbindLd ld).mctp Mctp.cxlFm 0 [])) ∧
        exec (.fmApiMessage (.admin ld)) s =
          .next (s.after (({ s.toDevice with hif := { s.hif with admin := ld } } : Device).mctp Mctp.cxlFm 0 []))) ∧
      (∀ ld, 16 ≤ ld ∨ s.rdf Reg.HIF_LD_STATUS ld 0 0 = 0 →
        exec (.fmApiMessage (.unbind ld)) s = .next (s.after (s.mctp Mctp.cxlFm Mctp.invalid [])) ∧
        exec (.fmApiMessage (.admin ld)) s = .next (s.after (s.mctp Mctp.cxlFm Mctp.invalid []))) ∧
      (∀ addr wide, exec (.fmApiMessage (.regRead addr wide)) s = .next (s.after ((s.regReadBy .fabric addr wide).2.2.fmStatus
        (s.regReadBy .fabric addr wide).1 (natLe 8 (s.regReadBy .fabric addr wide).2.1)))) ∧
      (∀ addr wide (v : BitVec 64),
        let r := s.draw.2.regWriteBy .fabric none (s.draw.1 % 2 == 0) addr wide (if wide then v.toNat else v.toNat % 2 ^ 32)
        exec (.fmApiMessage (.regWrite addr wide v)) s = .next (s.after (r.2.settleFaults.fmStatus (r.1.getD St.ok) []))) ∧
      (∀ code, ∃ data, exec (.fmApiMessage (.other code)) s = .next (s.after (s.draw.2.mctp Mctp.cxlFm 0 data))) ∧
      (∀ typ, typ ≠ 0 → typ ≠ 7 → exec (.mctpUnsupportedType typ) s = .next (s.after (s.mctp typ Mctp.unsupported []))) ∧
      (∀ a, a < 128 → (s.rdf Reg.SB_STATUS 0 2 2 = 1 → exec (.dynamicAddressAssign a) s = .next s) ∧
        (s.rdf Reg.SB_STATUS 0 2 2 = 0 → exec (.dynamicAddressAssign a) s = .next (s.after (s.wrf Reg.SB_STATUS 0 9 3 a)))))

/-- A flit at a port that is not up, one that waits for a replay, or one that does not come next on its link is not taken; an
uncorrectable flit is refused, and no flit of its link is taken until the replay. A flit that is taken counts in
STAY_PORT_RX_FLITS, leaves the sender's replay buffer and goes on; a corrected one counts as corrected and sets bit 0 of
STAY_PORT_ERR, and one with the poison mark keeps it. A negative acknowledgement of a flit that the replay buffer holds replays
from that flit: the replays and the flits sent are counted and bit 1 is set; of one that it does not hold it does nothing. With
fewer than 16 replays of one flit a retrain does not begin; from 16 on both ends take state 3 and bit 2 is set. A retrain that
fails, or finds a third faulty lane, fails the port at both ends; one that succeeds returns both ends to state 2, with a spare
lane in place of a faulty one, and their held flits go on. A handshake timeout fails a port that has credits outstanding, at
both ends with bit 6. The mirror stays, ports 4 and 5 of the hub dies (log entry 146), go through the same states by the same
counts; when both have failed AVL_STATUS.MIRROR_PATH is set. (from R12, R524, R39, R42, R49, R55, R58, R65, R66, R70, R72, R73) -/
def Obligations.FlitsAndReplays : Prop :=
  (∀ (s : State) (die port : Nat), portOk die port = true →
    (∀ head ord ecc, s.pump.portState die port ≠ 2 ∨ s.pump.nextFlit die port head ord = false →
      exec (.flitReceive die port head ord ecc) s = .next (s.after s.pump)) ∧
    (∀ e head ord, peerOf die port = some e → s.pump.portState die port = 2 → nget none s.pump.fab.nak (linkKey e (oppPort port)) = none →
      s.pump.nextFlit die port head ord = true →
      let u := s.pump.inc (portReg Reg.STAY_PORT_RX_FLITS port) die 1
      let goOn := fun (d : Device) => s.after ((((d.ackFlit e (oppPort port)).takeFlit die port head ord).poisonHeld die).pump)
      exec (.flitReceive die port head ord .clean) s = .next (goOn u) ∧
      exec (.flitReceive die port head ord .corrected) s =
        .next (goOn ((u.inc (portReg Reg.STAY_PORT_CORRECTED port) die 1).portErr die port 1)) ∧
      exec (.flitReceive die port head ord .poison) s = .next (goOn (u.markFlit head ord)) ∧
      exec (.flitReceive die port head ord .uncorrectable) s = .next (s.after (s.pump.refuseFlit e (oppPort port))) ∧
      (∀ f l, s.pump.unacked e (oppPort port) = f :: l → f.head = head ∧ f.ord = ord ∧
        nget none (s.pump.refuseFlit e (oppPort port)).fab.nak (linkKey e (oppPort port)) = some f.seq)) ∧
    (∀ seq, let again := (s.unacked die port).dropWhile (fun f => f.seq ≠ seq)
      (s.portState die port ≠ 2 ∨ again = [] → exec (.linkNak die port seq) s = .next s) ∧
      (s.portState die port = 2 → again ≠ [] → ∃ t : Device, exec (.linkNak die port seq) s = .next (s.after
          (((t.inc (portReg Reg.STAY_PORT_REPLAYS port) die 1).inc (portReg Reg.STAY_PORT_TX_FLITS port) die again.length).portErr die port 2)) ∧
        { t with fab := { t.fab with replays := s.fab.replays, nak := s.fab.nak } } = s.toDevice ∧
        nget none t.fab.nak (linkKey die port) = none ∧
        nget (0, 0) t.fab.replays (linkKey die port) = (seq, if (nget (0, 0) s.fab.replays (linkKey die port)).1 = seq
          then (nget (0, 0) s.fab.replays (linkKey die port)).2 + 1 else 1))) ∧
    (s.portState die port ≠ 2 ∨ (nget (0, 0) s.fab.replays (linkKey die port)).2 < 16 → exec (.linkRetrain die port) s = .next s) ∧
    (∀ e, peerOf die port = some e → s.portState die port = 2 → 16 ≤ (nget (0, 0) s.fab.replays (linkKey die port)).2 →
      exec (.linkRetrain die port) s =
        .next (s.after (((s.stayState die port 3).portErr die port 4).portErr e (oppPort port) 4))) ∧
    (∀ ok lane, s.portState die port ≠ 3 → exec (.linkRetrainEnd die port ok lane) s = .next s) ∧
    (∀ lane, s.portState die port = 3 → exec (.linkRetrainEnd die port false lane) s = .next (s.after (s.stayFail die port 0))) ∧
    (∀ lane, s.portState die port = 3 → s.rdf (portReg Reg.STAY_PORT_SPARES port) die 1 0 = 2 →
      exec (.linkRetrainEnd die port true (some lane)) s = .next (s.after (s.stayFail die port 0))) ∧
    (s.portState die port = 3 → exec (.linkRetrainEnd die port true none) s = .next (s.after (s.stayUp die port))) ∧
    (∀ e lane, peerOf die port = some e → s.portState die port = 3 → s.rdf (portReg Reg.STAY_PORT_SPARES port) die 1 0 ≠ 2 →
      exec (.linkRetrainEnd die port true (some lane)) s =
        .next (s.after (((s.useSpare die port 0 lane).useSpare e (oppPort port) 2 lane).stayUp die port))) ∧
    (s.portState die port ≠ 2 ∨ s.creditsOut die port = false → exec (.handshakeTimeout die port) s = .next s) ∧
    (∀ e, peerOf die port = some e → s.portState die port = 2 → s.creditsOut die port = true → exec (.handshakeTimeout die port) s =
      .next (s.after ((s.portFail die port 0x40).portFail e (oppPort port) 0)))) ∧
  (∀ (s : State) (die m : Nat), die = 42 ∨ die = 52 → m < 2 →
    let k := linkKey die (4 + m); let r := nget (0, 0) s.fab.replays k
    (∀ head ord ecc, exec (.flitReceive die (4 + m) head ord ecc) s = .next s) ∧
    (∀ seq, (s.mirrorState m ≠ 2 → exec (.linkNak die (4 + m) seq) s = .next s) ∧
      (s.mirrorState m = 2 → exec (.linkNak die (4 + m) seq) s = .next (s.after { s.toDevice with fab := { s.fab with
        replays := nset (0, 0) s.fab.replays k (seq, if r.1 = seq then r.2 + 1 else 1) } }))) ∧
    (s.mirrorState m ≠ 2 ∨ r.2 < 16 → exec (.linkRetrain die (4 + m)) s = .next s) ∧
    (s.mirrorState m = 2 → 16 ≤ r.2 → exec (.linkRetrain die (4 + m)) s = .next (s.after (s.setMirror m 3))) ∧
    (∀ ok lane, s.mirrorState m ≠ 3 → exec (.linkRetrainEnd die (4 + m) ok lane) s = .next s) ∧
    (∀ lane, s.mirrorState m = 3 → exec (.linkRetrainEnd die (4 + m) false lane) s = .next (s.after (s.setMirror m 4))) ∧
    (∀ lane, s.mirrorState m = 3 → nget 0 s.fab.spares k = 2 →
      exec (.linkRetrainEnd die (4 + m) true (some lane)) s = .next (s.after (s.setMirror m 4))) ∧
    (∀ lane, s.mirrorState m = 3 → lane = none ∨ nget 0 s.fab.spares k ≠ 2 →
      let t : Device := { s.toDevice with fab := { s.fab with
        replays := nset (0, 0) s.fab.replays k (0, 0), spares := nset 0 s.fab.spares k (nget 0 s.fab.spares k + b2n lane.isSome) } }
      exec (.linkRetrainEnd die (4 + m) true lane) s = .next (s.after (t.setMirror m 2))) ∧
    (s.mirrorState m ≠ 2 → exec (.handshakeTimeout die (4 + m)) s = .next s) ∧
    (s.mirrorState m = 2 → exec (.handshakeTimeout die (4 + m)) s = .next (s.after (s.setMirror m 4))) ∧
    (∀ st, st < 16 → (s.setMirror m st).mirrorState m = st ∧ (s.setMirror m st).mirrorState (1 - m) = s.mirrorState (1 - m)) ∧
    (s.mirrorState (1 - m) = 4 → (s.setMirror m 4).rdf Reg.AVL_STATUS 0 2 2 = 1))

/-- A failure notice fences dies until a route joins every remaining pair (log entry 9), and notes for each router the entries that
the working stays change, and the routers that hold packets. A router that takes the last of its entries counts the reroute,
sends what it holds for failed ports, and, as the last of them, writes the record; entries that were not computed for it are not
taken. A notice of a die that is not fenced, of a packet that nothing holds as truncated, and the end of a hop epoch of fewer
than 1,024 flits do nothing but that the notice itself leaves the fabric. A truncated storage packet is sent again, a truncated
answer is forgotten and, by a compute unit, read again, and truncated speculative data squashes its engine. A fence notice
discards what the die has in flight to the fenced die with cause 3. A hop epoch sets each weight to the number of hop values
seen, 1 to 16, and clears the vectors; 1 while hop weighting is off. (from R42, R49, R50, R51, R60, R61, R66, R67, R68, R69,
R178, R533) -/
def Obligations.RoutesAndNotices : Prop :=
  (∀ (s : State) (die port : Nat), portOk die port = true →
    let note := fun (q : Packet) => q.typ = 10 ∧ q.srcDie = die ∧ q.srcUnit = 14 ∧ q.addr = port ∧ q.len = 0
    let answer := fun (d : Device) =>
      let t := Device.fenceApart 100 d
      let todo := (t.diesInService.map (fun x => (x, t.newEntries x))).filter (fun e => !e.2.isEmpty || t.fab.holding.contains e.1)
      (({ t with fab := { t.fab with reroute := todo } } : Device).settleAll).pump
    (s.net.find? (fun q => note q) = none → exec (.failNotice die port) s = .next (s.after (answer s.toDevice))) ∧
    (∀ q, s.net.find? (fun q => note q) = some q → exec (.failNotice die port) s =
      .next (s.after (answer { s.toDevice with net := s.net.erase q, fab := s.fab.purge (sameHead q) }))) ∧
    (s.cutOff = false → Device.fenceApart 100 s.toDevice = s.toDevice)) ∧
  (∀ (s : State) (die : Nat) (es : List (Nat × Nat)), die < 100 → (∀ e ∈ es, e.1 < 100 ∧ e.2 < 2 ^ 32) →
    (s.fab.reroute.find? (fun e => e.1 = die) = none → exec (.routeTableWrite die es) s = .next s) ∧
    (∀ k todo, s.fab.reroute.find? (fun e => e.1 = die) = some (k, todo) →
      let mine := todo.filter (fun e => es.contains (e.1, e.2.1))
      let left := todo.filter (fun e => !mine.contains e)
      let t : Device := mine.foldl (fun (a : Device) e => a.takeEntry die e) s.toDevice
      (left = [] →
        let rest := t.fab.reroute.filter (fun e => e.1 ≠ die)
        let u := t.inc Reg.STAY_REROUTE_COUNT die 1
        let v := (Device.poisonHeld { u with fab := { u.fab with
          reroute := rest, holding := u.fab.holding.filter (fun d => d ≠ die) } } die).pump
        exec (.routeTableWrite die es) s = .next (s.after (if rest = [] then v.rerouteRecord else v))) ∧
      (left ≠ [] → exec (.routeTableWrite die es) s = .next (s.after { t with fab := { t.fab with
        reroute := t.fab.reroute.map (fun e => if e.1 = die then (die, left) else e) } })))) ∧
  (∀ (s : State) (t : Trunc), t.srcDie < 100 → t.dstDie < 100 → t.specEng < 2048 →
    (∀ q ∈ s.net, ¬(q.typ = 10 ∧ q.srcUnit = 14 ∧ q.len = 1 ∧ q.tag = t.tag)) →
    (s.fab.cut.find? (truncNames t) = none → exec (.truncNotice t) s = .next s) ∧
    (∀ q, s.fab.cut.find? (truncNames t) = some q →
      let core := dieKind t.dstDie = 1 ∧ t.dstUnit ≤ 9
      (t.typ = 3 → core → exec (.truncNotice t) s = .next (s.after ((s.forgetCut q).readAgain (unitCore t.dstDie t.dstUnit) t))) ∧
      (t.typ = 3 → ¬core → exec (.truncNotice t) s = .next (s.after (s.forgetCut q))) ∧
      (t.typ ≠ 3 → t.typ = 5 ∨ t.vc = 2 → exec (.truncNotice t) s = .next (s.after ((s.forgetCut q).send q))) ∧
      (t.typ ≠ 3 → t.typ ≠ 5 → t.vc = 0 → t.spec = true → t.specEng < 1600 →
        exec (.truncNotice t) s = .next (s.after (s.squashTo (t.specEng / 4) t.specEpoch).settleFaults)) ∧
      (t.typ ≠ 3 → t.typ ≠ 5 → t.vc ≠ 2 → ¬(t.vc = 0 ∧ t.spec = true ∧ t.specEng < 1600) → exec (.truncNotice t) s = .next s))) ∧
  (∀ (s : State) (die fenced : Nat), die < 100 → fenced < 100 →
    let gone := fun (p : Packet) => p.srcDie == die && p.dstDie == fenced
    (s.fenced fenced = false → exec (.fenceNotice die fenced) s = .next s) ∧
    (s.fenced fenced = true → exec (.fenceNotice die fenced) s =
      .next (s.after ((s.net.filter gone).foldl (fun (a : Device) p => a.discard die p 3 true) (s.dropNet gone))))) ∧
  (∀ (s : State) (die out vc : Nat), die < 100 → out < 5 → vc < 4 →
    (nget 0 s.fab.epochAt (shareKey die out vc 0) < 1024 → exec (.hopEpochEnd die out vc) s = .next s) ∧
    (1024 ≤ nget 0 s.fab.epochAt (shareKey die out vc 0) → ∃ t : Device, exec (.hopEpochEnd die out vc) s = .next (s.after t.pump) ∧
      nget 0 t.fab.epochAt (shareKey die out vc 0) = 0 ∧
      (∀ i < 5, nget 0 t.fab.hopNow (shareKey die out vc i) = 0 ∧
        nget 0 t.fab.hopLast (shareKey die out vc i) = nget 0 s.fab.hopNow (shareKey die out vc i) ∧
        nget 1 t.fab.weight (shareKey die out vc i) = if s.rdf Reg.STAY_CTL die 0 0 = 1
          then min 16 (max 1 (popCount 32 (nget 0 s.fab.hopNow (shareKey die out vc i)))) else 1) ∧
      { t with fab := s.fab } = s.toDevice))

/-- For every packet row: a packet with a VC or LEN that its TYPE does not allow (cause 2), to a unit that its die lacks (cause 3),
a write outside the exchange bank (cause 4) and, in a compute-plane reset, a packet to a compute-plane unit (cause 5) leaves the
fabric, is counted in STAY_DISCARD of its die with its type, cause and source in STAY_DISCARD_LAST, is answered with RSP_STATUS
3, but for cause 2, if it is a READ_REQ or a write with ACK_REQ, and has no other effect. The rows are told apart by their
types; a packet that may not land yet, because flits of it have not arrived or one before it has not landed (R52), and a request
that waits for controllers in training are not taken. (from R42, R43, R46, R52, R57, R70) -/
def Obligations.DiscardedPackets : Prop :=
  ∀ (s : State) (p : Packet) (bad : List Nat) (i : Instr) (k : Nat),
    i ∈ [.writePacket p, .readReq p bad, .readResp p, .writeAck p, .media p, .reg p, .clean p, .reopen p, .reopenAck p,
      .releaseAck p, .squashFrom p] → i.wf = true → s.dramWaits p = false → s.mayLand p = true →
    (s.receive p).ejectCause p.dstDie p = some k →
    exec i s = .next (s.after ((s.receive p).discard p.dstDie p k (k ≠ 2))) ∧
    (k = 2 ∨ k = 3 ∨ k = 4 ∨ k = 5) ∧ (k = 2 ↔ (vcAllowed p.typ p.vc && lenAllowed p.typ p.len) = false) ∧ (k = 4 → p.typ = 1) ∧ (k = 5 → s.resetting = true)

/-- A data packet that its destination accepts has its effect there: a write is applied, held or refused and acknowledged; a read is
answered; an answer ends the request it belongs to; MEDIA lands; a REG packet reaches the die-management unit. A write without
SPEC, not truncated and without poison, to an exchange bank is applied, posts its segment's semaphore when NOTIFY is set, and is
acknowledged with RSP_STATUS 0. A packet with SPEC to a unit that refuses them is answered with RSP_STATUS 3 (R166). A truncated
answer is dropped. A request whose half-stack's new controllers still train, and a packet that may not land yet (R52), stay in
the fabric. (from R42, R43, R46, R52, R54, R68, R93, R108, R166, R192, R362, R537) -/
def Obligations.DataPackets : Prop :=
  ∀ (s : State) (p : Packet) (bad : List Nat),
    (s.dramWaits p = true → exec (.writePacket p) s = .next s ∧ exec (.readReq p bad) s = .next s ∧ exec (.media p) s = .next s) ∧
    (s.mayLand p = false →
      (Packet.of 1 p = true → exec (.writePacket p) s = .next s) ∧ (Packet.of 2 p = true → exec (.readReq p bad) s = .next s) ∧
      (Packet.of 3 p = true → exec (.readResp p) s = .next s) ∧ (Packet.of 4 p = true → exec (.writeAck p) s = .next s) ∧
      (Packet.of 5 p = true → exec (.media p) s = .next s) ∧ (Packet.of 9 p = true → exec (.reg p) s = .next s)) ∧
    (s.dramWaits p = false → s.mayLand p = true → (s.receive p).ejectCause p.dstDie p = none →
      let t := s.receive p
      let done := fun (d : Device) => s.after (d.afterPacket p)
      (Packet.of 1 p = true →
        exec (.writePacket p) s = .next (done (if p.vc = 3 then t.takeWrite p else (t.takeWrite p).forgetCut p)) ∧
        (dieKind p.dstDie = 1 → p.dstUnit ≤ 9 → p.spec = false → p.poison = [] → t.isCut p = false → p.vc = 3 →
          exec (.writePacket p) s = .next (done ((if p.notify then
            (t.applyWrite p).notify (unitCore p.dstDie p.dstUnit) p.addr none else t.applyWrite p).ack p 0))) ∧
        (dieKind p.dstDie ≠ 1 → p.spec = true → specRefused p.dstDie p.dstUnit = true → p.vc = 3 →
          exec (.writePacket p) s = .next (done (t.ack p 3)))) ∧
      (Packet.of 2 p = true → exec (.readReq p bad) s = .next (done (t.takeRead p bad)) ∧
        (¬(dieKind p.dstDie = 0 ∧ p.dstUnit = 5 ∧ p.spec = false ∧ p.srcUnit = 15) → p.spec = true → specRefused p.dstDie p.dstUnit = true →
          exec (.readReq p bad) s = .next (done (t.refuse p)))) ∧
      (Packet.of 3 p = true →
        (t.isCut p = true → exec (.readResp p) s = .next (done t)) ∧
        (t.isCut p = false → dieKind p.dstDie = 1 → p.dstUnit ≤ 9 →
          exec (.readResp p) s = .next (done (t.coreResp (unitCore p.dstDie p.dstUnit) p))) ∧
        (t.isCut p = false → ¬(dieKind p.dstDie = 1 ∧ p.dstUnit ≤ 9) → exec (.readResp p) s = .next (done (t.memData p)))) ∧
      (Packet.of 4 p = true → exec (.writeAck p) s = .next (done (onWriteAck p t)) ∧
        (dieKind p.dstDie = 1 → p.dstUnit ≤ 9 → ∀ d, (t.core (unitCore p.dstDie p.dstUnit)).dma.find? (fun d =>
            !d.read && d.tag == p.tag && d.die == p.srcDie && d.unit == p.srcUnit) = some d →
          (p.rsp ≠ 3 → exec (.writeAck p) s = .next (done (t.dmaDone (unitCore p.dstDie p.dstUnit) d))) ∧
          (p.rsp = 3 → exec (.writeAck p) s = .next (done
            ((t.dmaDone (unitCore p.dstDie p.dstUnit) d).dmaRefused (unitCore p.dstDie p.dstUnit) d))))) ∧
      (Packet.of 5 p = true → exec (.media p) s = .next (done (t.takeMedia p))) ∧
      (Packet.of 9 p = true → exec (.reg p) s = .next (done (onReg p t))))

/-- CLEAN empties a core's entry of its producer up to the epoch, releases an adder's contributions with a RELEASE_ACK, or releases
a hold buffer's writes. REOPEN lets the producer's arrivals in again and is answered. REOPEN_ACK and RELEASE_ACK end what the
core waits for from that unit. SQUASH_FROM of epochs of which the core holds nothing any more is counted in TLT_SQUASH_IN and
TLT_VC2_IGNORED and nothing else happens (log entry 54); otherwise the core withdraws what arrived of them, counts each, and
shuts the producer out from that epoch; a hold buffer does the same. A kind that R172 does not list is counted and ignored.
(from R167, R169, R172, R174, R175, R176, R177) -/
def Obligations.VerdictPackets : Prop :=
  ∀ (s : State) (p : Packet), s.mayLand p = true → (s.receive p).ejectCause p.dstDie p = none →
    let t := s.receive p; let c := unitCore p.dstDie p.dstUnit; let q := verdictCore p
    let done := fun (d : Device) => s.after (d.afterPacket p)
    let reply := fun (kind : Nat) => verdictPacket 7 kind p.dstDie p.dstUnit p.srcDie p.srcUnit p.specEng p.specEpoch (pktJob p)
    (Packet.verdict 1 p = true →
      (toCore p = true → exec (.clean p) s = .next (done (t.cleanDep c q p.specEpoch))) ∧
      (dieKind p.dstDie = 1 → p.dstUnit = 13 → exec (.clean p) s = .next (done
        ((((t.setHold p.dstDie ((t.holdBuf p.dstDie).noteClean q 13 p.specEpoch)).releaseContribs (sparOrd p.dstDie) q p.specEpoch).send
          (reply 4)).settleAll))) ∧
      (toCore p = false → ¬(dieKind p.dstDie = 1 ∧ p.dstUnit = 13) →
        exec (.clean p) s = .next (done (t.releaseHold p.dstDie p.dstUnit q p.specEpoch (pktJob p))))) ∧
    (Packet.of 7 p = true → p.addr = 0 ∨ 4 < p.addr → exec (.clean p) s = .next (done (t.ignoreVc2 p))) ∧
    (Packet.verdict 2 p = true → toCore p = true → exec (.reopen p) s = .next (done
      ((t.setCore c { (t.core c) with shut := nset none (t.core c).shut q none }).send (reply 3)))) ∧
    (Packet.verdict 2 p = true → toCore p = false → exec (.reopen p) s = .next (done
      ((t.setHold p.dstDie { (t.holdBuf p.dstDie) with shut := nset none (t.holdBuf p.dstDie).shut (q * 16 + p.dstUnit) none }).send
        (reply 3)))) ∧
    (Packet.verdict 3 p = true → toCore p = true → exec (.reopenAck p) s = .next (done
      (t.setCore c { (t.core c) with
        reopenWait := (t.core c).reopenWait.filter (fun w => w.1 ≠ p.srcDie * 16 + p.srcUnit) }))) ∧
    (Packet.verdict 4 p = true → toCore p = true → exec (.releaseAck p) s = .next (done
      (t.setCore c { (t.core c) with
        releaseWait := (t.core c).releaseWait.filter (fun w => !(w.1 == p.srcDie * 16 + p.srcUnit && w.2 == p.specEpoch)) }))) ∧
    (Packet.verdict 3 p = true ∧ toCore p = false → exec (.reopenAck p) s = .next (done t)) ∧
    (Packet.verdict 4 p = true ∧ toCore p = false → exec (.releaseAck p) s = .next (done t)) ∧
    (Packet.of 8 p = true → p.addr = 1 → p.specEng < 1600 → toCore p = true →
      let u := t.inc Reg.TLT_SQUASH_IN c 1; let k := u.core c; let d : Dep := nget {} k.deps q
      let gone := d.landed.filter (fun e => epochGe e p.specEpoch)
      exec (.squashFrom p) s = .next (done (t.coreSquash c q p.specEpoch)) ∧
      (squashIdle d.cleaned (nget none k.shut q) p.specEpoch (!gone.isEmpty) = true →
        exec (.squashFrom p) s = .next (done (u.inc Reg.TLT_VC2_IGNORED c 1))) ∧
      (squashIdle d.cleaned (nget none k.shut q) p.specEpoch (!gone.isEmpty) = false →
        (∀ h, highEpoch d.epochs = some h → epochGe h p.specEpoch = false) →
        exec (.squashFrom p) s = .next (done ((u.setCore c { k with
          shut := nset none k.shut q (some (lowerShut k.shut q p.specEpoch)),
          arrivals := k.arrivals.filter (fun x => !x.ofSquashed q p.specEpoch),
          deps := nset {} k.deps q { d with landed := d.landed.filter (fun e => !epochGe e p.specEpoch) } }).inc
            Reg.TLT_DISCARD_ARRIVALS c gone.length)))) ∧
    (Packet.of 8 p = true → p.addr = 1 → p.specEng < 1600 → toCore p = false → ¬(dieKind p.dstDie = 1 ∧ p.dstUnit = 13) →
      exec (.squashFrom p) s = .next (done (t.squashHold p.dstDie p.dstUnit q p.specEpoch false))) ∧
    (Packet.of 8 p = true → p.addr ≠ 1 → exec (.squashFrom p) s = .next (done (t.ignoreVc2 p)))

/-- For every unit instruction: at a core whose CORE_STATE shows FAULT, or in a compute-plane reset, it has no effect; a malformed
one at a core that has not faulted is an instruction fault with the cause that the rules give, which sets the bit of CORE_FAULT,
CORE_FAULT_INFO and CORE_STATE.FAULT and reports a job fault. What each row ends with follows: a halt that may now end, and the
job fault's answer. (from R97, R99, R111, R120, R247, R575) -/
def Obligations.UnitInstructionStops : Prop :=
  ∀ (s : State) (c : Nat) (i : BitVec 128) (ok : Bool) (r : Instr × Nat × Nat), r ∈ unitRows c i ok → unitOf r.2.1 r.2.2 c i = true →
    (s.faulted c = true → exec r.1 s = .next (s.after (s.settleCore c))) ∧
    (s.faulted c = false → ∀ cause, malformed i = some cause →
      ∃ q, exec r.1 s = .next (s.after ((s.instrFault c cause i q).settleCore c)) ∧ (r.2.1 = 4 → q = 6) ∧ (r.2.1 ≠ 4 → q = queueOf i))

/-- An instruction of an engine or of the DMA mover that issues (R97, R98) has its effect after its entry is marked as issued and
its semaphore taken: WLOAD loads the shadow bank with its range and its checksums and zeroes every other row, MAC accumulates
token by token, DRAIN moves the accumulators to the latch and writes the rescaled results, COPY copies within the core, PUT
sends its packets and GET queues its reads. A MAC whose bank holds no tile is an instruction fault (under SWAP too, log entry
165). (from R86, R99, R102, R103, R104, R107, R108, R111) -/
def Obligations.EngineAndDmaInstructions : Prop :=
  ∀ (s : State) (c : Nat) (i : BitVec 128) (t : Device) (p : Placed), s.issuesAs c i = some (t, p) →
  (unitOf 1 1 c i = true → exec (.wload c i) s = .next (s.after ((t.wloadEffect c i).settleCore c))) ∧
  (unitOf 1 2 c i = true → exec (.mac c i) s = .next (s.after ((t.macEffect c i).settleCore c))) ∧
  (unitOf 1 2 c i = true → (nget ({} : Tile) (t.engine (t.macArgs c i).eng).tiles (t.macArgs c i).bank).rowCount = 0 →
    exec (.mac c i) s = .next (s.after ((t.instrFault c 3 i (queueOf i)).settleCore c))) ∧
  (unitOf 1 3 c i = true → exec (.drain c i) s = .next (s.after ((t.drainEffect c i p.epoch).settleCore c))) ∧
  (unitOf 3 1 c i = true → exec (.copy c i) s = .next (s.after ((t.copyEffect c i).settleCore c))) ∧
  (unitOf 3 2 c i = true → exec (.put c i) s = .next (s.after ((t.putEffect c i p).settleCore c))) ∧
  (unitOf 3 3 c i = true → exec (.get c i) s = .next (s.after ((t.getEffect c i p).settleCore c)))

/-- A vector instruction that issues computes each element of its result from the elements of its operands by its operation (or the
reduction of them), converts it to the format of the destination and writes it to the scratchpad; when the residue check fails,
the core's check fails as the rule says. The operation of each row is that of its VOP: the addition, subtraction and product of
two fp32 numbers rounded once, the fused product, the maximum and minimum, the magnitude, the value itself for CVT, and for EXP,
RECIP, RSQRT and SIGMOID of a finite value in their domain one of the codes within 2 ulp of the exact result, which one being
free. (from R99, R105, R106, R144, R159) -/
def Obligations.VectorInstructions : Prop :=
  (∀ (s : State) (c : Nat) (i : BitVec 128) (ok : Bool) (t : Device) (p : Placed), s.issuesAs c i = some (t, p) →
  (unitOf 2 0x01 c i = true → exec (.add c i ok) s = .next (s.after ((t.vecEffect c i ok).settleCore c))) ∧
  (unitOf 2 0x02 c i = true → exec (.sub c i ok) s = .next (s.after ((t.vecEffect c i ok).settleCore c))) ∧
  (unitOf 2 0x03 c i = true → exec (.mul c i ok) s = .next (s.after ((t.vecEffect c i ok).settleCore c))) ∧
  (unitOf 2 0x04 c i = true → exec (.fma c i ok) s = .next (s.after ((t.vecEffect c i ok).settleCore c))) ∧
  (unitOf 2 0x05 c i = true → exec (.max c i ok) s = .next (s.after ((t.vecEffect c i ok).settleCore c))) ∧
  (unitOf 2 0x06 c i = true → exec (.min c i ok) s = .next (s.after ((t.vecEffect c i ok).settleCore c))) ∧
  (unitOf 2 0x07 c i = true → exec (.abs c i ok) s = .next (s.after ((t.vecEffect c i ok).settleCore c))) ∧
  (unitOf 2 0x08 c i = true → exec (.exp c i ok) s = .next (s.after ((t.vecEffect c i ok).settleCore c))) ∧
  (unitOf 2 0x09 c i = true → exec (.recip c i ok) s = .next (s.after ((t.vecEffect c i ok).settleCore c))) ∧
  (unitOf 2 0x0A c i = true → exec (.rsqrt c i ok) s = .next (s.after ((t.vecEffect c i ok).settleCore c))) ∧
  (unitOf 2 0x0B c i = true → exec (.sigmoid c i ok) s = .next (s.after ((t.vecEffect c i ok).settleCore c))) ∧
  (unitOf 2 0x0C c i = true → exec (.siluMul c i ok) s = .next (s.after ((t.vecEffect c i ok).settleCore c))) ∧
  (unitOf 2 0x0D c i = true → exec (.cvt c i ok) s = .next (s.after ((t.vecEffect c i ok).settleCore c))) ∧
  (unitOf 2 0x10 c i = true → exec (.rsum c i ok) s = .next (s.after ((t.vecEffect c i ok).settleCore c))) ∧
  (unitOf 2 0x11 c i = true → exec (.rmax c i ok) s = .next (s.after ((t.vecEffect c i ok).settleCore c))) ∧
  (unitOf 2 0x12 c i = true → exec (.absmax c i ok) s = .next (s.after ((t.vecEffect c i ok).settleCore c)))) ∧
  (∀ a b d : F32, vecOp 1 a b d = fadd a b ∧ vecOp 2 a b d = fsub a b ∧ vecOp 3 a b d = fmul a b ∧ vecOp 4 a b d = ffma a b d ∧
    vecOp 5 a b d = maxV a b ∧ vecOp 6 a b d = minV a b ∧ vecOp 7 a b d = fabs a ∧ vecOp 0x0D a b d = a ∧
    (expCodes (f32Val a) ≠ [] → ∃ k ∈ expCodes (f32Val a), vecOp 8 a b d = BitVec.ofNat 32 k) ∧
    (recipCodes (f32Val a) ≠ [] → ∃ k ∈ recipCodes (f32Val a), vecOp 9 a b d = BitVec.ofNat 32 k) ∧
    (rsqrtCodes (f32Val a) ≠ [] → ∃ k ∈ rsqrtCodes (f32Val a), vecOp 0x0A a b d = BitVec.ofNat 32 k) ∧
    (sigmoidCodes (f32Val a) ≠ [] → ∃ k ∈ sigmoidCodes (f32Val a), vecOp 0x0B a b d = BitVec.ofNat 32 k))

/-- A SYNC instruction acts once its wait is met and, for CKPT, FENCE and END, nothing is left on the scoreboard: the sequencer goes
past it with its semaphore taken, then CKPT closes the epoch, FENCE only posts its trailer, POST adds COUNT to SEM and posts its
trailer, HINT gives its body to its cores, and END closes the epoch and ends the kernel. One whose wait is not met counts in
CORE_SEQ_WAIT (log entry 158), and one that must drain waits: the sequencer stands still at it, and nothing else changes. (from
R94, R97, R99, R109, R112, R504) -/
def Obligations.SyncInstructions : Prop :=
  ∀ (s : State) (c : Nat) (i : BitVec 128),
  let past := s.syncTaken c i
  let at_ := s.setCore c { s.core c with atSync := some i }
  let done := fun (d : Device) => s.after ((d.settleHalt c).settleFaults)
  (s.syncActs c i true = true →
    (unitOf 4 1 c i = true → exec (.ckpt c i) s = .next (done (past.ckptEffect c i))) ∧
    (unitOf 4 2 c i = true → exec (.fence c i) s = .next (done (past.postTrailer c i))) ∧
    (unitOf 4 5 c i = true → exec (.endKernel c i) s = .next (done (past.endEffect c i)))) ∧
  (s.syncActs c i false = true →
    (unitOf 4 3 c i = true → exec (.post c i) s = .next (done
      ((past.postSem c (ifld i 119 115) (ifld i 114 99) i 6).postTrailer c i))) ∧
    (unitOf 4 4 c i = true → ifld i 114 114 = 0 → exec (.hint c i) s = .next (done
      ((past.takeHint [c] true (i.toNat / 2 ^ 32 % 2 ^ 88)).postTrailer c i))) ∧
    (unitOf 4 4 c i = true → ifld i 114 114 = 1 → ∀ j x, past.coreJob c = some j → past.job j = some x →
      exec (.hint c i) s = .next (done ((past.takeHint (x.cores.filter (fun d => coreDie d = coreDie c ∧ past.coreActive d)) true
        (i.toNat / 2 ^ 32 % 2 ^ 88)).postTrailer c i)))) ∧
  (s.faulted c = false → s.seqWaits c = false → malformed i = none → s.waitMet c i = false →
    ∀ x, x ∈ [Instr.ckpt c i, .fence c i, .post c i, .hint c i, .endKernel c i] → x.wf = true →
      exec x s = .next (done (at_.inc Reg.CORE_SEQ_WAIT c 1))) ∧
  (s.faulted c = false → s.seqWaits c = false → malformed i = none → s.waitMet c i = true → (s.core c).board ≠ [] →
    ∀ x, x ∈ [Instr.ckpt c i, .fence c i, .endKernel c i] → x.wf = true → exec x s = .next (done at_))

/-- A unit instruction is placed on the scoreboard while the core runs, unless 48 are there, its queue holds 8 that have not issued,
or the sequencer stands still, which counts in CORE_SEQ_WAIT; a malformed one is an instruction fault; a faulted core places
nothing. An instruction completes once it has issued and none of its packets is outstanding: it leaves the scoreboard. An idle
engine gates its rows. A verdict of a DRAIN is clean when the sums hold and the twins agree, is one of a numeric event when a
sum fails again bit for bit on another engine, and fails as the rules say otherwise. A sequencer mismatch is a failed check of
the core, its ordinal that of the epoch's next check (log entry 160). An epoch commits when it may, unless the core is halted. A
request that a hold buffer keeps is answered with RSP_STATUS 3 at its timeout, counted and logged. A kernel's end is taken once
END has committed and every RELEASE_ACK has come. (from R87, R97, R98, R99, R111, R114, R158, R159, R161, R171, R174, R180) -/
def Obligations.CoreEvents : Prop :=
  (∀ (s : State) (c : Nat) (i : BitVec 128), c < 400 →
    (s.faulted c = true → exec (.unitInstructionPlace c i) s = .next (s.after (s.settleCore c))) ∧
    (∀ cause, s.faulted c = false → malformed i = some cause →
      exec (.unitInstructionPlace c i) s = .next (s.after ((s.instrFault c cause i (queueOf i)).settleCore c))) ∧
    (s.faulted c = false → malformed i = none → queueOf i ≠ 6 →
      (s.seqWaits c = true ∨ 48 ≤ (s.core c).board.length ∨ 8 ≤ ((s.core c).board.filter (fun p => p.queue == queueOf i && !p.issued)).length →
        exec (.unitInstructionPlace c i) s = .next (s.after ((s.inc Reg.CORE_SEQ_WAIT c 1).settleCore c))) ∧
      (s.seqWaits c = false → (s.core c).board.length < 48 →
        ((s.core c).board.filter (fun p => p.queue == queueOf i && !p.issued)).length < 8 →
        exec (.unitInstructionPlace c i) s = .next (s.after (((s.setCore c { (s.core c) with
          board := (s.core c).board ++ [⟨(s.core c).nextSeq, i, queueOf i, s.rdf Reg.CORE_EPOCH c 7 0, false⟩],
          nextSeq := (s.core c).nextSeq + 1 }).showQueues c).settleCore c)))) ∧
    (s.faulted c = false → malformed i = none → queueOf i = 6 → s.seqWaits c = false →
      exec (.unitInstructionPlace c i) s = .next (s.after ((s.setCore c { s.core c with atSync := some i }).settleCore c)))) ∧
  (∀ (s : State) (c seq : Nat), c < 400 →
    ((s.core c).board.find? (fun p => p.seq = seq ∧ p.issued) = none →
      exec (.unitInstructionComplete c seq) s = .next (s.after (s.settleCore c))) ∧
    (∀ p, (s.core c).board.find? (fun p => p.seq = seq ∧ p.issued) = some p →
      let t := (s.setCore c { (s.core c) with board := (s.core c).board.filter (fun q => q.seq ≠ seq) }).showQueues c
      let u := if p.queue < 4 then t.engineDone c p.instr else t
      (p.queue = 5 → (∃ d ∈ (s.core c).dma, d.probe = false ∧ d.seq = seq) →
        exec (.unitInstructionComplete c seq) s = .next (s.after (s.settleCore c))) ∧
      (p.queue ≠ 5 ∨ (∀ d ∈ (s.core c).dma, d.probe = true ∨ d.seq ≠ seq) →
        (ifld p.instr 18 18 = 0 → exec (.unitInstructionComplete c seq) s = .next (s.after (u.settleCore c))) ∧
        (ifld p.instr 18 18 = 1 → exec (.unitInstructionComplete c seq) s =
          .next (s.after ((u.postSem c (ifld p.instr 17 13) 1 p.instr p.queue).settleCore c)))))) ∧
  (∀ (s : State) (e : Nat), e < 1600 →
    (s.rdf Reg.ENG_STATUS e 2 0 = 0 → exec (.rowGate e) s = .next (s.after (s.wrf Reg.ENG_STATUS e 10 10 1))) ∧
    (s.rdf Reg.ENG_STATUS e 2 0 ≠ 0 → exec (.rowGate e) s = .next s)) ∧
  (∀ (s : State) (e : Nat) (d : DrainCheck), e < 1600 → (s.core (e / 4)).drains.find? (fun d => d.eng = e) = some d →
    let c := e / 4
    let t := s.setCore c { (s.core c) with drains := (s.core c).drains.erase d }
    (d.sumFail = none → exec (.verdictIssue e true) s = .next (s.after ((t.drainClean c d false).settleCore c))) ∧
    (d.sumFail = none → exec (.verdictIssue e false) s = .next (s.after
      (((t.inc Reg.TLT_FAIL_DRAIN c 1).verdictFail c d.epoch d.ordinal 0 ⟨e % 4, 1, 0xFF, 0, 0⟩ (some d.logical)).settleCore c))) ∧
    (∀ f ok, d.sumFail = some f →
      ok = false ∨ t.rdf Reg.TLT_VERDICT_CTL c 4 4 = 0 ∨ sameAgain (t.site c d.epoch d.ordinal 0) (e % 4) f = false →
      exec (.verdictIssue e ok) s = .next (s.after
        (((t.inc Reg.TLT_FAIL_SUM c 1).verdictFail c d.epoch d.ordinal 0 ⟨e % 4, 0, f.1, f.2.1, f.2.2⟩ (some d.logical)).settleCore c))) ∧
    (∀ f, d.sumFail = some f → t.rdf Reg.TLT_VERDICT_CTL c 4 4 = 1 → sameAgain (t.site c d.epoch d.ordinal 0) (e % 4) f = true →
      exec (.verdictIssue e true) s = .next (s.after (((t.record 0x0502 (tltBody c (e % 4) d.epoch 0
        (t.site c d.epoch d.ordinal 0).length f.1 ((t.coreJob c).getD 0) f.2.1 f.2.2) (t.jobViewer (t.coreJob c))).drainClean c d
          true).settleCore c)))) ∧
  (∀ (s : State) (c : Nat), c < 400 →
    (s.resetting = false → let d := s.takeOrdinal c (s.epoch c)
      exec (.sequencerMismatch c) s = .next (s.after ((d.2.checkFail c 0xFF 3 d.1).settleCore c))) ∧
    (s.resetting = true → exec (.sequencerMismatch c) s = .next (s.after (s.settleCore c))) ∧
    (s.mayCommit c = true → s.halted c = false → exec (.epochCommit c) s = .next (s.after ((s.commitEpoch c).settleCore c))) ∧
    (s.mayCommit c = false ∨ s.halted c = true → exec (.epochCommit c) s = .next (s.after (s.settleCore c)))) ∧
  (∀ (s : State) (die idx : Nat), die < 100 →
    ((s.holdBuf die).waiting[idx]? = none → exec (.holdTimeout die idx) s = .next s) ∧
    (∀ w, (s.holdBuf die).waiting[idx]? = some w →
      let t := (s.setHold die { s.holdBuf die with waiting := (s.holdBuf die).waiting.eraseIdx idx }).inc Reg.TLT_HOLD_TIMEOUTS die 1
      let u := t.record 0x0505 (tltBody (0x400 + die) 0xFF w.pkt.specEpoch 4 0 0xFF w.pkt.job 0 0)
        (t.jobViewer (if w.pkt.jobV then some w.pkt.job else none))
      (w.pkt.typ = 2 → exec (.holdTimeout die idx) s = .next (s.after ((u.inc Reg.TLT_HOLD_READ_WAIT die (u.now - w.since)).send
        { pktReply w.pkt 3 3 with len := w.pkt.len, body := List.replicate (w.pkt.len * 16) 0 }))) ∧
      (w.pkt.typ ≠ 2 → exec (.holdTimeout die idx) s = .next (s.after (u.ack w.pkt 3))))) ∧
  (∀ (s : State) (c : Nat) (r : KernelResult), c < 400 →
    (s.task c = none ∨ (s.core c).ended = false ∨ (s.core c).releaseWait ≠ [] → exec (.kernelEndReport c r) s = .next s) ∧
    (∀ t, s.task c = some t → (s.core c).ended = true → (s.core c).releaseWait = [] →
      exec (.kernelEndReport c r) s = .next (s.after ((s.freeCore c t).taskEnd t r).settleAll)))

/-- A half-stack in service with a load waiting, a free landing slot and space for the slice takes pages and issues the read, or
only moves a slice that is whole; a load that finds no space is noted as blocked and the next is tried; out of service, in a
compute-plane reset, with no slot or no load, nothing happens. A landed slot is moved to the pages of its slice and freed, and a
poisoned window or demand slice noted (R217); one that has not landed stays. The next record of the DISPATCH whose turn it is
goes to its batch or waits at the dispatcher since then; any other DISPATCH routes nothing. An open batch is released by its
timer under cause 3, but not in a reset. A task goes to an idle core of its die, or is stolen by one of a die with no task of
its own, counted in JOB_STEALS; work held gives nothing. A finished output copy ends its batch. A BARRIER DISPATCH goes once
every one of its job admitted before it has completed, and the idle time of the cores is counted as barrier wait. A pace
interval stores the count of each open job in JOB_PACE_PPS and starts the counts anew. (from R188, R189, R200, R217, R233, R235,
R236, R237, R238, R241, R245, R246) -/
def Obligations.SlicesAndTasks : Prop :=
  (∀ (s : State) (ord : Nat), ord < 40 → let die := s.hsDie ord
    (s.hsUp ord = false ∨ s.resetting = true ∨ (∀ k < 32, (s.slot die k).isSome = true) ∨ s.tier.loads = [] →
      exec (.sliceFetchIssue ord) s = .next s) ∧
    (∀ k l rest, s.hsUp ord = true → s.resetting = false → (List.range 32).find? (fun k => (s.slot die k).isNone) = some k →
      s.tier.loads = l :: rest →
      (s.loadOf ord l = none → exec (.sliceFetchIssue ord) s = .next (s.after (Device.tryLoads ord die k rest s.toDevice))) ∧
      (∀ o x t, s.loadOf ord l = some (o, x) →
        (s.placeSlice l.slice o x l.job = (false, t) →
          exec (.sliceFetchIssue ord) s = .next (s.after (Device.tryLoads ord die k rest (t.blockLoad l)))) ∧
        (s.placeSlice l.slice o x l.job = (true, t) → x.resident = true →
          exec (.sliceFetchIssue ord) s = .next (s.after ((t.unblockLoad l l.slice).dropLoad l.slice))) ∧
        (s.placeSlice l.slice o x l.job = (true, t) → x.resident = false →
          exec (.sliceFetchIssue ord) s = .next (s.after ((t.unblockLoad l l.slice).issueRead l.slice o ord die k)))))) ∧
  (∀ (s : State) (ord k : Nat), ord < 40 → k < 32 →
    (s.slot (s.hsDie ord) k = none → exec (.stagingMove ord k) s = .next s) ∧
    (∀ l, s.slot (s.hsDie ord) k = some l → l.landed < l.bytes → exec (.stagingMove ord k) s = .next s) ∧
    (∀ l, s.slot (s.hsDie ord) k = some l → l.bytes ≤ l.landed → (s.setSlot (s.hsDie ord) k none).slice l.slice = none →
      exec (.stagingMove ord k) s = .next (s.after (s.setSlot (s.hsDie ord) k none))) ∧
    (∀ l x p o, s.slot (s.hsDie ord) k = some l → l.bytes ≤ l.landed → (s.setSlot (s.hsDie ord) k none).slice l.slice = some x →
      x.page = some p →
      let bad := s.poisonIn 4 (s.hsDie ord) (k * unitBytes) l.bytes
      let t := ((s.setSlot (s.hsDie ord) k none).writeMem 5 x.hs (p * pageBytes + l.offset)
        (s.readMem 4 (s.hsDie ord) (k * unitBytes) l.bytes) bad).setSlice l.slice (some { x with loaded := x.loaded + l.bytes })
      t.obj (sliceObj l.slice) = some o →
      let u := if o.srcKind = 1 then t.inc Reg.TIER_FLASH_BYTES 0 l.bytes else t
      (bad = [] ∨ (o.policy ≠ 2 ∧ o.policy ≠ 3) → exec (.stagingMove ord k) s = .next (s.after (u.sliceLoaded l.slice))) ∧
      (bad ≠ [] → o.policy = 2 ∨ o.policy = 3 →
        exec (.stagingMove ord k) s = .next (s.after ((u.noteSpoiled l.slice).sliceLoaded l.slice))))) ∧
  (∀ (s : State) (seq : Nat),
    (s.routeTurn = none → exec (.recordRoute seq) s = .next s) ∧
    (∀ d left, s.routeTurn = some (d, left) → d.seq ≠ seq → exec (.recordRoute seq) s = .next s) ∧
    (∀ d left x r, s.routeTurn = some (d, left) → d.seq = seq → s.job d.job = some x → d.recs[d.routed]? = some r →
      let u : Device := { s.toDevice with work := { s.work with turnOrder := s.dispOrder d, turnLeft := left - 1 } }
      let v := u.setDisp { d with routed := d.routed + 1 }
      (∀ t, v.batchRecord x { d with routed := d.routed + 1 } d.routed r = some t → exec (.recordRoute seq) s =
        .next (s.after (((t.showSlotWait d.job).pressure d.job (u.recHome d r)).flushDisp seq))) ∧
      (∀ d', v.batchRecord x { d with routed := d.routed + 1 } d.routed r = none → v.disp seq = some d' → exec (.recordRoute seq) s =
        .next (s.after ((((v.setDisp { d' with waiting := d'.waiting ++ [(v.now, d.routed)] }).showSlotWait d.job).pressure d.job
          (u.recHome d r)).flushDisp seq)))) ∧
    (s.disp seq = none → exec (.barrierDispatchStart seq) s = .next s) ∧
    (∀ d, s.disp seq = some d → d.go = true ∨ s.barred d.n d.job = true → exec (.barrierDispatchStart seq) s = .next s) ∧
    (∀ d, s.disp seq = some d → d.go = false → s.barred d.n d.job = false →
      let a : Device := match s.job d.job with
        | some x => x.cores.foldl (fun (a : Device) c => match nget none a.work.idleFrom c with
            | some t => a.inc Reg.JOB_BARRIER_WAIT_NS d.job (a.now - a.uncounted d.job (max t d.goFrom))
            | none => a) s.toDevice
        | none => s.toDevice
      let t : Device := a.setDisp { d with go := true }
      exec (.barrierDispatchStart seq) s = .next (s.after (({ t with work := { t.work with
        disps := t.work.disps.map (fun (e : Disp) => if e.job = d.job ∧ !e.go then { e with goFrom := t.now } else e) } } : Device).showBarrier d.job)))) ∧
  (∀ (s : State) (ord j slot : Nat), ord < 40 → j < 64 →
    (∀ b, s.work.batches.find? (fun b => b.hs = ord ∧ b.job = j ∧ b.slot = slot ∧ b.st = 0 ∧ b.timer ≠ 0) = some b →
      (s.resetting = true → exec (.batchTimerExpiry ord j slot) s = .next s) ∧
      (s.resetting = false → exec (.batchTimerExpiry ord j slot) s = .next (s.after (s.releaseBatch b 3)))) ∧
    (s.work.batches.find? (fun b => b.hs = ord ∧ b.job = j ∧ b.slot = slot ∧ b.st = 0 ∧ b.timer ≠ 0) = none →
      exec (.batchTimerExpiry ord j slot) s = .next s) ∧
    (∀ b, s.work.batches.find? (fun b => b.hs = ord ∧ b.job = j ∧ b.slot = slot ∧ b.st = 3) = some b →
      exec (.outputCopyComplete ord j slot) s = .next (s.after (s.copyDone b).settleAll)) ∧
    (s.job j = none ∨ s.computeHeld = true → exec (.taskGive ord j) s = .next s ∧ exec (.workSteal ord j) s = .next s) ∧
    (∀ x c t d, s.job j = some x → s.computeHeld = false → s.fenced (sparDie ord) = false → s.idleCore (sparDie ord) x = some c →
      s.pickTask (s.dieQueue (sparDie ord) j true) = (some t, d) → exec (.taskGive ord j) s = .next (s.after (d.giveTask c t))) ∧
    (∀ x c v t d, s.job j = some x → s.computeHeld = false → s.fenced (sparDie ord) = false → s.rdf Reg.JOB_CTL j 20 16 ≠ 0 →
      s.dieQueue (sparDie ord) j true = [] → s.idleCore (sparDie ord) x = some c →
      (s.stealOrder (sparDie ord) (s.rdf Reg.JOB_CTL j 20 16)).find?
        (fun d => (s.idleCore d x).isNone && !(s.dieQueue d j false).isEmpty) = some v →
      s.pickTask (s.dieQueue v j false) = (some t, d) →
      exec (.workSteal ord j) s = .next (s.after ((d.giveTask c t).inc Reg.JOB_STEALS j 1)))) ∧
  (∀ s : State, ∃ t : Device, exec .paceInterval s = .next (s.after t) ∧ t.work = { s.work with pace := [] } ∧
    (∀ j < 64, s.jobState j ≠ 0 → t.rd Reg.JOB_PACE_PPS j = nget 0 s.work.pace j) ∧
    (∀ j < 64, s.jobState j = 0 → t.rd Reg.JOB_PACE_PPS j = s.rd Reg.JOB_PACE_PPS j) ∧
    { t with regs := s.regs, work := s.work } = s.toDevice)

/-- A TACKLE packet that its sequencer accepts brings a context, contributions or statistics; one to another unit, or not from a
core, is discarded with cause 3. A grant gives the first waiting run of the reduction that fits its reservation; with none
nothing happens. A timeout abandons an accumulating reduction that some adder has not completed, counts it, and ends its pending
RANK_DONEs with RANK_TIMEOUT; a complete one is left alone. The update phase starts once every adder is complete and nothing
holds or reads the shard: TKL_RED_STATUS shows phase 2 and the rows are rewritten. At its end the shard's updates and last step
are counted and the reduction ends, poisoned or not. Outside these phases the events do nothing. (from R52, R263, R266, R268,
R269, R270, R272, R276, R279, R280, R282, R283) -/
def Obligations.ReductionEvents : Prop :=
  (∀ (s : State) (p : Packet), Packet.of 6 p = true → s.mayLand p = true → (s.receive p).ejectCause p.dstDie p = none →
    (dieKind p.dstDie = 1 → p.dstUnit = 13 → dieKind p.srcDie = 1 → p.srcUnit ≤ 9 →
      (p.addr = 0xF00000000 → exec (.tackleContext p) s = .next (s.after (((s.receive p).takeContext p).afterPacket p))) ∧
      (p.addr < 0xF00000000 → exec (.tackleCodes p) s = .next (s.after (((s.receive p).takeCodes p false).afterPacket p))) ∧
      (p.addr = 0xF00000020 → exec (.tackleStatistics p) s = .next (s.after (((s.receive p).takeCodes p true).afterPacket p)))) ∧
    ((dieKind p.dstDie ≠ 1 ∨ p.dstUnit ≠ 13 ∨ dieKind p.srcDie ≠ 1 ∨ 9 < p.srcUnit) → ∀ i, i ∈ [Instr.tackleContext p, .tackleCodes p,
      .tackleStatistics p] → i.wf = true → exec i s = .next (s.after (((s.receive p).wrongUnit p).afterPacket p)))) ∧
  (∀ (s : State) (ord red : Nat), ord < 40 → red < 64 →
    (s.red red = none → exec (.reservationGrant ord red) s = .next s) ∧
    (∀ r, s.red red = some r →
      let fits := fun (t : QTask) (b : Batch) (elems : Nat) => t.kind = 0 ∧ t.resvFrom.isSome = true ∧ s.leads t = true ∧ r.granted t = false ∧
        s.batch t.ref = some b ∧ (∃ y, s.batchRed b = some (red, y, ord, elems)) ∧ s.mayReserve ord red (b.key.getD 8 0) r elems = true
      ((∀ t ∈ s.work.queue, ∀ b elems, ¬fits t b elems) → exec (.reservationGrant ord red) s = .next s) ∧
      (∀ before t rest b elems, s.work.queue = before ++ t :: rest → (∀ q ∈ before, ∀ b elems, ¬fits q b elems) → fits t b elems →
        exec (.reservationGrant ord red) s = .next (s.after (((s.grantWait t).endWait t).reserve red r (4096 + t.ref) ord elems))))) ∧
  (∀ (s : State) (id : Nat), id < 64 →
    (s.red id = none → exec (.reductionTimeout id) s = .next s ∧ exec (.updatePhaseStart id) s = .next s ∧
      exec (.updatePhaseEnd id) s = .next s) ∧
    (∀ r, s.red id = some r →
      (r.phase ≠ 1 ∨ r.complete = true → exec (.reductionTimeout id) s = .next s) ∧
      (r.phase = 1 → r.complete = false → exec (.reductionTimeout id) s = .next (s.after (r.rankDone.foldl
        (fun a d => a.finish d.1 St.rankTimeout 0) ((s.abandonRed id r).inc Reg.TKL_DEV_TIMEOUTS 0 1)).settleAll)) ∧
      (∀ x, s.shard r.shard = some x → r.phase = 1 → r.complete = true → s.serveHeld x r = false → x.ckpts = [] →
        let r' : Red := { r with phase := 2 }
        exec (.updatePhaseStart id) s = .next (s.after
          (((((s.setRed id (some r')).wrf Reg.TKL_RED_STATUS id 1 0 2).wr Reg.TKL_SHARD_SERVE_SAT r.shard 0).adaptGrads id x r').updateAll id x r'))) ∧
      (∀ x, s.shard r.shard = some x → r.phase ≠ 1 ∨ r.complete = false ∨ s.serveHeld x r = true ∨ x.ckpts ≠ [] →
        exec (.updatePhaseStart id) s = .next s) ∧
      (r.phase = 2 → r.poisoned = false → exec (.updatePhaseEnd id) s = .next (s.after ((((s.inc Reg.TKL_SHARD_UPDATES r.shard 1).wr
        Reg.TKL_SHARD_LAST_STEP r.shard r.step).endRed id r St.ok r.ranks).settleAll))) ∧
      (r.phase = 2 → r.poisoned = true → exec (.updatePhaseEnd id) s = .next (s.after (((((s.inc Reg.TKL_SHARD_UPDATES r.shard 1).wr
        Reg.TKL_SHARD_LAST_STEP r.shard r.step).endRed id r St.poisonConsumed r.ranks).reportFault (512 + r.job) 3).settleAll))) ∧
      (r.phase ≠ 2 → exec (.updatePhaseEnd id) s = .next s)))

/-- A distinct row of an embedding command that waits for it is fetched to its unit when the unit's round over the commands, in
quanta of 65,536 pairs, serves it; a row that the command does not name, has, or that an earlier prefetch brings, and one of a
command before which another is still to be taken, is left alone. A bag of a gather is reduced and written once every row has
been read; the rows of an update are applied once every row has been read. A bitmap build ends and its queries go on. A side
batch is released by its timer where the handle has one. A fold is applied once its runs are ready, and once only. (from R294,
R301, R302, R303, R304, R307, R308, R326, R330, R335) -/
def Obligations.EmbeddingAndSearchEvents : Prop :=
  (∀ (s : State) (n row bag : Nat) (bad : Bool), s.embCmd n = none →
    exec (.gatherRowRead n row bad) s = .next s ∧ exec (.gatherReduce n bag) s = .next s ∧ exec (.embApplyPhase n) s = .next s) ∧
  (∀ (s : State) (n : Nat) (c : EmbCmd) (h : EmbHandle) (x : Ns), s.embCmd n = some c → s.embH c.h = some h → s.ns h.nsid = some x →
    (∀ row bad, let o := c.dies.getD (rowUnit c.dies.length row) 0
      (s.embServe c o row = none → exec (.gatherRowRead n row bad) s = .next s) ∧
      (c.phase ≠ 1 ∨ c.rowList.contains row = false ∨ (nget none c.rows row).isSome = true ∨ s.prefetching c row = true ∨
        s.embTaken c.n = false → s.embServe c o row = none) ∧
      (∀ l, s.embServe c o row = some l →
        let t : Device := { s.toDevice with emb := { s.emb with rounds := nset [] s.emb.rounds o l } }
        exec (.gatherRowRead n row bad) s = .next (s.after ((((t.fetchRow c x h row bad).showPairs).embEnd n).settleFaults)))) ∧
    (∀ bag, c.update = false → c.prefetch = false → bag + 1 < c.offs.length → c.bags.contains bag = false →
      (c.rowList.all (fun r => (nget none c.rows r).isSome) = true →
        exec (.gatherReduce n bag) s = .next (s.after (((s.writeBag c x h.ld bag).embEnd n).settleAll))) ∧
      (c.rowList.all (fun r => (nget none c.rows r).isSome) = false → exec (.gatherReduce n bag) s = .next s)) ∧
    (c.update = true → c.phase = 1 →
      (c.rowList.all (fun r => (nget none c.rows r).isSome) = true →
        exec (.embApplyPhase n) s = .next (s.after (((s.applyRows c x h).settleEmb n).settleAll))) ∧
      (c.rowList.all (fun r => (nget none c.rows r).isSome) = false → exec (.embApplyPhase n) s = .next s))) ∧
  (∀ (s : State) (h slot : Nat), h < 64 → slot < 8 → exec (.bitmapBuildComplete h slot) s = .next (s.after (s.bitmapDone h slot))) ∧
  (∀ (s : State) (h : Nat), h < 64 →
    (s.srchH h = none → exec (.sideBatchTimer h) s = .next s ∧ ∀ recs, exec (.foldApplyPhase h recs) s = .next s) ∧
    (∀ y, s.srchH h = some y →
      (y.sideUs = 0 → exec (.sideBatchTimer h) s = .next s) ∧
      (y.sideUs ≠ 0 → exec (.sideBatchTimer h) s = .next (s.after (s.releaseSide h))) ∧
      (∀ recs n x, y.folding = some n → s.ns y.nsid = some x →
        (y.foldReady = true → y.applying = false →
          exec (.foldApplyPhase h recs) s = .next (s.after ((s.foldApply h y x n recs).settleFold n).settleAll)) ∧
        (y.foldReady = false ∨ y.applying = true → exec (.foldApplyPhase h recs) s = .next s))))

/-- On a channel whose bus carries no data, a short calibration adds bus time to its channel and changes nothing else; a retrain,
once the temperature has moved by more than 15 since the last one, counts as well. A read, program or erase is dispatched to a
LUN when its class is the one to be served and the operation may go; otherwise nothing happens. An erase that is suspended
resumes once no read is busy and no class-1 read waits or the window has closed; a suspend becomes ready and its window begins.
A LUN with no read under way completes none. A program in data input becomes busy. A patrol read counts and flags its block when
it needed step 2 or later or READS reached MEDIA_READ_DISTURB; a LUN that is not idle, or an open block, is not patrolled. A
flagged block is refreshed once and counted. New controllers end their training with a record. How long a calibration holds the
bus and a training lasts is a free value (log entry 97). (from R344, R349, R351, R353, R355, R357, R365, R370, R396, R537, R552,
R397) -/
def Obligations.MediaEvents : Prop :=
  (∀ (s : State) (ch : Nat), ch < 224 →
    (s.busTaken ch = true → exec (.zqCalibrationShort ch) s = .next s) ∧
    (s.busTaken ch = false → exec (.zqCalibrationShort ch) s = .next (s.after (s.holdBus ch))) ∧
    (s.busTaken ch = true ∨ s.chanMoved ch ≤ 15 → exec (.dqRetrain ch) s = .next s) ∧
    (s.busTaken ch = false → 15 < s.chanMoved ch →
      let t := (s.inc Reg.MEDIA_CH_RETRAINS ch 1).holdBus ch
      exec (.dqRetrain ch) s = .next (s.after { t with media := { t.media with trained := nset 0 t.media.trained ch (t.chanTemp ch) } }))) ∧
  (∀ (s : State) (lun : Nat), lun < 1792 →
    (∀ cls, 1 ≤ cls → cls ≤ 5 → (s.lunUp lun = true → exec (.nandOperationDispatch lun (.read cls)) s = .next (s.after (s.dispatchRead lun cls))) ∧
      (s.lunUp lun = false → exec (.nandOperationDispatch lun (.read cls)) s = .next s)) ∧
    (∀ cls quad wl slc t, cls = 2 ∨ cls = 3 → quad < 3312 → wl < 384 → s.lunIdle lun = true → s.servedClass (lun / 8) = some cls →
      s.mayDispatch (lun / 8) cls true false = true → s.formGroup lun cls quad wl slc = some t →
      exec (.nandOperationDispatch lun (.program cls quad wl slc)) s =
        .next (s.after ((t.countDispatch (lun / 8) cls).setLun lun { job := some (.program quad wl slc), since := s.now } 2))) ∧
    (∀ cls quad wl slc, cls = 2 ∨ cls = 3 → quad < 3312 → wl < 384 → s.lunIdle lun = false →
      exec (.nandOperationDispatch lun (.program cls quad wl slc)) s = .next s) ∧
    (∀ quad slc, quad < 3312 → s.lunIdle lun = true → s.servedClass (lun / 8) = some 3 → s.mayDispatch (lun / 8) 3 false true = true →
      (s.ftl.erases.any (fun e => e.1 == lun && e.2.1 == quad)) = true →
      exec (.nandOperationDispatch lun (.erase quad slc)) s = .next (s.after ((((s.countDispatch (lun / 8) 3).setFtl (fun f => { f with
        erases := f.erases.filter (fun e => !(e.1 == lun && e.2.1 == quad)) })).setLun lun
          { job := some (.erase quad slc 0 0), since := s.now } 4).wrf Reg.MEDIA_LUN_STATUS lun 7 4 0))) ∧
    (∀ quad slc, quad < 3312 → (s.ftl.erases.any (fun e => e.1 == lun && e.2.1 == quad)) = false →
      exec (.nandOperationDispatch lun (.erase quad slc)) s = .next s) ∧
    (∀ q slc ran until_, (s.lun lun).job = some (.erase q slc ran until_) → s.lunState lun = 6 →
      (s.media.reads.any (fun r => r.busy && r.nd == lun)) = false → s.nextRead lun 1 = none ∨ s.windowOpen lun = false →
      exec (.eraseResume lun) s = .next (s.after (s.setLun lun { job := some (.erase q slc ran 0), since := s.now } 4))) ∧
    (s.lunState lun ≠ 6 → exec (.eraseResume lun) s = .next s) ∧
    (s.lunState lun = 5 → exec (.eraseSuspendReady lun) s = .next (s.after (s.setLun lun { s.lun lun with since := s.now } 6))) ∧
    (s.lunState lun ≠ 5 → exec (.eraseSuspendReady lun) s = .next s) ∧
    (∀ step, step < 8 →
      (s.media.reads.find? (fun r => r.busy ∧ r.nd = lun) = none → exec (.arrayReadComplete lun step) s = .next s) ∧
      (∀ r, s.media.reads.find? (fun r => r.busy ∧ r.nd = lun) = some r →
        let u : Device := { s.toDevice with media := { s.media with reads := s.media.reads.filter (fun q => q.id ≠ r.id) } }
        let v : Device := match (s.lun lun).job with
          | some (.read _) => u.setLun lun {} 0
          | _ => u
        let w := (v.readCounted lun (locQuad r.loc * 4 + (v.cwBlock lun r.loc).1) step).cwCounted (lun / 8) step
        (∀ id, r.dest = .member id → exec (.arrayReadComplete lun step) s = .next (s.after (w.memberDone id (step == 7)))) ∧
        ((∀ id, r.dest ≠ .member id) → exec (.arrayReadComplete lun step) s = .next (s.after (w.deliver r.ord (lun / 8) (some r.loc) r.dest
          (match w.stored r.ord r.loc with | some c => c.data | none => List.replicate cwBytes 0) (if step = 6 then 7 else step) (step == 7)))))) ∧
    (∀ q wl slc, (s.lun lun).job = some (.program q wl slc) → s.lunState lun = 2 →
      let u := s.setLun lun { s.lun lun with since := s.now } 3
      exec (.programDataInEnd lun) s = .next (s.after (u.inc Reg.MEDIA_CH_BUS_NS (lun / 8)
        (busNs ((u.cwPlanes lun q).length * (if slc then 1 else 3) * 16896))))) ∧
    (s.lunState lun ≠ 2 → exec (.programDataInEnd lun) s = .next s) ∧
    (∀ ok cws q wl slc, (s.lun lun).job = some (.program q wl slc) → s.lunState lun = 3 →
      let u := (s.inc Reg.MEDIA_LUN_BUSY_NS lun (s.now - (s.lun lun).since)).setLun lun {} 0
      exec (.programCheck lun ok cws) s = .next (s.after (if ok = true then u.groupDone lun q wl slc else u.groupFail lun q wl slc).settleAll)) ∧
    (∀ ok q slc ran served, (s.lun lun).job = some (.erase q slc ran served) → s.lunState lun = 4 →
      let u := (((s.inc Reg.MEDIA_LUN_BUSY_NS lun (ran + (s.now - (s.lun lun).since))).setLun lun {} 0).wrf Reg.MEDIA_LUN_STATUS lun 7 4 0).inc
        Reg.MEDIA_CH_ERASES (lun / 8) 1
      (ok = true → exec (.eraseCheck lun ok) s = .next (s.after (u.quadErased lun q slc).settleAll)) ∧
      (ok = false → exec (.eraseCheck lun ok) s = .next (s.after (((u.planes lun q).foldl (fun a p =>
        (a.ecChange lun (q * 4 + p) (setBits (a.ecRec lun (q * 4 + p)) 55 48 (min 255 (bits (a.ecRec lun (q * 4 + p)) 55 48 + 1)))).retire
          lun (q * 4 + p) 2) (u.inc Reg.MEDIA_ERASE_FAILS (lun / 32) 1)).quadErased lun q slc).settleAll))) ∧
    ((s.lun lun).job = none → ∀ ok cws, exec (.programCheck lun ok cws) s = .next (s.after s.settleAll) ∧
      exec (.eraseCheck lun ok) s = .next (s.after s.settleAll)) ∧
    (∀ quad plane step, quad < 3312 → plane < 4 → step < 8 →
      (s.lunIdle lun = false ∨ s.blkState lun (quad * 4 + plane) ≠ 2 ∨ s.mayDispatch (lun / 8) 5 false false = false →
        exec (.patrolRead lun quad plane step) s = .next s) ∧
      (s.lunIdle lun = true → s.blkState lun (quad * 4 + plane) = 2 → s.mayDispatch (lun / 8) 5 false false = true →
        let t := ((s.countDispatch (lun / 8) 5).readCounted lun (quad * 4 + plane) step).cwCounted (lun / 8) step
        (step < 2 → exec (.patrolRead lun quad plane step) s = .next (s.after t)) ∧
        (2 ≤ step → exec (.patrolRead lun quad plane step) s = .next (s.after (t.inc Reg.MEDIA_PATROL_FLAGS (lun / 32) 1))))) ∧
    (∀ quad plane, quad < 3312 → plane < 4 →
      (s.ftl.flagged.contains (lun, quad * 4 + plane) = false → exec (.blockRefresh lun quad plane) s = .next s) ∧
      (s.ftl.flagged.contains (lun, quad * 4 + plane) = true → s.ftl.nand = [] →
        exec (.blockRefresh lun quad plane) s = .next (s.after ((s.setFtl (fun f => { f with
          flagged := f.flagged.erase (lun, quad * 4 + plane) })).inc Reg.FTL_REFRESHES (lun / 32) 1))) ∧
      exec (.blockRefresh lun quad plane) s = .next (s.after (onBlockRefresh lun quad plane s.toDevice)))) ∧
  (∀ (s : State) (ord : Nat), ord < 40 →
    (s.avl.training.contains ord = false → exec (.handoverTrainingEnd ord) s = .next s) ∧
    (s.avl.training.contains ord = true → ∃ v < 2 ^ 32, exec (.handoverTrainingEnd ord) s = .next (s.after
      ((({ s.draw.2 with avl := { s.avl with training := s.avl.training.filter (· ≠ ord) } } : Device).avlRecord 0x1002 (0x100 + sparDie ord) 0 0
        v (s.hsDie ord)).settleAll))))

/-- Up to 128 records that have no page become a journal page, written twice under one WSN; with none, no page is written. A
QUAD_PROGRESS is journalled once every code word it covers has a durable map entry, and not before. A transaction whose
participants have all prepared is committed by the lowest ordinal's journal, and one without participants is applied at once;
one that is committed already or not prepared is left alone. A flush sends what a TLC stream holds back to SLC staging and
changes nothing but the write buffers. A victim is erased once nothing valid or durable is left in it and no read refers to it;
otherwise nothing happens. (from R384, R388, R389, R390, R391, R393, R394) -/
def Obligations.TranslationEvents : Prop :=
  (∀ (s : State) (ord : Nat), ord < 56 →
    (nget none s.ftl.cycle ord = none →
      let new := ((nget [] s.ftl.journal ord).filter (fun r => r.page.isNone)).take 128
      let u := (s.setFtl (fun f => { f with journal := nset [] f.journal ord ((nget [] f.journal ord).map (fun (r : JRec) =>
        if new.any (fun x => x.n == r.n) then { r with page := some (s.rd Reg.FTL_WSN ord) } else r)) })).bufferTwice ord 0x7FFFFFF 4
          (new.flatMap JRec.bytes)
      (new = [] → 2 * s.rd Reg.FTL_JRNL_RETAINED ord ≤ s.rdf Reg.FTL_JRNL_MAX 0 15 0 * 2 ^ 20 → exec (.journalPageClose ord) s = .next s) ∧
      (new ≠ [] → exec (.journalPageClose ord) s = .next (s.after
        (if nget none u.ftl.cycle ord = none ∧ u.rdf Reg.FTL_JRNL_MAX 0 15 0 * 2 ^ 20 < 2 * u.rd Reg.FTL_JRNL_RETAINED ord
          then u.startCycle ord else u)))) ∧
    ∃ t : Device, exec (.streamFlush ord) s = .next (s.after t) ∧ t.ftl.buf.length = s.ftl.buf.length ∧
      { t with ftl := { t.ftl with buf := s.ftl.buf } } = s.toDevice ∧
      (∀ b ∈ t.ftl.buf, b ∈ s.ftl.buf ∨ (b.slc = true ∧ b.ord = ord)) ∧
      (∀ b ∈ s.ftl.buf, b.ord = ord → b ∈ s.waitingCws ord 0 false →
        ({ b with slc := true } : BufCw) ∈ t.ftl.buf)) ∧
  (∀ (s : State) (ord die quad wls : Nat), ord < 56 → die < 32 → quad < 3312 →
    ((s.squad (rainGroup ord) die quad).st ≠ 1 ∨ s.progress (nandDie ord die) quad < wls → exec (.quadProgress ord die quad wls) s = .next s) ∧
    ((s.squad (rainGroup ord) die quad).st = 1 → wls ≤ s.progress (nandDie ord die) quad →
      let held := (s.quadCws (nandDie ord die) quad).any (fun c => decide (locOff c.1 /
        max 1 (s.groupCws (nandDie ord die) quad (s.squad (rainGroup ord) die quad).slc) < wls) && !s.setDurable ord c.1 c.2)
      (held = true → exec (.quadProgress ord die quad wls) s = .next s) ∧
      (held = false → exec (.quadProgress ord die quad wls) s = .next (s.after (s.journal ord 4 none (jQuad die quad wls) 0 none))))) ∧
  (∀ (s : State) (n : Nat),
    (s.ftl.txns.find? (fun x => x.id = n) = none → exec (.txnCommit n) s = .next s) ∧
    (∀ x, s.ftl.txns.find? (fun x => x.id = n) = some x →
      (x.committed = true ∨ x.parts.all x.prepared.contains = false → exec (.txnCommit n) s = .next s) ∧
      (x.committed = false → x.parts.all x.prepared.contains = true →
        let t := s.setFtl (fun f => { f with txns := f.txns.map (fun y => if y.id = n then { y with committed := true } else y) })
        (x.parts = [] → exec (.txnCommit n) s = .next (s.after (t.applyTxn x).settleAll)) ∧
        (x.parts ≠ [] → exec (.txnCommit n) s = .next (s.after (t.journal (x.parts.foldl min 55) 11 none
          (natLe 1 x.parts.length ++ natLe 7 ((x.parts.map (fun h => 2 ^ h)).foldl (· + ·) 0)) n none)))))) ∧
  (∀ (s : State) (grp t quad : Nat), grp < 4 → t < 32 → quad < 3312 →
    ((s.squad grp t quad).st ≠ 3 → exec (.gcErase grp t quad) s = .next s) ∧
    ((s.media.reads.any (fun r => rainGroup r.ord == grp && locDie r.loc == t && locQuad r.loc == quad)) = true →
      exec (.gcErase grp t quad) s = .next s) ∧
    ((s.squad grp t quad).st = 3 → s.media.reads = [] → s.ftl.nand = [] →
      exec (.gcErase grp t quad) s = .next (s.after (((s.setSquad grp t quad { s.squad grp t quad with st := 4 }).setFtl (fun f => { f with
        erases := f.erases ++ (s.members grp).map (fun o => (nandDie o t, quad, (s.squad grp t quad).slc)),
        credit := if s.rdf Reg.FTL_GRP_STATUS grp 17 17 = 1 then nset 0 f.credit grp (nget 0 f.credit grp + (0 - (s.squad grp t quad).copied)) else f.credit })).retryCredit.settleAll))))

/-- An entry of the merge buffers is written out after the stored word is decoded: a correctable word is corrected and counted, an
uncorrectable one poisons its word. The patrol of a half-stack reads every word of it, unless its controller is disabled, fenced
or away. A scrub pass that runs ends with its summary; an instance without one has none. An engine that tests its lane regions
goes on to the next of 272, counting a pass at the last; a region that fails goes to the stand-in, is counted and logged, and
the engine retires at the next start; an engine that may not test is left alone. The root of trust of a hub die goes on to its
next of 1,024 regions; one that fails takes a spare and is logged, and with the last spare the die is fenced. (from R463, R464,
R473, R474, R475, R477, R478, R479, R533) -/
def Obligations.MemoryIntegrityEvents : Prop :=
  (∀ (s : State) (m : Nat), (s.mem.merge[m]? = none → ∀ e, exec (.mergeWriteOut m e) s = .next s) ∧
    (∀ x, s.mem.merge[m]? = some x → x.mem = 5 → s.now - x.at_ < 64 → ∀ e, exec (.mergeWriteOut m e) s = .next s) ∧
    (∀ x, s.mem.merge[m]? = some x → ¬ (x.mem = 5 ∧ s.now - x.at_ < 64) →
      exec (.mergeWriteOut m .clean) s = .next (s.after (s.writeOut x)) ∧
      exec (.mergeWriteOut m .corrected) s = .next (s.after ((s.goodWord x.mem x.inst x.word).writeOut x)) ∧
      exec (.mergeWriteOut m .uncorrectable) s = .next (s.after ((s.badWord x.mem x.inst x.word none).writeOut x)) ∧
      exec (.mergeWriteOut m .poison) s = .next (s.after ((s.markPoison x.mem x.inst x.word true).writeOut x)))) ∧
  (∀ (s : State) (ord : Nat) (good bad : List Nat), ord < 40 →
    (s.fenced (s.hsDie ord) = true ∨ s.hsUp ord = false ∨ s.rdf Reg.MEM_PATROL_CTL (s.hsDie ord) 7 0 = 0 →
      exec (.dramPatrol ord good bad) s = .next s) ∧
    (s.fenced (s.hsDie ord) = false → s.hsUp ord = true → s.rdf Reg.MEM_PATROL_CTL (s.hsDie ord) 7 0 ≠ 0 →
      exec (.dramPatrol ord good bad) s = .next (s.after (s.readWords 5 ord 0 (0x600000000 / 16) good bad)))) ∧
  (∀ (s : State) (inst : Nat) (good bad : List Nat), inst < 400 ∨ (512 ≤ inst ∧ inst < 612) →
    exec (.scrubSummary inst good bad) s = .next (s.after (onScrubSummary inst good bad s.toDevice)) ∧
    (nget none s.mem.scrubs inst = none → exec (.scrubSummary inst good bad) s = .next s)) ∧
  (∀ (s : State) (eng : Nat), eng < 1600 →
    let c := eng / 4; let g := s.engine eng
    (s.rdf Reg.MEM_CORE_LTEST_CTL c 0 0 = 0 ∨ s.rdf Reg.ENG_STATUS eng 11 11 = 1 ∨ g.standIn ≠ [] ∨ s.fenced (coreDie c) = true →
      ∀ pass, exec (.laneRegionTest eng pass) s = .next s) ∧
    (s.rdf Reg.MEM_CORE_LTEST_CTL c 0 0 = 1 → s.rdf Reg.ENG_STATUS eng 11 11 = 0 → g.standIn = [] → s.fenced (coreDie c) = false →
      s.rdf Reg.CORE_STATE c 2 0 ≠ 0 → s.rdf Reg.CORE_STATE c 2 0 ≠ 6 →
      (g.region < 271 → exec (.laneRegionTest eng true) s = .next (s.after (s.setEngine eng { g with region := g.region + 1 }))) ∧
      (g.region = 271 → exec (.laneRegionTest eng true) s =
        .next (s.after ((s.setEngine eng { g with region := 0 }).inc Reg.MEM_CORE_LTEST_PASSES c 1))) ∧
      exec (.laneRegionTest eng false) s = .next (s.after (((s.setEngine eng { g with
        region := (g.region + 1) % 272, standIn := [g.region], retireNext := true }).inc Reg.MEM_CORE_LTEST_FAILS c 1).record 0x0E04
          (memBody 2 0 c (eng + g.region * 2 ^ 11) 0 0) none)))) ∧
  (∀ (s : State) (die : Nat), die = 42 ∨ die = 52 →
    (s.fenced die = true → ∀ pass, exec (.secureScratchTest die pass) s = .next s) ∧
    (s.fenced die = false →
      let r := nget 0 s.mem.secRegion die
      let t : Device := { s.toDevice with mem := { s.mem with secRegion := nset 0 s.mem.secRegion die ((r + 1) % 1024) } }
      (r ≠ 1023 → exec (.secureScratchTest die true) s = .next (s.after t)) ∧
      (r = 1023 → exec (.secureScratchTest die true) s = .next (s.after (t.inc Reg.MEM_SEC_TEST_PASSES die 1))) ∧
      (r ≠ 1023 → 1 < s.rd Reg.MEM_SEC_SPARES_LEFT die → ∃ u : Device, exec (.secureScratchTest die false) s = .next (s.after u) ∧
        u.rd Reg.MEM_SEC_SPARES_LEFT die = s.rd Reg.MEM_SEC_SPARES_LEFT die - 1 ∧ u.mem.secMoved = nset [] s.mem.secMoved die
          (nget [] s.mem.secMoved die ++ [r]) ∧ u.mem.secRegion = nset 0 s.mem.secRegion die ((r + 1) % 1024) ∧ u.fenced die = s.fenced die) ∧
      (r ≠ 1023 → s.rd Reg.MEM_SEC_SPARES_LEFT die = 1 → ∃ u : Device, exec (.secureScratchTest die false) s =
        .next (s.after (u.fenceDie die 6).settleAll) ∧ u.rd Reg.MEM_SEC_SPARES_LEFT die = 0)))

/-- A feed that is lost (below 44 V) is noted; while the other is good the supply moves to it if it was the active one, else the
alert and INT_CAUSE.POWER are raised; without the other the sled loses its supply. A voltage at or above 44 V is no loss, and
one below 48 V is not good. A feed that becomes good starts a mated, unpowered sled. Feed A takes over again after a second
where PWR_SUP_CTL says so, and only then. A hold-up measurement stores both numbers, sets HOLDUP_LOW below 40 ms and
HOLDUP_CRITICAL below 8 ms, and raises POWER with a record when the low flag is new. A shutdown request shows in SB_STATUS, is
counted, quiesces both planes and tests the blocks that shut down. CAP_RECOMPUTE stores the measured powers and, in PS0, sets
the new ceiling. The hardware limiter is on or off as the event says. (from R490, R491, R493, R494, R495, R500, R501, R502,
R518, R542, R593) -/
def Obligations.SupplyEvents : Prop :=
  (∀ (s : State) (b : Bool) (v : Nat),
    (440 ≤ v → exec (.feedLost b v) s = .next s) ∧
    (v < 440 →
      let t := s.setFeed b v false
      (t.dark = true → exec (.feedLost b v) s = .next (s.after t)) ∧
      (t.dark = false → t.feedGood (!b) = true →
        (t.onB ≠ b → exec (.feedLost b v) s = .next (s.after ((t.alert 2).raiseAll 4))) ∧
        (t.onB = b → t.sled.stage < 2 → exec (.feedLost b v) s = .next (s.after (t.switchFeed (!b)))) ∧
        (t.onB = b → 2 ≤ t.sled.stage → exec (.feedLost b v) s = .next (s.after (t.setActive (!b))))) ∧
      (t.dark = false → t.feedGood (!b) = false →
        exec (.feedLost b v) s = .next (s.after (t.supplyLoss (t.feedVolts b) (t.feedVolts (!b)))))) ∧
    (v < 480 ∨ 1024 ≤ v → exec (.feedGood b v) s = .next s) ∧
    (480 ≤ v → v < 1024 →
      let t := s.setFeed b v true
      (t.sled.mated = false ∨ t.dark = false → exec (.feedGood b v) s = .next (s.after t)) ∧
      (t.sled.mated = true → t.dark = true → exec (.feedGood b v) s = .next (s.after (t.setActive b).coldStart)))) ∧
  (∀ s : State,
    (s.rdf Reg.PWR_SUP_CTL 0 0 0 = 1 → s.onB = true → s.feedGood false = true → s.sled.stage < 2 → s.dark = false →
      exec .feedReturn s = .next (s.after (s.switchFeed false))) ∧
    (s.rdf Reg.PWR_SUP_CTL 0 0 0 = 0 ∨ s.onB = false ∨ s.feedGood false = false ∨ 2 ≤ s.sled.stage ∨ s.dark = true → exec .feedReturn s = .next s) ∧
    (2 ≤ s.sled.stage → exec .shutdownRequest s = .next s ∧ ∀ c ms, exec (.holdupMeasure c ms) s = .next s) ∧
    (s.sled.stage < 2 →
      let q := ((s.wrf Reg.SB_STATUS 0 1 1 1).inc Reg.SB_SHUTDOWN_COUNT 0 1).sledDown
      exec .shutdownRequest s = .next (s.after { q with sled := { q.sled with stage := 1 } })) ∧
    (∀ c ms, s.sled.stage < 2 → c < 65536 → ms < 65536 →
      let t := ((s.wr Reg.PWR_HOLDUP 0 (c + ms * 2 ^ 16)).wrf Reg.PWR_STATUS 0 11 11 (b2n (decide (ms < 40)))).wrf Reg.AVL_STATUS 0 7 7 (b2n (decide (ms < 8)))
      (40 ≤ ms ∨ s.rdf Reg.PWR_STATUS 0 11 11 = 1 → exec (.holdupMeasure c ms) s = .next (s.after t)) ∧
      (ms < 40 → s.rdf Reg.PWR_STATUS 0 11 11 = 0 →
        exec (.holdupMeasure c ms) s = .next (s.after ((t.raiseAll 4).pwrRecord 0x0F07 0x300 ms c)))) ∧
    (∀ st inp,
      ((s.measurePower st inp).ps ≠ 0 → exec (.capRecompute st inp) s = .next (s.after (s.measurePower st inp))) ∧
      ((s.measurePower st inp).ps = 0 → exec (.capRecompute st inp) s = .next (s.after (s.measurePower st inp).newCeiling)) ∧
      (s.measurePower st inp).rd Reg.PWR_STORAGE_W 0 = min 4095 st ∧ (s.measurePower st inp).rd Reg.PWR_INPUT_W 0 = min 4095 inp) ∧
    (∀ on, exec (.hardwareLimiter on) s = .next (s.after { s.toDevice with pwr := { s.pwr with limiter := on } })))

/-- The next HOIST of a core that is within 20 µs of its phase is staged, the next hint whose phase has come starts, the started
hint whose duration passed first ends; with none due nothing happens. At the end of a voltage ramp the frequency rises to its
limit. A droop is counted. At or above T_THROTTLE a core's thermal limit falls by 25 MHz from the lesser of itself and the aged
Fmax, not below 400; below T_THROTTLE − 2 °C it rises by 25 MHz, not above 1,450; its temperature is stored either way, and a
step comes no sooner than 100 µs (a fall) or 1 ms (a rise) after the last one. A power-state timer enters its state where the
state is deeper, enabled and its condition holds; otherwise nothing happens. A half-stack that was woken sleeps again. A task
that falls due in PS3 wakes the device, unless it is RETIRED. Outside a transition its end does nothing. (from R504, R506, R507,
R510, R513, R514, R517, R548, R577, R603) -/
def Obligations.HintsAndFrequencies : Prop :=
  (∀ (s : State) (c : Nat), c < 400 →
    (s.stagingDue c = none → exec (.hoistStagingStart c) s = .next s) ∧
    (∀ h, s.stagingDue c = some h →
      exec (.hoistStagingStart c) s = .next (s.after (s.setHint { h with staged := true }))) ∧
    (s.phaseDue c = none → exec (.hintPhaseStart c) s = .next s) ∧
    (∀ h, s.phaseDue c = some h → exec (.hintPhaseStart c) s = .next (s.after (s.startHint h))) ∧
    (s.endDue c = none → exec (.hintEnd c) s = .next s) ∧
    (∀ h, s.endDue c = some h →
      exec (.hintEnd c) s = .next (s.after ((s.setPwr (fun p => { p with hints := p.hints.erase h })).showHints c))) ∧
    (s.rdf Reg.PWR_CORE_FREQ c 10 0 < s.rdf Reg.PWR_CORE_FREQ c 21 11 →
      exec (.voltageRampEnd c) s = .next (s.after (s.wrf Reg.PWR_CORE_FREQ c 10 0 (s.rdf Reg.PWR_CORE_FREQ c 21 11)))) ∧
    (s.rdf Reg.PWR_CORE_FREQ c 21 11 ≤ s.rdf Reg.PWR_CORE_FREQ c 10 0 → exec (.voltageRampEnd c) s = .next s) ∧
    exec (.droopEvent c) s = .next (s.after (s.inc Reg.PWR_CORE_DROOP_EVENTS c 1)) ∧
    (∀ temp,
      let t := s.coreTemp c temp
      let j := t.junction c temp
      (j < t.rdf Reg.PWR_THERM_CTL 0 7 0 ∨ t.rotating c = true ∨ t.fenced (coreDie c) = true ∨ t.stepDue c 100000 = false →
        exec (.thermalThrottleStep c temp) s = .next (s.after t)) ∧
      (t.rdf Reg.PWR_THERM_CTL 0 7 0 ≤ j → t.rotating c = false → t.fenced (coreDie c) = false → t.stepDue c 100000 = true →
        (t.thermalLimit c < t.fmaxAged c → exec (.thermalThrottleStep c temp) s = .next (s.after
          ((t.setThermal c (max 400 (t.thermalLimit c - 25))).applyLimit c))) ∧
        (t.fmaxAged c ≤ t.thermalLimit c → exec (.thermalThrottleStep c temp) s = .next (s.after
          ((t.thermalAlert.setThermal c (max 400 (t.fmaxAged c - 25))).applyLimit c)))) ∧
      (t.rdf Reg.PWR_THERM_CTL 0 7 0 ≤ j + 2 ∨ t.fenced (coreDie c) = true ∨ t.stepDue c 1000000 = false →
        exec (.throttleRecoverStep c temp) s = .next (s.after t)) ∧
      (j + 2 < t.rdf Reg.PWR_THERM_CTL 0 7 0 → t.fenced (coreDie c) = false → t.stepDue c 1000000 = true →
        exec (.throttleRecoverStep c temp) s = .next (s.after ((t.setThermal c (min 1450 (t.thermalLimit c + 25))).applyLimit c))))) ∧
  (∀ (s : State) (ps : Nat), 1 ≤ ps → ps ≤ 3 →
    (s.inTransition = true ∨ ps ≤ s.ps ∨ s.rd (Reg.PWR_PS_IDLE_MS + 4 * (ps - 1)) 0 = 0 ∨ bit (s.rdf Reg.PWR_PS_CTL 0 3 1) (ps - 1) = false ∨
      s.psHolds ps none = false ∨ s.lifecycle = 4 → exec (.psIdleTimer ps) s = .next s) ∧
    (s.inTransition = false → s.ps < ps → s.rd (Reg.PWR_PS_IDLE_MS + 4 * (ps - 1)) 0 ≠ 0 → bit (s.rdf Reg.PWR_PS_CTL 0 3 1) (ps - 1) = true →
      s.psHolds ps none = true → s.tripped = false → s.sled.stage = 0 → s.lifecycle ≠ 4 →
      exec (.psIdleTimer ps) s = .next (s.after (s.enterPs ps)))) ∧
  (∀ s : State,
    (∀ ord, ord < 40 → exec (.halfStackSleep ord) s =
      .next (s.after { s.toDevice with pwr := { s.pwr with awake := s.pwr.awake.filter (· ≠ ord) } })) ∧
    (s.ps = 3 → s.lifecycle ≠ 4 → exec .backgroundTaskWake s = .next (s.after s.wake)) ∧
    (s.ps ≠ 3 ∨ s.lifecycle = 4 → exec .backgroundTaskWake s = .next s) ∧
    (s.inTransition = false → exec .psTransitionEnd s = .next s) ∧
    (s.inTransition = true →
      let u := (s.inc (Reg.PWR_PS_RESIDENCY + 8 * s.ps) 0 (s.now - s.pwr.since)).entryTests s.ps s.pwr.target
      let v := (({ u with avl := { u.avl with testing := [] } } : Device).wrf Reg.PWR_STATUS 0 1 0 s.pwr.target).wrf Reg.PWR_STATUS 0 2 2 0
      let w := if s.ps < 2 ∧ 2 ≤ s.pwr.target then v.coresOff else if 2 ≤ s.ps ∧ s.pwr.target < 2 then v.coresOn else v
      let x := if s.ps = 3 then w.channelsOn else w
      let y := x.setPwr (fun p => { p with since := x.now, waiting := none, awake := [] })
      let z := if s.ps = s.pwr.target then y else (y.pwrRecord 0x0F06 0x300 s.pwr.target s.ps).raiseAll 4
      (x.pwr.waiting = none → exec .psTransitionEnd s = .next (s.after z.applyLimits.settleAll)) ∧
      (∀ n, x.pwr.waiting = some n → exec .psTransitionEnd s = .next (s.after (z.finish n St.ok 0).applyLimits.settleAll))))

/-- A compute-plane junction at 115 °C or above trips the compute plane; a SHEAVE die at or above its threshold joins the warm dies
once and raises the thermal alert; a hot die, package or stack sets STORAGE_HOT, with a record the first time, and trips the
compute plane; the temperature is stored either way, and a fenced die causes no response. The responses end when their ends
come, and with the last of them the trip. At 125 °C, or 95 °C of a NAND package, the sled quiesces and powers off until a power
cycle; below that nothing happens. (from R509, R510, R511, R520) -/
def Obligations.ThermalResponses : Prop :=
  (∀ (s : State) (die temp : Nat), die < 100 →
    (dieKind die = 1 ∨ die = 47 ∨ die = 57 →
      let t := s.dieTemp die temp false
      (t.fenced die = true ∨ temp < 115 ∨ t.sled.stage ≠ 0 → exec (.thermalTrip die temp) s = .next (s.after t)) ∧
      (t.fenced die = false → 115 ≤ temp → t.sled.stage = 0 →
        exec (.thermalTrip die temp) s = .next (s.after ((t.trip (0x200 + die) temp).setPwr (fun p => { p with junction := true }))))) ∧
    (dieKind die = 0 →
      let t := s.dieTemp die temp false
      (temp < t.rdf Reg.PWR_THERM_CTL 0 15 8 ∨ t.fenced die = true ∨ t.media.warm.contains (sheaveOrd die) = true →
        exec (.storageWarn die temp) s = .next (s.after t)) ∧
      (t.rdf Reg.PWR_THERM_CTL 0 15 8 ≤ temp → t.fenced die = false → t.media.warm.contains (sheaveOrd die) = false →
        exec (.storageWarn die temp) s = .next (s.after
          ({ t with media := { t.media with warm := t.media.warm ++ [sheaveOrd die] } } : Device).thermalAlert)) ∧
      exec (.storageWarnEnd die) s =
        .next (s.after { s.toDevice with media := { s.media with warm := s.media.warm.filter (· ≠ sheaveOrd die) } })) ∧
    (dieKind die = 0 ∨ dieKind die = 1 →
      let t := s.dieTemp die temp (dieKind die == 1 || decide (temp < 105))
      (t.fenced die = true ∨ temp < (if dieKind die = 0 then 85 else 95) ∨ t.sled.stage ≠ 0 →
        exec (.storageHot (0x200 + die) temp) s = .next (s.after t)) ∧
      (t.fenced die = false → (if dieKind die = 0 then 85 else 95) ≤ temp → t.sled.stage = 0 →
        let u : Device := if dieKind die = 0 ∧ t.media.hot.contains (sheaveOrd die) = false
          then { t with media := { t.media with hot := t.media.hot ++ [sheaveOrd die] } } else t
        let v := u.draw.2.wrf Reg.PWR_STATUS 0 7 7 1
        (t.rdf Reg.PWR_STATUS 0 7 7 = 1 → exec (.storageHot (0x200 + die) temp) s = .next (s.after (v.trip (0x200 + die) temp))) ∧
        (t.rdf Reg.PWR_STATUS 0 7 7 = 0 → exec (.storageHot (0x200 + die) temp) s = .next (s.after
          ((v.thermalAlert.pwrRecord 0x0F04 (0x200 + die) (temp % 65536) (u.draw.1 % 16)).trip (0x200 + die) temp))))) ∧
    (2 ≤ s.sled.stage ∨ (temp < 125 ∧ (dieKind die ≠ 0 ∨ temp < 95)) → exec (.thermalShutdown (0x200 + die) temp) s = .next s) ∧
    (s.sled.stage < 2 → 125 ≤ temp ∨ (dieKind die = 0 ∧ 95 ≤ temp) →
      exec (.thermalShutdown (0x200 + die) temp) s = .next (s.after (s.thermalAlert.sledDown.powerOff 3)))) ∧
  (∀ s : State,
    let t := s.setPwr (fun p => { p with junction := false })
    (t.tripped = true → t.rdf Reg.PWR_STATUS 0 7 7 = 0 → exec .tripEnd s = .next (s.after t.endTrip)) ∧
    (t.tripped = false ∨ t.rdf Reg.PWR_STATUS 0 7 7 = 1 → exec .tripEnd s = .next (s.after t)) ∧
    (s.rdf Reg.PWR_STATUS 0 7 7 = 0 → exec .storageHotEnd s = .next s) ∧
    (s.rdf Reg.PWR_STATUS 0 7 7 ≠ 0 →
      let u := ({ s.toDevice with media := { s.media with hot := [] } } : Device).wrf Reg.PWR_STATUS 0 7 7 0
      let v := u.cmds.foldl (fun a p => if fld p.slot 0 1 = 0x02 ∧ p.phase = .started ∧ p.held.any (fun h => h.1 == 3) then a.unhold p.n else a) u
      (v.tripped = true → v.pwr.junction = false → exec .storageHotEnd s = .next (s.after v.endTrip)) ∧
      (v.tripped = false ∨ v.pwr.junction = true → exec .storageHotEnd s = .next (s.after v.settleAll))))

/-- When the measured inlet temperature exceeds 40 °C or the flow falls below 2.5 L/min (250 hundredths), the event sets
SB_ALERT.COOLANT (bit 0) and INT_CAUSE.THERMAL (bit 5) of every bound LD; with or without the alarm it changes no power or
frequency limit: the power state of the model, every junction response and every register but PWR_COOLANT and SB_ALERT stay as
they were. (states R586) -/
def Obligations.CoolantAlarm : Prop :=
  ∀ (s : State) (inlet flow : Nat), ∃ t : Device, exec (.coolantAlarm inlet flow) s = .next (s.after t) ∧
    (40 < inlet ∨ flow < 250 → (t.rd Reg.SB_ALERT 0).testBit 0 = true ∧
      ∀ ld < 16, s.rdf Reg.HIF_LD_STATUS ld 0 0 = 1 → (t.ld ld).intCause.testBit 5 = true) ∧
    t.pwr = s.pwr ∧ t.media = s.media ∧
    (∀ q j, regAddr q j ≠ regAddr Reg.PWR_COOLANT 0 → regAddr q j ≠ regAddr Reg.SB_ALERT 0 → t.rd q j = s.rd q j) ∧
    (inlet ≤ 40 → 250 ≤ flow → { t with regs := s.regs } = s.toDevice)

/-- LINK_L0 writes the rate, the lanes and the latency-optimised bit into HIF_PORT_STATUS and changes nothing else; while PERST_N is
asserted, the active hub die is fenced or the device is out of service, the link stays as it is. A PERST_N pulse shorter than
100 µs, or one without power, changes nothing; a longer one shows in SB_STATUS, is counted, takes the link down and resets every
LD as a function-level reset does; after a quiesce the device starts as at power-on. Its release shows too. Mating notes it and
starts an unpowered sled on a good feed, feed A first; breaking is the loss of both feeds. (from R414, R456, R526, R584, R594,
R596) -/
def Obligations.LinkAndPins : Prop :=
  (∀ (s : State) (rate lanes : Nat) (lopt : Bool), 1 ≤ rate → rate ≤ 3 → lanes = 4 ∨ lanes = 8 →
    (s.sled.stage = 0 → s.rdf Reg.SB_STATUS 0 0 0 = 0 → s.fenced s.hubDie = false →
      ∃ t, exec (.linkL0 rate lanes lopt) s = .next (s.after t) ∧ { t with regs := s.regs } = s.toDevice ∧
        t.rdf Reg.HIF_PORT_STATUS 0 1 0 = rate ∧ t.rdf Reg.HIF_PORT_STATUS 0 5 2 = lanes ∧
        t.rdf Reg.HIF_PORT_STATUS 0 6 6 = b2n lopt ∧ t.linkUp = true ∧
        (∀ q j, regAddr q j ≠ regAddr Reg.HIF_PORT_STATUS 0 → t.rd q j = s.rd q j)) ∧
    (s.sled.stage ≠ 0 ∨ s.rdf Reg.SB_STATUS 0 0 0 = 1 ∨ s.fenced s.hubDie = true → exec (.linkL0 rate lanes lopt) s = .next s)) ∧
  (∀ (s : State),
    (∀ us, us < 100 ∨ 2 ≤ s.sled.stage → exec (.perstAssert us) s = .next s) ∧
    (∀ us, 100 ≤ us →
      (s.sled.stage = 1 → exec (.perstAssert us) s =
        .next (s.after ((s.wrf Reg.SB_STATUS 0 0 0 1).coldStart.inc Reg.SB_PERST_COUNT 0 1))) ∧
      (s.sled.stage = 0 → exec (.perstAssert us) s = .next (s.after ((List.range 16).foldl (fun a ld => a.flr ld)
        (((s.wrf Reg.SB_STATUS 0 0 0 1).inc Reg.SB_PERST_COUNT 0 1).wrf Reg.HIF_PORT_STATUS 0 6 0 0))))) ∧
    (s.rdf Reg.SB_STATUS 0 0 0 = 0 ∨ 2 ≤ s.sled.stage → exec .perstRelease s = .next s) ∧
    (s.rdf Reg.SB_STATUS 0 0 0 = 1 → s.sled.stage = 0 → exec .perstRelease s = .next (s.after (s.wrf Reg.SB_STATUS 0 0 0 0))) ∧
    (s.rdf Reg.SB_STATUS 0 0 0 = 1 → s.sled.stage = 1 → exec .perstRelease s = .next (s.after (s.wrf Reg.SB_STATUS 0 0 0 0).coldStart)) ∧
    (let t : Device := { s.toDevice with sled := { s.sled with mated := true } }
     (t.dark = false → exec .prsntMate s = .next (s.after t)) ∧
     (t.dark = true → t.feedGood false = true → exec .prsntMate s = .next (s.after (t.setActive false).coldStart)) ∧
     (t.dark = true → t.feedGood false = false → t.feedGood true = true → exec .prsntMate s = .next (s.after (t.setActive true).coldStart)) ∧
     (t.dark = true → t.feedGood false = false → t.feedGood true = false → exec .prsntMate s = .next (s.after t))) ∧
    (let t : Device := { s.toDevice with sled := { s.sled with mated := false } }
     exec .prsntBreak s = .next (s.after (((t.setFeed false 0 false).setFeed true 0 false).supplyLoss 0 0))))

/-- A heartbeat of a running hub die is noted. A takeover needs the other die in service and no heartbeat for 1 ms: a failed active
die is fenced, and a ready standby takes the role; otherwise nothing happens. A port failure passes the role to a ready standby,
or takes the link down. A lockstep mismatch fences its hub die with cause 7; a fence event fences its die with its cause. A die
in service switches its firmware bank. A record that is older than MAX_AGE_H is renewed by a self-test; a younger one, or none,
is left. The end of a rotation period stores what its cores found, ends the group and, while EN is 1, starts the next of 25,
counting a cycle after group 24. A fenced hub die does not restart; a standby that has is ready. The standby's PHY test is the
self-test of its block 8. (from R523, R525, R526, R529, R530, R531, R532, R533, R543, R547, R549) -/
def Obligations.AvailabilityEvents : Prop :=
  ∀ s : State,
    (s.hubRuns = true → exec .heartbeat s = .next (s.after { s.toDevice with avl := { s.avl with beat := s.now } })) ∧
    (s.hubRuns = false → exec .heartbeat s = .next s) ∧
    (∀ f, s.fenced (otherHub s.hubDie) = true ∨ s.sled.stage ≠ 0 ∨ (s.avl.beat ≠ 0 ∧ s.now < s.avl.beat + 1000000) →
      exec (.hubTakeover f) s = .next s) ∧
    (s.fenced (otherHub s.hubDie) = false → s.sled.stage = 0 → s.avl.beat = 0 ∨ s.avl.beat + 1000000 ≤ s.now →
      exec (.hubTakeover true) s = .next (s.after (s.fenceDie s.hubDie 2).settleAll) ∧
      (s.rdf Reg.AVL_STATUS 0 1 1 = 1 → exec (.hubTakeover false) s = .next (s.after (s.takeRole false).settleAll)) ∧
      (s.rdf Reg.AVL_STATUS 0 1 1 = 0 → exec (.hubTakeover false) s = .next s)) ∧
    (s.sled.stage ≠ 0 → exec .portFailure s = .next s) ∧
    (s.sled.stage = 0 → s.rdf Reg.AVL_STATUS 0 1 1 = 1 → exec .portFailure s = .next (s.after (s.takeRole false).settleAll)) ∧
    (s.sled.stage = 0 → s.rdf Reg.AVL_STATUS 0 1 1 = 0 → exec .portFailure s = .next (s.after (s.wrf Reg.HIF_PORT_STATUS 0 6 0 0))) ∧
    (∀ d, d = 42 ∨ d = 52 →
      exec (.mhcLockstepMismatch d) s = .next (s.after (s.fenceDie d 7).settleAll) ∧
      (s.fenced d = true → exec (.mhcRestartEnd d) s = .next s) ∧
      (s.fenced d = false → d ≠ s.hubDie → s.avl.update = 0 →
        let t : Device := { s.toDevice with avl := { s.avl with restarting := s.avl.restarting.filter (· ≠ d) } }
        t.fenced t.hubDie = false → exec (.mhcRestartEnd d) s = .next (s.after (t.wrf Reg.AVL_STATUS 0 1 1 1)))) ∧
    (∀ d cause, d < 100 → 1 ≤ cause → cause ≤ 7 → exec (.dieFence d cause) s = .next (s.after (s.fenceDie d cause).settleAll)) ∧
    (∀ d, d < 100 → d ≠ 42 → d ≠ 52 →
      (s.fenced d = true → exec (.dieFirmwareSwitch d) s = .next s) ∧
      (s.fenced d = false → exec (.dieFirmwareSwitch d) s =
        .next (s.after { s.toDevice with avl := { s.avl with banks := nset 0 s.avl.banks d (1 - nget 0 s.avl.banks d) } }))) ∧
    (∀ d b pass, d < 100 → b < 38 →
      let r := nget 0 s.avl.tests (d * 64 + b)
      (r = 0 ∨ s.poweredHours ≤ r / 2 ^ 36 + s.rdf Reg.AVL_ST_CTL 0 15 0 → exec (.selftestAgeExpiry d b pass) s = .next s) ∧
      (r ≠ 0 → r / 2 ^ 36 + s.rdf Reg.AVL_ST_CTL 0 15 0 < s.poweredHours →
        exec (.selftestAgeExpiry d b pass) s = .next (s.after (s.selfTest d b pass)))) ∧
    (∀ results,
      let t := (((List.range 400).filter s.rotating).foldl (fun a c =>
        a.rotationResult c (((results.find? (fun (r : Nat × Nat) => r.1 = c)).map (·.2)).getD 1)) s.toDevice).endGroup
      (t.rdf Reg.AVL_ROT_CTL 0 0 0 = 0 → exec (.rotationPeriod results) s = .next (s.after t.settleAll)) ∧
      (t.rdf Reg.AVL_ROT_CTL 0 0 0 = 1 → s.rotGroup ≠ 24 →
        exec (.rotationPeriod results) s = .next (s.after (t.startGroup ((s.rotGroup + 1) % 25)).settleAll)) ∧
      (t.rdf Reg.AVL_ROT_CTL 0 0 0 = 1 → s.rotGroup = 24 →
        exec (.rotationPeriod results) s = .next (s.after ((t.inc Reg.AVL_ROT_CYCLES 0 1).startGroup 0).settleAll))) ∧
    (∀ pass, exec (.standbyPhyTest pass) s = .next (s.after (s.selfTest (otherHub s.hubDie) 8 pass)))

/-- A tamper event sets its kinds in SEC_DIE_TAMPER, wipes both secure scratches, is counted, raises the lifecycle alert and writes
a TAMPER record; a third within 24 h sets TAMPER_LOCKOUT and empties the key slots; one at a fenced die or without power changes
nothing. A security operation by a path that may give it has its effect: a nonce is issued or refused, a token unlocks a level
or changes the lifecycle, the level is lowered, an image is staged or activated, the fused SVN is raised. By any other path it
changes nothing. A nonce is dropped ten minutes after its issue, a refusal of nonces ends after one minute and a debug level at
its expiry, and not before. (from R481, R529, R560, R561, R566, R567, R568, R569, R571, R574, R578) -/
def Obligations.SecurityEvents : Prop :=
  (∀ (s : State) (d k : Nat), d = 42 ∨ d = 52 → 1 ≤ k → k < 16 →
    (s.fenced d = true ∨ 2 ≤ s.sled.stage → exec (.tamperEvent d k) s = .next s) ∧
    (s.fenced d = false → s.sled.stage < 2 →
      let w := ((((s.orr Reg.SEC_DIE_TAMPER d k).wipeScratch).inc Reg.SEC_TAMPER_COUNT 0 1).secAlert)
      let t := w.secRecord 0x1103 0 (w.rd Reg.SEC_DIE_TAMPER d % 16) 0xFF 3 0
      let recent := t.sec.tampers.filter (fun a => decide (t.now < a + dayNs)) ++ [t.now]
      let u := t.setSec (fun x => { x with tampers := recent })
      (recent.length < 3 → exec (.tamperEvent d k) s = .next (s.after u)) ∧
      (3 ≤ recent.length → exec (.tamperEvent d k) s = .next (s.after
        ((((u.wrf Reg.SEC_STATUS 0 6 6 1).setSec (fun x => { x with slotsEmpty := true })).wr Reg.SEC_DIE_ROT 42 0).wr Reg.SEC_DIE_ROT 52 0))))) ∧
  (∀ (s : State) (p : Path) (tok : Token) (level : Nat) (image : List Byte),
    (s.secPath p = false → exec (.nonce p) s = .next s ∧ exec (.unlock p tok) s = .next s ∧ exec (.lock p level) s = .next s ∧
      exec (.lifecycle p tok) s = .next s ∧ exec (.fwStage p image) s = .next s ∧ exec (.fwActivate p) s = .next s ∧
      exec (.svnCommit p) s = .next s) ∧
    (s.secPath p = true →
      exec (.nonce p) s = .next (s.after s.secNonce.2) ∧
      exec (.unlock p tok) s = .next (s.after (s.secUnlock tok.bytes (pathSource p)).2.settleAll) ∧
      exec (.lock p level) s = .next (s.after (s.secLock level (pathSource p)).2.settleAll) ∧
      exec (.lifecycle p tok) s = .next (s.after (s.secLifecycle tok.bytes (pathSource p) none).2.settleAll) ∧
      exec (.fwStage p image) s = .next (s.after (s.secStage image (pathSource p)).2) ∧
      exec (.fwActivate p) s = .next (s.after (s.secActivate none).2) ∧
      exec (.svnCommit p) s = .next (s.after (s.secCommit (pathSource p)).2))) ∧
  (∀ s : State,
    (s.sec.nonceAt = none → exec .nonceExpiry s = .next s) ∧
    (∀ t, s.sec.nonceAt = some t → (s.now < t + 10 * minuteNs → exec .nonceExpiry s = .next s) ∧
      (t + 10 * minuteNs ≤ s.now → exec .nonceExpiry s = .next (s.after s.dropNonce))) ∧
    (s.sec.refuseFrom = none → exec .nonceRefusalEnd s = .next s) ∧
    (∀ t, s.sec.refuseFrom = some t → (s.now < t + minuteNs → exec .nonceRefusalEnd s = .next s) ∧
      (t + minuteNs ≤ s.now → exec .nonceRefusalEnd s = .next (s.after { s.toDevice with sec := { s.sec with refuseFrom := none } }))) ∧
    (s.sec.debugEnd = none → exec .debugExpiry s = .next s) ∧
    (∀ t, s.sec.debugEnd = some t → (s.now < t → exec .debugExpiry s = .next s) ∧
      (t ≤ s.now → exec .debugExpiry s = .next (s.after (s.setDebug 0 0xFF 3 none).settleAll))))

/-- While the monitor listens, every command above the present debug level is answered with ERR SECURITY_DENIED and has no other
effect (R576): LOG and RR need DBG1, RW, HALT, RESUME, MR and MW need DBG2, FUSE and TEST need DBG3, the others any level. While
it does not listen, no command has any effect (log entry 23). A HALT, RESUME, MR or MW at its level that names no core, no
memory or a range outside it is answered with an error and nothing else happens; the secure scratch is denied at every level.
(from R573, R575, R576) -/
def Obligations.MonitorLevels : Prop :=
  (∀ (s : State) (l : Nat) (i : Instr) (n idx a c k m g : Nat) (data : List Byte) (v : BitVec 64) (w : BitVec 128),
    (l, i) ∈ [(0, Instr.weskoId), (0, .weskoStatus), (0, .weskoNonce), (0, .weskoToken n data), (0, .weskoUnlock), (0, .weskoLifecycle),
      (0, .weskoLock n), (1, .weskoLog idx), (1, .weskoRr a), (2, .weskoRw a v), (2, .weskoHalt c), (2, .weskoResume c),
      (2, .weskoMr k m a g), (2, .weskoMw k m a w), (3, .weskoFuse), (3, .weskoTest)] →
    (s.weskoUp = false → exec i s = .next s) ∧
    (s.weskoUp = true → s.debug < l → exec i s = .next (s.after (s.weskoErr St.securityDenied)))) ∧
  (∀ (s : State) (c m a g : Nat) (w : BitVec 128), s.weskoUp = true → 2 ≤ s.debug →
    (400 ≤ c → exec (.weskoHalt c) s = .next (s.after (s.weskoErr St.invalidField)) ∧
      exec (.weskoResume c) s = .next (s.after (s.weskoErr St.invalidField))) ∧
    (1 ≤ g → g ≤ 64 → exec (.weskoMr 11 m a g) s = .next (s.after (s.weskoErr St.securityDenied))) ∧
    exec (.weskoMw 11 m a w) s = .next (s.after (s.weskoErr St.securityDenied)))

/-- At its level each command of the monitor is answered with what its row gives: identity and status, the nonce, a token line that
is kept until it is used, the operations on the loaded token, a log record or zeros, a register read or written in the
privileged view, a core halted from idle or running, once its queued instructions have completed, or resumed, memory read with
the tag P for poison, and a whole word of memory written. What FUSE and TEST answer is open, and a free value. (from R453, R567,
R573, R575, R576) -/
def Obligations.MonitorCommands : Prop :=
  (∀ s : State, s.weskoUp = true →
    exec .weskoId s = .next (s.after (s.weskoOk (partNumber ++ natLe 8 (s.rd Reg.SEC_SERIAL 0) ++ natLe 1 s.lifecycle ++ natLe 1 s.debug ++
      natLe 4 (s.rd Reg.SEC_FW_VERSION 0) ++ natLe 1 (s.rdf Reg.SEC_FW_SVN 0 6 0)))) ∧
    exec .weskoStatus s = .next (s.after (s.weskoOk (natLe 4 (s.rd Reg.SEC_STATUS 0) ++ natLe 4 (s.rd Reg.AVL_STATUS 0) ++
      natLe 4 (s.rd Reg.PWR_STATUS 0)))) ∧
    (s.secNonce.1 = St.ok → exec .weskoNonce s = .next (s.after (s.secNonce.2.weskoOk s.secNonce.2.nonceBytes))) ∧
    (s.secNonce.1 ≠ St.ok → exec .weskoNonce s = .next (s.after (s.secNonce.2.weskoErr s.secNonce.1))) ∧
    (∀ n data, n ≤ 5 → data.length = (if n = 5 then 36 else 64) → exec (.weskoToken n data) s =
      .next (s.after ((s.setSec (fun x => { x with token := nset [] x.token n data })).weskoOk []))) ∧
    (∀ n data, 5 < n ∨ data.length ≠ (if n = 5 then 36 else 64) →
      exec (.weskoToken n data) s = .next (s.after (s.weskoErr St.invalidField))) ∧
    (let r := s.dropToken.secUnlock s.loadedToken 2
     exec .weskoUnlock s = .next (s.after (r.2.settleAll.weskoStatus r.1))) ∧
    (let r := s.dropToken.secLifecycle s.loadedToken 2 none
     exec .weskoLifecycle s = .next (s.after (match r.1 with
       | none => r.2.settleAll
       | some st => r.2.settleAll.weskoStatus st))) ∧
    (∀ level, let r := s.secLock level 2
      exec (.weskoLock level) s = .next (s.after (r.2.settleAll.weskoStatus r.1)))) ∧
  (∀ s : State, s.weskoUp = true → 1 ≤ s.debug →
    (∀ idx r, s.log.find? (fun r => r.index = idx) = some r → exec (.weskoLog idx) s = .next (s.after (s.weskoOk r.bytes))) ∧
    (∀ idx, s.log.find? (fun r => r.index = idx) = none →
      exec (.weskoLog idx) s = .next (s.after (s.weskoOk (List.replicate 32 0)))) ∧
    (∀ a, let r := s.regReadBy .monitor a (regWidth a)
      (r.1 = St.ok → exec (.weskoRr a) s = .next (s.after (r.2.2.weskoOk (natLe (if regWidth a then 8 else 4) r.2.1)))) ∧
      (r.1 ≠ St.ok → exec (.weskoRr a) s = .next (s.after (r.2.2.weskoErr r.1))))) ∧
  (∀ s : State, s.weskoUp = true → 2 ≤ s.debug →
    (∀ a (v : BitVec 64),
      let r := s.draw.2.regWriteBy .monitor none (s.draw.1 % 2 == 0) a (regWidth a) (if regWidth a then v.toNat else v.toNat % 2 ^ 32)
      exec (.weskoRw a v) s = .next (s.after (match r.1 with
        | none => r.2.settleFaults
        | some st => r.2.settleFaults.weskoStatus st))) ∧
    (∀ c, c < 400 → s.fenced (coreDie c) = false →
      (s.rdf Reg.CORE_STATE c 2 0 = 1 ∨ s.rdf Reg.CORE_STATE c 2 0 = 2 →
        exec (.weskoHalt c) s = .next (s.after (((s.setCore c { s.core c with halting := true }).settleHalt c).weskoOk [])) ∧
        ((s.core c).board = [] → (s.core c).halting = false → (((s.setCore c { s.core c with halting := true }).settleHalt c).rdf
          Reg.CORE_STATE c 2 0) = 3)) ∧
      (s.halted c = true → exec (.weskoResume c) s = .next (s.after ((s.resumeCore c).settleFaults.weskoOk [])))) ∧
    (∀ code m a g, 1 ≤ g → g ≤ 64 → s.memDenied code m a g false = none →
      ((s.weskoRead code m a g).2 = false → exec (.weskoMr code m a g) s =
        .next (s.after ((s.wakeMem code m).weskoOk (s.weskoRead code m a g).1))) ∧
      ((s.weskoRead code m a g).2 = true → exec (.weskoMr code m a g) s = .next (s.after
        (((s.wakeMem code m).memCount code (weskoPlace code m a).1 Reg.MEM_CORE_POISON_READ Reg.MEM_DIE_POISON_READ 1).weskoOk
          ((s.weskoRead code m a g).1 ++ [0x50]))))) ∧
    (∀ code m a (w : BitVec 128), s.memDenied code m a 16 true = none → exec (.weskoMw code m a w) s = .next (s.after
      ((((s.wakeMem code m).writeMem code (weskoPlace code m a).1 (weskoPlace code m a).2 (natLe 16 w.toNat) []).settleFaults).weskoOk [])))) ∧
  (∀ s : State, s.weskoUp = true → 3 ≤ s.debug → ∃ data : List Byte, data.length = 8 ∧
    exec .weskoFuse s = .next (s.after (s.draw.2.weskoOk data)) ∧ exec .weskoTest s = .next (s.after (s.draw.2.weskoOk data)))

/-- The horizontal stay between (x, y) and (x + 1, y), for x = 0 to 8, has ID y × 9 + x, within 0 to 89, at port 0 of the one die
and port 2 of the other; the vertical stay between (x, y) and (x, y + 1), for y = 0 to 8, has ID 90 + y × 10 + x, within 90 to
179, at ports 1 and 3. (states R10) -/
def Obligations.StayIds : Prop :=
  (∀ x y : Nat, x < 9 → y < 10 → stayAt (y * 10 + x) 0 = y * 9 + x ∧ stayAt (y * 10 + (x + 1)) 2 = y * 9 + x ∧ y * 9 + x ≤ 89 ∧
    peerOf (y * 10 + x) 0 = some (y * 10 + (x + 1)) ∧ peerOf (y * 10 + (x + 1)) 2 = some (y * 10 + x)) ∧
  (∀ x y : Nat, x < 10 → y < 9 → stayAt (y * 10 + x) 1 = 90 + y * 10 + x ∧ stayAt ((y + 1) * 10 + x) 3 = 90 + y * 10 + x ∧
    90 ≤ 90 + y * 10 + x ∧ 90 + y * 10 + x ≤ 179 ∧
    peerOf (y * 10 + x) 1 = some ((y + 1) * 10 + x) ∧ peerOf ((y + 1) * 10 + x) 3 = some (y * 10 + x))
end

