-- ==== Sys2Proof/Laws/Map.lean ====
section
/-! SUPPORT. Sparse maps: a read after a write, and the canonical form. -/

namespace Sys2Proof.Machine

variable {α : Type}

theorem nget_filter_ne (d : α) (k j : Nat) (h : j ≠ k) : ∀ m : NMap α,
    nget d (m.filter (fun e => !(e.1 == k))) j = nget d m j
  | [] => rfl
  | (k', v) :: m => by
    have ih := nget_filter_ne d k j h m
    by_cases hk : k' = k
    · have hj : k' ≠ j := fun e => h (by omega)
      simp [nget, hk, ih, Ne.symm h]
    · simp [nget, hk, ih]

theorem nget_filter_same (d : α) (k : Nat) : ∀ m : NMap α, nget d (m.filter (fun e => !(e.1 == k))) k = d
  | [] => rfl
  | (k', v) :: m => by
    have ih := nget_filter_same d k m
    by_cases hk : k' = k <;> simp [nget, hk, ih]

theorem nget_ninsert_same (d : α) (k : Nat) (v : α) : ∀ m : NMap α, (∀ e ∈ m, e.1 ≠ k) → nget d (ninsert k v m) k = v
  | [], _ => by simp [ninsert, nget]
  | (k', v') :: m, h => by
    have ih := nget_ninsert_same d k v m (fun e he => h e (List.mem_cons_of_mem _ he))
    have hk : k' ≠ k := h (k', v') (List.mem_cons_self ..)
    by_cases hlt : k < k' <;> simp [ninsert, hlt, nget, hk, ih]

theorem nget_ninsert_ne (d : α) (k j : Nat) (v : α) (h : j ≠ k) : ∀ m : NMap α, nget d (ninsert k v m) j = nget d m j
  | [] => by simp [ninsert, nget, Ne.symm h]
  | (k', v') :: m => by
    have ih := nget_ninsert_ne d k j v h m
    by_cases hlt : k < k'
    · simp [ninsert, hlt, nget, Ne.symm h]
    · simp [ninsert, hlt, nget, ih]

/-- A read of the key just written. -/
@[simp] theorem nget_nset_same [DecidableEq α] (d : α) (m : NMap α) (k : Nat) (v : α) : nget d (nset d m k v) k = v := by
  by_cases hv : v = d
  · simp [nset, hv, nget_filter_same]
  · simp only [nset, hv, if_false]
    exact nget_ninsert_same d k v _ (by simp)

/-- A read of another key. -/
theorem nget_nset_ne [DecidableEq α] (d d' : α) (m : NMap α) (k j : Nat) (v : α) (h : j ≠ k) :
    nget d' (nset d m k v) j = nget d' m j := by
  by_cases hv : v = d
  · simp [nset, hv, nget_filter_ne _ _ _ h]
  · simp only [nset, hv, if_false]
    rw [nget_ninsert_ne _ _ _ _ h, nget_filter_ne _ _ _ h]

/-! ## The canonical form -/

theorem nabove_mono [DecidableEq α] (d : Nat → α) (b c : Nat) (h : c ≤ b) : ∀ m : NMap α, nabove d b m = true → nabove d c m = true
  | [], _ => rfl
  | (k, v) :: m, hm => by
    simp only [nabove, Bool.and_eq_true, decide_eq_true_eq] at hm ⊢
    exact ⟨⟨by omega, hm.1.2⟩, hm.2⟩

theorem nabove_filter [DecidableEq α] (d : Nat → α) (p : Nat × α → Bool) : ∀ (m : NMap α) (b : Nat), nabove d b m = true →
    nabove d b (m.filter p) = true
  | [], _, _ => rfl
  | (k, v) :: m, b, h => by
    simp only [nabove, Bool.and_eq_true, decide_eq_true_eq] at h
    by_cases hp : p (k, v) = true
    · simp only [List.filter, hp, nabove, Bool.and_eq_true, decide_eq_true_eq]
      exact ⟨h.1, nabove_filter d p m k h.2⟩
    · simp only [List.filter, hp]
      exact nabove_mono d k b (by omega) _ (nabove_filter d p m k h.2)

theorem nabove_ninsert [DecidableEq α] (d : Nat → α) (k : Nat) (v : α) (hv : v ≠ d k) : ∀ (m : NMap α) (b : Nat), b < k →
    nabove d b m = true → (∀ e ∈ m, e.1 ≠ k) → nabove d b (ninsert k v m) = true
  | [], b, hb, _, _ => by simp [ninsert, nabove, hb, hv]
  | (k', v') :: m, b, hb, h, hne => by
    simp only [nabove, Bool.and_eq_true, decide_eq_true_eq] at h
    have hk : k' ≠ k := hne (k', v') (List.mem_cons_self ..)
    by_cases hlt : k < k'
    · simp only [ninsert, hlt, if_true, nabove, Bool.and_eq_true, decide_eq_true_eq]
      exact ⟨⟨hb, hv⟩, ⟨trivial, h.1.2⟩, h.2⟩
    · simp only [ninsert, hlt, if_false, nabove, Bool.and_eq_true, decide_eq_true_eq]
      exact ⟨h.1, nabove_ninsert d k v hv m k' (by omega) h.2 (fun e he => hne e (List.mem_cons_of_mem _ he))⟩

/-- A map without some of its entries stays canonical. -/
theorem nwf_filter [DecidableEq α] (d : Nat → α) (p : Nat × α → Bool) : ∀ m : NMap α, nwf d m = true → nwf d (m.filter p) = true
  | [], _ => rfl
  | (k, v) :: m, h => by
    simp only [nwf, Bool.and_eq_true, decide_eq_true_eq] at h
    by_cases hp : p (k, v) = true
    · simp only [List.filter, hp, nwf, Bool.and_eq_true, decide_eq_true_eq]
      exact ⟨h.1, nabove_filter d p m k h.2⟩
    · simp only [List.filter, hp]
      have h2 := nabove_filter d p m k h.2
      generalize m.filter p = r at h2
      cases r with
      | nil => rfl
      | cons e r => simp only [nabove, Bool.and_eq_true, decide_eq_true_eq] at h2; simp [nwf, h2.1.2, h2.2]

/-- A write keeps the canonical form. -/
theorem nwf_nset [DecidableEq α] (d : Nat → α) (m : NMap α) (k : Nat) (v : α) (h : nwf d m = true) :
    nwf d (nset (d k) m k v) = true := by
  have hf := nwf_filter d (fun e => !(e.1 == k)) m h
  by_cases hv : v = d k
  · simpa [nset, hv] using hf
  · simp only [nset, hv, if_false]
    have hne : ∀ e ∈ m.filter (fun e => !(e.1 == k)), e.1 ≠ k := by simp
    generalize m.filter (fun e => !(e.1 == k)) = r at hf hne
    cases r with
    | nil => simp [ninsert, nwf, nabove, hv]
    | cons e r =>
      obtain ⟨k', v'⟩ := e
      simp only [nwf, Bool.and_eq_true, decide_eq_true_eq] at hf
      have hk : k' ≠ k := hne (k', v') (List.mem_cons_self ..)
      by_cases hlt : k < k'
      · simp only [ninsert, hlt, if_true, nwf, nabove, Bool.and_eq_true, decide_eq_true_eq]
        exact ⟨hv, ⟨trivial, hf.1⟩, hf.2⟩
      · simp only [ninsert, hlt, if_false, nwf, Bool.and_eq_true, decide_eq_true_eq]
        exact ⟨hf.1, nabove_ninsert d k v hv r k' (by omega) hf.2 (fun e he => hne e (List.mem_cons_of_mem _ he))⟩

/-! ## Fields of a number -/

/-- A field just written reads what was written, cut to its width. -/
theorem bits_setBits_same (n hi lo v : Nat) (h : lo ≤ hi) : bits (setBits n hi lo v) hi lo = v % 2 ^ (hi + 1 - lo) := by
  have hw : 2 ^ (hi + 1) = 2 ^ lo * 2 ^ (hi + 1 - lo) := by rw [← Nat.pow_add]; congr 1; omega
  have hl : n % 2 ^ lo < 2 ^ lo := Nat.mod_lt _ (Nat.two_pow_pos lo)
  unfold bits setBits
  have e : n / 2 ^ (hi + 1) * 2 ^ (hi + 1) + v % 2 ^ (hi + 1 - lo) * 2 ^ lo + n % 2 ^ lo
      = n % 2 ^ lo + 2 ^ lo * (n / 2 ^ (hi + 1) * 2 ^ (hi + 1 - lo) + v % 2 ^ (hi + 1 - lo)) := by
    rw [hw, Nat.mul_add]
    have : n / (2 ^ lo * 2 ^ (hi + 1 - lo)) * (2 ^ lo * 2 ^ (hi + 1 - lo))
        = 2 ^ lo * (n / (2 ^ lo * 2 ^ (hi + 1 - lo)) * 2 ^ (hi + 1 - lo)) := by
      rw [Nat.mul_left_comm]
    rw [this, Nat.mul_comm (v % _) (2 ^ lo)]; omega
  rw [e, Nat.add_mul_div_left _ _ (Nat.two_pow_pos lo), Nat.div_eq_of_lt hl, Nat.zero_add, Nat.add_comm, Nat.add_mul_mod_self_right,
    Nat.mod_mod]

end Sys2Proof.Machine
end

