-- ==== Sys2Proof/Laws/State.lean ====
section
/-! SUPPORT. One lemma for each field that an update of the device leaves alone. -/

namespace Sys2Proof.Machine

variable (s : Device)

/-! ## `wr` changes `regs`. -/

@[simp] theorem Device.wr_free (r i v : Nat) : (s.wr r i v).free = s.free := rfl
@[simp] theorem Device.wr_clocks (r i v : Nat) : (s.wr r i v).clocks = s.clocks := rfl
@[simp] theorem Device.wr_counted (r i v : Nat) : (s.wr r i v).counted = s.counted := rfl
@[simp] theorem Device.wr_log (r i v : Nat) : (s.wr r i v).log = s.log := rfl
@[simp] theorem Device.wr_logNext (r i v : Nat) : (s.wr r i v).logNext = s.logNext := rfl
@[simp] theorem Device.wr_net (r i v : Nat) : (s.wr r i v).net = s.net := rfl
@[simp] theorem Device.wr_out (r i v : Nat) : (s.wr r i v).out = s.out := rfl
@[simp] theorem Device.wr_hif (r i v : Nat) : (s.wr r i v).hif = s.hif := rfl
@[simp] theorem Device.wr_cmds (r i v : Nat) : (s.wr r i v).cmds = s.cmds := rfl
@[simp] theorem Device.wr_fab (r i v : Nat) : (s.wr r i v).fab = s.fab := rfl
@[simp] theorem Device.wr_engines (r i v : Nat) : (s.wr r i v).engines = s.engines := rfl
@[simp] theorem Device.wr_cores (r i v : Nat) : (s.wr r i v).cores = s.cores := rfl
@[simp] theorem Device.wr_holds (r i v : Nat) : (s.wr r i v).holds = s.holds := rfl
@[simp] theorem Device.wr_mem (r i v : Nat) : (s.wr r i v).mem = s.mem := rfl
@[simp] theorem Device.wr_faults (r i v : Nat) : (s.wr r i v).faults = s.faults := rfl
@[simp] theorem Device.wr_tier (r i v : Nat) : (s.wr r i v).tier = s.tier := rfl
@[simp] theorem Device.wr_nss (r i v : Nat) : (s.wr r i v).nss = s.nss := rfl
@[simp] theorem Device.wr_work (r i v : Nat) : (s.wr r i v).work = s.work := rfl
@[simp] theorem Device.wr_tkl (r i v : Nat) : (s.wr r i v).tkl = s.tkl := rfl
@[simp] theorem Device.wr_emb (r i v : Nat) : (s.wr r i v).emb = s.emb := rfl
@[simp] theorem Device.wr_srch (r i v : Nat) : (s.wr r i v).srch = s.srch := rfl
@[simp] theorem Device.wr_media (r i v : Nat) : (s.wr r i v).media = s.media := rfl
@[simp] theorem Device.wr_ftl (r i v : Nat) : (s.wr r i v).ftl = s.ftl := rfl
@[simp] theorem Device.wr_pwr (r i v : Nat) : (s.wr r i v).pwr = s.pwr := rfl
@[simp] theorem Device.wr_sled (r i v : Nat) : (s.wr r i v).sled = s.sled := rfl
@[simp] theorem Device.wr_avl (r i v : Nat) : (s.wr r i v).avl = s.avl := rfl
@[simp] theorem Device.wr_sec (r i v : Nat) : (s.wr r i v).sec = s.sec := rfl

/-! ## `wrf` changes `regs`. -/

@[simp] theorem Device.wrf_free (r i hi lo v : Nat) : (s.wrf r i hi lo v).free = s.free := rfl
@[simp] theorem Device.wrf_clocks (r i hi lo v : Nat) : (s.wrf r i hi lo v).clocks = s.clocks := rfl
@[simp] theorem Device.wrf_counted (r i hi lo v : Nat) : (s.wrf r i hi lo v).counted = s.counted := rfl
@[simp] theorem Device.wrf_log (r i hi lo v : Nat) : (s.wrf r i hi lo v).log = s.log := rfl
@[simp] theorem Device.wrf_logNext (r i hi lo v : Nat) : (s.wrf r i hi lo v).logNext = s.logNext := rfl
@[simp] theorem Device.wrf_net (r i hi lo v : Nat) : (s.wrf r i hi lo v).net = s.net := rfl
@[simp] theorem Device.wrf_out (r i hi lo v : Nat) : (s.wrf r i hi lo v).out = s.out := rfl
@[simp] theorem Device.wrf_hif (r i hi lo v : Nat) : (s.wrf r i hi lo v).hif = s.hif := rfl
@[simp] theorem Device.wrf_cmds (r i hi lo v : Nat) : (s.wrf r i hi lo v).cmds = s.cmds := rfl
@[simp] theorem Device.wrf_fab (r i hi lo v : Nat) : (s.wrf r i hi lo v).fab = s.fab := rfl
@[simp] theorem Device.wrf_engines (r i hi lo v : Nat) : (s.wrf r i hi lo v).engines = s.engines := rfl
@[simp] theorem Device.wrf_cores (r i hi lo v : Nat) : (s.wrf r i hi lo v).cores = s.cores := rfl
@[simp] theorem Device.wrf_holds (r i hi lo v : Nat) : (s.wrf r i hi lo v).holds = s.holds := rfl
@[simp] theorem Device.wrf_mem (r i hi lo v : Nat) : (s.wrf r i hi lo v).mem = s.mem := rfl
@[simp] theorem Device.wrf_faults (r i hi lo v : Nat) : (s.wrf r i hi lo v).faults = s.faults := rfl
@[simp] theorem Device.wrf_tier (r i hi lo v : Nat) : (s.wrf r i hi lo v).tier = s.tier := rfl
@[simp] theorem Device.wrf_nss (r i hi lo v : Nat) : (s.wrf r i hi lo v).nss = s.nss := rfl
@[simp] theorem Device.wrf_work (r i hi lo v : Nat) : (s.wrf r i hi lo v).work = s.work := rfl
@[simp] theorem Device.wrf_tkl (r i hi lo v : Nat) : (s.wrf r i hi lo v).tkl = s.tkl := rfl
@[simp] theorem Device.wrf_emb (r i hi lo v : Nat) : (s.wrf r i hi lo v).emb = s.emb := rfl
@[simp] theorem Device.wrf_srch (r i hi lo v : Nat) : (s.wrf r i hi lo v).srch = s.srch := rfl
@[simp] theorem Device.wrf_media (r i hi lo v : Nat) : (s.wrf r i hi lo v).media = s.media := rfl
@[simp] theorem Device.wrf_ftl (r i hi lo v : Nat) : (s.wrf r i hi lo v).ftl = s.ftl := rfl
@[simp] theorem Device.wrf_pwr (r i hi lo v : Nat) : (s.wrf r i hi lo v).pwr = s.pwr := rfl
@[simp] theorem Device.wrf_sled (r i hi lo v : Nat) : (s.wrf r i hi lo v).sled = s.sled := rfl
@[simp] theorem Device.wrf_avl (r i hi lo v : Nat) : (s.wrf r i hi lo v).avl = s.avl := rfl
@[simp] theorem Device.wrf_sec (r i hi lo v : Nat) : (s.wrf r i hi lo v).sec = s.sec := rfl

/-! ## `orr` changes `regs`. -/

@[simp] theorem Device.orr_free (r i v : Nat) : (s.orr r i v).free = s.free := rfl
@[simp] theorem Device.orr_clocks (r i v : Nat) : (s.orr r i v).clocks = s.clocks := rfl
@[simp] theorem Device.orr_counted (r i v : Nat) : (s.orr r i v).counted = s.counted := rfl
@[simp] theorem Device.orr_log (r i v : Nat) : (s.orr r i v).log = s.log := rfl
@[simp] theorem Device.orr_logNext (r i v : Nat) : (s.orr r i v).logNext = s.logNext := rfl
@[simp] theorem Device.orr_net (r i v : Nat) : (s.orr r i v).net = s.net := rfl
@[simp] theorem Device.orr_out (r i v : Nat) : (s.orr r i v).out = s.out := rfl
@[simp] theorem Device.orr_hif (r i v : Nat) : (s.orr r i v).hif = s.hif := rfl
@[simp] theorem Device.orr_cmds (r i v : Nat) : (s.orr r i v).cmds = s.cmds := rfl
@[simp] theorem Device.orr_fab (r i v : Nat) : (s.orr r i v).fab = s.fab := rfl
@[simp] theorem Device.orr_engines (r i v : Nat) : (s.orr r i v).engines = s.engines := rfl
@[simp] theorem Device.orr_cores (r i v : Nat) : (s.orr r i v).cores = s.cores := rfl
@[simp] theorem Device.orr_holds (r i v : Nat) : (s.orr r i v).holds = s.holds := rfl
@[simp] theorem Device.orr_mem (r i v : Nat) : (s.orr r i v).mem = s.mem := rfl
@[simp] theorem Device.orr_faults (r i v : Nat) : (s.orr r i v).faults = s.faults := rfl
@[simp] theorem Device.orr_tier (r i v : Nat) : (s.orr r i v).tier = s.tier := rfl
@[simp] theorem Device.orr_nss (r i v : Nat) : (s.orr r i v).nss = s.nss := rfl
@[simp] theorem Device.orr_work (r i v : Nat) : (s.orr r i v).work = s.work := rfl
@[simp] theorem Device.orr_tkl (r i v : Nat) : (s.orr r i v).tkl = s.tkl := rfl
@[simp] theorem Device.orr_emb (r i v : Nat) : (s.orr r i v).emb = s.emb := rfl
@[simp] theorem Device.orr_srch (r i v : Nat) : (s.orr r i v).srch = s.srch := rfl
@[simp] theorem Device.orr_media (r i v : Nat) : (s.orr r i v).media = s.media := rfl
@[simp] theorem Device.orr_ftl (r i v : Nat) : (s.orr r i v).ftl = s.ftl := rfl
@[simp] theorem Device.orr_pwr (r i v : Nat) : (s.orr r i v).pwr = s.pwr := rfl
@[simp] theorem Device.orr_sled (r i v : Nat) : (s.orr r i v).sled = s.sled := rfl
@[simp] theorem Device.orr_avl (r i v : Nat) : (s.orr r i v).avl = s.avl := rfl
@[simp] theorem Device.orr_sec (r i v : Nat) : (s.orr r i v).sec = s.sec := rfl

/-! ## `inc` changes `regs`. -/

@[simp] theorem Device.inc_free (r i n : Nat) : (s.inc r i n).free = s.free := rfl
@[simp] theorem Device.inc_clocks (r i n : Nat) : (s.inc r i n).clocks = s.clocks := rfl
@[simp] theorem Device.inc_counted (r i n : Nat) : (s.inc r i n).counted = s.counted := rfl
@[simp] theorem Device.inc_log (r i n : Nat) : (s.inc r i n).log = s.log := rfl
@[simp] theorem Device.inc_logNext (r i n : Nat) : (s.inc r i n).logNext = s.logNext := rfl
@[simp] theorem Device.inc_net (r i n : Nat) : (s.inc r i n).net = s.net := rfl
@[simp] theorem Device.inc_out (r i n : Nat) : (s.inc r i n).out = s.out := rfl
@[simp] theorem Device.inc_hif (r i n : Nat) : (s.inc r i n).hif = s.hif := rfl
@[simp] theorem Device.inc_cmds (r i n : Nat) : (s.inc r i n).cmds = s.cmds := rfl
@[simp] theorem Device.inc_fab (r i n : Nat) : (s.inc r i n).fab = s.fab := rfl
@[simp] theorem Device.inc_engines (r i n : Nat) : (s.inc r i n).engines = s.engines := rfl
@[simp] theorem Device.inc_cores (r i n : Nat) : (s.inc r i n).cores = s.cores := rfl
@[simp] theorem Device.inc_holds (r i n : Nat) : (s.inc r i n).holds = s.holds := rfl
@[simp] theorem Device.inc_mem (r i n : Nat) : (s.inc r i n).mem = s.mem := rfl
@[simp] theorem Device.inc_faults (r i n : Nat) : (s.inc r i n).faults = s.faults := rfl
@[simp] theorem Device.inc_tier (r i n : Nat) : (s.inc r i n).tier = s.tier := rfl
@[simp] theorem Device.inc_nss (r i n : Nat) : (s.inc r i n).nss = s.nss := rfl
@[simp] theorem Device.inc_work (r i n : Nat) : (s.inc r i n).work = s.work := rfl
@[simp] theorem Device.inc_tkl (r i n : Nat) : (s.inc r i n).tkl = s.tkl := rfl
@[simp] theorem Device.inc_emb (r i n : Nat) : (s.inc r i n).emb = s.emb := rfl
@[simp] theorem Device.inc_srch (r i n : Nat) : (s.inc r i n).srch = s.srch := rfl
@[simp] theorem Device.inc_media (r i n : Nat) : (s.inc r i n).media = s.media := rfl
@[simp] theorem Device.inc_ftl (r i n : Nat) : (s.inc r i n).ftl = s.ftl := rfl
@[simp] theorem Device.inc_pwr (r i n : Nat) : (s.inc r i n).pwr = s.pwr := rfl
@[simp] theorem Device.inc_sled (r i n : Nat) : (s.inc r i n).sled = s.sled := rfl
@[simp] theorem Device.inc_avl (r i n : Nat) : (s.inc r i n).avl = s.avl := rfl
@[simp] theorem Device.inc_sec (r i n : Nat) : (s.inc r i n).sec = s.sec := rfl

/-! ## `dec` changes `regs`. -/

@[simp] theorem Device.dec_free (r i n : Nat) : (s.dec r i n).free = s.free := rfl
@[simp] theorem Device.dec_clocks (r i n : Nat) : (s.dec r i n).clocks = s.clocks := rfl
@[simp] theorem Device.dec_counted (r i n : Nat) : (s.dec r i n).counted = s.counted := rfl
@[simp] theorem Device.dec_log (r i n : Nat) : (s.dec r i n).log = s.log := rfl
@[simp] theorem Device.dec_logNext (r i n : Nat) : (s.dec r i n).logNext = s.logNext := rfl
@[simp] theorem Device.dec_net (r i n : Nat) : (s.dec r i n).net = s.net := rfl
@[simp] theorem Device.dec_out (r i n : Nat) : (s.dec r i n).out = s.out := rfl
@[simp] theorem Device.dec_hif (r i n : Nat) : (s.dec r i n).hif = s.hif := rfl
@[simp] theorem Device.dec_cmds (r i n : Nat) : (s.dec r i n).cmds = s.cmds := rfl
@[simp] theorem Device.dec_fab (r i n : Nat) : (s.dec r i n).fab = s.fab := rfl
@[simp] theorem Device.dec_engines (r i n : Nat) : (s.dec r i n).engines = s.engines := rfl
@[simp] theorem Device.dec_cores (r i n : Nat) : (s.dec r i n).cores = s.cores := rfl
@[simp] theorem Device.dec_holds (r i n : Nat) : (s.dec r i n).holds = s.holds := rfl
@[simp] theorem Device.dec_mem (r i n : Nat) : (s.dec r i n).mem = s.mem := rfl
@[simp] theorem Device.dec_faults (r i n : Nat) : (s.dec r i n).faults = s.faults := rfl
@[simp] theorem Device.dec_tier (r i n : Nat) : (s.dec r i n).tier = s.tier := rfl
@[simp] theorem Device.dec_nss (r i n : Nat) : (s.dec r i n).nss = s.nss := rfl
@[simp] theorem Device.dec_work (r i n : Nat) : (s.dec r i n).work = s.work := rfl
@[simp] theorem Device.dec_tkl (r i n : Nat) : (s.dec r i n).tkl = s.tkl := rfl
@[simp] theorem Device.dec_emb (r i n : Nat) : (s.dec r i n).emb = s.emb := rfl
@[simp] theorem Device.dec_srch (r i n : Nat) : (s.dec r i n).srch = s.srch := rfl
@[simp] theorem Device.dec_media (r i n : Nat) : (s.dec r i n).media = s.media := rfl
@[simp] theorem Device.dec_ftl (r i n : Nat) : (s.dec r i n).ftl = s.ftl := rfl
@[simp] theorem Device.dec_pwr (r i n : Nat) : (s.dec r i n).pwr = s.pwr := rfl
@[simp] theorem Device.dec_sled (r i n : Nat) : (s.dec r i n).sled = s.sled := rfl
@[simp] theorem Device.dec_avl (r i n : Nat) : (s.dec r i n).avl = s.avl := rfl
@[simp] theorem Device.dec_sec (r i n : Nat) : (s.dec r i n).sec = s.sec := rfl

/-! ## `peak` changes `regs`. -/

@[simp] theorem Device.peak_free (r i v : Nat) : (s.peak r i v).free = s.free := rfl
@[simp] theorem Device.peak_clocks (r i v : Nat) : (s.peak r i v).clocks = s.clocks := rfl
@[simp] theorem Device.peak_counted (r i v : Nat) : (s.peak r i v).counted = s.counted := rfl
@[simp] theorem Device.peak_log (r i v : Nat) : (s.peak r i v).log = s.log := rfl
@[simp] theorem Device.peak_logNext (r i v : Nat) : (s.peak r i v).logNext = s.logNext := rfl
@[simp] theorem Device.peak_net (r i v : Nat) : (s.peak r i v).net = s.net := rfl
@[simp] theorem Device.peak_out (r i v : Nat) : (s.peak r i v).out = s.out := rfl
@[simp] theorem Device.peak_hif (r i v : Nat) : (s.peak r i v).hif = s.hif := rfl
@[simp] theorem Device.peak_cmds (r i v : Nat) : (s.peak r i v).cmds = s.cmds := rfl
@[simp] theorem Device.peak_fab (r i v : Nat) : (s.peak r i v).fab = s.fab := rfl
@[simp] theorem Device.peak_engines (r i v : Nat) : (s.peak r i v).engines = s.engines := rfl
@[simp] theorem Device.peak_cores (r i v : Nat) : (s.peak r i v).cores = s.cores := rfl
@[simp] theorem Device.peak_holds (r i v : Nat) : (s.peak r i v).holds = s.holds := rfl
@[simp] theorem Device.peak_mem (r i v : Nat) : (s.peak r i v).mem = s.mem := rfl
@[simp] theorem Device.peak_faults (r i v : Nat) : (s.peak r i v).faults = s.faults := rfl
@[simp] theorem Device.peak_tier (r i v : Nat) : (s.peak r i v).tier = s.tier := rfl
@[simp] theorem Device.peak_nss (r i v : Nat) : (s.peak r i v).nss = s.nss := rfl
@[simp] theorem Device.peak_work (r i v : Nat) : (s.peak r i v).work = s.work := rfl
@[simp] theorem Device.peak_tkl (r i v : Nat) : (s.peak r i v).tkl = s.tkl := rfl
@[simp] theorem Device.peak_emb (r i v : Nat) : (s.peak r i v).emb = s.emb := rfl
@[simp] theorem Device.peak_srch (r i v : Nat) : (s.peak r i v).srch = s.srch := rfl
@[simp] theorem Device.peak_media (r i v : Nat) : (s.peak r i v).media = s.media := rfl
@[simp] theorem Device.peak_ftl (r i v : Nat) : (s.peak r i v).ftl = s.ftl := rfl
@[simp] theorem Device.peak_pwr (r i v : Nat) : (s.peak r i v).pwr = s.pwr := rfl
@[simp] theorem Device.peak_sled (r i v : Nat) : (s.peak r i v).sled = s.sled := rfl
@[simp] theorem Device.peak_avl (r i v : Nat) : (s.peak r i v).avl = s.avl := rfl
@[simp] theorem Device.peak_sec (r i v : Nat) : (s.peak r i v).sec = s.sec := rfl

/-! ## `draw` changes `free`. -/

@[simp] theorem Device.draw_clocks : (s.draw.2).clocks = s.clocks := rfl
@[simp] theorem Device.draw_regs : (s.draw.2).regs = s.regs := rfl
@[simp] theorem Device.draw_counted : (s.draw.2).counted = s.counted := rfl
@[simp] theorem Device.draw_log : (s.draw.2).log = s.log := rfl
@[simp] theorem Device.draw_logNext : (s.draw.2).logNext = s.logNext := rfl
@[simp] theorem Device.draw_net : (s.draw.2).net = s.net := rfl
@[simp] theorem Device.draw_out : (s.draw.2).out = s.out := rfl
@[simp] theorem Device.draw_hif : (s.draw.2).hif = s.hif := rfl
@[simp] theorem Device.draw_cmds : (s.draw.2).cmds = s.cmds := rfl
@[simp] theorem Device.draw_fab : (s.draw.2).fab = s.fab := rfl
@[simp] theorem Device.draw_engines : (s.draw.2).engines = s.engines := rfl
@[simp] theorem Device.draw_cores : (s.draw.2).cores = s.cores := rfl
@[simp] theorem Device.draw_holds : (s.draw.2).holds = s.holds := rfl
@[simp] theorem Device.draw_mem : (s.draw.2).mem = s.mem := rfl
@[simp] theorem Device.draw_faults : (s.draw.2).faults = s.faults := rfl
@[simp] theorem Device.draw_tier : (s.draw.2).tier = s.tier := rfl
@[simp] theorem Device.draw_nss : (s.draw.2).nss = s.nss := rfl
@[simp] theorem Device.draw_work : (s.draw.2).work = s.work := rfl
@[simp] theorem Device.draw_tkl : (s.draw.2).tkl = s.tkl := rfl
@[simp] theorem Device.draw_emb : (s.draw.2).emb = s.emb := rfl
@[simp] theorem Device.draw_srch : (s.draw.2).srch = s.srch := rfl
@[simp] theorem Device.draw_media : (s.draw.2).media = s.media := rfl
@[simp] theorem Device.draw_ftl : (s.draw.2).ftl = s.ftl := rfl
@[simp] theorem Device.draw_pwr : (s.draw.2).pwr = s.pwr := rfl
@[simp] theorem Device.draw_sled : (s.draw.2).sled = s.sled := rfl
@[simp] theorem Device.draw_avl : (s.draw.2).avl = s.avl := rfl
@[simp] theorem Device.draw_sec : (s.draw.2).sec = s.sec := rfl

/-! ## `emit` changes `out`. -/

@[simp] theorem Device.emit_free (o : Output) : (s.emit o).free = s.free := rfl
@[simp] theorem Device.emit_clocks (o : Output) : (s.emit o).clocks = s.clocks := rfl
@[simp] theorem Device.emit_regs (o : Output) : (s.emit o).regs = s.regs := rfl
@[simp] theorem Device.emit_counted (o : Output) : (s.emit o).counted = s.counted := rfl
@[simp] theorem Device.emit_log (o : Output) : (s.emit o).log = s.log := rfl
@[simp] theorem Device.emit_logNext (o : Output) : (s.emit o).logNext = s.logNext := rfl
@[simp] theorem Device.emit_net (o : Output) : (s.emit o).net = s.net := rfl
@[simp] theorem Device.emit_hif (o : Output) : (s.emit o).hif = s.hif := rfl
@[simp] theorem Device.emit_cmds (o : Output) : (s.emit o).cmds = s.cmds := rfl
@[simp] theorem Device.emit_fab (o : Output) : (s.emit o).fab = s.fab := rfl
@[simp] theorem Device.emit_engines (o : Output) : (s.emit o).engines = s.engines := rfl
@[simp] theorem Device.emit_cores (o : Output) : (s.emit o).cores = s.cores := rfl
@[simp] theorem Device.emit_holds (o : Output) : (s.emit o).holds = s.holds := rfl
@[simp] theorem Device.emit_mem (o : Output) : (s.emit o).mem = s.mem := rfl
@[simp] theorem Device.emit_faults (o : Output) : (s.emit o).faults = s.faults := rfl
@[simp] theorem Device.emit_tier (o : Output) : (s.emit o).tier = s.tier := rfl
@[simp] theorem Device.emit_nss (o : Output) : (s.emit o).nss = s.nss := rfl
@[simp] theorem Device.emit_work (o : Output) : (s.emit o).work = s.work := rfl
@[simp] theorem Device.emit_tkl (o : Output) : (s.emit o).tkl = s.tkl := rfl
@[simp] theorem Device.emit_emb (o : Output) : (s.emit o).emb = s.emb := rfl
@[simp] theorem Device.emit_srch (o : Output) : (s.emit o).srch = s.srch := rfl
@[simp] theorem Device.emit_media (o : Output) : (s.emit o).media = s.media := rfl
@[simp] theorem Device.emit_ftl (o : Output) : (s.emit o).ftl = s.ftl := rfl
@[simp] theorem Device.emit_pwr (o : Output) : (s.emit o).pwr = s.pwr := rfl
@[simp] theorem Device.emit_sled (o : Output) : (s.emit o).sled = s.sled := rfl
@[simp] theorem Device.emit_avl (o : Output) : (s.emit o).avl = s.avl := rfl
@[simp] theorem Device.emit_sec (o : Output) : (s.emit o).sec = s.sec := rfl

/-! ## `send` changes `net` and `fab`. -/

@[simp] theorem Device.send_free (p : Packet) : (s.send p).free = s.free := rfl
@[simp] theorem Device.send_clocks (p : Packet) : (s.send p).clocks = s.clocks := rfl
@[simp] theorem Device.send_regs (p : Packet) : (s.send p).regs = s.regs := rfl
@[simp] theorem Device.send_counted (p : Packet) : (s.send p).counted = s.counted := rfl
@[simp] theorem Device.send_log (p : Packet) : (s.send p).log = s.log := rfl
@[simp] theorem Device.send_logNext (p : Packet) : (s.send p).logNext = s.logNext := rfl
@[simp] theorem Device.send_out (p : Packet) : (s.send p).out = s.out := rfl
@[simp] theorem Device.send_hif (p : Packet) : (s.send p).hif = s.hif := rfl
@[simp] theorem Device.send_cmds (p : Packet) : (s.send p).cmds = s.cmds := rfl
@[simp] theorem Device.send_engines (p : Packet) : (s.send p).engines = s.engines := rfl
@[simp] theorem Device.send_cores (p : Packet) : (s.send p).cores = s.cores := rfl
@[simp] theorem Device.send_holds (p : Packet) : (s.send p).holds = s.holds := rfl
@[simp] theorem Device.send_mem (p : Packet) : (s.send p).mem = s.mem := rfl
@[simp] theorem Device.send_faults (p : Packet) : (s.send p).faults = s.faults := rfl
@[simp] theorem Device.send_tier (p : Packet) : (s.send p).tier = s.tier := rfl
@[simp] theorem Device.send_nss (p : Packet) : (s.send p).nss = s.nss := rfl
@[simp] theorem Device.send_work (p : Packet) : (s.send p).work = s.work := rfl
@[simp] theorem Device.send_tkl (p : Packet) : (s.send p).tkl = s.tkl := rfl
@[simp] theorem Device.send_emb (p : Packet) : (s.send p).emb = s.emb := rfl
@[simp] theorem Device.send_srch (p : Packet) : (s.send p).srch = s.srch := rfl
@[simp] theorem Device.send_media (p : Packet) : (s.send p).media = s.media := rfl
@[simp] theorem Device.send_ftl (p : Packet) : (s.send p).ftl = s.ftl := rfl
@[simp] theorem Device.send_pwr (p : Packet) : (s.send p).pwr = s.pwr := rfl
@[simp] theorem Device.send_sled (p : Packet) : (s.send p).sled = s.sled := rfl
@[simp] theorem Device.send_avl (p : Packet) : (s.send p).avl = s.avl := rfl
@[simp] theorem Device.send_sec (p : Packet) : (s.send p).sec = s.sec := rfl

/-! ## `receive` changes `net` and `fab`. -/

@[simp] theorem Device.receive_free (p : Packet) : (s.receive p).free = s.free := rfl
@[simp] theorem Device.receive_clocks (p : Packet) : (s.receive p).clocks = s.clocks := rfl
@[simp] theorem Device.receive_regs (p : Packet) : (s.receive p).regs = s.regs := rfl
@[simp] theorem Device.receive_counted (p : Packet) : (s.receive p).counted = s.counted := rfl
@[simp] theorem Device.receive_log (p : Packet) : (s.receive p).log = s.log := rfl
@[simp] theorem Device.receive_logNext (p : Packet) : (s.receive p).logNext = s.logNext := rfl
@[simp] theorem Device.receive_out (p : Packet) : (s.receive p).out = s.out := rfl
@[simp] theorem Device.receive_hif (p : Packet) : (s.receive p).hif = s.hif := rfl
@[simp] theorem Device.receive_cmds (p : Packet) : (s.receive p).cmds = s.cmds := rfl
@[simp] theorem Device.receive_engines (p : Packet) : (s.receive p).engines = s.engines := rfl
@[simp] theorem Device.receive_cores (p : Packet) : (s.receive p).cores = s.cores := rfl
@[simp] theorem Device.receive_holds (p : Packet) : (s.receive p).holds = s.holds := rfl
@[simp] theorem Device.receive_mem (p : Packet) : (s.receive p).mem = s.mem := rfl
@[simp] theorem Device.receive_faults (p : Packet) : (s.receive p).faults = s.faults := rfl
@[simp] theorem Device.receive_tier (p : Packet) : (s.receive p).tier = s.tier := rfl
@[simp] theorem Device.receive_nss (p : Packet) : (s.receive p).nss = s.nss := rfl
@[simp] theorem Device.receive_work (p : Packet) : (s.receive p).work = s.work := rfl
@[simp] theorem Device.receive_tkl (p : Packet) : (s.receive p).tkl = s.tkl := rfl
@[simp] theorem Device.receive_emb (p : Packet) : (s.receive p).emb = s.emb := rfl
@[simp] theorem Device.receive_srch (p : Packet) : (s.receive p).srch = s.srch := rfl
@[simp] theorem Device.receive_media (p : Packet) : (s.receive p).media = s.media := rfl
@[simp] theorem Device.receive_ftl (p : Packet) : (s.receive p).ftl = s.ftl := rfl
@[simp] theorem Device.receive_pwr (p : Packet) : (s.receive p).pwr = s.pwr := rfl
@[simp] theorem Device.receive_sled (p : Packet) : (s.receive p).sled = s.sled := rfl
@[simp] theorem Device.receive_avl (p : Packet) : (s.receive p).avl = s.avl := rfl
@[simp] theorem Device.receive_sec (p : Packet) : (s.receive p).sec = s.sec := rfl

/-! ## `setClock` changes `clocks`. -/

@[simp] theorem Device.setClock_free (i : Nat) (c : MastClock) : (s.setClock i c).free = s.free := rfl
@[simp] theorem Device.setClock_regs (i : Nat) (c : MastClock) : (s.setClock i c).regs = s.regs := rfl
@[simp] theorem Device.setClock_counted (i : Nat) (c : MastClock) : (s.setClock i c).counted = s.counted := rfl
@[simp] theorem Device.setClock_log (i : Nat) (c : MastClock) : (s.setClock i c).log = s.log := rfl
@[simp] theorem Device.setClock_logNext (i : Nat) (c : MastClock) : (s.setClock i c).logNext = s.logNext := rfl
@[simp] theorem Device.setClock_net (i : Nat) (c : MastClock) : (s.setClock i c).net = s.net := rfl
@[simp] theorem Device.setClock_out (i : Nat) (c : MastClock) : (s.setClock i c).out = s.out := rfl
@[simp] theorem Device.setClock_hif (i : Nat) (c : MastClock) : (s.setClock i c).hif = s.hif := rfl
@[simp] theorem Device.setClock_cmds (i : Nat) (c : MastClock) : (s.setClock i c).cmds = s.cmds := rfl
@[simp] theorem Device.setClock_fab (i : Nat) (c : MastClock) : (s.setClock i c).fab = s.fab := rfl
@[simp] theorem Device.setClock_engines (i : Nat) (c : MastClock) : (s.setClock i c).engines = s.engines := rfl
@[simp] theorem Device.setClock_cores (i : Nat) (c : MastClock) : (s.setClock i c).cores = s.cores := rfl
@[simp] theorem Device.setClock_holds (i : Nat) (c : MastClock) : (s.setClock i c).holds = s.holds := rfl
@[simp] theorem Device.setClock_mem (i : Nat) (c : MastClock) : (s.setClock i c).mem = s.mem := rfl
@[simp] theorem Device.setClock_faults (i : Nat) (c : MastClock) : (s.setClock i c).faults = s.faults := rfl
@[simp] theorem Device.setClock_tier (i : Nat) (c : MastClock) : (s.setClock i c).tier = s.tier := rfl
@[simp] theorem Device.setClock_nss (i : Nat) (c : MastClock) : (s.setClock i c).nss = s.nss := rfl
@[simp] theorem Device.setClock_work (i : Nat) (c : MastClock) : (s.setClock i c).work = s.work := rfl
@[simp] theorem Device.setClock_tkl (i : Nat) (c : MastClock) : (s.setClock i c).tkl = s.tkl := rfl
@[simp] theorem Device.setClock_emb (i : Nat) (c : MastClock) : (s.setClock i c).emb = s.emb := rfl
@[simp] theorem Device.setClock_srch (i : Nat) (c : MastClock) : (s.setClock i c).srch = s.srch := rfl
@[simp] theorem Device.setClock_media (i : Nat) (c : MastClock) : (s.setClock i c).media = s.media := rfl
@[simp] theorem Device.setClock_ftl (i : Nat) (c : MastClock) : (s.setClock i c).ftl = s.ftl := rfl
@[simp] theorem Device.setClock_pwr (i : Nat) (c : MastClock) : (s.setClock i c).pwr = s.pwr := rfl
@[simp] theorem Device.setClock_sled (i : Nat) (c : MastClock) : (s.setClock i c).sled = s.sled := rfl
@[simp] theorem Device.setClock_avl (i : Nat) (c : MastClock) : (s.setClock i c).avl = s.avl := rfl
@[simp] theorem Device.setClock_sec (i : Nat) (c : MastClock) : (s.setClock i c).sec = s.sec := rfl

/-! ## `setLd` changes `hif`. -/

@[simp] theorem Device.setLd_free (i : Nat) (l : LdState) : (s.setLd i l).free = s.free := rfl
@[simp] theorem Device.setLd_clocks (i : Nat) (l : LdState) : (s.setLd i l).clocks = s.clocks := rfl
@[simp] theorem Device.setLd_regs (i : Nat) (l : LdState) : (s.setLd i l).regs = s.regs := rfl
@[simp] theorem Device.setLd_counted (i : Nat) (l : LdState) : (s.setLd i l).counted = s.counted := rfl
@[simp] theorem Device.setLd_log (i : Nat) (l : LdState) : (s.setLd i l).log = s.log := rfl
@[simp] theorem Device.setLd_logNext (i : Nat) (l : LdState) : (s.setLd i l).logNext = s.logNext := rfl
@[simp] theorem Device.setLd_net (i : Nat) (l : LdState) : (s.setLd i l).net = s.net := rfl
@[simp] theorem Device.setLd_out (i : Nat) (l : LdState) : (s.setLd i l).out = s.out := rfl
@[simp] theorem Device.setLd_cmds (i : Nat) (l : LdState) : (s.setLd i l).cmds = s.cmds := rfl
@[simp] theorem Device.setLd_fab (i : Nat) (l : LdState) : (s.setLd i l).fab = s.fab := rfl
@[simp] theorem Device.setLd_engines (i : Nat) (l : LdState) : (s.setLd i l).engines = s.engines := rfl
@[simp] theorem Device.setLd_cores (i : Nat) (l : LdState) : (s.setLd i l).cores = s.cores := rfl
@[simp] theorem Device.setLd_holds (i : Nat) (l : LdState) : (s.setLd i l).holds = s.holds := rfl
@[simp] theorem Device.setLd_mem (i : Nat) (l : LdState) : (s.setLd i l).mem = s.mem := rfl
@[simp] theorem Device.setLd_faults (i : Nat) (l : LdState) : (s.setLd i l).faults = s.faults := rfl
@[simp] theorem Device.setLd_tier (i : Nat) (l : LdState) : (s.setLd i l).tier = s.tier := rfl
@[simp] theorem Device.setLd_nss (i : Nat) (l : LdState) : (s.setLd i l).nss = s.nss := rfl
@[simp] theorem Device.setLd_work (i : Nat) (l : LdState) : (s.setLd i l).work = s.work := rfl
@[simp] theorem Device.setLd_tkl (i : Nat) (l : LdState) : (s.setLd i l).tkl = s.tkl := rfl
@[simp] theorem Device.setLd_emb (i : Nat) (l : LdState) : (s.setLd i l).emb = s.emb := rfl
@[simp] theorem Device.setLd_srch (i : Nat) (l : LdState) : (s.setLd i l).srch = s.srch := rfl
@[simp] theorem Device.setLd_media (i : Nat) (l : LdState) : (s.setLd i l).media = s.media := rfl
@[simp] theorem Device.setLd_ftl (i : Nat) (l : LdState) : (s.setLd i l).ftl = s.ftl := rfl
@[simp] theorem Device.setLd_pwr (i : Nat) (l : LdState) : (s.setLd i l).pwr = s.pwr := rfl
@[simp] theorem Device.setLd_sled (i : Nat) (l : LdState) : (s.setLd i l).sled = s.sled := rfl
@[simp] theorem Device.setLd_avl (i : Nat) (l : LdState) : (s.setLd i l).avl = s.avl := rfl
@[simp] theorem Device.setLd_sec (i : Nat) (l : LdState) : (s.setLd i l).sec = s.sec := rfl

/-! ## `setMb` changes `hif`. -/

@[simp] theorem Device.setMb_free (i k : Nat) (m : Mailbox) : (s.setMb i k m).free = s.free := rfl
@[simp] theorem Device.setMb_clocks (i k : Nat) (m : Mailbox) : (s.setMb i k m).clocks = s.clocks := rfl
@[simp] theorem Device.setMb_regs (i k : Nat) (m : Mailbox) : (s.setMb i k m).regs = s.regs := rfl
@[simp] theorem Device.setMb_counted (i k : Nat) (m : Mailbox) : (s.setMb i k m).counted = s.counted := rfl
@[simp] theorem Device.setMb_log (i k : Nat) (m : Mailbox) : (s.setMb i k m).log = s.log := rfl
@[simp] theorem Device.setMb_logNext (i k : Nat) (m : Mailbox) : (s.setMb i k m).logNext = s.logNext := rfl
@[simp] theorem Device.setMb_net (i k : Nat) (m : Mailbox) : (s.setMb i k m).net = s.net := rfl
@[simp] theorem Device.setMb_out (i k : Nat) (m : Mailbox) : (s.setMb i k m).out = s.out := rfl
@[simp] theorem Device.setMb_cmds (i k : Nat) (m : Mailbox) : (s.setMb i k m).cmds = s.cmds := rfl
@[simp] theorem Device.setMb_fab (i k : Nat) (m : Mailbox) : (s.setMb i k m).fab = s.fab := rfl
@[simp] theorem Device.setMb_engines (i k : Nat) (m : Mailbox) : (s.setMb i k m).engines = s.engines := rfl
@[simp] theorem Device.setMb_cores (i k : Nat) (m : Mailbox) : (s.setMb i k m).cores = s.cores := rfl
@[simp] theorem Device.setMb_holds (i k : Nat) (m : Mailbox) : (s.setMb i k m).holds = s.holds := rfl
@[simp] theorem Device.setMb_mem (i k : Nat) (m : Mailbox) : (s.setMb i k m).mem = s.mem := rfl
@[simp] theorem Device.setMb_faults (i k : Nat) (m : Mailbox) : (s.setMb i k m).faults = s.faults := rfl
@[simp] theorem Device.setMb_tier (i k : Nat) (m : Mailbox) : (s.setMb i k m).tier = s.tier := rfl
@[simp] theorem Device.setMb_nss (i k : Nat) (m : Mailbox) : (s.setMb i k m).nss = s.nss := rfl
@[simp] theorem Device.setMb_work (i k : Nat) (m : Mailbox) : (s.setMb i k m).work = s.work := rfl
@[simp] theorem Device.setMb_tkl (i k : Nat) (m : Mailbox) : (s.setMb i k m).tkl = s.tkl := rfl
@[simp] theorem Device.setMb_emb (i k : Nat) (m : Mailbox) : (s.setMb i k m).emb = s.emb := rfl
@[simp] theorem Device.setMb_srch (i k : Nat) (m : Mailbox) : (s.setMb i k m).srch = s.srch := rfl
@[simp] theorem Device.setMb_media (i k : Nat) (m : Mailbox) : (s.setMb i k m).media = s.media := rfl
@[simp] theorem Device.setMb_ftl (i k : Nat) (m : Mailbox) : (s.setMb i k m).ftl = s.ftl := rfl
@[simp] theorem Device.setMb_pwr (i k : Nat) (m : Mailbox) : (s.setMb i k m).pwr = s.pwr := rfl
@[simp] theorem Device.setMb_sled (i k : Nat) (m : Mailbox) : (s.setMb i k m).sled = s.sled := rfl
@[simp] theorem Device.setMb_avl (i k : Nat) (m : Mailbox) : (s.setMb i k m).avl = s.avl := rfl
@[simp] theorem Device.setMb_sec (i k : Nat) (m : Mailbox) : (s.setMb i k m).sec = s.sec := rfl

/-! ## `setCmd` changes `cmds`. -/

@[simp] theorem Device.setCmd_free (p : Pending) : (s.setCmd p).free = s.free := rfl
@[simp] theorem Device.setCmd_clocks (p : Pending) : (s.setCmd p).clocks = s.clocks := rfl
@[simp] theorem Device.setCmd_regs (p : Pending) : (s.setCmd p).regs = s.regs := rfl
@[simp] theorem Device.setCmd_counted (p : Pending) : (s.setCmd p).counted = s.counted := rfl
@[simp] theorem Device.setCmd_log (p : Pending) : (s.setCmd p).log = s.log := rfl
@[simp] theorem Device.setCmd_logNext (p : Pending) : (s.setCmd p).logNext = s.logNext := rfl
@[simp] theorem Device.setCmd_net (p : Pending) : (s.setCmd p).net = s.net := rfl
@[simp] theorem Device.setCmd_out (p : Pending) : (s.setCmd p).out = s.out := rfl
@[simp] theorem Device.setCmd_hif (p : Pending) : (s.setCmd p).hif = s.hif := rfl
@[simp] theorem Device.setCmd_fab (p : Pending) : (s.setCmd p).fab = s.fab := rfl
@[simp] theorem Device.setCmd_engines (p : Pending) : (s.setCmd p).engines = s.engines := rfl
@[simp] theorem Device.setCmd_cores (p : Pending) : (s.setCmd p).cores = s.cores := rfl
@[simp] theorem Device.setCmd_holds (p : Pending) : (s.setCmd p).holds = s.holds := rfl
@[simp] theorem Device.setCmd_mem (p : Pending) : (s.setCmd p).mem = s.mem := rfl
@[simp] theorem Device.setCmd_faults (p : Pending) : (s.setCmd p).faults = s.faults := rfl
@[simp] theorem Device.setCmd_tier (p : Pending) : (s.setCmd p).tier = s.tier := rfl
@[simp] theorem Device.setCmd_nss (p : Pending) : (s.setCmd p).nss = s.nss := rfl
@[simp] theorem Device.setCmd_work (p : Pending) : (s.setCmd p).work = s.work := rfl
@[simp] theorem Device.setCmd_tkl (p : Pending) : (s.setCmd p).tkl = s.tkl := rfl
@[simp] theorem Device.setCmd_emb (p : Pending) : (s.setCmd p).emb = s.emb := rfl
@[simp] theorem Device.setCmd_srch (p : Pending) : (s.setCmd p).srch = s.srch := rfl
@[simp] theorem Device.setCmd_media (p : Pending) : (s.setCmd p).media = s.media := rfl
@[simp] theorem Device.setCmd_ftl (p : Pending) : (s.setCmd p).ftl = s.ftl := rfl
@[simp] theorem Device.setCmd_pwr (p : Pending) : (s.setCmd p).pwr = s.pwr := rfl
@[simp] theorem Device.setCmd_sled (p : Pending) : (s.setCmd p).sled = s.sled := rfl
@[simp] theorem Device.setCmd_avl (p : Pending) : (s.setCmd p).avl = s.avl := rfl
@[simp] theorem Device.setCmd_sec (p : Pending) : (s.setCmd p).sec = s.sec := rfl

/-! ## `setCore` changes `cores`. -/

@[simp] theorem Device.setCore_free (c : Nat) (k : Core) : (s.setCore c k).free = s.free := rfl
@[simp] theorem Device.setCore_clocks (c : Nat) (k : Core) : (s.setCore c k).clocks = s.clocks := rfl
@[simp] theorem Device.setCore_regs (c : Nat) (k : Core) : (s.setCore c k).regs = s.regs := rfl
@[simp] theorem Device.setCore_counted (c : Nat) (k : Core) : (s.setCore c k).counted = s.counted := rfl
@[simp] theorem Device.setCore_log (c : Nat) (k : Core) : (s.setCore c k).log = s.log := rfl
@[simp] theorem Device.setCore_logNext (c : Nat) (k : Core) : (s.setCore c k).logNext = s.logNext := rfl
@[simp] theorem Device.setCore_net (c : Nat) (k : Core) : (s.setCore c k).net = s.net := rfl
@[simp] theorem Device.setCore_out (c : Nat) (k : Core) : (s.setCore c k).out = s.out := rfl
@[simp] theorem Device.setCore_hif (c : Nat) (k : Core) : (s.setCore c k).hif = s.hif := rfl
@[simp] theorem Device.setCore_cmds (c : Nat) (k : Core) : (s.setCore c k).cmds = s.cmds := rfl
@[simp] theorem Device.setCore_fab (c : Nat) (k : Core) : (s.setCore c k).fab = s.fab := rfl
@[simp] theorem Device.setCore_engines (c : Nat) (k : Core) : (s.setCore c k).engines = s.engines := rfl
@[simp] theorem Device.setCore_holds (c : Nat) (k : Core) : (s.setCore c k).holds = s.holds := rfl
@[simp] theorem Device.setCore_mem (c : Nat) (k : Core) : (s.setCore c k).mem = s.mem := rfl
@[simp] theorem Device.setCore_faults (c : Nat) (k : Core) : (s.setCore c k).faults = s.faults := rfl
@[simp] theorem Device.setCore_tier (c : Nat) (k : Core) : (s.setCore c k).tier = s.tier := rfl
@[simp] theorem Device.setCore_nss (c : Nat) (k : Core) : (s.setCore c k).nss = s.nss := rfl
@[simp] theorem Device.setCore_work (c : Nat) (k : Core) : (s.setCore c k).work = s.work := rfl
@[simp] theorem Device.setCore_tkl (c : Nat) (k : Core) : (s.setCore c k).tkl = s.tkl := rfl
@[simp] theorem Device.setCore_emb (c : Nat) (k : Core) : (s.setCore c k).emb = s.emb := rfl
@[simp] theorem Device.setCore_srch (c : Nat) (k : Core) : (s.setCore c k).srch = s.srch := rfl
@[simp] theorem Device.setCore_media (c : Nat) (k : Core) : (s.setCore c k).media = s.media := rfl
@[simp] theorem Device.setCore_ftl (c : Nat) (k : Core) : (s.setCore c k).ftl = s.ftl := rfl
@[simp] theorem Device.setCore_pwr (c : Nat) (k : Core) : (s.setCore c k).pwr = s.pwr := rfl
@[simp] theorem Device.setCore_sled (c : Nat) (k : Core) : (s.setCore c k).sled = s.sled := rfl
@[simp] theorem Device.setCore_avl (c : Nat) (k : Core) : (s.setCore c k).avl = s.avl := rfl
@[simp] theorem Device.setCore_sec (c : Nat) (k : Core) : (s.setCore c k).sec = s.sec := rfl

/-! ## `setEngine` changes `engines`. -/

@[simp] theorem Device.setEngine_free (e : Nat) (g : Engine) : (s.setEngine e g).free = s.free := rfl
@[simp] theorem Device.setEngine_clocks (e : Nat) (g : Engine) : (s.setEngine e g).clocks = s.clocks := rfl
@[simp] theorem Device.setEngine_regs (e : Nat) (g : Engine) : (s.setEngine e g).regs = s.regs := rfl
@[simp] theorem Device.setEngine_counted (e : Nat) (g : Engine) : (s.setEngine e g).counted = s.counted := rfl
@[simp] theorem Device.setEngine_log (e : Nat) (g : Engine) : (s.setEngine e g).log = s.log := rfl
@[simp] theorem Device.setEngine_logNext (e : Nat) (g : Engine) : (s.setEngine e g).logNext = s.logNext := rfl
@[simp] theorem Device.setEngine_net (e : Nat) (g : Engine) : (s.setEngine e g).net = s.net := rfl
@[simp] theorem Device.setEngine_out (e : Nat) (g : Engine) : (s.setEngine e g).out = s.out := rfl
@[simp] theorem Device.setEngine_hif (e : Nat) (g : Engine) : (s.setEngine e g).hif = s.hif := rfl
@[simp] theorem Device.setEngine_cmds (e : Nat) (g : Engine) : (s.setEngine e g).cmds = s.cmds := rfl
@[simp] theorem Device.setEngine_fab (e : Nat) (g : Engine) : (s.setEngine e g).fab = s.fab := rfl
@[simp] theorem Device.setEngine_cores (e : Nat) (g : Engine) : (s.setEngine e g).cores = s.cores := rfl
@[simp] theorem Device.setEngine_holds (e : Nat) (g : Engine) : (s.setEngine e g).holds = s.holds := rfl
@[simp] theorem Device.setEngine_mem (e : Nat) (g : Engine) : (s.setEngine e g).mem = s.mem := rfl
@[simp] theorem Device.setEngine_faults (e : Nat) (g : Engine) : (s.setEngine e g).faults = s.faults := rfl
@[simp] theorem Device.setEngine_tier (e : Nat) (g : Engine) : (s.setEngine e g).tier = s.tier := rfl
@[simp] theorem Device.setEngine_nss (e : Nat) (g : Engine) : (s.setEngine e g).nss = s.nss := rfl
@[simp] theorem Device.setEngine_work (e : Nat) (g : Engine) : (s.setEngine e g).work = s.work := rfl
@[simp] theorem Device.setEngine_tkl (e : Nat) (g : Engine) : (s.setEngine e g).tkl = s.tkl := rfl
@[simp] theorem Device.setEngine_emb (e : Nat) (g : Engine) : (s.setEngine e g).emb = s.emb := rfl
@[simp] theorem Device.setEngine_srch (e : Nat) (g : Engine) : (s.setEngine e g).srch = s.srch := rfl
@[simp] theorem Device.setEngine_media (e : Nat) (g : Engine) : (s.setEngine e g).media = s.media := rfl
@[simp] theorem Device.setEngine_ftl (e : Nat) (g : Engine) : (s.setEngine e g).ftl = s.ftl := rfl
@[simp] theorem Device.setEngine_pwr (e : Nat) (g : Engine) : (s.setEngine e g).pwr = s.pwr := rfl
@[simp] theorem Device.setEngine_sled (e : Nat) (g : Engine) : (s.setEngine e g).sled = s.sled := rfl
@[simp] theorem Device.setEngine_avl (e : Nat) (g : Engine) : (s.setEngine e g).avl = s.avl := rfl
@[simp] theorem Device.setEngine_sec (e : Nat) (g : Engine) : (s.setEngine e g).sec = s.sec := rfl

/-! ## `setRoute` changes `fab`. -/

@[simp] theorem Device.setRoute_free (d e v : Nat) : (s.setRoute d e v).free = s.free := rfl
@[simp] theorem Device.setRoute_clocks (d e v : Nat) : (s.setRoute d e v).clocks = s.clocks := rfl
@[simp] theorem Device.setRoute_regs (d e v : Nat) : (s.setRoute d e v).regs = s.regs := rfl
@[simp] theorem Device.setRoute_counted (d e v : Nat) : (s.setRoute d e v).counted = s.counted := rfl
@[simp] theorem Device.setRoute_log (d e v : Nat) : (s.setRoute d e v).log = s.log := rfl
@[simp] theorem Device.setRoute_logNext (d e v : Nat) : (s.setRoute d e v).logNext = s.logNext := rfl
@[simp] theorem Device.setRoute_net (d e v : Nat) : (s.setRoute d e v).net = s.net := rfl
@[simp] theorem Device.setRoute_out (d e v : Nat) : (s.setRoute d e v).out = s.out := rfl
@[simp] theorem Device.setRoute_hif (d e v : Nat) : (s.setRoute d e v).hif = s.hif := rfl
@[simp] theorem Device.setRoute_cmds (d e v : Nat) : (s.setRoute d e v).cmds = s.cmds := rfl
@[simp] theorem Device.setRoute_engines (d e v : Nat) : (s.setRoute d e v).engines = s.engines := rfl
@[simp] theorem Device.setRoute_cores (d e v : Nat) : (s.setRoute d e v).cores = s.cores := rfl
@[simp] theorem Device.setRoute_holds (d e v : Nat) : (s.setRoute d e v).holds = s.holds := rfl
@[simp] theorem Device.setRoute_mem (d e v : Nat) : (s.setRoute d e v).mem = s.mem := rfl
@[simp] theorem Device.setRoute_faults (d e v : Nat) : (s.setRoute d e v).faults = s.faults := rfl
@[simp] theorem Device.setRoute_tier (d e v : Nat) : (s.setRoute d e v).tier = s.tier := rfl
@[simp] theorem Device.setRoute_nss (d e v : Nat) : (s.setRoute d e v).nss = s.nss := rfl
@[simp] theorem Device.setRoute_work (d e v : Nat) : (s.setRoute d e v).work = s.work := rfl
@[simp] theorem Device.setRoute_tkl (d e v : Nat) : (s.setRoute d e v).tkl = s.tkl := rfl
@[simp] theorem Device.setRoute_emb (d e v : Nat) : (s.setRoute d e v).emb = s.emb := rfl
@[simp] theorem Device.setRoute_srch (d e v : Nat) : (s.setRoute d e v).srch = s.srch := rfl
@[simp] theorem Device.setRoute_media (d e v : Nat) : (s.setRoute d e v).media = s.media := rfl
@[simp] theorem Device.setRoute_ftl (d e v : Nat) : (s.setRoute d e v).ftl = s.ftl := rfl
@[simp] theorem Device.setRoute_pwr (d e v : Nat) : (s.setRoute d e v).pwr = s.pwr := rfl
@[simp] theorem Device.setRoute_sled (d e v : Nat) : (s.setRoute d e v).sled = s.sled := rfl
@[simp] theorem Device.setRoute_avl (d e v : Nat) : (s.setRoute d e v).avl = s.avl := rfl
@[simp] theorem Device.setRoute_sec (d e v : Nat) : (s.setRoute d e v).sec = s.sec := rfl

/-! ## `setNs` changes `nss`. -/

@[simp] theorem Device.setNs_free (i : Nat) (x : Option Ns) : (s.setNs i x).free = s.free := rfl
@[simp] theorem Device.setNs_clocks (i : Nat) (x : Option Ns) : (s.setNs i x).clocks = s.clocks := rfl
@[simp] theorem Device.setNs_regs (i : Nat) (x : Option Ns) : (s.setNs i x).regs = s.regs := rfl
@[simp] theorem Device.setNs_counted (i : Nat) (x : Option Ns) : (s.setNs i x).counted = s.counted := rfl
@[simp] theorem Device.setNs_log (i : Nat) (x : Option Ns) : (s.setNs i x).log = s.log := rfl
@[simp] theorem Device.setNs_logNext (i : Nat) (x : Option Ns) : (s.setNs i x).logNext = s.logNext := rfl
@[simp] theorem Device.setNs_net (i : Nat) (x : Option Ns) : (s.setNs i x).net = s.net := rfl
@[simp] theorem Device.setNs_out (i : Nat) (x : Option Ns) : (s.setNs i x).out = s.out := rfl
@[simp] theorem Device.setNs_hif (i : Nat) (x : Option Ns) : (s.setNs i x).hif = s.hif := rfl
@[simp] theorem Device.setNs_cmds (i : Nat) (x : Option Ns) : (s.setNs i x).cmds = s.cmds := rfl
@[simp] theorem Device.setNs_fab (i : Nat) (x : Option Ns) : (s.setNs i x).fab = s.fab := rfl
@[simp] theorem Device.setNs_engines (i : Nat) (x : Option Ns) : (s.setNs i x).engines = s.engines := rfl
@[simp] theorem Device.setNs_cores (i : Nat) (x : Option Ns) : (s.setNs i x).cores = s.cores := rfl
@[simp] theorem Device.setNs_holds (i : Nat) (x : Option Ns) : (s.setNs i x).holds = s.holds := rfl
@[simp] theorem Device.setNs_mem (i : Nat) (x : Option Ns) : (s.setNs i x).mem = s.mem := rfl
@[simp] theorem Device.setNs_faults (i : Nat) (x : Option Ns) : (s.setNs i x).faults = s.faults := rfl
@[simp] theorem Device.setNs_tier (i : Nat) (x : Option Ns) : (s.setNs i x).tier = s.tier := rfl
@[simp] theorem Device.setNs_work (i : Nat) (x : Option Ns) : (s.setNs i x).work = s.work := rfl
@[simp] theorem Device.setNs_tkl (i : Nat) (x : Option Ns) : (s.setNs i x).tkl = s.tkl := rfl
@[simp] theorem Device.setNs_emb (i : Nat) (x : Option Ns) : (s.setNs i x).emb = s.emb := rfl
@[simp] theorem Device.setNs_srch (i : Nat) (x : Option Ns) : (s.setNs i x).srch = s.srch := rfl
@[simp] theorem Device.setNs_media (i : Nat) (x : Option Ns) : (s.setNs i x).media = s.media := rfl
@[simp] theorem Device.setNs_ftl (i : Nat) (x : Option Ns) : (s.setNs i x).ftl = s.ftl := rfl
@[simp] theorem Device.setNs_pwr (i : Nat) (x : Option Ns) : (s.setNs i x).pwr = s.pwr := rfl
@[simp] theorem Device.setNs_sled (i : Nat) (x : Option Ns) : (s.setNs i x).sled = s.sled := rfl
@[simp] theorem Device.setNs_avl (i : Nat) (x : Option Ns) : (s.setNs i x).avl = s.avl := rfl
@[simp] theorem Device.setNs_sec (i : Nat) (x : Option Ns) : (s.setNs i x).sec = s.sec := rfl

/-! ## `setJob` changes `work`. -/

@[simp] theorem Device.setJob_free (j : Nat) (x : Option Job) : (s.setJob j x).free = s.free := rfl
@[simp] theorem Device.setJob_clocks (j : Nat) (x : Option Job) : (s.setJob j x).clocks = s.clocks := rfl
@[simp] theorem Device.setJob_regs (j : Nat) (x : Option Job) : (s.setJob j x).regs = s.regs := rfl
@[simp] theorem Device.setJob_counted (j : Nat) (x : Option Job) : (s.setJob j x).counted = s.counted := rfl
@[simp] theorem Device.setJob_log (j : Nat) (x : Option Job) : (s.setJob j x).log = s.log := rfl
@[simp] theorem Device.setJob_logNext (j : Nat) (x : Option Job) : (s.setJob j x).logNext = s.logNext := rfl
@[simp] theorem Device.setJob_net (j : Nat) (x : Option Job) : (s.setJob j x).net = s.net := rfl
@[simp] theorem Device.setJob_out (j : Nat) (x : Option Job) : (s.setJob j x).out = s.out := rfl
@[simp] theorem Device.setJob_hif (j : Nat) (x : Option Job) : (s.setJob j x).hif = s.hif := rfl
@[simp] theorem Device.setJob_cmds (j : Nat) (x : Option Job) : (s.setJob j x).cmds = s.cmds := rfl
@[simp] theorem Device.setJob_fab (j : Nat) (x : Option Job) : (s.setJob j x).fab = s.fab := rfl
@[simp] theorem Device.setJob_engines (j : Nat) (x : Option Job) : (s.setJob j x).engines = s.engines := rfl
@[simp] theorem Device.setJob_cores (j : Nat) (x : Option Job) : (s.setJob j x).cores = s.cores := rfl
@[simp] theorem Device.setJob_holds (j : Nat) (x : Option Job) : (s.setJob j x).holds = s.holds := rfl
@[simp] theorem Device.setJob_mem (j : Nat) (x : Option Job) : (s.setJob j x).mem = s.mem := rfl
@[simp] theorem Device.setJob_faults (j : Nat) (x : Option Job) : (s.setJob j x).faults = s.faults := rfl
@[simp] theorem Device.setJob_tier (j : Nat) (x : Option Job) : (s.setJob j x).tier = s.tier := rfl
@[simp] theorem Device.setJob_nss (j : Nat) (x : Option Job) : (s.setJob j x).nss = s.nss := rfl
@[simp] theorem Device.setJob_tkl (j : Nat) (x : Option Job) : (s.setJob j x).tkl = s.tkl := rfl
@[simp] theorem Device.setJob_emb (j : Nat) (x : Option Job) : (s.setJob j x).emb = s.emb := rfl
@[simp] theorem Device.setJob_srch (j : Nat) (x : Option Job) : (s.setJob j x).srch = s.srch := rfl
@[simp] theorem Device.setJob_media (j : Nat) (x : Option Job) : (s.setJob j x).media = s.media := rfl
@[simp] theorem Device.setJob_ftl (j : Nat) (x : Option Job) : (s.setJob j x).ftl = s.ftl := rfl
@[simp] theorem Device.setJob_pwr (j : Nat) (x : Option Job) : (s.setJob j x).pwr = s.pwr := rfl
@[simp] theorem Device.setJob_sled (j : Nat) (x : Option Job) : (s.setJob j x).sled = s.sled := rfl
@[simp] theorem Device.setJob_avl (j : Nat) (x : Option Job) : (s.setJob j x).avl = s.avl := rfl
@[simp] theorem Device.setJob_sec (j : Nat) (x : Option Job) : (s.setJob j x).sec = s.sec := rfl

/-! ## `setTask` changes `work`. -/

@[simp] theorem Device.setTask_free (c : Nat) (t : Option Task) : (s.setTask c t).free = s.free := rfl
@[simp] theorem Device.setTask_clocks (c : Nat) (t : Option Task) : (s.setTask c t).clocks = s.clocks := rfl
@[simp] theorem Device.setTask_regs (c : Nat) (t : Option Task) : (s.setTask c t).regs = s.regs := rfl
@[simp] theorem Device.setTask_counted (c : Nat) (t : Option Task) : (s.setTask c t).counted = s.counted := rfl
@[simp] theorem Device.setTask_log (c : Nat) (t : Option Task) : (s.setTask c t).log = s.log := rfl
@[simp] theorem Device.setTask_logNext (c : Nat) (t : Option Task) : (s.setTask c t).logNext = s.logNext := rfl
@[simp] theorem Device.setTask_net (c : Nat) (t : Option Task) : (s.setTask c t).net = s.net := rfl
@[simp] theorem Device.setTask_out (c : Nat) (t : Option Task) : (s.setTask c t).out = s.out := rfl
@[simp] theorem Device.setTask_hif (c : Nat) (t : Option Task) : (s.setTask c t).hif = s.hif := rfl
@[simp] theorem Device.setTask_cmds (c : Nat) (t : Option Task) : (s.setTask c t).cmds = s.cmds := rfl
@[simp] theorem Device.setTask_fab (c : Nat) (t : Option Task) : (s.setTask c t).fab = s.fab := rfl
@[simp] theorem Device.setTask_engines (c : Nat) (t : Option Task) : (s.setTask c t).engines = s.engines := rfl
@[simp] theorem Device.setTask_cores (c : Nat) (t : Option Task) : (s.setTask c t).cores = s.cores := rfl
@[simp] theorem Device.setTask_holds (c : Nat) (t : Option Task) : (s.setTask c t).holds = s.holds := rfl
@[simp] theorem Device.setTask_mem (c : Nat) (t : Option Task) : (s.setTask c t).mem = s.mem := rfl
@[simp] theorem Device.setTask_faults (c : Nat) (t : Option Task) : (s.setTask c t).faults = s.faults := rfl
@[simp] theorem Device.setTask_tier (c : Nat) (t : Option Task) : (s.setTask c t).tier = s.tier := rfl
@[simp] theorem Device.setTask_nss (c : Nat) (t : Option Task) : (s.setTask c t).nss = s.nss := rfl
@[simp] theorem Device.setTask_tkl (c : Nat) (t : Option Task) : (s.setTask c t).tkl = s.tkl := rfl
@[simp] theorem Device.setTask_emb (c : Nat) (t : Option Task) : (s.setTask c t).emb = s.emb := rfl
@[simp] theorem Device.setTask_srch (c : Nat) (t : Option Task) : (s.setTask c t).srch = s.srch := rfl
@[simp] theorem Device.setTask_media (c : Nat) (t : Option Task) : (s.setTask c t).media = s.media := rfl
@[simp] theorem Device.setTask_ftl (c : Nat) (t : Option Task) : (s.setTask c t).ftl = s.ftl := rfl
@[simp] theorem Device.setTask_pwr (c : Nat) (t : Option Task) : (s.setTask c t).pwr = s.pwr := rfl
@[simp] theorem Device.setTask_sled (c : Nat) (t : Option Task) : (s.setTask c t).sled = s.sled := rfl
@[simp] theorem Device.setTask_avl (c : Nat) (t : Option Task) : (s.setTask c t).avl = s.avl := rfl
@[simp] theorem Device.setTask_sec (c : Nat) (t : Option Task) : (s.setTask c t).sec = s.sec := rfl

/-! ## `setFtl` changes `ftl`. -/

@[simp] theorem Device.setFtl_free (f : Ftl → Ftl) : (s.setFtl f).free = s.free := rfl
@[simp] theorem Device.setFtl_clocks (f : Ftl → Ftl) : (s.setFtl f).clocks = s.clocks := rfl
@[simp] theorem Device.setFtl_regs (f : Ftl → Ftl) : (s.setFtl f).regs = s.regs := rfl
@[simp] theorem Device.setFtl_counted (f : Ftl → Ftl) : (s.setFtl f).counted = s.counted := rfl
@[simp] theorem Device.setFtl_log (f : Ftl → Ftl) : (s.setFtl f).log = s.log := rfl
@[simp] theorem Device.setFtl_logNext (f : Ftl → Ftl) : (s.setFtl f).logNext = s.logNext := rfl
@[simp] theorem Device.setFtl_net (f : Ftl → Ftl) : (s.setFtl f).net = s.net := rfl
@[simp] theorem Device.setFtl_out (f : Ftl → Ftl) : (s.setFtl f).out = s.out := rfl
@[simp] theorem Device.setFtl_hif (f : Ftl → Ftl) : (s.setFtl f).hif = s.hif := rfl
@[simp] theorem Device.setFtl_cmds (f : Ftl → Ftl) : (s.setFtl f).cmds = s.cmds := rfl
@[simp] theorem Device.setFtl_fab (f : Ftl → Ftl) : (s.setFtl f).fab = s.fab := rfl
@[simp] theorem Device.setFtl_engines (f : Ftl → Ftl) : (s.setFtl f).engines = s.engines := rfl
@[simp] theorem Device.setFtl_cores (f : Ftl → Ftl) : (s.setFtl f).cores = s.cores := rfl
@[simp] theorem Device.setFtl_holds (f : Ftl → Ftl) : (s.setFtl f).holds = s.holds := rfl
@[simp] theorem Device.setFtl_mem (f : Ftl → Ftl) : (s.setFtl f).mem = s.mem := rfl
@[simp] theorem Device.setFtl_faults (f : Ftl → Ftl) : (s.setFtl f).faults = s.faults := rfl
@[simp] theorem Device.setFtl_tier (f : Ftl → Ftl) : (s.setFtl f).tier = s.tier := rfl
@[simp] theorem Device.setFtl_nss (f : Ftl → Ftl) : (s.setFtl f).nss = s.nss := rfl
@[simp] theorem Device.setFtl_work (f : Ftl → Ftl) : (s.setFtl f).work = s.work := rfl
@[simp] theorem Device.setFtl_tkl (f : Ftl → Ftl) : (s.setFtl f).tkl = s.tkl := rfl
@[simp] theorem Device.setFtl_emb (f : Ftl → Ftl) : (s.setFtl f).emb = s.emb := rfl
@[simp] theorem Device.setFtl_srch (f : Ftl → Ftl) : (s.setFtl f).srch = s.srch := rfl
@[simp] theorem Device.setFtl_media (f : Ftl → Ftl) : (s.setFtl f).media = s.media := rfl
@[simp] theorem Device.setFtl_pwr (f : Ftl → Ftl) : (s.setFtl f).pwr = s.pwr := rfl
@[simp] theorem Device.setFtl_sled (f : Ftl → Ftl) : (s.setFtl f).sled = s.sled := rfl
@[simp] theorem Device.setFtl_avl (f : Ftl → Ftl) : (s.setFtl f).avl = s.avl := rfl
@[simp] theorem Device.setFtl_sec (f : Ftl → Ftl) : (s.setFtl f).sec = s.sec := rfl

/-! ## `setPwr` changes `pwr`. -/

@[simp] theorem Device.setPwr_free (f : Power → Power) : (s.setPwr f).free = s.free := rfl
@[simp] theorem Device.setPwr_clocks (f : Power → Power) : (s.setPwr f).clocks = s.clocks := rfl
@[simp] theorem Device.setPwr_regs (f : Power → Power) : (s.setPwr f).regs = s.regs := rfl
@[simp] theorem Device.setPwr_counted (f : Power → Power) : (s.setPwr f).counted = s.counted := rfl
@[simp] theorem Device.setPwr_log (f : Power → Power) : (s.setPwr f).log = s.log := rfl
@[simp] theorem Device.setPwr_logNext (f : Power → Power) : (s.setPwr f).logNext = s.logNext := rfl
@[simp] theorem Device.setPwr_net (f : Power → Power) : (s.setPwr f).net = s.net := rfl
@[simp] theorem Device.setPwr_out (f : Power → Power) : (s.setPwr f).out = s.out := rfl
@[simp] theorem Device.setPwr_hif (f : Power → Power) : (s.setPwr f).hif = s.hif := rfl
@[simp] theorem Device.setPwr_cmds (f : Power → Power) : (s.setPwr f).cmds = s.cmds := rfl
@[simp] theorem Device.setPwr_fab (f : Power → Power) : (s.setPwr f).fab = s.fab := rfl
@[simp] theorem Device.setPwr_engines (f : Power → Power) : (s.setPwr f).engines = s.engines := rfl
@[simp] theorem Device.setPwr_cores (f : Power → Power) : (s.setPwr f).cores = s.cores := rfl
@[simp] theorem Device.setPwr_holds (f : Power → Power) : (s.setPwr f).holds = s.holds := rfl
@[simp] theorem Device.setPwr_mem (f : Power → Power) : (s.setPwr f).mem = s.mem := rfl
@[simp] theorem Device.setPwr_faults (f : Power → Power) : (s.setPwr f).faults = s.faults := rfl
@[simp] theorem Device.setPwr_tier (f : Power → Power) : (s.setPwr f).tier = s.tier := rfl
@[simp] theorem Device.setPwr_nss (f : Power → Power) : (s.setPwr f).nss = s.nss := rfl
@[simp] theorem Device.setPwr_work (f : Power → Power) : (s.setPwr f).work = s.work := rfl
@[simp] theorem Device.setPwr_tkl (f : Power → Power) : (s.setPwr f).tkl = s.tkl := rfl
@[simp] theorem Device.setPwr_emb (f : Power → Power) : (s.setPwr f).emb = s.emb := rfl
@[simp] theorem Device.setPwr_srch (f : Power → Power) : (s.setPwr f).srch = s.srch := rfl
@[simp] theorem Device.setPwr_media (f : Power → Power) : (s.setPwr f).media = s.media := rfl
@[simp] theorem Device.setPwr_ftl (f : Power → Power) : (s.setPwr f).ftl = s.ftl := rfl
@[simp] theorem Device.setPwr_sled (f : Power → Power) : (s.setPwr f).sled = s.sled := rfl
@[simp] theorem Device.setPwr_avl (f : Power → Power) : (s.setPwr f).avl = s.avl := rfl
@[simp] theorem Device.setPwr_sec (f : Power → Power) : (s.setPwr f).sec = s.sec := rfl

/-! ## `setSec` changes `sec`. -/

@[simp] theorem Device.setSec_free (f : Sec → Sec) : (s.setSec f).free = s.free := rfl
@[simp] theorem Device.setSec_clocks (f : Sec → Sec) : (s.setSec f).clocks = s.clocks := rfl
@[simp] theorem Device.setSec_regs (f : Sec → Sec) : (s.setSec f).regs = s.regs := rfl
@[simp] theorem Device.setSec_counted (f : Sec → Sec) : (s.setSec f).counted = s.counted := rfl
@[simp] theorem Device.setSec_log (f : Sec → Sec) : (s.setSec f).log = s.log := rfl
@[simp] theorem Device.setSec_logNext (f : Sec → Sec) : (s.setSec f).logNext = s.logNext := rfl
@[simp] theorem Device.setSec_net (f : Sec → Sec) : (s.setSec f).net = s.net := rfl
@[simp] theorem Device.setSec_out (f : Sec → Sec) : (s.setSec f).out = s.out := rfl
@[simp] theorem Device.setSec_hif (f : Sec → Sec) : (s.setSec f).hif = s.hif := rfl
@[simp] theorem Device.setSec_cmds (f : Sec → Sec) : (s.setSec f).cmds = s.cmds := rfl
@[simp] theorem Device.setSec_fab (f : Sec → Sec) : (s.setSec f).fab = s.fab := rfl
@[simp] theorem Device.setSec_engines (f : Sec → Sec) : (s.setSec f).engines = s.engines := rfl
@[simp] theorem Device.setSec_cores (f : Sec → Sec) : (s.setSec f).cores = s.cores := rfl
@[simp] theorem Device.setSec_holds (f : Sec → Sec) : (s.setSec f).holds = s.holds := rfl
@[simp] theorem Device.setSec_mem (f : Sec → Sec) : (s.setSec f).mem = s.mem := rfl
@[simp] theorem Device.setSec_faults (f : Sec → Sec) : (s.setSec f).faults = s.faults := rfl
@[simp] theorem Device.setSec_tier (f : Sec → Sec) : (s.setSec f).tier = s.tier := rfl
@[simp] theorem Device.setSec_nss (f : Sec → Sec) : (s.setSec f).nss = s.nss := rfl
@[simp] theorem Device.setSec_work (f : Sec → Sec) : (s.setSec f).work = s.work := rfl
@[simp] theorem Device.setSec_tkl (f : Sec → Sec) : (s.setSec f).tkl = s.tkl := rfl
@[simp] theorem Device.setSec_emb (f : Sec → Sec) : (s.setSec f).emb = s.emb := rfl
@[simp] theorem Device.setSec_srch (f : Sec → Sec) : (s.setSec f).srch = s.srch := rfl
@[simp] theorem Device.setSec_media (f : Sec → Sec) : (s.setSec f).media = s.media := rfl
@[simp] theorem Device.setSec_ftl (f : Sec → Sec) : (s.setSec f).ftl = s.ftl := rfl
@[simp] theorem Device.setSec_pwr (f : Sec → Sec) : (s.setSec f).pwr = s.pwr := rfl
@[simp] theorem Device.setSec_sled (f : Sec → Sec) : (s.setSec f).sled = s.sled := rfl
@[simp] theorem Device.setSec_avl (f : Sec → Sec) : (s.setSec f).avl = s.avl := rfl

/-! ## `markPoison` changes `mem`. -/

@[simp] theorem Device.markPoison_free (m i w : Nat) (b : Bool) : (s.markPoison m i w b).free = s.free := rfl
@[simp] theorem Device.markPoison_clocks (m i w : Nat) (b : Bool) : (s.markPoison m i w b).clocks = s.clocks := rfl
@[simp] theorem Device.markPoison_regs (m i w : Nat) (b : Bool) : (s.markPoison m i w b).regs = s.regs := rfl
@[simp] theorem Device.markPoison_counted (m i w : Nat) (b : Bool) : (s.markPoison m i w b).counted = s.counted := rfl
@[simp] theorem Device.markPoison_log (m i w : Nat) (b : Bool) : (s.markPoison m i w b).log = s.log := rfl
@[simp] theorem Device.markPoison_logNext (m i w : Nat) (b : Bool) : (s.markPoison m i w b).logNext = s.logNext := rfl
@[simp] theorem Device.markPoison_net (m i w : Nat) (b : Bool) : (s.markPoison m i w b).net = s.net := rfl
@[simp] theorem Device.markPoison_out (m i w : Nat) (b : Bool) : (s.markPoison m i w b).out = s.out := rfl
@[simp] theorem Device.markPoison_hif (m i w : Nat) (b : Bool) : (s.markPoison m i w b).hif = s.hif := rfl
@[simp] theorem Device.markPoison_cmds (m i w : Nat) (b : Bool) : (s.markPoison m i w b).cmds = s.cmds := rfl
@[simp] theorem Device.markPoison_fab (m i w : Nat) (b : Bool) : (s.markPoison m i w b).fab = s.fab := rfl
@[simp] theorem Device.markPoison_engines (m i w : Nat) (b : Bool) : (s.markPoison m i w b).engines = s.engines := rfl
@[simp] theorem Device.markPoison_cores (m i w : Nat) (b : Bool) : (s.markPoison m i w b).cores = s.cores := rfl
@[simp] theorem Device.markPoison_holds (m i w : Nat) (b : Bool) : (s.markPoison m i w b).holds = s.holds := rfl
@[simp] theorem Device.markPoison_faults (m i w : Nat) (b : Bool) : (s.markPoison m i w b).faults = s.faults := rfl
@[simp] theorem Device.markPoison_tier (m i w : Nat) (b : Bool) : (s.markPoison m i w b).tier = s.tier := rfl
@[simp] theorem Device.markPoison_nss (m i w : Nat) (b : Bool) : (s.markPoison m i w b).nss = s.nss := rfl
@[simp] theorem Device.markPoison_work (m i w : Nat) (b : Bool) : (s.markPoison m i w b).work = s.work := rfl
@[simp] theorem Device.markPoison_tkl (m i w : Nat) (b : Bool) : (s.markPoison m i w b).tkl = s.tkl := rfl
@[simp] theorem Device.markPoison_emb (m i w : Nat) (b : Bool) : (s.markPoison m i w b).emb = s.emb := rfl
@[simp] theorem Device.markPoison_srch (m i w : Nat) (b : Bool) : (s.markPoison m i w b).srch = s.srch := rfl
@[simp] theorem Device.markPoison_media (m i w : Nat) (b : Bool) : (s.markPoison m i w b).media = s.media := rfl
@[simp] theorem Device.markPoison_ftl (m i w : Nat) (b : Bool) : (s.markPoison m i w b).ftl = s.ftl := rfl
@[simp] theorem Device.markPoison_pwr (m i w : Nat) (b : Bool) : (s.markPoison m i w b).pwr = s.pwr := rfl
@[simp] theorem Device.markPoison_sled (m i w : Nat) (b : Bool) : (s.markPoison m i w b).sled = s.sled := rfl
@[simp] theorem Device.markPoison_avl (m i w : Nat) (b : Bool) : (s.markPoison m i w b).avl = s.avl := rfl
@[simp] theorem Device.markPoison_sec (m i w : Nat) (b : Bool) : (s.markPoison m i w b).sec = s.sec := rfl

/-! ## `putByte` changes `mem`. -/

@[simp] theorem Device.putByte_free (m i a : Nat) (b : Byte) : (s.putByte m i a b).free = s.free := rfl
@[simp] theorem Device.putByte_clocks (m i a : Nat) (b : Byte) : (s.putByte m i a b).clocks = s.clocks := rfl
@[simp] theorem Device.putByte_regs (m i a : Nat) (b : Byte) : (s.putByte m i a b).regs = s.regs := rfl
@[simp] theorem Device.putByte_counted (m i a : Nat) (b : Byte) : (s.putByte m i a b).counted = s.counted := rfl
@[simp] theorem Device.putByte_log (m i a : Nat) (b : Byte) : (s.putByte m i a b).log = s.log := rfl
@[simp] theorem Device.putByte_logNext (m i a : Nat) (b : Byte) : (s.putByte m i a b).logNext = s.logNext := rfl
@[simp] theorem Device.putByte_net (m i a : Nat) (b : Byte) : (s.putByte m i a b).net = s.net := rfl
@[simp] theorem Device.putByte_out (m i a : Nat) (b : Byte) : (s.putByte m i a b).out = s.out := rfl
@[simp] theorem Device.putByte_hif (m i a : Nat) (b : Byte) : (s.putByte m i a b).hif = s.hif := rfl
@[simp] theorem Device.putByte_cmds (m i a : Nat) (b : Byte) : (s.putByte m i a b).cmds = s.cmds := rfl
@[simp] theorem Device.putByte_fab (m i a : Nat) (b : Byte) : (s.putByte m i a b).fab = s.fab := rfl
@[simp] theorem Device.putByte_engines (m i a : Nat) (b : Byte) : (s.putByte m i a b).engines = s.engines := rfl
@[simp] theorem Device.putByte_cores (m i a : Nat) (b : Byte) : (s.putByte m i a b).cores = s.cores := rfl
@[simp] theorem Device.putByte_holds (m i a : Nat) (b : Byte) : (s.putByte m i a b).holds = s.holds := rfl
@[simp] theorem Device.putByte_faults (m i a : Nat) (b : Byte) : (s.putByte m i a b).faults = s.faults := rfl
@[simp] theorem Device.putByte_tier (m i a : Nat) (b : Byte) : (s.putByte m i a b).tier = s.tier := rfl
@[simp] theorem Device.putByte_nss (m i a : Nat) (b : Byte) : (s.putByte m i a b).nss = s.nss := rfl
@[simp] theorem Device.putByte_work (m i a : Nat) (b : Byte) : (s.putByte m i a b).work = s.work := rfl
@[simp] theorem Device.putByte_tkl (m i a : Nat) (b : Byte) : (s.putByte m i a b).tkl = s.tkl := rfl
@[simp] theorem Device.putByte_emb (m i a : Nat) (b : Byte) : (s.putByte m i a b).emb = s.emb := rfl
@[simp] theorem Device.putByte_srch (m i a : Nat) (b : Byte) : (s.putByte m i a b).srch = s.srch := rfl
@[simp] theorem Device.putByte_media (m i a : Nat) (b : Byte) : (s.putByte m i a b).media = s.media := rfl
@[simp] theorem Device.putByte_ftl (m i a : Nat) (b : Byte) : (s.putByte m i a b).ftl = s.ftl := rfl
@[simp] theorem Device.putByte_pwr (m i a : Nat) (b : Byte) : (s.putByte m i a b).pwr = s.pwr := rfl
@[simp] theorem Device.putByte_sled (m i a : Nat) (b : Byte) : (s.putByte m i a b).sled = s.sled := rfl
@[simp] theorem Device.putByte_avl (m i a : Nat) (b : Byte) : (s.putByte m i a b).avl = s.avl := rfl
@[simp] theorem Device.putByte_sec (m i a : Nat) (b : Byte) : (s.putByte m i a b).sec = s.sec := rfl

/-! ## `dropMerge` changes `mem`. -/

@[simp] theorem Device.dropMerge_free (m : Merge) : (s.dropMerge m).free = s.free := rfl
@[simp] theorem Device.dropMerge_clocks (m : Merge) : (s.dropMerge m).clocks = s.clocks := rfl
@[simp] theorem Device.dropMerge_regs (m : Merge) : (s.dropMerge m).regs = s.regs := rfl
@[simp] theorem Device.dropMerge_counted (m : Merge) : (s.dropMerge m).counted = s.counted := rfl
@[simp] theorem Device.dropMerge_log (m : Merge) : (s.dropMerge m).log = s.log := rfl
@[simp] theorem Device.dropMerge_logNext (m : Merge) : (s.dropMerge m).logNext = s.logNext := rfl
@[simp] theorem Device.dropMerge_net (m : Merge) : (s.dropMerge m).net = s.net := rfl
@[simp] theorem Device.dropMerge_out (m : Merge) : (s.dropMerge m).out = s.out := rfl
@[simp] theorem Device.dropMerge_hif (m : Merge) : (s.dropMerge m).hif = s.hif := rfl
@[simp] theorem Device.dropMerge_cmds (m : Merge) : (s.dropMerge m).cmds = s.cmds := rfl
@[simp] theorem Device.dropMerge_fab (m : Merge) : (s.dropMerge m).fab = s.fab := rfl
@[simp] theorem Device.dropMerge_engines (m : Merge) : (s.dropMerge m).engines = s.engines := rfl
@[simp] theorem Device.dropMerge_cores (m : Merge) : (s.dropMerge m).cores = s.cores := rfl
@[simp] theorem Device.dropMerge_holds (m : Merge) : (s.dropMerge m).holds = s.holds := rfl
@[simp] theorem Device.dropMerge_faults (m : Merge) : (s.dropMerge m).faults = s.faults := rfl
@[simp] theorem Device.dropMerge_tier (m : Merge) : (s.dropMerge m).tier = s.tier := rfl
@[simp] theorem Device.dropMerge_nss (m : Merge) : (s.dropMerge m).nss = s.nss := rfl
@[simp] theorem Device.dropMerge_work (m : Merge) : (s.dropMerge m).work = s.work := rfl
@[simp] theorem Device.dropMerge_tkl (m : Merge) : (s.dropMerge m).tkl = s.tkl := rfl
@[simp] theorem Device.dropMerge_emb (m : Merge) : (s.dropMerge m).emb = s.emb := rfl
@[simp] theorem Device.dropMerge_srch (m : Merge) : (s.dropMerge m).srch = s.srch := rfl
@[simp] theorem Device.dropMerge_media (m : Merge) : (s.dropMerge m).media = s.media := rfl
@[simp] theorem Device.dropMerge_ftl (m : Merge) : (s.dropMerge m).ftl = s.ftl := rfl
@[simp] theorem Device.dropMerge_pwr (m : Merge) : (s.dropMerge m).pwr = s.pwr := rfl
@[simp] theorem Device.dropMerge_sled (m : Merge) : (s.dropMerge m).sled = s.sled := rfl
@[simp] theorem Device.dropMerge_avl (m : Merge) : (s.dropMerge m).avl = s.avl := rfl
@[simp] theorem Device.dropMerge_sec (m : Merge) : (s.dropMerge m).sec = s.sec := rfl

/-! ## `clearMem` changes `mem`. -/

@[simp] theorem Device.clearMem_free (m i a n : Nat) : (s.clearMem m i a n).free = s.free := rfl
@[simp] theorem Device.clearMem_clocks (m i a n : Nat) : (s.clearMem m i a n).clocks = s.clocks := rfl
@[simp] theorem Device.clearMem_regs (m i a n : Nat) : (s.clearMem m i a n).regs = s.regs := rfl
@[simp] theorem Device.clearMem_counted (m i a n : Nat) : (s.clearMem m i a n).counted = s.counted := rfl
@[simp] theorem Device.clearMem_log (m i a n : Nat) : (s.clearMem m i a n).log = s.log := rfl
@[simp] theorem Device.clearMem_logNext (m i a n : Nat) : (s.clearMem m i a n).logNext = s.logNext := rfl
@[simp] theorem Device.clearMem_net (m i a n : Nat) : (s.clearMem m i a n).net = s.net := rfl
@[simp] theorem Device.clearMem_out (m i a n : Nat) : (s.clearMem m i a n).out = s.out := rfl
@[simp] theorem Device.clearMem_hif (m i a n : Nat) : (s.clearMem m i a n).hif = s.hif := rfl
@[simp] theorem Device.clearMem_cmds (m i a n : Nat) : (s.clearMem m i a n).cmds = s.cmds := rfl
@[simp] theorem Device.clearMem_fab (m i a n : Nat) : (s.clearMem m i a n).fab = s.fab := rfl
@[simp] theorem Device.clearMem_engines (m i a n : Nat) : (s.clearMem m i a n).engines = s.engines := rfl
@[simp] theorem Device.clearMem_cores (m i a n : Nat) : (s.clearMem m i a n).cores = s.cores := rfl
@[simp] theorem Device.clearMem_holds (m i a n : Nat) : (s.clearMem m i a n).holds = s.holds := rfl
@[simp] theorem Device.clearMem_faults (m i a n : Nat) : (s.clearMem m i a n).faults = s.faults := rfl
@[simp] theorem Device.clearMem_tier (m i a n : Nat) : (s.clearMem m i a n).tier = s.tier := rfl
@[simp] theorem Device.clearMem_nss (m i a n : Nat) : (s.clearMem m i a n).nss = s.nss := rfl
@[simp] theorem Device.clearMem_work (m i a n : Nat) : (s.clearMem m i a n).work = s.work := rfl
@[simp] theorem Device.clearMem_tkl (m i a n : Nat) : (s.clearMem m i a n).tkl = s.tkl := rfl
@[simp] theorem Device.clearMem_emb (m i a n : Nat) : (s.clearMem m i a n).emb = s.emb := rfl
@[simp] theorem Device.clearMem_srch (m i a n : Nat) : (s.clearMem m i a n).srch = s.srch := rfl
@[simp] theorem Device.clearMem_media (m i a n : Nat) : (s.clearMem m i a n).media = s.media := rfl
@[simp] theorem Device.clearMem_ftl (m i a n : Nat) : (s.clearMem m i a n).ftl = s.ftl := rfl
@[simp] theorem Device.clearMem_pwr (m i a n : Nat) : (s.clearMem m i a n).pwr = s.pwr := rfl
@[simp] theorem Device.clearMem_sled (m i a n : Nat) : (s.clearMem m i a n).sled = s.sled := rfl
@[simp] theorem Device.clearMem_avl (m i a n : Nat) : (s.clearMem m i a n).avl = s.avl := rfl
@[simp] theorem Device.clearMem_sec (m i a n : Nat) : (s.clearMem m i a n).sec = s.sec := rfl

/-! ## The queue -/

@[simp] theorem State.after_toDevice (t : State) (d : Device) : (t.after d).toDevice = d := rfl
@[simp] theorem State.after_pending (t : State) (d : Device) : (t.after d).pending = t.pending := rfl

end Sys2Proof.Machine
end

