-- ==== Sys2Proof/Laws/Memory.lean ====
section
/-! SUPPORT. The memories: a byte after a write, and the canonical form, which every memory operation keeps. -/

namespace Sys2Proof.Machine

variable (s : Device)

/-! ## Bytes -/

/-- Keys of different bytes differ. -/
theorem memKey_inj (m i a b : Nat) (h : a ≠ b) : memKey m i a ≠ memKey m i b := by simp only [memKey]; omega

/-- The byte just stored is read, where no merge entry holds its word. -/
theorem Device.byteAt_putByte_same (m i a : Nat) (b : Byte) (h : s.mergeAt m i (a / 16) = none) :
    (s.putByte m i a b).byteAt m i a = b := by
  have h' : (s.putByte m i a b).mergeAt m i (a / 16) = none := h
  unfold Device.byteAt
  rw [h']
  exact nget_nset_same _ _ _ _

/-- Another byte of the same memory is as it was. -/
theorem Device.byteAt_putByte_ne (m i a c : Nat) (b : Byte) (h : c ≠ a) : (s.putByte m i a b).byteAt m i c = s.byteAt m i c := by
  have h' : (s.putByte m i a b).mergeAt m i (c / 16) = s.mergeAt m i (c / 16) := rfl
  have hk : nget 0 (s.putByte m i a b).mem.bytes (memKey m i c) = nget 0 s.mem.bytes (memKey m i c) :=
    nget_nset_ne _ _ _ _ _ _ (memKey_inj m i c a h)
  unfold Device.byteAt
  rw [h', hk]

/-- The poison mark just set is read. -/
@[simp] theorem Device.wordPoison_markPoison_same (m i w : Nat) (b : Bool) : (s.markPoison m i w b).wordPoison m i w = b := by
  simp [Device.wordPoison, Device.markPoison]

/-! ## The canonical form -/

theorem Memory.wf_iff (m : Memory) : m.wf = true ↔ nwf (fun _ => (0 : Byte)) m.bytes = true ∧ nwf (fun _ => false) m.poison = true := by
  simp [Memory.wf]

/-- The memories right after reset have the form. -/
theorem State.reset_mem_wf : State.reset.mem.wf = true := rfl

theorem Device.putByte_wf (m i a : Nat) (b : Byte) (h : s.mem.wf = true) : (s.putByte m i a b).mem.wf = true := by
  rw [Memory.wf_iff] at h ⊢
  exact ⟨nwf_nset (fun _ => (0 : Byte)) _ _ _ h.1, h.2⟩

theorem Device.markPoison_wf (m i w : Nat) (b : Bool) (h : s.mem.wf = true) : (s.markPoison m i w b).mem.wf = true := by
  rw [Memory.wf_iff] at h ⊢
  exact ⟨h.1, nwf_nset (fun _ => false) _ _ _ h.2⟩

theorem Device.clearMem_wf (m i a n : Nat) (h : s.mem.wf = true) : (s.clearMem m i a n).mem.wf = true := by
  rw [Memory.wf_iff] at h ⊢
  exact ⟨nwf_filter _ _ _ h.1, nwf_filter _ _ _ h.2⟩

theorem Device.dropMerge_wf (m : Merge) (h : s.mem.wf = true) : (s.dropMerge m).mem.wf = true := h

/-- A property that every item keeps is kept by the list. -/
theorem foldl_keeps {α : Type} (P : Device → Prop) (f : Device → α → Device) (h : ∀ d x, P d → P (f d x)) :
    ∀ (l : List α) (d : Device), P d → P (l.foldl f d)
  | [], _, hd => hd
  | x :: l, d, hd => foldl_keeps P f h l (f d x) (h d x hd)

theorem Device.applyMerge_wf (m : Merge) (h : s.mem.wf = true) : (s.applyMerge m).mem.wf = true := by
  unfold Device.applyMerge
  refine foldl_keeps (fun d => d.mem.wf = true) _ ?_ _ _ h
  intro d j hd
  split
  · exact Device.putByte_wf _ _ _ _ _ hd
  · exact hd

theorem Device.memCount_mem (m i a b n : Nat) : (s.memCount m i a b n).mem = s.mem := by
  unfold Device.memCount; split <;> rfl

theorem Device.writeOut_wf (m : Merge) (h : s.mem.wf = true) : (s.writeOut m).mem.wf = true := by
  have h1 := Device.applyMerge_wf s m h
  have h2 := Device.dropMerge_wf _ m h1
  unfold Device.writeOut
  dsimp only
  split <;> simpa only [Device.memCount_mem] using h2

theorem Device.mergeRoom_wf (m i w : Nat) (h : s.mem.wf = true) : (s.mergeRoom m i w).mem.wf = true := by
  unfold Device.mergeRoom
  split
  · exact Device.dropMerge_wf _ _ h
  · dsimp only
    split
    · exact h
    · split
      · exact Device.writeOut_wf _ _ h
      · exact h

theorem Device.mergeWrite_wf (m i w : Nat) (bs : List (Nat × Byte)) (pz : Bool) (h : s.mem.wf = true) :
    (s.mergeWrite m i w bs pz).mem.wf = true := by
  have ht := Device.mergeRoom_wf s m i w h
  unfold Device.mergeWrite
  dsimp only
  split
  · exact Device.markPoison_wf _ _ _ _ _ (Device.applyMerge_wf _ _ ht)
  · cases pz
    · exact ht
    · exact Device.markPoison_wf _ m i w true ht

theorem Device.putBytes_wf (m i w : Nat) (bs : List (Nat × Byte)) (h : s.mem.wf = true) :
    (bs.foldl (fun a p => a.putByte m i (w * 16 + p.1) p.2) s).mem.wf = true :=
  foldl_keeps (fun d => d.mem.wf = true) _ (fun _ _ hd => Device.putByte_wf _ _ _ _ _ hd) _ _ h

theorem Device.writeWord_wf (m i w : Nat) (bs : List (Nat × Byte)) (pz : Bool) (h : s.mem.wf = true) :
    (s.writeWord m i w bs pz).mem.wf = true := by
  unfold Device.writeWord
  split
  · refine Device.markPoison_wf _ _ _ _ _ (Device.putBytes_wf _ _ _ _ _ ?_)
    split
    · exact Device.dropMerge_wf _ _ h
    · exact h
  · split
    · dsimp only
      split
      · exact Device.markPoison_wf _ _ _ _ _ (Device.putBytes_wf _ _ _ _ _ h)
      · exact Device.putBytes_wf _ _ _ _ _ h
    · exact Device.mergeWrite_wf _ _ _ _ _ _ h

/-- A write of a range keeps the canonical form. -/
theorem Device.writeMem_wf (m i a : Nat) (data : List Byte) (poison : List Nat) (h : s.mem.wf = true) :
    (s.writeMem m i a data poison).mem.wf = true := by
  unfold Device.writeMem
  exact foldl_keeps (fun d => d.mem.wf = true) _ (fun _ _ hd => Device.writeWord_wf _ _ _ _ _ _ hd) _ _ h

end Sys2Proof.Machine
end

