-- ==== Sys2Proof/Laws/Regs.lean ====
section
/-! SUPPORT. Registers: what a read gives after each update. -/

namespace Sys2Proof.Machine

variable (s : Device)

/-- The register just written holds what was written. -/
@[simp] theorem Device.rd_wr_same (r i v : Nat) : (s.wr r i v).rd r i = v := by simp [Device.rd, Device.wr]

/-- A register at another address is as it was. -/
theorem Device.rd_wr_ne (r i v r' i' : Nat) (h : regAddr r' i' ≠ regAddr r i) : (s.wr r i v).rd r' i' = s.rd r' i' := by
  simp only [Device.rd, Device.wr]
  exact nget_nset_ne _ _ _ _ _ _ h

/-- The read of a register depends on the register map alone. -/
theorem Device.rd_congr {s t : Device} (h : s.regs = t.regs) (r i : Nat) : s.rd r i = t.rd r i := by simp [Device.rd, h]

/-- The field just written holds what was written, cut to its width. -/
theorem Device.rdf_wrf_same (r i hi lo v : Nat) (h : lo ≤ hi) :
    (s.wrf r i hi lo v).rdf r i hi lo = v % 2 ^ (hi + 1 - lo) := by
  simp [Device.rdf, Device.wrf, bits_setBits_same _ _ _ _ h]

/-- A field of another register is as it was. -/
theorem Device.rdf_wr_ne (r i v r' i' hi lo : Nat) (h : regAddr r' i' ≠ regAddr r i) :
    (s.wr r i v).rdf r' i' hi lo = s.rdf r' i' hi lo := by simp [Device.rdf, Device.rd_wr_ne _ _ _ _ _ _ h]

/-- A counter raised by `n` holds the sum, or the largest value of the register. -/
@[simp] theorem Device.rd_inc_same (r i n : Nat) : (s.inc r i n).rd r i = min (s.rd r i + n) (regMax (regAddr r i)) := by
  simp [Device.inc]

/-- A sticky register with bits set. -/
@[simp] theorem Device.rd_orr_same (r i v : Nat) : (s.orr r i v).rd r i = s.rd r i ||| v := by simp [Device.orr]

/-- Registers set to 0 read 0. -/
theorem Device.rd_zero_mem (i : Nat) : ∀ (rs : List Nat) (s : Device) (r : Nat), r ∈ rs → (s.zero i rs).rd r i = 0
  | [], _, _, h => absurd h (by simp)
  | a :: rs, s, r, h => by
    by_cases hr : r ∈ rs
    · exact Device.rd_zero_mem i rs (s.wr a i 0) r hr
    · have ha : r = a := by simpa [hr] using h
      have keep : ∀ (rs : List Nat) (t : Device), r ∉ rs → (t.zero i rs).rd r i = t.rd r i := by
        intro rs
        induction rs with
        | nil => intros; rfl
        | cons b rs ih =>
          intro t hn
          have hb : r ≠ b := fun e => hn (by simp [e])
          have ht : (t.zero i (b :: rs)) = (t.wr b i 0).zero i rs := rfl
          rw [ht, ih _ (fun e => hn (by simp [e])), Device.rd_wr_ne]
          simp only [regAddr]; omega
      have ht : (s.zero i (a :: rs)) = (s.wr a i 0).zero i rs := rfl
      rw [ht, keep rs _ hr, ha]; simp

/-- A register that is not among those set to 0 is as it was. -/
theorem Device.rd_zero_ne (i : Nat) (r' i' : Nat) : ∀ (rs : List Nat) (s : Device),
    (∀ r ∈ rs, regAddr r' i' ≠ regAddr r i) → (s.zero i rs).rd r' i' = s.rd r' i'
  | [], _, _ => rfl
  | a :: rs, s, h => by
    have ht : (s.zero i (a :: rs)) = (s.wr a i 0).zero i rs := rfl
    rw [ht, Device.rd_zero_ne i r' i' rs _ (fun r hr => h r (by simp [hr])), Device.rd_wr_ne _ _ _ _ _ _ (h a (by simp))]

/-! ## Updates that leave every register alone -/

@[simp] theorem Device.rd_draw (q j : Nat) : (s.draw.2).rd q j = s.rd q j := rfl
@[simp] theorem Device.rdf_draw (q j hi lo : Nat) : (s.draw.2).rdf q j hi lo = s.rdf q j hi lo := rfl
@[simp] theorem Device.rd_emit (o : Output) (q j : Nat) : (s.emit o).rd q j = s.rd q j := rfl
@[simp] theorem Device.rdf_emit (o : Output) (q j hi lo : Nat) : (s.emit o).rdf q j hi lo = s.rdf q j hi lo := rfl
@[simp] theorem Device.rd_send (p : Packet) (q j : Nat) : (s.send p).rd q j = s.rd q j := rfl
@[simp] theorem Device.rdf_send (p : Packet) (q j hi lo : Nat) : (s.send p).rdf q j hi lo = s.rdf q j hi lo := rfl
@[simp] theorem Device.rd_receive (p : Packet) (q j : Nat) : (s.receive p).rd q j = s.rd q j := rfl
@[simp] theorem Device.rdf_receive (p : Packet) (q j hi lo : Nat) : (s.receive p).rdf q j hi lo = s.rdf q j hi lo := rfl
@[simp] theorem Device.rd_setClock (i : Nat) (c : MastClock) (q j : Nat) : (s.setClock i c).rd q j = s.rd q j := rfl
@[simp] theorem Device.rdf_setClock (i : Nat) (c : MastClock) (q j hi lo : Nat) : (s.setClock i c).rdf q j hi lo = s.rdf q j hi lo := rfl
@[simp] theorem Device.rd_setLd (i : Nat) (l : LdState) (q j : Nat) : (s.setLd i l).rd q j = s.rd q j := rfl
@[simp] theorem Device.rdf_setLd (i : Nat) (l : LdState) (q j hi lo : Nat) : (s.setLd i l).rdf q j hi lo = s.rdf q j hi lo := rfl
@[simp] theorem Device.rd_setMb (i k : Nat) (m : Mailbox) (q j : Nat) : (s.setMb i k m).rd q j = s.rd q j := rfl
@[simp] theorem Device.rdf_setMb (i k : Nat) (m : Mailbox) (q j hi lo : Nat) : (s.setMb i k m).rdf q j hi lo = s.rdf q j hi lo := rfl
@[simp] theorem Device.rd_setCmd (p : Pending) (q j : Nat) : (s.setCmd p).rd q j = s.rd q j := rfl
@[simp] theorem Device.rdf_setCmd (p : Pending) (q j hi lo : Nat) : (s.setCmd p).rdf q j hi lo = s.rdf q j hi lo := rfl
@[simp] theorem Device.rd_setCore (c : Nat) (k : Core) (q j : Nat) : (s.setCore c k).rd q j = s.rd q j := rfl
@[simp] theorem Device.rdf_setCore (c : Nat) (k : Core) (q j hi lo : Nat) : (s.setCore c k).rdf q j hi lo = s.rdf q j hi lo := rfl
@[simp] theorem Device.rd_setEngine (e : Nat) (g : Engine) (q j : Nat) : (s.setEngine e g).rd q j = s.rd q j := rfl
@[simp] theorem Device.rdf_setEngine (e : Nat) (g : Engine) (q j hi lo : Nat) : (s.setEngine e g).rdf q j hi lo = s.rdf q j hi lo := rfl
@[simp] theorem Device.rd_setRoute (d e v : Nat) (q j : Nat) : (s.setRoute d e v).rd q j = s.rd q j := rfl
@[simp] theorem Device.rdf_setRoute (d e v : Nat) (q j hi lo : Nat) : (s.setRoute d e v).rdf q j hi lo = s.rdf q j hi lo := rfl
@[simp] theorem Device.rd_setNs (i : Nat) (x : Option Ns) (q j : Nat) : (s.setNs i x).rd q j = s.rd q j := rfl
@[simp] theorem Device.rdf_setNs (i : Nat) (x : Option Ns) (q j hi lo : Nat) : (s.setNs i x).rdf q j hi lo = s.rdf q j hi lo := rfl
@[simp] theorem Device.rd_setJob (j : Nat) (x : Option Job) (q j : Nat) : (s.setJob j x).rd q j = s.rd q j := rfl
@[simp] theorem Device.rdf_setJob (j : Nat) (x : Option Job) (q j hi lo : Nat) : (s.setJob j x).rdf q j hi lo = s.rdf q j hi lo := rfl
@[simp] theorem Device.rd_setTask (c : Nat) (t : Option Task) (q j : Nat) : (s.setTask c t).rd q j = s.rd q j := rfl
@[simp] theorem Device.rdf_setTask (c : Nat) (t : Option Task) (q j hi lo : Nat) : (s.setTask c t).rdf q j hi lo = s.rdf q j hi lo := rfl
@[simp] theorem Device.rd_setFtl (f : Ftl → Ftl) (q j : Nat) : (s.setFtl f).rd q j = s.rd q j := rfl
@[simp] theorem Device.rdf_setFtl (f : Ftl → Ftl) (q j hi lo : Nat) : (s.setFtl f).rdf q j hi lo = s.rdf q j hi lo := rfl
@[simp] theorem Device.rd_setPwr (f : Power → Power) (q j : Nat) : (s.setPwr f).rd q j = s.rd q j := rfl
@[simp] theorem Device.rdf_setPwr (f : Power → Power) (q j hi lo : Nat) : (s.setPwr f).rdf q j hi lo = s.rdf q j hi lo := rfl
@[simp] theorem Device.rd_setSec (f : Sec → Sec) (q j : Nat) : (s.setSec f).rd q j = s.rd q j := rfl
@[simp] theorem Device.rdf_setSec (f : Sec → Sec) (q j hi lo : Nat) : (s.setSec f).rdf q j hi lo = s.rdf q j hi lo := rfl
@[simp] theorem Device.rd_markPoison (m i w : Nat) (b : Bool) (q j : Nat) : (s.markPoison m i w b).rd q j = s.rd q j := rfl
@[simp] theorem Device.rdf_markPoison (m i w : Nat) (b : Bool) (q j hi lo : Nat) : (s.markPoison m i w b).rdf q j hi lo = s.rdf q j hi lo := rfl
@[simp] theorem Device.rd_putByte (m i a : Nat) (b : Byte) (q j : Nat) : (s.putByte m i a b).rd q j = s.rd q j := rfl
@[simp] theorem Device.rdf_putByte (m i a : Nat) (b : Byte) (q j hi lo : Nat) : (s.putByte m i a b).rdf q j hi lo = s.rdf q j hi lo := rfl
@[simp] theorem Device.rd_dropMerge (m : Merge) (q j : Nat) : (s.dropMerge m).rd q j = s.rd q j := rfl
@[simp] theorem Device.rdf_dropMerge (m : Merge) (q j hi lo : Nat) : (s.dropMerge m).rdf q j hi lo = s.rdf q j hi lo := rfl
@[simp] theorem Device.rd_clearMem (m i a n : Nat) (q j : Nat) : (s.clearMem m i a n).rd q j = s.rd q j := rfl
@[simp] theorem Device.rdf_clearMem (m i a n : Nat) (q j hi lo : Nat) : (s.clearMem m i a n).rdf q j hi lo = s.rdf q j hi lo := rfl

end Sys2Proof.Machine
end

