-- ==== Sys2Proof/Laws/Rows.lean ====
section
/-! SUPPORT. What each shared operation that carries out a command can do, said once: `onDevice`, `atUnit` and their kin, `ryern` and
the operations over it, the packet rows, the unit-instruction rows and the monitor's rows. -/

namespace Sys2Proof.Machine

/-! ## The device and its queue -/

/-- A command that goes on leaves the queue as it was, and its device is the one that the effect answers. -/
theorem onDevice_eq_next_iff (s t : State) (f : Device → Effect) :
    onDevice s f = .next t ↔ f s.toDevice = .next t.toDevice ∧ t.pending = s.pending := by
  unfold onDevice
  cases hf : f s.toDevice with
  | next d =>
    simp only [Host.Outcome.next.injEq]
    constructor
    · rintro rfl; exact ⟨rfl, rfl⟩
    · rintro ⟨rfl, h⟩
      cases t; simp_all
  | fault r => simp
  | refused r => simp

/-- A command whose effect answers a device. -/
theorem onDevice_next (s : State) (f : Device → Effect) (d : Device) (h : f s.toDevice = .next d) :
    onDevice s f = .next (s.after d) := by simp [onDevice, h, State.after]

/-- A command whose meaning is an effect on the device: with `rfl` for the first hypothesis it applies to `exec` itself. -/
theorem next_of {out : Out} {s : State} {f : Device → Effect} {d : Device} (h : out = onDevice s f) (hf : f s.toDevice = .next d) :
    out = .next (s.after d) := h.trans (onDevice_next s f d hf)

/-- A command that changes nothing. -/
theorem next_same {out : Out} {s : State} {f : Device → Effect} (h : out = onDevice s f) (hf : f s.toDevice = .next s.toDevice) :
    out = .next s := next_of h hf

/-- The queue is as it was. -/
theorem onDevice_pending (s t : State) (f : Device → Effect) (h : onDevice s f = .next t) : t.pending = s.pending :=
  ((onDevice_eq_next_iff s t f).1 h).2

/-- A command whose effect goes on goes on, and leaves the queue as it was. -/
theorem onDevice_goes (s : State) (f : Device → Effect) (h : ∃ d, f s.toDevice = .next d) :
    ∃ t, onDevice s f = .next t ∧ t.pending = s.pending := by
  obtain ⟨d, hd⟩ := h
  exact ⟨s.after d, onDevice_next s f d hd, rfl⟩

/-! ## Events at a unit -/

/-- An event at a unit that exists. -/
@[simp] theorem atUnit_true (s : Device) : atUnit true s = .next s := rfl
/-- An event at a unit that does not exist. -/
@[simp] theorem atUnit_false (s : Device) : atUnit false s = .refused .noSuchUnit := rfl

theorem atUnit_eq (b : Bool) (s : Device) (h : b = true) : atUnit b s = .next s := by simp [h]

theorem atMb_eq (ld mb : Nat) (s : Device) (hl : ld < 16) (hm : mb < 64) : atMb ld mb s = .next s := by simp [atMb, hl, hm]

theorem atCore_eq (c : Nat) (s : Device) (hc : c < 400) : atCore c s = .next (s.settleCore c) := by simp [atCore, hc]

theorem atDoe_eq (ld : Nat) (s a : Device) (hl : ld < 16) (hr : s.hubRuns = true) (hk : s.lifecycle ≠ 4) :
    atDoe ld s a = .next a := by simp [atDoe, hl, hr, hk]

theorem atDoe_goes (ld : Nat) (s a : Device) (hl : ld < 16) : ∃ d, atDoe ld s a = .next d := by simp [atDoe, hl]

/-! ## Ryern commands -/

/-- A slot that holds the opcode of its row is read as it is. -/
theorem cmdAs_eq (c : Cmd) (op : Nat) (h : fld c.slot 0 1 = op) : cmdAs c op = c := by simp [cmdAs, h]

/-- A command from a mailbox that exists goes on, whatever it finds. -/
theorem ryernNote_goes (s : Device) (c : Cmd) (op : Nat) (reserved : List Nat) (admin : Bool)
    (check : Device → Nat → Option (Nat × Nat)) (note : Device → Nat → Device) (body : Device → Nat → Device)
    (h : Cmd.of op c = true) : ∃ d, ryernNote s c op reserved admin check note body = .next d := by
  simp only [Cmd.of, Bool.and_eq_true, beq_iff_eq, decide_eq_true_eq] at h
  unfold ryernNote
  rw [cmdAs_eq c op h.1.1]
  dsimp only
  rw [if_neg (by simp [h.1.2, h.2])]
  repeat' split
  all_goals exact ⟨_, rfl⟩

/-- A reserved bit or byte that is not 0 ends the command with INVALID_FIELD (R425, R430). -/
theorem ryernNote_reserved (s : Device) (c : Cmd) (op : Nat) (reserved : List Nat) (admin : Bool)
    (check : Device → Nat → Option (Nat × Nat)) (note : Device → Nat → Device) (body : Device → Nat → Device)
    (h : Cmd.of op c = true) (hb : headerBad c.slot reserved = true) :
    ryernNote s c op reserved admin check note body = .next ((s.begin c).2.finish (s.begin c).1 St.invalidField 0) := by
  simp only [Cmd.of, Bool.and_eq_true, beq_iff_eq, decide_eq_true_eq] at h
  unfold ryernNote
  rw [cmdAs_eq c op h.1.1]
  dsimp only
  rw [if_neg (by simp [h.1.2, h.2])]
  simp [hb]

/-- What a command that nothing keeps from running does: its effect where its check passes, else its end with the status and result of
the check that fails first, counted where its row counts it (R430, R431). -/
theorem ryernNote_runs (s : Device) (c : Cmd) (op : Nat) (reserved : List Nat) (admin : Bool)
    (check : Device → Nat → Option (Nat × Nat)) (note : Device → Nat → Device) (body : Device → Nat → Device)
    (h : Cmd.of op c = true) (hr : s.runs c reserved admin = true) :
    ryernNote s c op reserved admin check note body = .next (match check (s.begin c).2 (s.begin c).1 with
      | none => body (s.begin c).2 (s.begin c).1
      | some (st, r) => (note (s.begin c).2 st).finish (s.begin c).1 st r) := by
  simp only [Cmd.of, Bool.and_eq_true, beq_iff_eq, decide_eq_true_eq] at h
  simp only [Device.runs, Bool.and_eq_true, Bool.not_eq_true', bne_iff_ne, ne_eq] at hr
  obtain ⟨⟨⟨⟨⟨h1, h2⟩, h3⟩, h4⟩, h5⟩, h6⟩ := hr
  unfold ryernNote
  rw [cmdAs_eq c op h.1.1]
  dsimp only
  rw [if_neg (by simp [h.1.2, h.2])]
  simp only [h1, h2, h3, Bool.or_self]
  cases hp : (s.begin c).2.cmd (s.begin c).1 with
  | none => simp [hp] at h5
  | some p =>
    simp only [hp, Option.isNone_iff_eq_none] at h5
    cases hc : check (s.begin c).2 (s.begin c).1 with
    | none => simp [h4, h5, h6]
    | some x => obtain ⟨st, r⟩ := x; simp [h4, h5, h6]

/-- A command of its row goes on, whatever it finds. -/
theorem ryern_goes (s : Device) (c : Cmd) (op : Nat) (reserved : List Nat) (admin : Bool)
    (check : Device → Nat → Option (Nat × Nat)) (body : Device → Nat → Device) (h : Cmd.of op c = true) :
    ∃ d, ryern s c op reserved admin check body = .next d := ryernNote_goes _ _ _ _ _ _ _ _ h

/-- A command that nothing keeps from running and that passes its check has its effect. -/
theorem ryern_runs (s : Device) (c : Cmd) (op : Nat) (reserved : List Nat) (admin : Bool)
    (check : Device → Nat → Option (Nat × Nat)) (body : Device → Nat → Device) (h : Cmd.of op c = true)
    (hr : s.runs c reserved admin = true) (hc : check (s.begin c).2 (s.begin c).1 = none) :
    ryern s c op reserved admin check body = .next (body (s.begin c).2 (s.begin c).1) := by
  unfold ryern; rw [ryernNote_runs _ _ _ _ _ _ _ _ h hr]; simp [hc]

/-- A check that fails ends a command that nothing keeps from running, with its status and result (R430). -/
theorem ryern_ends (s : Device) (c : Cmd) (op : Nat) (reserved : List Nat) (admin : Bool)
    (check : Device → Nat → Option (Nat × Nat)) (body : Device → Nat → Device) (h : Cmd.of op c = true)
    (hr : s.runs c reserved admin = true) (st r : Nat) (hc : check (s.begin c).2 (s.begin c).1 = some (st, r)) :
    ryern s c op reserved admin check body = .next ((s.begin c).2.finish (s.begin c).1 st r) := by
  unfold ryern; rw [ryernNote_runs _ _ _ _ _ _ _ _ h hr]; simp [hc]

/-- A storage command of its row goes on (R433 to R437). -/
theorem stCommand_goes (s : Device) (c : Cmd) (op : Nat) (acc : Option Nat) (w : Bool) (body : Device → Nat → Device)
    (h : Cmd.of op c = true) : ∃ d, stCommand s c op acc w body = .next d := ryernNote_goes _ _ _ _ _ _ _ _ h

/-- A storage command that nothing keeps from running and that passes its check has its effect. -/
theorem stCommand_runs (s : Device) (c : Cmd) (op : Nat) (acc : Option Nat) (w : Bool) (body : Device → Nat → Device)
    (h : Cmd.of op c = true) (hr : s.runs c (bytesOf 36 63) false = true)
    (hc : (s.begin c).2.stCheck c.ld (s.begin c).1 c.slot acc w = none) :
    stCommand s c op acc w body = .next (body (s.begin c).2 (s.begin c).1) := by
  unfold stCommand; rw [ryernNote_runs _ _ _ _ _ _ _ _ h hr]; simp [hc]

/-- A reduction command of its row goes on (R256 to R266). -/
theorem ryernTkl_goes (s : Device) (c : Cmd) (op : Nat) (reserved : List Nat) (check : Device → Nat → Option (Nat × Nat))
    (body : Device → Nat → Device) (h : Cmd.of op c = true) : ∃ d, ryernTkl s c op reserved check body = .next d :=
  ryernNote_goes _ _ _ _ _ _ _ _ h

/-- A reduction command that nothing keeps from running and that passes its check has its effect. -/
theorem ryernTkl_runs (s : Device) (c : Cmd) (op : Nat) (reserved : List Nat) (check : Device → Nat → Option (Nat × Nat))
    (body : Device → Nat → Device) (h : Cmd.of op c = true) (hr : s.runs c reserved false = true)
    (hc : check (s.begin c).2 (s.begin c).1 = none) :
    ryernTkl s c op reserved check body = .next (body (s.begin c).2 (s.begin c).1) := by
  unfold ryernTkl; rw [ryernNote_runs _ _ _ _ _ _ _ _ h hr]; simp [hc]

/-- A slot that holds the operation of its row, or a reserved code, is read as it is. -/
theorem rawAs_eq (c : Cmd) (op : Nat) (h : Cmd.rawOf op c = true) : rawAs c op = c := by
  simp only [Cmd.rawOf, Bool.and_eq_true, Bool.or_eq_true, beq_iff_eq, decide_eq_true_eq] at h
  unfold rawAs
  rw [if_neg (by omega)]

/-- A raw-media command of its row goes on (R359). -/
theorem rawCommand_goes (s : Device) (c : Cmd) (op : Nat) (pages : Device → Nat) (body : Device → Nat → Device)
    (h : Cmd.rawOf op c = true) : ∃ d, rawCommand s c op pages body = .next d := by
  have h' := h
  simp only [Cmd.rawOf, Bool.and_eq_true] at h'
  unfold rawCommand
  rw [rawAs_eq c op h]
  exact ryern_goes _ _ _ _ _ _ _ h'.1

/-- A raw-media command that nothing keeps from running, that passes its check and whose LUN is idle has its effect. -/
theorem rawCommand_runs (s : Device) (c : Cmd) (op : Nat) (pages : Device → Nat) (body : Device → Nat → Device)
    (h : Cmd.rawOf op c = true) (hr : s.runs c (bytesOf 28 63) true = true)
    (hc : (s.begin c).2.rawCheck c.ld c.slot op (pages (s.begin c).2) = none)
    (hl : ((s.begin c).2.lun (fld c.slot 18 2)).job = none) :
    rawCommand s c op pages body = .next (body ((s.begin c).2.countDispatch (fld c.slot 18 2 / 8) 5) (s.begin c).1) := by
  have h' := h
  simp only [Cmd.rawOf, Bool.and_eq_true] at h'
  unfold rawCommand
  rw [rawAs_eq c op h]
  dsimp only
  rw [ryern_runs _ _ _ _ _ _ _ h'.1 hr hc]
  simp [hl]

/-! ## Packets -/

/-- A packet of a row's type is read as it is. -/
theorem packet_typ (typ : Nat) (p : Packet) (h : p.typ = typ) : { p with typ } = p := by subst h; rfl

/-- A packet of its row goes on (R42, R43, R57). -/
theorem packetRow_goes (typ : Nat) (p : Packet) (s : Device) (body : Packet → Device → Device) (h : Packet.of typ p = true) :
    ∃ d, packetRow typ p s body = .next d := by
  simp only [Packet.of, Bool.and_eq_true, beq_iff_eq, decide_eq_true_eq] at h
  unfold packetRow
  dsimp only
  rw [if_neg (by simp [h.1.1.2, h.1.2, h.2])]
  repeat' split
  all_goals exact ⟨_, rfl⟩

/-- A packet that its destination accepts has its effect there. -/
theorem packetRow_accepted (typ : Nat) (p : Packet) (s : Device) (body : Packet → Device → Device) (h : Packet.of typ p = true)
    (hl : s.mayLand p = true) (ha : (s.receive p).ejectCause p.dstDie p = none) :
    packetRow typ p s body = .next ((body p (s.receive p)).afterPacket p) := by
  simp only [Packet.of, Bool.and_eq_true, beq_iff_eq, decide_eq_true_eq] at h
  unfold packetRow
  rw [packet_typ typ p h.1.1.1]
  dsimp only
  rw [if_neg (by simp [h.1.1.2, h.1.2, h.2])]
  simp [hl, ha]

/-- A packet that the local port discards is counted with its cause, and answered where its VC and LEN allow it (R42, R57, R70). -/
theorem packetRow_discarded (typ : Nat) (p : Packet) (s : Device) (body : Packet → Device → Device) (k : Nat) (h : Packet.of typ p = true)
    (hl : s.mayLand p = true) (ha : (s.receive p).ejectCause p.dstDie p = some k) :
    packetRow typ p s body = .next ((s.receive p).discard p.dstDie p k (k ≠ 2)) := by
  simp only [Packet.of, Bool.and_eq_true, beq_iff_eq, decide_eq_true_eq] at h
  unfold packetRow
  rw [packet_typ typ p h.1.1.1]
  dsimp only
  rw [if_neg (by simp [h.1.1.2, h.1.2, h.2])]
  simp [hl, ha]

theorem Packet.of_verdict (kind : Nat) (p : Packet) (h : Packet.verdict kind p = true) : Packet.of 7 p = true := by
  simp only [Packet.verdict, Bool.and_eq_true] at h; exact h.1.1

theorem verdictRow_eq (kind : Nat) (p : Packet) (s : Device) (body : Packet → Device → Device) (h : Packet.verdict kind p = true) :
    verdictRow kind p s body = packetRow 7 p s body := by
  simp only [Packet.verdict, Bool.and_eq_true, beq_iff_eq, decide_eq_true_eq] at h
  have he : ({ p with addr := kind } : Packet) = p := by rw [← h.1.2]
  unfold verdictRow
  rw [he]
  dsimp only
  rw [if_neg (by omega)]

/-- A verdict packet goes on. -/
theorem verdictRow_goes (kind : Nat) (p : Packet) (s : Device) (body : Packet → Device → Device) (h : Packet.verdict kind p = true) :
    ∃ d, verdictRow kind p s body = .next d := by
  rw [verdictRow_eq _ _ _ _ h]; exact packetRow_goes _ _ _ _ (Packet.of_verdict _ _ h)

/-! ## Unit instructions -/

/-- An instruction word of a row's UNIT and OP is read as it is. -/
theorem asUnit_eq (unit op core : Nat) (i : Word128) (h : unitOf unit op core i = true) : asUnit unit op i = i := by
  simp only [unitOf, Bool.and_eq_true, beq_iff_eq, decide_eq_true_eq] at h
  unfold asUnit
  rw [if_pos ⟨h.1.2, by simpa using h.2⟩]

/-- A unit instruction of its row is carried out at its core (R99), whose sequencer then goes on. -/
theorem unitRow_eq (unit op core : Nat) (i : Word128) (body : Word128 → Device) (h : unitOf unit op core i = true) :
    unitRow unit op core i body = .next ((body i).settleCore core) := by
  have h' := h
  simp only [unitOf, Bool.and_eq_true, decide_eq_true_eq] at h'
  unfold unitRow
  rw [asUnit_eq _ _ _ _ h, atCore_eq _ _ h'.1.1]

/-! ## The monitor -/

/-- A monitor command whose level is not met answers ERR with SECURITY_DENIED, and nothing else happens (R576). -/
theorem wesko_below (level : Nat) (s body : Device) (hu : s.weskoUp = true) (hl : s.debug < level) :
    wesko level s body = .next (s.weskoErr St.securityDenied) := by simp [wesko, hu, hl]

/-- A monitor command whose level is met has its effect. -/
theorem wesko_met (level : Nat) (s body : Device) (hu : s.weskoUp = true) (hl : level ≤ s.debug) :
    wesko level s body = .next body := by simp [wesko, hu, Nat.not_lt.2 hl]

end Sys2Proof.Machine
end

