-- ==== Sys2Proof/Laws/Registers.lean ====
section
/-! SUPPORT. What a write of a register does once its path reaches the register. -/

namespace Sys2Proof.Machine

/-- With no job fault reported there is nothing to answer. -/
theorem Device.settleFaults_nil (s : Device) (h : s.faults = []) : s.settleFaults = s := by simp [Device.settleFaults, h]

theorem Device.zero_faults (i : Nat) : ∀ (rs : List Nat) (s : Device), (s.zero i rs).faults = s.faults
  | [], _ => rfl
  | a :: rs, s => (Device.zero_faults i rs (s.wr a i 0)).trans rfl

/-- The counters cleared are the only thing that changes. -/
theorem Device.zero_regs (i : Nat) : ∀ (rs : List Nat) (s : Device), { s.zero i rs with regs := s.regs } = s
  | [], _ => rfl
  | a :: rs, s => by
    have h := Device.zero_regs i rs (s.wr a i 0)
    have e : (s.zero i (a :: rs)) = (s.wr a i 0).zero i rs := rfl
    have h2 := congrArg (fun d : Device => { d with regs := s.regs }) h
    rw [e]
    exact h2

theorem Device.reaches_pathOk {s : Device} {p : Path} {reg i : Nat} (h : s.reaches p reg i = true) : pathOk p = true := by
  simp only [Device.reaches, Bool.and_eq_true] at h; exact h.1.1

/-- Whether the tables give a register this access type and these field ranges, at its own address. -/
def regIs (reg i : Nat) (a : Access) (cs : List RangeCheck) : Bool :=
  match regAt (regAddr reg i) with
  | some (t, r, k) => r.access == a && r.checks == cs && (posOf (regAddr reg i) t r k).reg == reg && (posOf (regAddr reg i) t r k).i == i
  | none => false

theorem regIs_spec {reg i : Nat} {a : Access} {cs : List RangeCheck} (h : regIs reg i a cs = true) :
    ∃ t r k x, regAt (regAddr reg i) = some (t, r, k) ∧ r.access = a ∧ r.checks = cs ∧ posOf (regAddr reg i) t r k = ⟨reg, i, x⟩ := by
  unfold regIs at h
  cases hr : regAt (regAddr reg i) with
  | none => simp [hr] at h
  | some e =>
    obtain ⟨t, r, k⟩ := e
    simp only [hr, Bool.and_eq_true, beq_iff_eq] at h
    obtain ⟨⟨⟨h1, h2⟩, h3⟩, h4⟩ := h
    refine ⟨t, r, k, (posOf (regAddr reg i) t r k).k, rfl, h1, h2, ?_⟩
    cases hp : posOf (regAddr reg i) t r k
    simp_all

/-- A write that reaches a register which is not read-only has the register's effect when its field ranges allow the value, and
changes nothing otherwise. -/
theorem Device.writeBy_reaches (s : Device) (p : Path) (reg i : Nat) (v : BitVec 32) (t : RegTable) (r : RegRow) (k : Nat)
    (h : s.reaches p reg i = true) (ha : regAt (regAddr reg i) = some (t, r, k)) (hro : r.access ≠ .ro) (pass : Bool) :
    s.writeBy p pass (regAddr reg i) false v.toNat = (if checksOk r v.toNat then
      (let e := s.regEffect p none pass (regAddr reg i) r (posOf (regAddr reg i) t r k) v.toNat
       if e.1 = none ∨ e.1 = some St.ok then e.2.settleFaults else s)
      else s) := by
  simp only [Device.reaches, Bool.and_eq_true, Option.isNone_iff_eq_none] at h
  obtain ⟨⟨_, hr⟩, hf⟩ := h
  unfold Device.writeBy Device.regWriteBy
  by_cases hc : checksOk r v.toNat = true
  · simp only [hr, hf, ha, hro, hc]
    generalize s.regEffect p none pass (regAddr reg i) r (posOf (regAddr reg i) t r k) v.toNat = e
    rcases e with ⟨_ | st, d⟩ <;> simp
  · simp [hr, hf, ha, hro, hc, St.ok, St.invalidField]

/-- The same for instance `i` of a register. -/
theorem Device.writeReg_reaches (s : Device) (p : Path) (reg i : Nat) (v : BitVec 32) (t : RegTable) (r : RegRow) (k : Nat)
    (h : s.reaches p reg i = true) (ha : regAt (regAddr reg i) = some (t, r, k)) (hro : r.access ≠ .ro) :
    s.writeReg p reg i v = (if checksOk r v.toNat then
      (let e := s.regEffect p none true (regAddr reg i) r (posOf (regAddr reg i) t r k) v.toNat
       if e.1 = none ∨ e.1 = some St.ok then e.2.settleFaults else s)
      else s) := Device.writeBy_reaches s p reg i v t r k h ha hro true

end Sys2Proof.Machine
end

