-- ==== Sys2Proof/Tests/Slice0.lean ====
section
/-! SUPPORT. The tests of the model: ill-formed commands that `Instr.wf` refuses, small steps with results taken from the spec, and for
every statement of Certificates/Slice0 that has hypotheses states and operands that meet them. -/

namespace Sys2Proof.Tests

set_option Elab.async false

open Sys2Proof.Machine

/-! ## Small states -/

/-- A device with some registers changed, each given by its register, instance and value. -/
def regs (l : List (Nat × Nat × Nat)) (d : Device := State.reset.toDevice) : Device := l.foldl (fun a e => a.wr e.1 e.2.1 e.2.2) d

/-- A device with an empty queue. -/
def st (d : Device) : State := { toDevice := d, pending := [] }

/-- A Ryern command of LD `ld` from mailbox 0 whose slot holds fields given by their first byte and value. -/
def cmd (l : List (Nat × Nat)) (ld : Nat := 0) : Cmd := ⟨ld, 0, BitVec.ofNat 512 (l.foldl (fun a e => a + e.2 * 2 ^ (8 * e.1)) 0)⟩

/-- A device with bytes in memory code 5 (DRAM) of half-stack 0. -/
def poke (l : List (Nat × Nat)) (d : Device) : Device := l.foldl (fun a e => a.putByte 5 0 e.1 (BitVec.ofNat 8 e.2)) d

/-- A namespace of LD 0 of a kind, with a size, a first band and attribute bytes. -/
def nsx (kind size band : Nat) (attr : List Byte) : Ns :=
  { kind, owner := 0, access := 0, size, key := 0, attr, bandBase := band, teardown := none, secure := false, clearing := false }

/-- A pinned object of one layer in DRAM of half-stack 0, with slices of a size. -/
def objx (slice count : Nat) : Obj :=
  { policy := 1, pin := true, job := none, window := 0, layers := 1, srcKind := 0, nsid := 0, hreg := 0, workset := 0, srcOffset := 0,
    layerBytes := slice * count, sliceBytes := slice, ords := [0], mask := 1, scratch := 0, slots := [], lastLayer := 0, layerHolds := [], wants := [],
    wantAt := [], placing := none, teardown := none, flush := false, moved := [], lost := false }

/-- A job of one layer and one expert on core 0 of SPAR ordinal 0. -/
def jobx : Job :=
  { dieMask := 1, coreSel := 1, nsid := 0, imgBytes := 64, imgOff := 0, entry := 0, layers := 1, experts := 1, rowBytes := 32,
    outBytes := 32, cores := [0], tableHs := 0, tablePage := 7, imgPage := 8, areas := [(0, 9)], areaPages := 1, slotBytes := 4096,
    slots := 8, loaded := [], turns := [], scratch := 0, opening := none, closer := none }

/-- A shard of four slices of 1,024 elements, in FP8, on objects 20 to 23. -/
def shardx : Shard :=
  { job := 0, ld := 0, sfmt := 4, count := 4, gfirst := 0, objs := [20, 21, 22, 23], shape := [(32, 32)], gquiet := [], ckpts := [],
    closer := none }

/-- A reduction of two ranks over that shard that accumulates. -/
def redx : Red :=
  { job := 0, shard := 0, ranks := 2, step := 1, first := 0, count := 1, timeoutMs := 1000, params := [], sums := [], bufs := [],
    bufBytes := 2 ^ 20, ptrs := [], resv := [], opened := 0, phase := 1, poisoned := false, commit := none, commitFrom := none,
    rankDone := [], endStatus := 0, endResult := 0 }

/-- An embedding handle on namespace 1, and a search handle on namespace 2. -/
def embx : EmbHandle :=
  { job := 0, ld := 0, nsid := 1, gatherMib := 16, cacheMib := 16, dies := [0], areas := [(0, 30)], caches := [], closer := none }
def srchx : SrchHandle :=
  { job := 0, ld := 0, nsid := 2, slots := 1, sideUs := 0, areas := [], dies := [0], bitmaps := [],
    side := [{ id := 1, seq := 0, vec := [], del := none }], tombs := [], batch := [],
    batchFrom := 0, mutating := [], fresh := [], gone := [], folding := none, foldSeq := 0, foldReady := false, foldTxn := 0, folded := 0,
    applying := false, closer := none }

/-- The device after reset with its FTL recovered (R408). -/
def ready : Device := regs [(Reg.FTL_DEV_STATUS, 0, 1)]

/-- A device at work for LD 0: job 0, namespaces 0 (blocks), 1 (table), 2 and 3 (indexes), a host range, a window of one page, objects,
a shard, a reduction, an embedding and a search handle, and a raw block. -/
def busy : Device :=
  let index : List Byte := natLe 2 32 ++ natLe 1 7 ++ natLe 1 0 ++ natLe 1 8 ++ natLe 1 8 ++ natLe 2 0 ++ natLe 5 4096 ++ natLe 3 1024 ++ natLe 4 1024
  let d := poke ([(7 * pageBytes, 9), (7 * pageBytes + 7, 128)] ++
      -- in the window: the parameters of R278 at byte 4,096, an offset list of two entries at 8,192, and item 1 at 12,288
      [(6, 0), (7, 0x3F), (10, 0), (11, 0x3F), (14, 0x80), (15, 0x3F), (22, 0x80), (23, 0x3F), (34, 0x80), (35, 0x3F), (38, 0x80), (39, 0x3F),
        (42, 0x80), (43, 0x3F), (46, 0x80), (47, 0x3F)].map (fun e => (5 * pageBytes + 4096 + e.1, e.2)) ++ [(5 * pageBytes + 8196, 1), (5 * pageBytes + 12288, 1)])
    (regs [(Reg.JOB_STATUS, 0, 1)] ready)
  { d with
    nss := [(0, some (nsx 0 0x1000000 0 [])), (1, some (nsx 2 0x1000000 64 (natLe 2 32 ++ natLe 2 7 ++ natLe 2 128 ++ natLe 5 1024))),
      (2, some (nsx 3 0x1000000 128 index)), (3, some (nsx 3 0x1000000 192 index))]
    hif := { d.hif with lds := [(0, { window := [5], hregs := [(0, some (0, 0x100000, 3))] })] }
    work := { d.work with jobs := [(0, some jobx)] }
    tier := { d.tier with objs := [(9, some (objx 4096 1)), (20, some (objx 2048 4)), (21, some (objx 1152 4)), (22, some (objx 1152 4)),
      (23, some (objx 4096 4)), (30, some (objx 2048 4)), (31, some (objx 1152 4)), (32, some (objx 1152 4)),
      (33, some (objx (sliceBytesOf 4 1024 32 3) 4))] }
    tkl := { d.tkl with shards := [(0, some shardx)], reds := [(0, some redx)] }
    emb := { d.emb with handles := [(0, some embx)] }
    srch := { d.srch with handles := [(0, some srchx)] }
    media := { d.media with raw := [(0, some 0)] } }

/-- A unit instruction from fields given by their lowest bit and value (R99). -/
def ins (l : List (Nat × Nat)) : BitVec 128 := BitVec.ofNat 128 (l.foldl (fun a e => a + e.2 * 2 ^ e.1) 0)

/-- A WRITE packet from SPAR die 1 to core 0 on die 11 (the first SPAR die). -/
def pkt : Packet :=
  { typ := 1, vc := 3, cls := 0, dstDie := sparDie 0, dstUnit := 0, srcDie := sparDie 1, srcUnit := 0, hops := 0, len := 1, job := 0,
    jobV := false, spec := false, specEng := 0, specEpoch := 0, addr := 0, tag := 0, lastBytes := 0, notify := false, ackReq := false,
    rsp := 0, body := List.replicate 16 0, poison := [] }

/-- A command of mailbox 0 of LD 0 with number `n`. -/
def pend (n : Nat) (l : List (Nat × Nat)) (phase : Phase) : Pending :=
  { n, ld := 0, mb := 0, slot := (cmd l).slot, phase, arrival := 0, full := 0, mem := 0, held := none, waits := [], ran := true, order := n + 1,
    started := 0, status := 0, reason := 0, result := 0, resultHi := 0, cut := false, silent := false }

/-- A DISPATCH of job 0 that command 0 carries. -/
def dispx : Disp :=
  { n := 0, seq := 0, ld := 0, job := 0, pass := 0, fmt := 0, actScale := 0, outScale := 0, flush := false, barrier := false, src := some 0,
    actAddr := 0, outAddr := 0, rank := 0, step := 0, recs := [], routed := 0, waiting := [], done := 0, lost := 0, cut := false, reject := false,
    go := true, goFrom := 0 }

/-- A map whose keys are a range reads each of them. -/
theorem nget_range' (v : Nat × Nat × Nat) (n : Nat) : ∀ a k, a ≤ k → k < a + n →
    nget none ((List.range' a n).map (fun h => (h, some v))) k = some v := by
  induction n with
  | zero => intro a k h1 h2; omega
  | succ n ih =>
    intro a k h1 h2
    simp only [List.range'_succ, List.map_cons, nget]
    split
    · rfl
    · exact ih (a + 1) k (by omega) (by omega)

/-- A device in which LD 0 has all 4,096 handles in use. -/
def fullHandles : Device := { ready with hif := { lds := [(0, { hregs := (List.range' 0 4096).map (fun h => (h, some (0, 0, 0))) })] } }
theorem fullHandles_all : (List.range 4096).all (fun h => (((st fullHandles).begin (cmd [(0, 0x13), (24, 4096)])).2.hreg 0 h).isSome) = true := by
  rw [List.all_eq_true]
  intro h hh
  have e : ((st fullHandles).begin (cmd [(0, 0x13), (24, 4096)])).2.hreg 0 h = nget none ((List.range' 0 4096).map (fun h => (h, some (0, 0, 0)))) h := rfl
  rw [e, nget_range' _ _ _ _ (Nat.zero_le _) (by simpa using hh)]
  rfl

/-! ## Well-formed and ill-formed commands -/

/-- Every command at operands at the ends of their ranges is well formed. -/
theorem test_wf_accepts_1 : ([
    Instr.nop (cmd [(0, 0x00)] 15), .read (cmd [(0, 0x01)] 15), .write (cmd [(0, 0x02)] 15), .discard (cmd [(0, 0x03)] 15),
    .secureDiscard (cmd [(0, 0x03)] 15), .nsCreate (cmd [(0, 0x08)] 15), .nsDelete (cmd [(0, 0x09)] 15), .nsFormat (cmd [(0, 0x0A)] 15),
    .nsAccess (cmd [(0, 0x0B)] 15), .nsInfo (cmd [(0, 0x0C)] 15), .regRead (cmd [(0, 0x10)] 15), .regWrite (cmd [(0, 0x11)] 15),
    .registerWrite .fabric 0 true 0, .timeAnchor (cmd [(0, 0x12)] 15), .timeAnchorMgmt 57 0, .hostRegister (cmd [(0, 0x13)] 15),
    .hostDeregister (cmd [(0, 0x14)] 15), .powerHint (cmd [(0, 0x18)] 15), .powerState (cmd [(0, 0x19)] 15), .jobOpen (cmd [(0, 0x20)] 15),
    .jobClose (cmd [(0, 0x21)] 15), .routeWrite (cmd [(0, 0x22)] 15), .dispatch (cmd [(0, 0x23)] 15), .shardOpen (cmd [(0, 0x24)] 15),
    .shardClose (cmd [(0, 0x25)] 15), .reduceOpen (cmd [(0, 0x26)] 15), .rankDone (cmd [(0, 0x27)] 15), .reduceCommit (cmd [(0, 0x28)] 15),
    .checkpoint (cmd [(0, 0x29)] 15), .embOpen (cmd [(0, 0x2A)] 15), .embClose (cmd [(0, 0x2B)] 15), .gather (cmd [(0, 0x2C)] 15),
    .gatherPrefetch (cmd [(0, 0x2C), (18, 1)]), .embUpdate (cmd [(0, 0x2D)] 15), .place (cmd [(0, 0x30)] 15), .unplace (cmd [(0, 0x31)] 15),
    .srchOpen (cmd [(0, 0x32)] 15), .srchClose (cmd [(0, 0x33)] 15), .search (cmd [(0, 0x34)] 15), .vecInsert (cmd [(0, 0x35)] 15)] : List Instr).all (fun i => i.wf == true) = true := by decide +kernel

/-- More of them. -/
theorem test_wf_accepts_2 : ([
    Instr.vecDelete (cmd [(0, 0x36)] 15), .indexFold (cmd [(0, 0x37)] 15), .mediaRawRead (cmd [(0, 0x40), (16, 1)] 15) 0,
    .mediaRawProgram (cmd [(0, 0x40), (16, 2)] 15) true, .mediaRawErase (cmd [(0, 0x40), (16, 3)] 15) true, .quadGrant .fabric 55 0x80000000,
    .quadRelease .fabric 55 0x40000000, .mbSqTail 15 63 0, .mbCqHead 15 63 0, .mbEnable 15 63 0, .queueReset 15 63 0, .queueResetEnd 15 63,
    .functionLevelReset 15, .commandFetch 15 63, .commandAdmit 15 63, .commandExecutionStart 0, .admitDeadlineExpiry 0, .completionWrite 0 true,
    .interruptCoalesceTimeout 15 63 true, .hostDmaReject 0 0 0 0, .ldBind 15 256, .ldUnbind 15, .adminLdDesignate 15, .cxlMemWrite 15 1 [0],
    .cxlMemRead 15 63 1, .identifyMemoryDevice 15, .getSupportedLogs 15, .getLog 15, .getHealthInfo 15, .getEventRecords 15, .clearEventRecords 15,
    .getVersion 15, .getCapabilities 15, .negotiateAlgorithms 15 0 0, .getDigests 15, .getCertificate 15 0 0 0, .challenge 15 0 0,
    .getMeasurements 15 0 true 0, .chunkGet 15 0 0, .spdmUnsupportedRequest 15 0] : List Instr).all (fun i => i.wf == true) = true := by decide +kernel

/-- More of them. -/
theorem test_wf_accepts_3 : ([
    Instr.mctpControlMessage none, .fmApiMessage (.other 0), .mctpUnsupportedType 1, .flitReceive 99 3 0 0 .clean, .linkNak 99 3 0, .linkRetrain 52 5,
    .handshakeTimeout 42 4, .failNotice 99 3, .routeTableWrite 99 [(99, 2 ^ 32 - 1)], .truncNotice ⟨3, 1, false, 99, 0, 99, 0, 0, 2047, 0⟩,
    .fenceNotice 99 99, .hopEpochEnd 99 4 3, .writePacket { pkt with typ := 1, dstDie := 99, srcDie := 99, job := 63 },
    .readReq { pkt with typ := 2, dstDie := 99, srcDie := 99, job := 63 } [], .readResp { pkt with typ := 3, dstDie := 99, srcDie := 99, job := 63 },
    .writeAck { pkt with typ := 4, dstDie := 99, srcDie := 99, job := 63 }, .media { pkt with typ := 5, dstDie := 99, srcDie := 99, job := 63 },
    .reg { pkt with typ := 9, dstDie := 99, srcDie := 99, job := 63 }, .clean { pkt with typ := 7, addr := 5 },
    .reopen { pkt with typ := 7, addr := 2, specEng := 1599 }, .reopenAck { pkt with typ := 7, addr := 3, specEng := 1599 },
    .releaseAck { pkt with typ := 7, addr := 4, specEng := 1599 }, .squashFrom { pkt with typ := 8, addr := 1, specEng := 1599 },
    .unitInstructionPlace 399 0, .wload 399 (ins [(124, 1), (120, 1)]), .mac 399 (ins [(124, 1), (120, 2)]), .drain 399 (ins [(124, 1), (120, 3)]),
    .add 399 (ins [(124, 2), (118, 1)]) true, .sub 399 (ins [(124, 2), (118, 2)]) true, .mul 399 (ins [(124, 2), (118, 3)]) true,
    .fma 399 (ins [(124, 2), (118, 4)]) true, .max 399 (ins [(124, 2), (118, 5)]) true, .min 399 (ins [(124, 2), (118, 6)]) true,
    .abs 399 (ins [(124, 2), (118, 7)]) true, .exp 399 (ins [(124, 2), (118, 8)]) true, .recip 399 (ins [(124, 2), (118, 9)]) true,
    .rsqrt 399 (ins [(124, 2), (118, 10)]) true, .sigmoid 399 (ins [(124, 2), (118, 11)]) true, .siluMul 399 (ins [(124, 2), (118, 12)]) true,
    .cvt 399 (ins [(124, 2), (118, 13)]) true] : List Instr).all (fun i => i.wf == true) = true := by decide +kernel

/-- More of them. -/
theorem test_wf_accepts_4 : ([
    Instr.rsum 399 (ins [(124, 2), (118, 16)]) true, .rmax 399 (ins [(124, 2), (118, 17)]) true, .absmax 399 (ins [(124, 2), (118, 18)]) true,
    .copy 399 (ins [(124, 3), (120, 1)]), .put 399 (ins [(124, 3), (120, 2)]), .get 399 (ins [(124, 3), (120, 3)]),
    .ckpt 399 (ins [(124, 4), (120, 1)]), .fence 399 (ins [(124, 4), (120, 2)]), .post 399 (ins [(124, 4), (120, 3)]),
    .hint 399 (ins [(124, 4), (120, 4)]), .endKernel 399 (ins [(124, 4), (120, 5)]), .unitInstructionComplete 399 0, .rowGate 1599,
    .verdictIssue 1599 true, .sequencerMismatch 399, .epochCommit 399, .holdTimeout 99 0, .kernelEndReport 399 ⟨[], 0⟩, .sliceFetchIssue 39,
    .stagingMove 39 31, .recordRoute 0, .batchTimerExpiry 39 63 0, .taskGive 39 63, .workSteal 39 63, .outputCopyComplete 39 63 0,
    .barrierDispatchStart 0, .paceInterval, .tackleContext { pkt with typ := 6, addr := 0xF00000000 },
    .tackleCodes { pkt with typ := 6, addr := 0xEFFFFFFFF }, .tackleStatistics { pkt with typ := 6, addr := 0xF00000020 }, .reservationGrant 39 63,
    .reductionTimeout 63, .updatePhaseStart 63, .updatePhaseEnd 63, .gatherRowRead 0 0 true, .gatherReduce 0 0, .embApplyPhase 0,
    .bitmapBuildComplete 63 7, .sideBatchTimer 63, .foldApplyPhase 63 []] : List Instr).all (fun i => i.wf == true) = true := by decide +kernel

/-- More of them. -/
theorem test_wf_accepts_5 : ([
    Instr.zqCalibrationShort 223, .dqRetrain 223, .nandOperationDispatch 1791 (.read 5), .eraseResume 1791, .arrayReadComplete 1791 7,
    .programDataInEnd 1791, .programCheck 1791 true [], .eraseCheck 1791 true, .patrolRead 1791 3311 3 7, .blockRefresh 1791 3311 3,
    .journalPageClose 55, .quadProgress 55 31 3311 0, .txnCommit 0, .streamFlush 55, .gcErase 3 31 3311, .mergeWriteOut 0 .clean, .dramPatrol 39 [] [],
    .scrubStart .fabric 611 1, .scrubAbort .fabric 399 2, .scrubSummary 512 [] [], .laneRegionTest 1599 true, .secureScratchTest 52 true,
    .memCoreRet .fabric 399 0, .feedLost true 0, .feedGood true 0, .feedReturn, .holdupMeasure 0 0, .shutdownRequest, .capRecompute 0 0,
    .hardwareLimiter true, .pwrCapW .fabric 0, .hoistStagingStart 399, .hintPhaseStart 399, .hintEnd 399, .droopEvent 399, .thermalTrip 57 0, .tripEnd,
    .thermalThrottleStep 399 0, .throttleRecoverStep 399 0, .storageWarn 99 0] : List Instr).all (fun i => i.wf == true) = true := by decide +kernel

/-- More of them. -/
theorem test_wf_accepts_6 : ([
    Instr.storageHot 0x263 0, .thermalShutdown 0x263 0, .psIdleTimer 3, .halfStackSleep 39, .backgroundTaskWake, .coolantAlarm 0 0, .heartbeat,
    .hubTakeover true, .mhcLockstepMismatch 52, .avlSwap .fabric 0, .dieFirmwareSwitch 99, .dieFence 99 7, .avlStRun .fabric 99 0 true,
    .selftestAgeExpiry 99 37 true, .rotationPeriod [], .rotationRestart .fabric 0, .tamperEvent 52 15, .nonce .fabric, .unlock .fabric ⟨[]⟩,
    .lock .fabric 0, .lifecycle .fabric ⟨[]⟩, .fwStage .fabric [], .fwActivate .fabric, .svnCommit .fabric, .nonceExpiry, .nonceRefusalEnd,
    .debugExpiry, .weskoId, .weskoStatus, .weskoNonce, .weskoToken 0 [], .weskoUnlock, .weskoLifecycle, .weskoLock 0, .weskoLog 0, .weskoRr 0,
    .weskoRw 0 0, .weskoHalt 0, .weskoResume 0, .weskoMr 0 0 0 0] : List Instr).all (fun i => i.wf == true) = true := by decide +kernel

/-- More of them. -/
theorem test_wf_accepts_7 : ([
    Instr.weskoMw 0 0 0 0, .weskoFuse, .weskoTest, .perstAssert 0, .perstRelease, .prsntMate, .prsntBreak, .hifLdQos .fabric 15 0,
    .stayCntClr .fabric 99 0, .qntCntClr .fabric 399 0, .tierCntClr .fabric 0, .tierJobCntClr .fabric 63 0, .jobCntClr .fabric 63 0,
    .tklJobCntClr .fabric 63 0, .embHCntClr .fabric 255 0, .srchHCntClr .fabric 63 0, .mediaChCntClr .fabric 223 0, .mediaDieCntClr .fabric 55 0,
    .ftlCntClr .fabric 55 0, .hifLdCntClr .fabric 15 0, .memCoreCntClr .fabric 399 0, .memDieCntClr .fabric 99 0, .pwrCntClr .fabric 0,
    .avlCntClr .fabric 0, .secCntClr .fabric 0, .linkRetrainEnd 52 4 true none, .eraseSuspendReady 1791, .linkL0 3 8 true, .portFailure,
    .storageWarnEnd 99, .storageHotEnd, .mhcRestartEnd 42, .voltageRampEnd 399, .standbyPhyTest true, .dynamicAddressAssign 127,
    .handoverTrainingEnd 39, .psTransitionEnd] : List Instr).all (fun i => i.wf == true) = true := by decide +kernel

/-- Each check refuses a term: an opcode of another row, a unit, an operation or a number outside its range. -/
theorem test_wf_refuses_1 : ([
    Instr.nop (cmd [(0, 0x01)]), .nop (cmd [(0, 0x00)] 16), .nop { cmd [(0, 0x00)] with mb := 64 }, .read (cmd [(0, 0x02)]), .write (cmd [(0, 0x03)]),
    .discard (cmd [(0, 0x04)]), .secureDiscard (cmd [(0, 0x04)]), .nsCreate (cmd [(0, 0x09)]), .nsDelete (cmd [(0, 0x0A)]),
    .nsFormat (cmd [(0, 0x0B)]), .nsAccess (cmd [(0, 0x0C)]), .nsInfo (cmd [(0, 0x0D)]), .regRead (cmd [(0, 0x11)]), .regWrite (cmd [(0, 0x12)]),
    .registerWrite (.ryern 16) 0 true 0, .timeAnchor (cmd [(0, 0x13)]), .timeAnchorMgmt 0 0, .hostRegister (cmd [(0, 0x14)]),
    .hostDeregister (cmd [(0, 0x15)]), .powerHint (cmd [(0, 0x19)]), .powerState (cmd [(0, 0x1A)]), .jobOpen (cmd [(0, 0x21)]),
    .jobClose (cmd [(0, 0x22)]), .routeWrite (cmd [(0, 0x23)]), .dispatch (cmd [(0, 0x24)]), .shardOpen (cmd [(0, 0x25)]),
    .shardClose (cmd [(0, 0x26)]), .reduceOpen (cmd [(0, 0x27)]), .rankDone (cmd [(0, 0x28)]), .reduceCommit (cmd [(0, 0x29)]),
    .checkpoint (cmd [(0, 0x2A)]), .embOpen (cmd [(0, 0x2B)]), .embClose (cmd [(0, 0x2C)]), .gather (cmd [(0, 0x2D)]),
    .gatherPrefetch (cmd [(0, 0x2D), (18, 1)]), .gatherPrefetch (cmd [(0, 0x2C)]), .embUpdate (cmd [(0, 0x2E)]), .place (cmd [(0, 0x31)]),
    .unplace (cmd [(0, 0x32)]), .srchOpen (cmd [(0, 0x33)])] : List Instr).all (fun i => i.wf == false) = true := by decide +kernel

/-- More of them. -/
theorem test_wf_refuses_2 : ([
    Instr.srchClose (cmd [(0, 0x34)]), .search (cmd [(0, 0x35)]), .vecInsert (cmd [(0, 0x36)]), .vecDelete (cmd [(0, 0x37)]),
    .indexFold (cmd [(0, 0x38)]), .mediaRawRead (cmd [(0, 0x41), (16, 1)]) 0, .mediaRawRead (cmd [(0, 0x40), (16, 2)]) 0,
    .mediaRawProgram (cmd [(0, 0x41), (16, 2)]) true, .mediaRawProgram (cmd [(0, 0x40), (16, 3)]) true, .mediaRawErase (cmd [(0, 0x41), (16, 3)]) true,
    .mediaRawErase (cmd [(0, 0x40), (16, 1)]) true, .quadGrant .fabric 0 0, .quadGrant .fabric 56 0x80000000, .quadGrant (.bar 16) 0 0x80000000,
    .quadRelease .fabric 0 0, .quadRelease .fabric 56 0x40000000, .quadRelease (.bar 16) 0 0x40000000, .mbSqTail 16 63 0, .mbSqTail 15 64 0,
    .mbCqHead 16 63 0, .mbCqHead 15 64 0, .mbEnable 16 63 0, .mbEnable 15 64 0, .queueReset 16 63 0, .queueReset 15 64 0, .queueResetEnd 16 63,
    .queueResetEnd 15 64, .functionLevelReset 16, .commandFetch 16 63, .commandFetch 15 64, .commandAdmit 16 63, .commandAdmit 15 64,
    .interruptCoalesceTimeout 16 63 true, .interruptCoalesceTimeout 15 64 true, .ldBind 16 256, .ldBind 15 257, .ldUnbind 16, .adminLdDesignate 16,
    .cxlMemWrite 16 0 [0], .cxlMemWrite 0 0 []] : List Instr).all (fun i => i.wf == false) = true := by decide +kernel

/-- More of them. -/
theorem test_wf_refuses_3 : ([
    Instr.cxlMemWrite 0 63 [0, 0], .cxlMemRead 16 0 1, .cxlMemRead 0 0 0, .cxlMemRead 0 1 64, .identifyMemoryDevice 16, .getSupportedLogs 16,
    .getLog 16, .getHealthInfo 16, .getEventRecords 16, .clearEventRecords 16, .getVersion 16, .getCapabilities 16, .negotiateAlgorithms 16 0 0,
    .getDigests 16, .getCertificate 16 0 0 0, .challenge 16 0 0, .getMeasurements 16 0 true 0, .chunkGet 16 0 0, .spdmUnsupportedRequest 16 0,
    .mctpUnsupportedType 0, .mctpUnsupportedType 7, .flitReceive 100 3 0 0 .clean, .flitReceive 99 4 0 0 .clean, .flitReceive 99 0 0 0 .clean,
    .linkNak 100 3 0, .linkNak 99 4 0, .linkNak 99 0 0, .linkRetrain 99 4, .linkRetrain 52 6, .linkRetrain 99 0, .handshakeTimeout 99 4,
    .handshakeTimeout 52 6, .handshakeTimeout 99 1, .failNotice 100 3, .failNotice 99 4, .failNotice 99 0, .routeTableWrite 100 [],
    .routeTableWrite 0 [(100, 0)], .routeTableWrite 0 [(0, 2 ^ 32)], .truncNotice ⟨3, 1, false, 100, 0, 99, 0, 0, 0, 0⟩] : List Instr).all (fun i => i.wf == false) = true := by decide +kernel

/-- More of them. -/
theorem test_wf_refuses_4 : ([
    Instr.truncNotice ⟨3, 1, false, 99, 0, 100, 0, 0, 0, 0⟩, .truncNotice ⟨3, 1, false, 99, 0, 99, 0, 0, 2048, 0⟩, .fenceNotice 100 99,
    .fenceNotice 99 100, .hopEpochEnd 100 4 3, .hopEpochEnd 99 5 3, .hopEpochEnd 99 4 4, .writePacket { pkt with typ := 2 },
    .writePacket { pkt with typ := 1, dstDie := 100 }, .writePacket { pkt with typ := 1, srcDie := 100 },
    .writePacket { pkt with typ := 1, job := 64 }, .readReq { pkt with typ := 3 } [], .readResp { pkt with typ := 4 }, .writeAck { pkt with typ := 5 },
    .media { pkt with typ := 6 }, .reg { pkt with typ := 10 }, .clean { pkt with typ := 7, addr := 2 }, .clean { pkt with typ := 8, addr := 1 },
    .clean { pkt with typ := 7, addr := 1, specEng := 1600 }, .reopen { pkt with typ := 7, addr := 1 }, .reopen { pkt with typ := 8, addr := 2 },
    .reopen { pkt with typ := 7, addr := 2, specEng := 1600 }, .reopenAck { pkt with typ := 7, addr := 2 },
    .reopenAck { pkt with typ := 8, addr := 3 }, .reopenAck { pkt with typ := 7, addr := 3, specEng := 1600 },
    .releaseAck { pkt with typ := 7, addr := 3 }, .releaseAck { pkt with typ := 8, addr := 4 },
    .releaseAck { pkt with typ := 7, addr := 4, specEng := 1600 }, .squashFrom { pkt with typ := 7, addr := 1 },
    .squashFrom { pkt with typ := 8, addr := 1, specEng := 1600 }, .unitInstructionPlace 400 0, .wload 399 (ins [(124, 1), (120, 9)]),
    .wload 400 (ins [(124, 1), (120, 1)]), .wload 399 (ins [(124, 3), (120, 1)]), .mac 399 (ins [(124, 1), (120, 10)]),
    .mac 400 (ins [(124, 1), (120, 2)]), .drain 399 (ins [(124, 1), (120, 11)]), .drain 400 (ins [(124, 1), (120, 3)]),
    .add 399 (ins [(124, 2), (118, 33)]) true, .add 400 (ins [(124, 2), (118, 1)]) true] : List Instr).all (fun i => i.wf == false) = true := by decide +kernel

/-- More of them. -/
theorem test_wf_refuses_5 : ([
    Instr.sub 399 (ins [(124, 2), (118, 34)]) true, .sub 400 (ins [(124, 2), (118, 2)]) true, .mul 399 (ins [(124, 2), (118, 35)]) true,
    .mul 400 (ins [(124, 2), (118, 3)]) true, .fma 399 (ins [(124, 2), (118, 36)]) true, .fma 400 (ins [(124, 2), (118, 4)]) true,
    .max 399 (ins [(124, 2), (118, 37)]) true, .max 400 (ins [(124, 2), (118, 5)]) true, .min 399 (ins [(124, 2), (118, 38)]) true,
    .min 400 (ins [(124, 2), (118, 6)]) true, .abs 399 (ins [(124, 2), (118, 39)]) true, .abs 400 (ins [(124, 2), (118, 7)]) true,
    .exp 399 (ins [(124, 2), (118, 40)]) true, .exp 400 (ins [(124, 2), (118, 8)]) true, .recip 399 (ins [(124, 2), (118, 41)]) true,
    .recip 400 (ins [(124, 2), (118, 9)]) true, .rsqrt 399 (ins [(124, 2), (118, 42)]) true, .rsqrt 400 (ins [(124, 2), (118, 10)]) true,
    .sigmoid 399 (ins [(124, 2), (118, 43)]) true, .sigmoid 400 (ins [(124, 2), (118, 11)]) true, .siluMul 399 (ins [(124, 2), (118, 44)]) true,
    .siluMul 400 (ins [(124, 2), (118, 12)]) true, .cvt 399 (ins [(124, 2), (118, 45)]) true, .cvt 400 (ins [(124, 2), (118, 13)]) true,
    .rsum 399 (ins [(124, 2), (118, 48)]) true, .rsum 400 (ins [(124, 2), (118, 16)]) true, .rmax 399 (ins [(124, 2), (118, 49)]) true,
    .rmax 400 (ins [(124, 2), (118, 17)]) true, .absmax 399 (ins [(124, 2), (118, 50)]) true, .absmax 400 (ins [(124, 2), (118, 18)]) true,
    .copy 399 (ins [(124, 3), (120, 9)]), .copy 400 (ins [(124, 3), (120, 1)]), .put 399 (ins [(124, 3), (120, 10)]),
    .put 400 (ins [(124, 3), (120, 2)]), .get 399 (ins [(124, 3), (120, 11)]), .get 400 (ins [(124, 3), (120, 3)]),
    .ckpt 399 (ins [(124, 4), (120, 9)]), .ckpt 400 (ins [(124, 4), (120, 1)]), .fence 399 (ins [(124, 4), (120, 10)]),
    .fence 400 (ins [(124, 4), (120, 2)])] : List Instr).all (fun i => i.wf == false) = true := by decide +kernel

/-- More of them. -/
theorem test_wf_refuses_6 : ([
    Instr.post 399 (ins [(124, 4), (120, 11)]), .post 400 (ins [(124, 4), (120, 3)]), .hint 399 (ins [(124, 4), (120, 12)]),
    .hint 400 (ins [(124, 4), (120, 4)]), .endKernel 399 (ins [(124, 4), (120, 13)]), .endKernel 400 (ins [(124, 4), (120, 5)]),
    .unitInstructionComplete 400 0, .rowGate 1600, .verdictIssue 1600 true, .sequencerMismatch 400, .epochCommit 400, .holdTimeout 100 0,
    .kernelEndReport 400 ⟨[], 0⟩, .sliceFetchIssue 40, .stagingMove 40 31, .stagingMove 39 32, .batchTimerExpiry 40 63 0,
    .batchTimerExpiry 39 64 0, .taskGive 40 63, .taskGive 39 64, .workSteal 40 63, .workSteal 39 64, .outputCopyComplete 40 63 0,
    .outputCopyComplete 39 64 0, .tackleContext { pkt with typ := 6, addr := 0 }, .tackleContext { pkt with typ := 1, addr := 0xF00000000 },
    .tackleCodes { pkt with typ := 6, addr := 0xF00000000 }, .tackleCodes { pkt with typ := 1 },
    .tackleStatistics { pkt with typ := 6, addr := 0xF00000000 }, .tackleStatistics { pkt with typ := 1, addr := 0xF00000020 },
    .reservationGrant 40 63, .reservationGrant 39 64, .reductionTimeout 64, .updatePhaseStart 64, .updatePhaseEnd 64, .bitmapBuildComplete 64 7,
    .bitmapBuildComplete 63 8, .sideBatchTimer 64, .foldApplyPhase 64 [], .zqCalibrationShort 224] : List Instr).all (fun i => i.wf == false) = true := by decide +kernel

/-- More of them. -/
theorem test_wf_refuses_7 : ([
    Instr.dqRetrain 224, .nandOperationDispatch 1792 (.read 1), .nandOperationDispatch 0 (.read 0), .nandOperationDispatch 0 (.read 6),
    .nandOperationDispatch 0 (.program 1 0 0 true), .nandOperationDispatch 0 (.program 2 3312 0 true),
    .nandOperationDispatch 0 (.program 3 0 384 true), .nandOperationDispatch 0 (.erase 3312 true), .eraseResume 1792, .arrayReadComplete 1792 7,
    .arrayReadComplete 1791 8, .programDataInEnd 1792, .programCheck 1792 true [], .eraseCheck 1792 true, .patrolRead 1792 3311 3 7,
    .patrolRead 1791 3312 3 7, .patrolRead 1791 3311 4 7, .patrolRead 1791 3311 3 8, .blockRefresh 1792 3311 3, .blockRefresh 1791 3312 3,
    .blockRefresh 1791 3311 4, .journalPageClose 56, .quadProgress 56 31 3311 0, .quadProgress 55 32 3311 0, .quadProgress 55 31 3312 0,
    .streamFlush 56, .gcErase 4 31 3311, .gcErase 3 32 3311, .gcErase 3 31 3312, .dramPatrol 40 [] [], .scrubStart .fabric 611 2,
    .scrubStart .fabric 400 1, .scrubStart .fabric 612 1, .scrubStart (.ryern 16) 0 1, .scrubAbort .fabric 611 1, .scrubAbort .fabric 400 2,
    .scrubAbort .fabric 511 2, .scrubAbort (.ryern 16) 0 2, .scrubSummary 400 [] [], .scrubSummary 612 [] []] : List Instr).all (fun i => i.wf == false) = true := by decide +kernel

/-- More of them. -/
theorem test_wf_refuses_8 : ([
    Instr.laneRegionTest 1600 true, .secureScratchTest 47 true, .memCoreRet (.ryern 16) 399 0, .memCoreRet .fabric 400 0, .pwrCapW (.ryern 16) 0,
    .hoistStagingStart 400, .hintPhaseStart 400, .hintEnd 400, .droopEvent 400, .thermalTrip 42 0, .thermalTrip 0 0, .thermalTrip 103 0,
    .thermalThrottleStep 400 0, .throttleRecoverStep 400 0, .storageWarn 3 0, .storageWarn 100 0, .storageHot 0x1FF 0, .storageHot 0x264 0,
    .storageHot 0x22A 0, .thermalShutdown 0x1FF 0, .thermalShutdown 0x264 0, .psIdleTimer 0, .psIdleTimer 4, .halfStackSleep 40,
    .mhcLockstepMismatch 57, .avlSwap (.ryern 16) 0, .dieFirmwareSwitch 100, .dieFirmwareSwitch 42, .dieFirmwareSwitch 52, .dieFence 100 7,
    .dieFence 99 0, .dieFence 99 8, .avlStRun (.ryern 16) 99 0 true, .avlStRun .fabric 100 0 true, .selftestAgeExpiry 100 37 true,
    .selftestAgeExpiry 99 38 true, .rotationRestart (.ryern 16) 0, .tamperEvent 47 1, .tamperEvent 42 0, .tamperEvent 42 16] : List Instr).all (fun i => i.wf == false) = true := by decide +kernel

/-- More of them. -/
theorem test_wf_refuses_9 : ([
    Instr.hifLdQos (.ryern 16) 15 0, .hifLdQos .fabric 16 0, .stayCntClr (.ryern 16) 99 0, .stayCntClr .fabric 100 0, .qntCntClr (.ryern 16) 399 0,
    .qntCntClr .fabric 400 0, .tierCntClr (.ryern 16) 0, .tierJobCntClr (.ryern 16) 63 0, .tierJobCntClr .fabric 64 0, .jobCntClr (.ryern 16) 63 0,
    .jobCntClr .fabric 64 0, .tklJobCntClr (.ryern 16) 63 0, .tklJobCntClr .fabric 64 0, .embHCntClr (.ryern 16) 255 0, .embHCntClr .fabric 256 0,
    .srchHCntClr (.ryern 16) 63 0, .srchHCntClr .fabric 64 0, .mediaChCntClr (.ryern 16) 223 0, .mediaChCntClr .fabric 224 0,
    .mediaDieCntClr (.ryern 16) 55 0, .mediaDieCntClr .fabric 56 0, .ftlCntClr (.ryern 16) 55 0, .ftlCntClr .fabric 56 0,
    .hifLdCntClr (.ryern 16) 15 0, .hifLdCntClr .fabric 16 0, .memCoreCntClr (.ryern 16) 399 0, .memCoreCntClr .fabric 400 0,
    .memDieCntClr (.ryern 16) 99 0, .memDieCntClr .fabric 100 0, .pwrCntClr (.ryern 16) 0, .avlCntClr (.ryern 16) 0, .secCntClr (.ryern 16) 0,
    .linkRetrainEnd 0 5 true none, .linkRetrainEnd 100 3 true none, .eraseSuspendReady 1792, .linkL0 0 8 true, .linkL0 4 8 true, .linkL0 1 2 true,
    .storageWarnEnd 3, .storageWarnEnd 100] : List Instr).all (fun i => i.wf == false) = true := by decide +kernel

/-- More of them. -/
theorem test_wf_refuses_10 : ([
    Instr.mhcRestartEnd 47, .voltageRampEnd 400, .dynamicAddressAssign 128, .handoverTrainingEnd 40] : List Instr).all (fun i => i.wf == false) = true := by decide +kernel

/-! ## Numbers and places, with values taken from the spec's formats and tables -/

/-- 1 in E4M3, BF16 and FP16; the largest E2M1 value is 6 (R123). -/
theorem test_formats : decodeFmt 0 0x38 = decodeFmt 7 0x3F800000 ∧ decodeFmt 5 0x3F80 = decodeFmt 7 0x3F800000 ∧
    decodeFmt 6 0x3C00 = decodeFmt 7 0x3F800000 ∧ decodeFmt 2 0x7 = decodeFmt 7 0x40C00000 := by decide +kernel

/-- 1 + 2 = 3; the fused (1 + 2^-23)(1 - 2^-23) - 1 is -2^-46, and the largest numbers' product is infinite (R125, R128). -/
theorem test_arithmetic : fadd 0x3F800000 0x40000000 = 0x40400000 ∧ ffma 0x3F800001 0x3F7FFFFE 0xBF800000 = 0xA8800000 ∧
    fmul 0x7F000000 0x40800000 = 0x7F800000 := by decide +kernel

/-- The last SPAR and SHEAVE ordinals are dies 96 and 99; the last stay of each kind (R8, R10, R22). -/
theorem test_places : sparDie 39 = 96 ∧ sheaveDie 55 = 99 ∧ coreDie 399 = 96 ∧ stayAt 98 0 = 89 ∧ stayAt 99 3 = 179 := by decide +kernel

/-! ## Single steps -/

/-- What a command leaves of a device. -/
def after (i : Instr) (d : Device) : Option Device :=
  match exec i (st d) with
  | .next t => some t.toDevice
  | _ => none

/-- A register after a command. -/
def reg (i : Instr) (r k : Nat) (d : Device := ready) : Option Nat := (after i d).map (fun t => t.rd r k)

/-- The status and result with which the last command of the pipeline ended. -/
def answer (i : Instr) (d : Device := ready) : Option (Nat × Nat) :=
  (after i d).bind (fun t => t.cmds.getLast?.map (fun p => (p.status, p.result)))

/-- The fp32 number of a core address of core 0. -/
def f32At (i : Instr) (addr : Nat) (d : Device) : Option Nat := (after i d).map (fun t => leNat (t.readMem 0 0 addr 4))

/-- Core 0 with 1.0 and 2.0 in the scratchpad, and 1.0 in E4M3 at 64. -/
def scratch : Device :=
  [(2, 0x80), (3, 0x3F), (35, 0x40), (64, 0x38)].foldl (fun a e => a.putByte 0 0 e.1 (BitVec.ofNat 8 e.2)) ready

/-- NOP ends with OK; a reserved bit is INVALID_FIELD (R425, R431). -/
theorem test_nop : answer (.nop (cmd [])) = some (0, 0) ∧ answer (.nop (cmd [(16, 1)])) = some (0x0801, 0) := by decide +kernel

/-- An administration command of another LD is SECURITY_DENIED (R431). -/
theorem test_admin : answer (.timeAnchor (cmd [(0, 0x12), (16, 7)] 1)) = some (0x0701, 0) := by decide +kernel

/-- TIME_ANCHOR answers the new generation, 1 for the first (R32, R441). -/
theorem test_timeAnchor : answer (.timeAnchor (cmd [(0, 0x12), (16, 7)])) = some (0, 1) := by decide +kernel

/-- NS_INFO of a namespace that does not exist is NS_ABSENT (R439). -/
theorem test_nsInfo : (answer (.nsInfo (cmd [(0, 0x0C), (16, 9)]))).map (·.1) = some 0x0303 := by decide +kernel

/-- REG_READ answers a register's reset value; an address that no register has is INVALID_FIELD (R440). -/
theorem test_regRead : answer (.regRead (cmd [(0, 0x10), (20, Reg.HIF_ADMIT_MAX)])) = some (0, 8192) ∧
    (answer (.regRead (cmd [(0, 0x10), (20, 0xFFFFFFF0)]))).map (·.1) = some 0x0801 := by decide +kernel

/-- A doorbell makes the slots up to its value pending (R422); one to a mailbox that is not enabled does not. -/
theorem test_doorbell :
    ((after (.mbSqTail 0 0 3) (ready.setMb 0 0 { enabled := true })).map (fun t => (t.mbox 0 0).waiting)) = some 3 ∧
    ((after (.mbSqTail 0 0 3) ready).map (fun t => (t.mbox 0 0).waiting)) = some 0 := by decide +kernel

/-- A write and a read of CXL.mem in the window (R416). -/
theorem test_cxlMem :
    ((after (.cxlMemWrite 0 3 [7]) { regs [(Reg.HIF_PORT_STATUS, 0, 1)] ready with hif := busy.hif }).map (fun t => t.hif.reqs.length)) = some 1 := by
  decide +kernel

/-- POST adds COUNT to its semaphore (R109). -/
theorem test_post :
    ((after (.post 0 (ins [(124, 4), (120, 3), (115, 31), (99, 5)])) ready).map (fun t => t.sem 0 31)) = some 5 := by decide +kernel

/-- The codes within 2 ulp (R106) of e^0 = 1 and of 1/4: four steps of half an ulp below a power of two, two above; of 1/√0.25 = 2; and
of sigmoid(0) = 0.5. 1 over the least subnormal overflows to infinity (R127). -/
theorem test_within_2_ulp : expCodes (f32Val 0) = [0x3F7FFFFC, 0x3F7FFFFD, 0x3F7FFFFE, 0x3F7FFFFF, 0x3F800000, 0x3F800001, 0x3F800002] ∧
    recipCodes (f32Val 0xC0800000) = [0xBE7FFFFC, 0xBE7FFFFD, 0xBE7FFFFE, 0xBE7FFFFF, 0xBE800000, 0xBE800001, 0xBE800002] ∧
    rsqrtCodes (f32Val 0x3E800000) = [0x3FFFFFFC, 0x3FFFFFFD, 0x3FFFFFFE, 0x3FFFFFFF, 0x40000000, 0x40000001, 0x40000002] ∧
    sigmoidCodes (f32Val 0x80000000) = [0x3EFFFFFC, 0x3EFFFFFD, 0x3EFFFFFE, 0x3EFFFFFF, 0x3F000000, 0x3F000001, 0x3F000002] ∧
    (recipCodes (f32Val 1)).all (· == 0x7F800000) = true := by decide +kernel

/-- ADD of 1.0 and 2.0 in fp32 (R105, R106). -/
theorem test_add : f32At (.add 0 (ins [(124, 2), (118, 1), (114, 7), (110, 7), (106, 7), (70, 1), (53, 4), (37, 1)]) true) 128 scratch =
    some 0x40400000 := by decide +kernel

/-- MAX of the same (R106). -/
theorem test_max : f32At (.max 0 (ins [(124, 2), (118, 5), (114, 7), (110, 7), (106, 7), (70, 1), (53, 4), (37, 1)]) true) 128 scratch =
    some 0x40000000 := by decide +kernel

/-- ABSMAX (R106). -/
theorem test_absmax : f32At (.absmax 0 (ins [(124, 2), (118, 18), (114, 7), (106, 7), (87, 1), (53, 4), (37, 1)]) true) 128 scratch =
    some 0x40000000 := by decide +kernel

/-- COPY moves 32 bytes within the core (R107). -/
theorem test_copy : f32At (.copy 0 (ins [(124, 3), (120, 1), (69, 128), (52, 1), (36, 1)])) 128 scratch = some 0x40000000 := by decide +kernel

/-- A shadow bank of engine 0 with a row that begins with 1.0 in E4M3. -/
def loaded : Device := (scratch.putByte 2 0 (laneAddr 1 0) 0x38).setEngine 0 { tiles := [(1, { rowCount := 1 })] }
/-- MAC with INIT and SWAP multiplies its row with its operand, 1.0 by 1.0 (R103). -/
theorem test_mac : ((after (.mac 0 (ins [(124, 1), (120, 2), (117, 1), (116, 1), (93, 1), (80, 1), (70, 1), (48, 64), (36, 1)])) loaded).map
    (fun t => (nget 0 (t.engine 0).acc 0).toNat)) = some 0x3F800000 := by decide +kernel

/-- The weight of an input is the number of hop values seen (R61). -/
theorem test_hopEpochEnd : ((after (.hopEpochEnd 11 0 1) { ready with fab := { epochAt := [(shareKey 11 0 1 0, 1024)], hopNow := [(shareKey 11 0 1 2, 0b1010001)] } }).map (fun t => nget 1 t.fab.weight (shareKey 11 0 1 2))) = some 3 := by decide +kernel

/-- A handshake timeout sets bit 6 of STAY_PORT_ERR and fails the port at both ends (R65, R73). -/
theorem test_handshakeTimeout : ((after (.handshakeTimeout 0 0) { ready with fab := { bufs := [(bufKey 1 2 0 0, [{ head := 0, ord := 0 }])] } }).map
    (fun t => (t.portState 0 0, t.portState 1 2, t.rdf Reg.STAY_PORT_ERR 0 6 6))) = some (4, 4, 1) := by decide +kernel

/-- A hold-up below 40 ms sets HOLDUP_LOW, below 8 ms HOLDUP_CRITICAL too (R493, R545). -/
theorem test_holdupMeasure : ((after (.holdupMeasure 100 39) ready).map (fun t => (t.rdf Reg.PWR_STATUS 0 11 11, t.rdf Reg.AVL_STATUS 0 7 7))) =
      some (1, 0) ∧
    ((after (.holdupMeasure 100 7) ready).map (fun t => (t.rdf Reg.PWR_STATUS 0 11 11, t.rdf Reg.AVL_STATUS 0 7 7))) = some (1, 1) := by
  decide +kernel

/-- The loss of the active feed switches to the other one: ON_BACKUP and PWR_SWITCHOVERS (R490). -/
theorem test_feedLost : ((after (.feedLost false 430) { ((ready.setFeed false 480 true).setFeed true 480 true) with sled := { up := true } }).map
    (fun t => (t.rdf Reg.PWR_STATUS 0 8 8, t.rd Reg.PWR_SWITCHOVERS 0))) = some (1, 1) := by decide +kernel

/-- At T_THROTTLE the thermal limit of a core falls by 25 MHz (R510). -/
theorem test_thermalThrottleStep : ((after (.thermalThrottleStep 5 105) (regs [(Reg.PWR_THERM_CTL, 0, 105),
    (Reg.PWR_CORE_FMAX_FACTORY, 5, 1400 + 1400 * 2 ^ 16)] { ready with pwr := { thermal := [(5, 1000)] } })).map
    (fun t => t.thermalLimit 5)) = some 975 := by decide +kernel

/-- A junction at 114 °C is stored and does not trip the compute plane (R510). -/
theorem test_thermalTrip : ((after (.thermalTrip 3 114) ready).map (fun t => (t.tripped, t.rdf Reg.PWR_DIE_TEMP 3 7 0))) = some (false, 114) := by
  decide +kernel

/-- The coolant alarm sets its alert alone (R586). -/
theorem test_coolantAlarm : reg (.coolantAlarm 41 300) Reg.SB_ALERT 0 = some 1 ∧ reg (.coolantAlarm 40 250) Reg.SB_ALERT 0 = some 0 := by
  decide +kernel

/-- A tamper event shows its kinds and is counted (R578). -/
theorem test_tamperEvent : ((after (.tamperEvent 42 5) ready).map (fun t => (t.rd Reg.SEC_DIE_TAMPER 42, t.rd Reg.SEC_TAMPER_COUNT 0))) =
    some (5, 1) := by decide +kernel

/-- The monitor answers a command above the present level with ERR 0701 (R576). -/
theorem test_weskoHalt : ((after (.weskoHalt 0) ready).map (fun t => t.out)) = some [.line false 0x0701 []] := by decide +kernel

/-- The device at debug level 2. -/
def dbg2 : Device := regs [(Reg.SEC_STATUS, 0, 16)] ready
/-- A memory word that the monitor writes, and one that it reads (R576). -/
theorem test_weskoMw : ((after (.weskoMw 0 7 32 0xAB) dbg2).map (fun t => leNat (t.readMem 0 7 32 16))) = some 0xAB := by decide +kernel

/-- The monitor's answer to a read (R576). -/
theorem test_weskoMr : ((after (.weskoMr 0 0 64 1) { scratch with regs := dbg2.regs }).map (fun t => t.out)) = some [.line true 0 [0x38]] := by
  decide +kernel

/-- A port of the link at 64 GT/s with eight lanes (R414). -/
theorem test_linkL0 : ((after (.linkL0 3 8 true) ready).map (fun t => t.rdf Reg.HIF_PORT_STATUS 0 6 0)) = some (3 + 8 * 4 + 64) := by
  decide +kernel

/-- A fence of a die shows in AVL_DIE_STATUS with its cause (R533, R551). -/
theorem test_dieFence : ((after (.dieFence 0 6) ready).map (fun t => (t.fenced 0, t.rdf Reg.AVL_DIE_STATUS 0 5 2))) = some (true, 6) := by
  decide +kernel

/-- A step takes the command at the front of the queue; on an empty queue a nanosecond passes (R30). -/
theorem test_step : (match step { toDevice := ready, pending := [.droopEvent 3, .heartbeat] } with
    | .next t => some (t.rd Reg.PWR_CORE_DROOP_EVENTS 3, t.pending)
    | _ => none) = some (1, [.heartbeat]) ∧
    (match step (st ready) with
    | .next t => some (t.now - ready.now)
    | _ => none) = some 1 := by decide +kernel


/-! ## States and operands that meet the hypotheses of the statements -/

/-- The hypotheses of StepRunsFront are met. -/
theorem witness_StepRunsFront :
    (∃ (s : State) (c : Instr) (rest : List Instr), s.pending = c :: rest) :=
  ⟨{ st ready with pending := [.heartbeat] }, .heartbeat, [], by decide +kernel⟩

/-- The hypotheses of IdleTick are met. -/
theorem witness_IdleTick :
    (∃ s : State, s.pending = [] ∧ s.sled.stage < 2) ∧
    (∃ s : State, s.pending = [] ∧ 2 ≤ s.sled.stage) :=
  ⟨⟨st ready, by decide +kernel⟩,
   ⟨st { ready with sled := { stage := 2 } }, by decide +kernel⟩⟩

/-- The hypotheses of QueueUntouched are met. -/
theorem witness_QueueUntouched :
    (∃ (c : Instr) (s t : State), exec c s = .next t) :=
  ⟨.perstAssert 1, st ready, st ready, rfl⟩

/-- The hypotheses of WellFormedRunsOn are met. -/
theorem witness_WellFormedRunsOn :
    (∃ s : State, s.queueOk = true) :=
  ⟨{ st ready with pending := [.heartbeat, .dieFence 99 7] }, by decide +kernel⟩

/-- The hypotheses of CountersClearedPerJobAndHandle are met. -/
theorem witness_CountersClearedPerJobAndHandle :
    (∃ (s : State) (p : Path) (v : BitVec 32), s.reaches p Reg.TIER_CNT_CLR 0 = true ∧ s.faults = [] ∧ v.getLsbD 0 = true) ∧
    (∃ (s : State) (p : Path) (j : Nat) (v : BitVec 32), j < 64 ∧ s.reaches p Reg.TIER_JOB_CNT_CLR j = true ∧ s.faults = [] ∧ v.getLsbD 0 = true) ∧
    (∃ (s : State) (p : Path) (j : Nat) (v : BitVec 32), j < 64 ∧ s.reaches p Reg.JOB_CNT_CLR j = true ∧ s.faults = [] ∧ v.getLsbD 0 = true) ∧
    (∃ (s : State) (p : Path) (j : Nat) (v : BitVec 32), j < 64 ∧ s.reaches p Reg.TKL_JOB_CNT_CLR j = true ∧ s.faults = [] ∧ v.getLsbD 0 = true) ∧
    (∃ (s : State) (p : Path) (j : Nat) (v : BitVec 32), j < 64 ∧ s.reaches p Reg.EMB_H_CNT_CLR j = true ∧ s.faults = [] ∧ v.getLsbD 0 = true) ∧
    (∃ (s : State) (p : Path) (j : Nat) (v : BitVec 32), j < 64 ∧ s.reaches p Reg.SRCH_H_CNT_CLR j = true ∧ s.faults = [] ∧ v.getLsbD 0 = true) ∧
    (∃ (s : State) (p : Path) (j : Nat) (v : BitVec 32), j < 16 ∧ s.reaches p Reg.HIF_LD_CNT_CLR j = true ∧ s.faults = [] ∧ v.getLsbD 0 = true) :=
  ⟨⟨st ready, .fabric, 1, by decide +kernel⟩,
   ⟨st ready, .fabric, 63, 1, by decide +kernel⟩,
   ⟨st ready, .fabric, 63, 1, by decide +kernel⟩,
   ⟨st ready, .fabric, 63, 1, by decide +kernel⟩,
   ⟨st ready, .fabric, 63, 1, by decide +kernel⟩,
   ⟨st ready, .fabric, 63, 1, by decide +kernel⟩,
   ⟨st ready, .fabric, 15, 1, by decide +kernel⟩⟩

/-- The hypotheses of CountersClearedPerUnit are met. -/
theorem witness_CountersClearedPerUnit :
    (∃ (s : State) (p : Path) (v : BitVec 32), s.reaches p Reg.PWR_CNT_CLR 0 = true ∧ s.faults = [] ∧ v.getLsbD 0 = true) ∧
    (∃ (s : State) (p : Path) (v : BitVec 32), s.reaches p Reg.AVL_CNT_CLR 0 = true ∧ s.faults = [] ∧ v.getLsbD 0 = true) ∧
    (∃ (s : State) (p : Path) (v : BitVec 32), s.reaches p Reg.SEC_CNT_CLR 0 = true ∧ s.faults = [] ∧ v.getLsbD 0 = true) ∧
    (∃ (s : State) (p : Path) (j : Nat) (v : BitVec 32), j < 224 ∧ s.reaches p Reg.MEDIA_CH_CNT_CLR j = true ∧ s.faults = [] ∧ v.getLsbD 0 = true) ∧
    (∃ (s : State) (p : Path) (j : Nat) (v : BitVec 32), j < 56 ∧ s.reaches p Reg.MEDIA_DIE_CNT_CLR j = true ∧ s.faults = [] ∧ v.getLsbD 0 = true) ∧
    (∃ (s : State) (p : Path) (j : Nat) (v : BitVec 32), j < 56 ∧ s.reaches p Reg.FTL_CNT_CLR j = true ∧ s.faults = [] ∧ v.getLsbD 0 = true) ∧
    (∃ (s : State) (p : Path) (j : Nat) (v : BitVec 32), j < 400 ∧ s.reaches p Reg.MEM_CORE_CNT_CLR j = true ∧ s.faults = [] ∧ v.getLsbD 0 = true) ∧
    (∃ (s : State) (p : Path) (j : Nat) (v : BitVec 32), j < 100 ∧ s.reaches p Reg.MEM_DIE_CNT_CLR j = true ∧ s.faults = [] ∧ v.getLsbD 0 = true) ∧
    (∃ (s : State) (p : Path) (j : Nat) (v : BitVec 32), j < 400 ∧ s.reaches p Reg.QNT_CNT_CLR j = true ∧ s.faults = [] ∧ v.getLsbD 0 = true ∧ v.getLsbD 4 = true ∧ v.getLsbD 5 = true) ∧
    (∃ (s : State) (p : Path) (j : Nat) (v : BitVec 32), j < 100 ∧ s.reaches p Reg.STAY_CNT_CLR j = true ∧ s.faults = [] ∧ v.getLsbD 0 = true ∧ v.getLsbD 4 = true ∧ v.getLsbD 5 = true) ∧
    (∃ (s : State) (p : Path) (v : BitVec 32), s.reaches p Reg.QNT_CNT_CLR 0 = true ∧ s.reaches p Reg.STAY_CNT_CLR 0 = true ∧ s.faults = [] ∧ v.toNat % 64 = 0 ∧ v.getLsbD 4 = false) :=
  ⟨⟨st ready, .fabric, 1, by decide +kernel⟩,
   ⟨st ready, .fabric, 1, by decide +kernel⟩,
   ⟨st ready, .fabric, 1, by decide +kernel⟩,
   ⟨st ready, .fabric, 223, 0x3F, by decide +kernel⟩,
   ⟨st ready, .fabric, 55, 0x3F, by decide +kernel⟩,
   ⟨st ready, .fabric, 55, 0x3F, by decide +kernel⟩,
   ⟨st ready, .fabric, 399, 0x3F, by decide +kernel⟩,
   ⟨st ready, .fabric, 99, 0x3F, by decide +kernel⟩,
   ⟨st ready, .fabric, 399, 0x3F, by decide +kernel⟩,
   ⟨st ready, .fabric, 99, 0x3F, by decide +kernel⟩,
   ⟨st ready, .fabric, 0x40, by decide +kernel⟩⟩

/-- The hypotheses of CapWrite are met. -/
theorem witness_CapWrite :
    (∃ (s : State) (p : Path) (v : BitVec 32), s.reaches p Reg.PWR_CAP_W 0 = true ∧ s.faults = [] ∧ s.rd Reg.PWR_CAP_W 0 < 4096 ∧ v.toNat < 4096 ∧ v.toNat < 1200) ∧
    (∃ (s : State) (p : Path) (v : BitVec 32), s.reaches p Reg.PWR_CAP_W 0 = true ∧ s.faults = [] ∧ s.rd Reg.PWR_CAP_W 0 < 4096 ∧ v.toNat < 4096 ∧ 3000 < v.toNat) ∧
    (∃ (s : State) (p : Path) (v : BitVec 32), s.reaches p Reg.PWR_CAP_W 0 = true ∧ s.faults = [] ∧ s.rd Reg.PWR_CAP_W 0 < 4096 ∧ v.toNat < 4096 ∧ 1200 ≤ v.toNat) ∧
    (∃ (s : State) (p : Path) (v : BitVec 32), s.reaches p Reg.PWR_CAP_W 0 = true ∧ s.faults = [] ∧ s.rd Reg.PWR_CAP_W 0 < 4096 ∧ v.toNat < 4096 ∧ v.toNat ≤ 3000 ∧ s.ps = 0) ∧
    (∃ (s : State) (p : Path) (ld : Nat), s.reaches p Reg.PWR_CAP_W 0 = true ∧ ld < 16 ∧ s.rdf Reg.HIF_LD_STATUS ld 0 0 = 1) :=
  ⟨⟨st ready, .fabric, 1199, by decide +kernel⟩,
   ⟨st ready, .fabric, 3001, by decide +kernel⟩,
   ⟨st ready, .fabric, 1200, by decide +kernel⟩,
   ⟨st ready, .fabric, 3000, by decide +kernel⟩,
   ⟨st (regs [(Reg.HIF_LD_STATUS, 15, 1)]), .fabric, 15, by decide +kernel⟩⟩

/-- The hypotheses of QosWrite are met. -/
theorem witness_QosWrite :
    (∃ (s : State) (p : Path) (ld : Nat) (v : BitVec 32), ld < 16 ∧ s.reaches p Reg.HIF_LD_QOS ld = true ∧ s.faults = [] ∧ s.rd Reg.HIF_LD_QOS ld < 2 ^ 32 ∧ v.toNat % 128 = 0) ∧
    (∃ (s : State) (p : Path) (ld : Nat) (v : BitVec 32), ld < 16 ∧ s.reaches p Reg.HIF_LD_QOS ld = true ∧ s.faults = [] ∧ s.rd Reg.HIF_LD_QOS ld < 2 ^ 32 ∧ 64 < v.toNat % 128) ∧
    (∃ (s : State) (p : Path) (ld : Nat) (v : BitVec 32), ld < 16 ∧ s.reaches p Reg.HIF_LD_QOS ld = true ∧ s.faults = [] ∧ s.rd Reg.HIF_LD_QOS ld < 2 ^ 32 ∧ 1 ≤ v.toNat % 128) ∧
    (∃ (s : State) (p : Path) (ld : Nat) (v : BitVec 32), ld < 16 ∧ s.reaches p Reg.HIF_LD_QOS ld = true ∧ s.faults = [] ∧ s.rd Reg.HIF_LD_QOS ld < 2 ^ 32 ∧ v.toNat % 128 ≤ 64 ∧ v.toNat % 128 ≠ 0) :=
  ⟨⟨st ready, .fabric, 15, 128, by decide +kernel⟩,
   ⟨st ready, .fabric, 15, 65, by decide +kernel⟩,
   ⟨st ready, .fabric, 15, 1, by decide +kernel⟩,
   ⟨st ready, .fabric, 15, 0xFFFF0040, by decide +kernel⟩⟩

/-- The hypotheses of RegisterOperations, part 1, are met. -/
theorem witness_RegisterOperations_1 :
    (∃ (s : State) (p : Path) (j : Nat) (v : BitVec 32), j < 56 ∧ s.reaches p Reg.MEDIA_RAW_GRANT j = true ∧ v.getLsbD 31 = true ∧ (s.rawGrant j v.toNat).1 = St.ok) ∧
    (∃ (s : State) (p : Path) (j : Nat) (v : BitVec 32), j < 56 ∧ s.reaches p Reg.MEDIA_RAW_GRANT j = true ∧ v.getLsbD 31 = true ∧ (s.rawGrant j v.toNat).1 ≠ St.ok) ∧
    (∃ (s : State) (p : Path) (j : Nat) (v : BitVec 32), j < 56 ∧ s.reaches p Reg.MEDIA_RAW_GRANT j = true ∧ v.getLsbD 30 = true ∧ (s.rawGrant j v.toNat).1 = St.ok) ∧
    (∃ (s : State) (p : Path) (j : Nat) (v : BitVec 32), j < 56 ∧ s.reaches p Reg.MEDIA_RAW_GRANT j = true ∧ v.getLsbD 30 = true ∧ (s.rawGrant j v.toNat).1 ≠ St.ok) ∧
    (∃ (s : State) (p : Path) (j : Nat) (v : BitVec 32), j < 400 ∧ s.reaches p Reg.MEM_SCRUB_CTL_CORE j = true ∧ v.getLsbD 0 = true ∧ (s.scrubCtl j v.toNat).isSome = true) ∧
    (∃ (s : State) (p : Path) (j : Nat) (v : BitVec 32), j < 400 ∧ s.reaches p Reg.MEM_SCRUB_CTL_CORE j = true ∧ v.getLsbD 0 = true ∧ s.scrubCtl j v.toNat = none) ∧
    (∃ (s : State) (p : Path) (j : Nat) (v : BitVec 32), j < 100 ∧ s.reaches p Reg.MEM_SCRUB_CTL_DIE j = true ∧ v.getLsbD 0 = true ∧ (s.scrubCtl (0x200 + j) v.toNat).isSome = true) ∧
    (∃ (s : State) (p : Path) (j : Nat) (v : BitVec 32), j < 100 ∧ s.reaches p Reg.MEM_SCRUB_CTL_DIE j = true ∧ v.getLsbD 0 = true ∧ s.scrubCtl (0x200 + j) v.toNat = none) ∧
    (∃ (s : State) (p : Path) (j : Nat) (v : BitVec 32), j < 400 ∧ s.reaches p Reg.MEM_SCRUB_CTL_CORE j = true ∧ v.getLsbD 1 = true ∧ (s.scrubCtl j v.toNat).isSome = true) ∧
    (∃ (s : State) (p : Path) (j : Nat) (v : BitVec 32), j < 100 ∧ s.reaches p Reg.MEM_SCRUB_CTL_DIE j = true ∧ v.getLsbD 1 = true ∧ (s.scrubCtl (0x200 + j) v.toNat).isSome = true) ∧
    (∃ (s : State) (p : Path) (j : Nat) (v : BitVec 32), j < 400 ∧ s.reaches p Reg.MEM_CORE_RET j = true ∧ (s.retain j v.toNat).isSome = true) ∧
    (∃ (s : State) (p : Path) (j : Nat), j < 400 ∧ s.reaches p Reg.MEM_CORE_RET j = true ∧ s.rdf Reg.CORE_STATE j 2 0 ≠ 1 ∧ s.rdf Reg.CORE_STATE j 2 0 ≠ 6) :=
  ⟨⟨st ready, .fabric, 55, 0x80000000, by decide +kernel⟩,
   ⟨st ready, .fabric, 55, 0x8001FFFF, by decide +kernel⟩,
   ⟨st (ready.rawGrant 55 0x80000000).2, .fabric, 55, 0x40000000, by decide +kernel⟩,
   ⟨st ready, .fabric, 55, 0x40000000, by decide +kernel⟩,
   ⟨st ready, .fabric, 399, 0x21, by decide +kernel⟩,
   ⟨st ready, .fabric, 399, 0x01, by decide +kernel⟩,
   ⟨st (regs [(Reg.MEM_SCRUB_LEN_CORE, 0x200 + 3, 16)]), .fabric, 3, 0x51, by decide +kernel⟩,
   ⟨st ready, .fabric, 99, 0x51, by decide +kernel⟩,
   ⟨st ready, .fabric, 399, 2, by decide +kernel⟩,
   ⟨st ready, .fabric, 99, 2, by decide +kernel⟩,
   ⟨st ready, .fabric, 399, 1, by decide +kernel⟩,
   ⟨st (regs [(Reg.CORE_STATE, 399, 2)]), .fabric, 399, by decide +kernel⟩⟩

/-- The hypotheses of RegisterOperations, part 2, are met. -/
theorem witness_RegisterOperations_2 :
    (∃ (s : State) (p : Path) (j : Nat) (v : BitVec 32), s.reaches p Reg.AVL_SWAP j = true ∧ v.getLsbD 0 = true ∧ s.rdf Reg.AVL_STATUS 0 1 1 = 0) ∧
    (∃ (s : State) (p : Path) (j : Nat) (v : BitVec 32), s.reaches p Reg.AVL_SWAP j = true ∧ v.getLsbD 0 = true ∧ s.rdf Reg.AVL_STATUS 0 1 1 = 1 ∧ s.rdf Reg.AVL_STATUS 0 4 4 = 0) ∧
    (∃ (s : State) (p : Path) (j : Nat) (v : BitVec 32), s.reaches p Reg.AVL_SWAP j = true ∧ v.getLsbD 0 = true ∧ s.rdf Reg.AVL_STATUS 0 4 4 = 1) ∧
    (∃ (s : State) (p : Path) (j : Nat) (v : BitVec 32), j < 100 ∧ s.reaches p Reg.AVL_ST_RUN j = true ∧ v.getLsbD 0 = true) ∧
    (∃ (s : State) (p : Path) (v : BitVec 32), s.reaches p Reg.AVL_ROT_CTL 0 = true ∧ v.toNat < 2 ^ 13 ∧ 60 ≤ v.toNat / 2 ∧ v.toNat / 2 ≤ 3600 ∧ v.getLsbD 0 = true ∧ s.rd Reg.AVL_ROT_CTL 0 < 2 ^ 13 ∧ s.rdf Reg.AVL_ROT_CTL 0 0 0 = 0) ∧
    (∃ v : BitVec 32, v.toNat < 2 ^ 13 ∧ v.toNat / 2 ≤ 3600 ∧ v.getLsbD 0 = true ∧ 3600 = v.toNat / 2) :=
  ⟨⟨st ready, .fabric, 0, 1, by decide +kernel⟩,
   ⟨st (regs [(Reg.AVL_STATUS, 0, 2)]), .fabric, 0, 1, by decide +kernel⟩,
   ⟨st (regs [(Reg.AVL_STATUS, 0, 0x12)]), .fabric, 0, 1, by decide +kernel⟩,
   ⟨st ready, .fabric, 99, 1, by decide +kernel⟩,
   ⟨st (regs [(Reg.AVL_ROT_CTL, 0, 0x4B0)]), .fabric, 0x79, by decide +kernel⟩,
   ⟨0x1C21, by decide +kernel⟩⟩

/-- The hypotheses of RegisterWriteByPath are met. -/
theorem witness_RegisterWriteByPath :
    (∃ (s : State) (p : Path), pathOk p = true ∧ s.draw.2.regPath p = false) ∧
    (∃ (s : State) (p : Path) (a : Nat), pathOk p = true ∧ (s.draw.2.accessFails p a false true).isSome = true) ∧
    (∃ (s : State) (p : Path) (a : Nat), pathOk p = true ∧ s.draw.2.regPath p = true ∧ ((regAt a).map (fun x => x.2.1.access)) = some .ro ∧ s.faults = []) ∧
    (∃ (s : State) (p : Path) (a : Nat) (v : BitVec 64), pathOk p = true ∧ s.draw.2.regPath p = true ∧ s.draw.2.accessFails p a false true = none ∧ (regAt a).map (fun x => decide (x.2.1.access ≠ .ro) && checksOk x.2.1 v.toNat &&
      (s.draw.2.regEffect p none (s.draw.1 % 2 == 0) a x.2.1 (posOf a x.1 x.2.1 x.2.2) v.toNat).1 == some St.ok) = some true) ∧
    (∃ (s : State) (ld : Nat), ld < 16 ∧ s.hubRuns = true) :=
  ⟨⟨st { ready with sled := { stage := 1 } }, .fabric, by decide +kernel⟩,
   ⟨st ready, .fabric, 0xFFFFFFFF, by decide +kernel⟩,
   ⟨st ready, .fabric, regAddr Reg.HIF_ADMIT_MAX 0, by decide +kernel⟩,
   ⟨st ready, .fabric, regAddr Reg.PWR_CAP_W 0, 2000, by decide +kernel⟩,
   ⟨st ready, 15, by decide +kernel⟩⟩

/-- The hypotheses of MailboxSlots are met. -/
theorem witness_MailboxSlots :
    (∃ (s : State) (ld mb : Nat), ld < 16 ∧ mb < 64 ∧ (s.mbox ld mb).enabled = false) ∧
    (∃ (s : State) (ld mb : Nat), ld < 16 ∧ mb < 64 ∧ (s.mbox ld mb).resetting = true) ∧
    (∃ (s : State) (ld mb : Nat) (v : BitVec 32), ld < 16 ∧ mb < 64 ∧ (s.mbox ld mb).enabled = true ∧ (s.mbox ld mb).resetting = false ∧ s.sled.stage = 0 ∧
      (v.toNat % 256 + 256 - (s.mbox ld mb).tail) % 256 ≠ 0) ∧
    (∃ (s : State) (ld mb : Nat), ld < 16 ∧ mb < 64 ∧ (s.mbox ld mb).bells ≠ [] ∧ nextMb (s.ld ld).fetchMb (s.mayFetch ld) = some mb ∧ (s.mbox ld mb).resetting = false ∧
      s.poisonIn 7 42 (slotAt ld mb (s.mbox ld mb).sqHead) 64 = []) ∧
    (∃ (s : State) (ld mb : Nat), ld < 16 ∧ mb < 64 ∧ (s.mbox ld mb).bells ≠ [] ∧ nextMb (s.ld ld).fetchMb (s.mayFetch ld) = some mb ∧ (s.mbox ld mb).resetting = true ∧
      s.poisonIn 7 42 (slotAt ld mb (s.mbox ld mb).sqHead) 64 = []) ∧
    (∃ (s : State) (ld mb : Nat), ld < 16 ∧ mb < 64 ∧ (s.mbox ld mb).bells ≠ [] ∧ nextMb (s.ld ld).fetchMb (s.mayFetch ld) = some mb ∧ (s.mbox ld mb).resetting = false ∧
      s.poisonIn 7 42 (slotAt ld mb (s.mbox ld mb).sqHead) 64 ≠ []) ∧
    (∃ (s : State) (ld mb : Nat), ld < 16 ∧ mb < 64 ∧ nextMb (s.ld ld).fetchMb (s.mayFetch ld) ≠ some mb) :=
  ⟨⟨st ready, 15, 63, by decide +kernel⟩,
   ⟨st (ready.setMb 0 0 { enabled := true, resetting := true }), 0, 0, by decide +kernel⟩,
   ⟨st (ready.setMb 0 0 { enabled := true, tail := 255 }), 0, 0, 0, by decide +kernel⟩,
   ⟨st ((regs [(Reg.HIF_PORT_STATUS, 0, 1)] ready).setMb 0 0 { enabled := true, resetting := false, bells := [⟨1, 0, 0, 0⟩] }), 0, 0, by decide +kernel⟩,
   ⟨st ((regs [(Reg.HIF_PORT_STATUS, 0, 1)] ready).setMb 0 0 { enabled := true, resetting := true, bells := [⟨1, 0, 0, 0⟩] }), 0, 0, by decide +kernel⟩,
   ⟨st ((regs [(Reg.HIF_PORT_STATUS, 0, 1)] (ready.markPoison 7 42 0 true)).setMb 0 0 { enabled := true, resetting := false, bells := [⟨1, 0, 0, 0⟩] }), 0, 0, by decide +kernel⟩,
   ⟨st ready, 15, 63, by decide +kernel⟩⟩

/-- The hypotheses of MailboxControl are met. -/
theorem witness_MailboxControl :
    (∃ (s : State) (ld mb : Nat) (v : BitVec 32), ld < 16 ∧ mb < 64 ∧ s.sled.stage = 0 ∧ v.getLsbD 0 = true ∧ v.getLsbD 1 = false) ∧
    (∃ (s : State) (ld mb : Nat) (v : BitVec 32), ld < 16 ∧ mb < 64 ∧ s.sled.stage = 0 ∧ v.getLsbD 0 = false ∧ v.getLsbD 1 = false ∧ (s.mbox ld mb).waiting = 0 ∧ s.mbCmds ld mb = []) ∧
    (∃ (s : State) (ld mb : Nat) (v : BitVec 32), s.sled.stage = 0 ∧ v.getLsbD 0 = false ∧ v.getLsbD 1 = false ∧ (s.mbox ld mb).waiting ≠ 0 ∧ (s.mbox ld mb).resetting = false) ∧
    (∃ (s : State) (ld mb : Nat) (v : BitVec 32), s.sled.stage = 0 ∧ v.getLsbD 0 = false ∧ v.getLsbD 1 = false ∧ s.mbCmds ld mb ≠ [] ∧ (s.mbox ld mb).resetting = false) ∧
    (∃ (s : State) (ld mb : Nat) (v : BitVec 32), s.sled.stage = 0 ∧ v.getLsbD 0 = false ∧ (s.mbox ld mb).resetting = false) ∧
    (∃ (s : State) (ld mb : Nat), ld < 16 ∧ mb < 64 ∧ (s.mbox ld mb).resetting = true ∧ (s.mbox ld mb).waiting = 0 ∧ s.mbCmds ld mb = []) ∧
    (∃ (s : State) (ld mb : Nat), (s.mbox ld mb).resetting = true ∧ (s.mbox ld mb).waiting ≠ 0) :=
  ⟨⟨st ready, 15, 63, 1, by decide +kernel⟩,
   ⟨st ready, 15, 63, 0, by decide +kernel⟩,
   ⟨st (ready.setMb 0 0 { bells := [⟨1, 0, 0, 0⟩] }), 0, 0, 0, by decide +kernel⟩,
   ⟨st { ready with cmds := [pend 0 [] .fetched] }, 0, 0, 0, by decide +kernel⟩,
   ⟨st ready, 0, 0, 2, by decide +kernel⟩,
   ⟨st (ready.setMb 15 63 { resetting := true }), 15, 63, by decide +kernel⟩,
   ⟨st (ready.setMb 15 63 { resetting := true, bells := [⟨1, 0, 0, 0⟩] }), 15, 63, by decide +kernel⟩⟩

/-- The hypotheses of CommandPipeline, part 1, are met. -/
theorem witness_CommandPipeline_1 :
    (∃ (s : State) (ld mb : Nat), ld < 16 ∧ mb < 64 ∧ (s.mbReady ld mb).isSome = true ∧ nextMb (s.ld ld).admitMb (fun m => (s.mbReady ld m).isSome) = some mb ∧ s.hubRuns = true ∧ s.linkUp = true ∧ s.rd Reg.HIF_ADMITTED 0 < s.rd Reg.HIF_ADMIT_MAX 0 ∧ s.hif.scarce = false) ∧
    (∃ (s : State) (ld mb : Nat), ld < 16 ∧ mb < 64 ∧ (s.mbReady ld mb).isSome = true ∧ nextMb (s.ld ld).admitMb (fun m => (s.mbReady ld m).isSome) = some mb ∧ s.hubRuns = true ∧ s.linkUp = true ∧ s.rd Reg.HIF_ADMITTED 0 < s.rd Reg.HIF_ADMIT_MAX 0 ∧ s.turnLd = some ld) ∧
    (∃ (s : State) (ld mb : Nat), ld < 16 ∧ mb < 64 ∧ (s.mbReady ld mb).isSome = true ∧ nextMb (s.ld ld).admitMb (fun m => (s.mbReady ld m).isSome) = some mb ∧ s.hubRuns = true ∧ s.linkUp = true ∧ s.rd Reg.HIF_ADMIT_MAX 0 ≤ s.rd Reg.HIF_ADMITTED 0) ∧
    (∃ (s : State) (n : Nat) (p : Pending), s.cmd n = some p ∧ p.n = n ∧ p.phase = .admitted ∧ p.held = none ∧ s.hubRuns = true ∧ s.heldBy p = none ∧ opcodes.contains (fld p.slot 0 1) = true) ∧
    (∃ (s : State) (n : Nat) (p : Pending), s.cmd n = some p ∧ p.n = n ∧ p.phase = .admitted ∧ p.held = none ∧ s.hubRuns = true ∧ s.heldBy p = none ∧ opcodes.contains (fld p.slot 0 1) = false) ∧
    (∃ (s : State) (n : Nat) (p : Pending), s.cmd n = some p ∧ p.n = n ∧ p.phase = .admitted ∧ p.held = none ∧ s.hubRuns = true ∧ (s.heldBy p).isSome = true) ∧
    (∃ (s : State) (n : Nat) (p : Pending), s.cmd n = some p ∧ p.phase = .fetched ∧ p.silent = false ∧ fld p.slot 4 2 ≠ 0 ∧ fld p.slot 4 2 * 1000000 ≤ s.fullTime - p.full) ∧
    (∃ (s : State) (n : Nat) (p : Pending), s.cmd n = some p ∧ p.phase = .fetched ∧ p.silent = false ∧ fld p.slot 4 2 ≠ 0 ∧ s.fullTime - p.full < fld p.slot 4 2 * 1000000) ∧
    (∃ (s : State) (n : Nat) (p : Pending), s.cmd n = some p ∧ p.phase = .fetched ∧ p.silent = false ∧ fld p.slot 4 2 = 0 ∧ s.rdf Reg.HIF_LD_QOS p.ld 31 16 = 0) ∧
    (∃ (s : State) (n : Nat) (p : Pending), s.cmd n = some p ∧ p.phase = .ended ∧ s.hubRuns = true ∧ p.silent = false ∧ (s.mbox p.ld p.mb).fault = false ∧ s.linkUp = true ∧ s.dmaLd = some p.ld) ∧
    (∃ (s : State) (n : Nat) (p : Pending), s.cmd n = some p ∧ p.phase = .ended ∧ s.hubRuns = true ∧ p.silent = true) ∧
    (∃ (s : State) (n : Nat) (p : Pending), s.cmd n = some p ∧ p.phase = .ended ∧ s.hubRuns = true ∧ (s.mbox p.ld p.mb).fault = true) :=
  ⟨⟨st { (regs [(Reg.HIF_PORT_STATUS, 0, 1)] ready) with cmds := [pend 0 [] .fetched] }, 0, 0, by decide +kernel⟩,
   ⟨st { (regs [(Reg.HIF_PORT_STATUS, 0, 1), (Reg.HIF_ADMITTED, 0, 8191)] ready) with cmds := [pend 0 [] .fetched], hif := { scarce := true } }, 0, 0, by decide +kernel⟩,
   ⟨st { (regs [(Reg.HIF_PORT_STATUS, 0, 1), (Reg.HIF_ADMITTED, 0, 8192)] ready) with cmds := [pend 0 [] .fetched] }, 0, 0, by decide +kernel⟩,
   ⟨st { ready with cmds := [pend 0 [] .admitted] }, 0, pend 0 [] .admitted, by decide +kernel⟩,
   ⟨st { ready with cmds := [pend 0 [(0, 0xFF)] .admitted] }, 0, pend 0 [(0, 0xFF)] .admitted, by decide +kernel⟩,
   ⟨st { State.reset.toDevice with cmds := [pend 0 [(0, 1)] .admitted] }, 0, pend 0 [(0, 1)] .admitted, by decide +kernel⟩,
   ⟨st { ready with cmds := [pend 0 [(4, 1)] .fetched], hif := { fullNs := 1000000 } }, 0, pend 0 [(4, 1)] .fetched, by decide +kernel⟩,
   ⟨st { ready with cmds := [pend 0 [(4, 1)] .fetched], hif := { fullNs := 999999 } }, 0, pend 0 [(4, 1)] .fetched, by decide +kernel⟩,
   ⟨st { regs [(Reg.HIF_LD_QOS, 0, 1)] with cmds := [pend 0 [] .fetched] }, 0, pend 0 [] .fetched, by decide +kernel⟩,
   ⟨st { (regs [(Reg.HIF_PORT_STATUS, 0, 1)] ready) with cmds := [pend 0 [] .ended] }, 0, pend 0 [] .ended, by decide +kernel⟩,
   ⟨st { (regs [(Reg.HIF_PORT_STATUS, 0, 1)] ready) with cmds := [{ pend 0 [] .ended with silent := true }] }, 0, { pend 0 [] .ended with silent := true }, by decide +kernel⟩,
   ⟨st { (regs [(Reg.HIF_PORT_STATUS, 0, 1)] ready).setMb 0 0 { fault := true } with cmds := [pend 0 [] .ended] }, 0, pend 0 [] .ended, by decide +kernel⟩⟩

/-- The hypotheses of CommandPipeline, part 2, are met. -/
theorem witness_CommandPipeline_2 :
    (∃ (s : State) (ld mb : Nat), ld < 16 ∧ mb < 64 ∧ (s.mbox ld mb).intPending ≠ 0 ∧ bits (s.mbox ld mb).ctl 27 18 ≠ 0 ∧
      1000 * bits (s.mbox ld mb).ctl 27 18 ≤ s.now - (s.mbox ld mb).intSince ∧ s.linkUp = true) ∧
    (∃ (s : State) (n r t : Nat) (p : Pending), s.cmd n = some p ∧ p.phase = .admitted ∧ s.hubRuns = true ∧ s.heldBy p = some r ∧ p.held = some (r, t)) :=
  ⟨⟨st { ((regs [(Reg.HIF_PORT_STATUS, 0, 1)] ready).setMb 15 63 { intPending := 1, ctl := 2 ^ 18 }) with clocks := [(0, { counter := 1000, ran := 1000 })] }, 15, 63, by decide +kernel⟩,
   ⟨st { State.reset.toDevice with cmds := [{ pend 0 [(0, 1)] .admitted with held := some (((st State.reset.toDevice).heldBy (pend 0 [(0, 1)] .admitted)).getD 0, 0) }] }, 0, ((st State.reset.toDevice).heldBy (pend 0 [(0, 1)] .admitted)).getD 0, 0, { pend 0 [(0, 1)] .admitted with held := some (((st State.reset.toDevice).heldBy (pend 0 [(0, 1)] .admitted)).getD 0, 0) }, by decide +kernel⟩⟩

/-- The hypotheses of DmaReject are met. -/
theorem witness_DmaReject :
    (∃ (s : State) (n hreg : Nat) (p : Pending), s.cmd n = some p ∧ cmdHreg p.slot ≠ some hreg) ∧
    (∃ (s : State) (n hreg : Nat) (p : Pending), s.cmd n = some p ∧ p.phase = .started ∧ p.ran = true ∧ cmdHreg p.slot = some hreg ∧ fld p.slot 0 1 = 0x02) ∧
    (∃ (s : State) (n hreg : Nat) (p : Pending), s.cmd n = some p ∧ p.phase = .started ∧ p.ran = true ∧ cmdHreg p.slot = some hreg ∧ fld p.slot 0 1 = 0x01 ∧ ((s.dmaErrorRecord p hreg 0).media.ios.find? (fun q => q.n = n)).isSome = true) ∧
    (∃ (s : State) (n hreg : Nat) (p : Pending), s.cmd n = some p ∧ p.phase = .started ∧ p.ran = true ∧ cmdHreg p.slot = some hreg ∧ fld p.slot 0 1 = 0x23 ∧ ((s.dmaErrorRecord p hreg 0).work.disps.find? (fun e => e.n = n)).isSome = true) ∧
    (∃ (s : State) (n hreg : Nat) (p : Pending), s.cmd n = some p ∧ p.phase = .started ∧ p.ran = true ∧ cmdHreg p.slot = some hreg ∧ fld p.slot 0 1 = 0x30) :=
  ⟨⟨st { ready with cmds := [pend 0 [(0, 1)] .started] }, 0, 0, pend 0 [(0, 1)] .started, by decide +kernel⟩,
   ⟨st { ready with cmds := [pend 0 [(0, 2), (17, 1)] .started] }, 0, 0, pend 0 [(0, 2), (17, 1)] .started, by decide +kernel⟩,
   ⟨st { ready with cmds := [pend 0 [(0, 1), (17, 1)] .started], media := { ios := [⟨0, 1, 0, none⟩] } }, 0, 0, pend 0 [(0, 1), (17, 1)] .started, by decide +kernel⟩,
   ⟨st { ready with cmds := [pend 0 [(0, 0x23), (44, 1)] .started], work := { disps := [dispx] } }, 0, 0, pend 0 [(0, 0x23), (44, 1)] .started, by decide +kernel⟩,
   ⟨st { ready with cmds := [pend 0 [(0, 0x30), (24, 2)] .started] }, 0, 0, pend 0 [(0, 0x30), (24, 2)] .started, by decide +kernel⟩⟩

/-- The hypotheses of LogicalDevices are met. -/
theorem witness_LogicalDevices :
    (∃ (s : State) (ld : Nat), ld < 16 ∧ s.rdf Reg.HIF_LD_STATUS ld 0 0 = 1) ∧
    (∃ (s : State) (ld : Nat), ld < 16 ∧ s.rdf Reg.HIF_LD_STATUS ld 0 0 = 0) ∧
    (∃ (s : State) (ld u : Nat), ld < 16 ∧ u ≤ 256 ∧ s.rdf Reg.HIF_LD_STATUS ld 0 0 = 1) ∧
    (∃ (s : State) (ld u : Nat), ld < 16 ∧ u ≤ 256 ∧ s.sled.stage ≠ 0) ∧
    (∃ (s : State) (ld u : Nat), ld < 16 ∧ u ≤ 256 ∧ s.rdf Reg.HIF_LD_STATUS ld 0 0 = 0 ∧ s.sled.stage = 0 ∧ s.spars ≠ [] ∧ 0 < u ∧
      (s.wr Reg.HIF_LD_STATUS ld (1 + u % 512 * 2 ^ 2)).pinExceeds ((List.range s.spars.length).map (fun i => (s.spars.getD i 0, (u * 128 + s.spars.length - 1 - i) / s.spars.length))) = true) ∧
    (∃ (s : State) (ld u : Nat), ld < 16 ∧ u ≤ 256 ∧ s.rdf Reg.HIF_LD_STATUS ld 0 0 = 0 ∧ s.sled.stage = 0 ∧ s.spars ≠ [] ∧
      (s.wr Reg.HIF_LD_STATUS ld (1 + u % 512 * 2 ^ 2)).pinExceeds ((List.range s.spars.length).map (fun i => (s.spars.getD i 0, (u * 128 + s.spars.length - 1 - i) / s.spars.length))) = false ∧
      ((s.wr Reg.HIF_LD_STATUS ld (1 + u % 512 * 2 ^ 2)).pinWindow s.spars (u * 128)).isSome = true) :=
  ⟨⟨st (regs [(Reg.HIF_LD_STATUS, 15, 1)]), 15, by decide +kernel⟩,
   ⟨st ready, 15, by decide +kernel⟩,
   ⟨st (regs [(Reg.HIF_LD_STATUS, 15, 1)]), 15, 256, by decide +kernel⟩,
   ⟨st { ready with sled := { stage := 1 } }, 15, 256, by decide +kernel⟩,
   ⟨st (regs [(Reg.TIER_PIN_LIMIT, 0, 0)]), 15, 1, by decide +kernel⟩,
   ⟨st ready, 15, 0, by decide +kernel⟩⟩

/-- The hypotheses of CxlMem are met. -/
theorem witness_CxlMem :
    (∃ (s : State) (ld off : Nat) (data : List Byte), memReqOk ld off data.length = true ∧ s.memReaches ld off data.length = true) ∧
    (∃ (s : State) (ld off : Nat) (data : List Byte), memReqOk ld off data.length = true ∧ s.memReaches ld off data.length = false) ∧
    (∃ (s : State) (ld off : Nat) (data : List Byte), memReqOk ld off data.length = true ∧ s.linkUp = false ∧ s.memReaches ld off data.length = false) :=
  ⟨⟨st { (regs [(Reg.HIF_PORT_STATUS, 0, 1)] ready) with hif := busy.hif }, 0, 0x1FFFC0, List.replicate 64 0, by decide +kernel⟩,
   ⟨st { (regs [(Reg.HIF_PORT_STATUS, 0, 1)] ready) with hif := busy.hif }, 0, 0x200000, [0], by decide +kernel⟩,
   ⟨st busy, 0, 0, [0], by decide +kernel⟩⟩

/-- The hypotheses of MemoryDeviceMailbox are met. -/
theorem witness_MemoryDeviceMailbox :
    (∃ ld : Nat, ld < 16) :=
  ⟨15, by decide +kernel⟩

/-- The hypotheses of ReservedFieldsEndCommand are met. -/
theorem witness_ReservedFieldsEndCommand :
    (∃ (c : Cmd) (r : RyernRow), r ∈ ryernRows c 0 false ∧ r.instr.wf = true ∧ headerBad c.slot r.reserved = true) ∧
    (∃ (c : Cmd) (r : RyernRow), r ∈ ryernRows c 0 false ∧ r.instr.wf = true ∧ headerBad c.slot r.reserved = true) :=
  ⟨⟨cmd [(16, 1)], ⟨.nop (cmd [(16, 1)]), 0x00, bytesOf 16 63, false⟩, List.mem_cons_self, by decide +kernel⟩,
   ⟨cmd [(1, 0x80)], ⟨.nop (cmd [(1, 0x80)]), 0x00, bytesOf 16 63, false⟩, List.mem_cons_self, by decide +kernel⟩⟩

/-- The hypotheses of DeniedLockedAndHeldCommands are met. -/
theorem witness_DeniedLockedAndHeldCommands :
    (∃ (s : State) (c : Cmd) (r : RyernRow), r ∈ ryernRows c 0 false ∧ r.instr.wf = true ∧ headerBad c.slot r.reserved = false ∧ r.admin = true ∧ c.ld ≠ s.hif.admin) ∧
    (∃ (s : State) (c : Cmd) (r : RyernRow), r ∈ ryernRows c 0 false ∧ r.instr.wf = true ∧ headerBad c.slot r.reserved = false ∧ (s.begin c).2.keyless c.slot = true) ∧
    (∃ (s : State) (c : Cmd) (r : RyernRow), r ∈ ryernRows c 0 false ∧ r.instr.wf = true ∧ headerBad c.slot r.reserved = false ∧ r.admin = false ∧ (s.begin c).2.keyless c.slot = false ∧ s.lifecycle = 4 ∧ r.op ≠ 0x00 ∧ r.op ≠ 0x10 ∧ r.op ≠ 0x12) ∧
    (∃ (s : State) (c : Cmd) (r : RyernRow), r ∈ ryernRows c 0 false ∧ r.instr.wf = true ∧ headerBad c.slot r.reserved = false ∧ r.admin = true ∧ c.ld = s.hif.admin ∧ (s.begin c).2.keyless c.slot = false ∧ s.lifecycle = 4 ∧ r.op ≠ 0x00 ∧ r.op ≠ 0x10 ∧ r.op ≠ 0x12) ∧
    (∃ (s : State) (c : Cmd) (r : RyernRow), r ∈ ryernRows c 0 false ∧ r.instr.wf = true ∧ headerBad c.slot r.reserved = false ∧ r.admin = false ∧ (s.begin c).2.keyless c.slot = false ∧ s.lifecycle ≠ 4 ∧
      (((s.begin c).2.cmd (s.begin c).1).bind (s.begin c).2.heldBy).isSome = true) :=
  ⟨⟨st ready, cmd [(0, 0x12)] 1, ⟨.timeAnchor (cmd [(0, 0x12)] 1), 0x12, bytesOf 24 63, true⟩, by simp [ryernRows], by decide +kernel⟩,
   ⟨st { ready with sec := { slotsEmpty := true }, nss := [(0, some { nsx 0 0x1000000 0 [] with key := 1 })] }, cmd [(0, 1)], ⟨.read (cmd [(0, 1)]), 0x01, bytesOf 36 63, false⟩, by simp [ryernRows], by decide +kernel⟩,
   ⟨st (regs [(Reg.SEC_STATUS, 0, 4)]), cmd [(0, 1)], ⟨.read (cmd [(0, 1)]), 0x01, bytesOf 36 63, false⟩, by simp [ryernRows], by decide +kernel⟩,
   ⟨st (regs [(Reg.SEC_STATUS, 0, 4)]), cmd [(0, 0x19)], ⟨.powerState (cmd [(0, 0x19)]), 0x19, bytesOf 17 63, true⟩, by simp [ryernRows], by decide +kernel⟩,
   ⟨State.reset, cmd [(0, 1)], ⟨.read (cmd [(0, 1)]), 0x01, bytesOf 36 63, false⟩, by simp [ryernRows], by decide +kernel⟩⟩

/-- The hypotheses of DelayReason are met. -/
theorem witness_DelayReason :
    (∃ waits : List (Nat × Nat), (∀ w ∈ waits, w.1 < 7) ∧ ∀ w ∈ waits, w.1 = 0) ∧
    (∃ waits : List (Nat × Nat), (∀ w ∈ waits, w.1 < 7) ∧ ∃ w ∈ waits, w.1 ≠ 0) ∧
    (∃ (s : State) (c : Cmd), Cmd.of 0x00 c = true ∧ s.runs c (bytesOf 16 63) false = true ∧
      ((s.begin c).2.cmd (s.begin c).1).map (fun p => (p.phase, p.cut)) = some (.started, false)) :=
  ⟨⟨[(0, 5)], by decide +kernel⟩,
   ⟨[(0, 9), (1, 5), (6, 3), (6, 2)], by decide +kernel⟩,
   ⟨st ready, cmd [], by decide +kernel⟩⟩

/-- The hypotheses of StorageCommands are met. -/
theorem witness_StorageCommands :
    (∃ (s : State) (c : Cmd), Cmd.of 0x01 c = true ∧ s.runs c (bytesOf 36 63) false = true ∧
      (s.begin c).2.stCheck c.ld (s.begin c).1 c.slot (some 1) false = none) ∧
    (∃ (s : State) (c : Cmd), Cmd.of 0x01 c = true ∧ s.runs c (bytesOf 36 63) false = true ∧
      ((s.begin c).2.stCheck c.ld (s.begin c).1 c.slot (some 1) false).isSome = true) ∧
    (∃ (s : State) (c : Cmd), Cmd.of 0x02 c = true ∧ s.runs c (bytesOf 36 63) false = true ∧
      (s.begin c).2.stCheck c.ld (s.begin c).1 c.slot (some 0) true = none) ∧
    (∃ (s : State) (c : Cmd), Cmd.of 0x02 c = true ∧ s.runs c (bytesOf 36 63) false = true ∧
      ((s.begin c).2.stCheck c.ld (s.begin c).1 c.slot (some 0) true).isSome = true) ∧
    (∃ (s : State) (c : Cmd), Cmd.of 0x03 c = true ∧ s.runs c (bytesOf 36 63) false = true ∧
      (s.begin c).2.stCheck c.ld (s.begin c).1 c.slot none true = none) ∧
    (∃ (s : State) (c : Cmd), Cmd.of 0x03 c = true ∧ s.runs c (bytesOf 36 63) false = true ∧
      ((s.begin c).2.stCheck c.ld (s.begin c).1 c.slot none true).isSome = true) ∧
    (∃ (s : State) (c : Cmd), Cmd.of 0x03 c = true ∧ s.runs c (bytesOf 36 63) false = true ∧
      (s.begin c).2.stCheck c.ld (s.begin c).1 c.slot none true = none) ∧
    (∃ (s : State) (c : Cmd), Cmd.of 0x03 c = true ∧ s.runs c (bytesOf 36 63) false = true ∧
      ((s.begin c).2.stCheck c.ld (s.begin c).1 c.slot none true).isSome = true) :=
  ⟨⟨st busy, cmd [(0, 0x01), (28, 4096)], by decide +kernel⟩,
   ⟨st busy, cmd [(0, 0x01)], by decide +kernel⟩,
   ⟨st busy, cmd [(0, 0x02), (28, 4096)], by decide +kernel⟩,
   ⟨st busy, cmd [(0, 0x02)], by decide +kernel⟩,
   ⟨st busy, cmd [(0, 0x03), (28, 4096)], by decide +kernel⟩,
   ⟨st busy, cmd [(0, 0x03)], by decide +kernel⟩,
   ⟨st busy, cmd [(0, 0x03), (28, 4096)], by decide +kernel⟩,
   ⟨st busy, cmd [(0, 0x03)], by decide +kernel⟩⟩

/-- The hypotheses of NamespaceCommands are met. -/
theorem witness_NamespaceCommands :
    (∃ (s : State) (c : Cmd), Cmd.of 0x08 c = true ∧ s.runs c ([19, 22, 23]) false = true ∧
      checkNsCreate c (s.begin c).2 (s.begin c).1 = none) ∧
    (∃ (s : State) (c : Cmd), Cmd.of 0x08 c = true ∧ s.runs c ([19, 22, 23]) false = true ∧
      (checkNsCreate c (s.begin c).2 (s.begin c).1).isSome = true) ∧
    (∃ (s : State) (c : Cmd), Cmd.of 0x09 c = true ∧ s.runs c (bytesOf 18 63) false = true ∧
      (s.begin c).2.nsDropCheck c.ld (s.begin c).1 c.slot = none) ∧
    (∃ (s : State) (c : Cmd), Cmd.of 0x09 c = true ∧ s.runs c (bytesOf 18 63) false = true ∧
      ((s.begin c).2.nsDropCheck c.ld (s.begin c).1 c.slot).isSome = true) ∧
    (∃ (s : State) (c : Cmd), Cmd.of 0x0A c = true ∧ s.runs c (bytesOf 18 63) false = true ∧
      (s.begin c).2.nsDropCheck c.ld (s.begin c).1 c.slot = none) ∧
    (∃ (s : State) (c : Cmd), Cmd.of 0x0A c = true ∧ s.runs c (bytesOf 18 63) false = true ∧
      ((s.begin c).2.nsDropCheck c.ld (s.begin c).1 c.slot).isSome = true) ∧
    (∃ (s : State) (c : Cmd), Cmd.of 0x0B c = true ∧ s.runs c (17 :: bytesOf 20 63) false = true ∧
      checkNsAccess c (s.begin c).2 (s.begin c).1 = none) ∧
    (∃ (s : State) (c : Cmd), Cmd.of 0x0B c = true ∧ s.runs c (17 :: bytesOf 20 63) false = true ∧
      (checkNsAccess c (s.begin c).2 (s.begin c).1).isSome = true) ∧
    (∃ (s : State) (c : Cmd), Cmd.of 0x0C c = true ∧ s.runs c (bytesOf 17 23 ++ bytesOf 28 63) false = true ∧
      checkNsInfo c (s.begin c).2 (s.begin c).1 = none) ∧
    (∃ (s : State) (c : Cmd), Cmd.of 0x0C c = true ∧ s.runs c (bytesOf 17 23 ++ bytesOf 28 63) false = true ∧
      (checkNsInfo c (s.begin c).2 (s.begin c).1).isSome = true) ∧
    (∃ (s : State) (c : Cmd), Cmd.of 0x0B c = true ∧ s.runs c (17 :: bytesOf 20 63) false = true ∧
      checkNsAccess c (s.begin c).2 (s.begin c).1 = none ∧ ((s.begin c).2.ns (fld c.slot 16 1)).isSome = true) :=
  ⟨⟨st busy, cmd [(0, 0x08), (16, 9), (24, 0x100000)], by decide +kernel⟩,
   ⟨st busy, cmd [(0, 0x08), (17, 4)], by decide +kernel⟩,
   ⟨st busy, cmd [(0, 0x09), (16, 3)], by decide +kernel⟩,
   ⟨st busy, cmd [(0, 0x09), (16, 5)], by decide +kernel⟩,
   ⟨st busy, cmd [(0, 0x0A), (16, 3)], by decide +kernel⟩,
   ⟨st busy, cmd [(0, 0x0A), (16, 5)], by decide +kernel⟩,
   ⟨st busy, cmd [(0, 0x0B)], by decide +kernel⟩,
   ⟨st busy, cmd [(0, 0x0B), (16, 5)], by decide +kernel⟩,
   ⟨st busy, cmd [(0, 0x0C)], by decide +kernel⟩,
   ⟨st busy, cmd [(0, 0x0C), (16, 5)], by decide +kernel⟩,
   ⟨st busy, cmd [(0, 0x0B), (18, 0xFFFF)], by decide +kernel⟩⟩

/-- The hypotheses of HostRangesAndTime, part 1, are met. -/
theorem witness_HostRangesAndTime_1 :
    (∃ (s : State) (c : Cmd), Cmd.of 0x10 c = true ∧ s.runs c (bytesOf 17 19 ++ bytesOf 24 63) false = true ∧
      checkRegRead c (s.begin c).2 (s.begin c).1 = none) ∧
    (∃ (s : State) (c : Cmd), Cmd.of 0x10 c = true ∧ s.runs c (bytesOf 17 19 ++ bytesOf 24 63) false = true ∧
      (checkRegRead c (s.begin c).2 (s.begin c).1).isSome = true) ∧
    (∃ (s : State) (c : Cmd), Cmd.of 0x11 c = true ∧ s.runs c (bytesOf 17 19 ++ bytesOf 32 63) false = true ∧
      checkRegWrite c (s.begin c).2 (s.begin c).1 = none) ∧
    (∃ (s : State) (c : Cmd), Cmd.of 0x11 c = true ∧ s.runs c (bytesOf 17 19 ++ bytesOf 32 63) false = true ∧
      (checkRegWrite c (s.begin c).2 (s.begin c).1).isSome = true) ∧
    (∃ (s : State) (c : Cmd), Cmd.of 0x12 c = true ∧ s.runs c (bytesOf 24 63) true = true) ∧
    (∃ (s : State) (c : Cmd), Cmd.of 0x13 c = true ∧ s.runs c (bytesOf 33 63) false = true ∧ fld c.slot 16 8 % 4096 ≠ 0) ∧
    (∃ (s : State) (c : Cmd), Cmd.of 0x13 c = true ∧ s.runs c (bytesOf 33 63) false = true ∧ fld c.slot 24 8 % 4096 ≠ 0) ∧
    (∃ (s : State) (c : Cmd), Cmd.of 0x13 c = true ∧ s.runs c (bytesOf 33 63) false = true ∧ 2 ^ 40 < fld c.slot 24 8) ∧
    (∃ (s : State) (c : Cmd), Cmd.of 0x13 c = true ∧ s.runs c (bytesOf 33 63) false = true ∧ 4 ≤ fld c.slot 32 1) ∧
    (∃ (s : State) (c : Cmd) (h : Nat), Cmd.of 0x13 c = true ∧ s.runs c (bytesOf 33 63) false = true ∧ fld c.slot 16 8 % 4096 = 0 ∧ fld c.slot 24 8 % 4096 = 0 ∧ fld c.slot 24 8 ≤ 2 ^ 40 ∧ fld c.slot 32 1 < 4 ∧ h < 4096 ∧
      (s.begin c).2.hreg c.ld h = none ∧ ∀ k < h, ((s.begin c).2.hreg c.ld k).isSome = true) ∧
    (∃ (s : State) (c : Cmd), Cmd.of 0x13 c = true ∧ s.runs c (bytesOf 33 63) false = true ∧ fld c.slot 16 8 % 4096 = 0 ∧ fld c.slot 24 8 % 4096 = 0 ∧ fld c.slot 24 8 ≤ 2 ^ 40 ∧ fld c.slot 32 1 < 4 ∧
      (List.range 4096).all (fun h => ((s.begin c).2.hreg c.ld h).isSome) = true) ∧
    (∃ (s : State) (c : Cmd), Cmd.of 0x14 c = true ∧ s.runs c (bytesOf 18 63) false = true ∧ (s.begin c).2.hreg c.ld (fld c.slot 16 2) = none) :=
  ⟨⟨st busy, cmd [(0, 0x10), (20, Reg.HIF_ADMIT_MAX)], by decide +kernel⟩,
   ⟨st busy, cmd [(0, 0x10), (16, 2)], by decide +kernel⟩,
   ⟨st busy, cmd [(0, 0x11), (20, Reg.PWR_CAP_W), (24, 2000)], by decide +kernel⟩,
   ⟨st busy, cmd [(0, 0x11), (16, 2)], by decide +kernel⟩,
   ⟨st busy, cmd [(0, 0x12), (16, 1)], by decide +kernel⟩,
   ⟨st ready, cmd [(0, 0x13), (16, 4095)], by decide +kernel⟩,
   ⟨st ready, cmd [(0, 0x13), (24, 4097)], by decide +kernel⟩,
   ⟨st ready, cmd [(0, 0x13), (24, 2 ^ 40 + 4096)], by decide +kernel⟩,
   ⟨st ready, cmd [(0, 0x13), (32, 4)], by decide +kernel⟩,
   ⟨st { ready with hif := { lds := [(0, { hregs := [(0, some (0, 0, 0))] })] } }, cmd [(0, 0x13), (24, 2 ^ 40), (32, 3)], 1, by decide +kernel⟩,
   ⟨st fullHandles, cmd [(0, 0x13), (24, 4096)], by decide +kernel, by decide +kernel, by decide +kernel, by decide +kernel, by decide +kernel, by decide +kernel, fullHandles_all⟩,
   ⟨st ready, cmd [(0, 0x14)], by decide +kernel⟩⟩

/-- The hypotheses of HostRangesAndTime, part 2, are met. -/
theorem witness_HostRangesAndTime_2 :
    (∃ (s : State) (c : Cmd), Cmd.of 0x14 c = true ∧ s.runs c (bytesOf 18 63) false = true ∧ checkHostDeregister c (s.begin c).2 (s.begin c).1 = none) ∧
    (∃ die : Nat, die = 42 ∨ die = 52 ∨ die = 47 ∨ die = 57) :=
  ⟨⟨st busy, cmd [(0, 0x14)], by decide +kernel⟩,
   ⟨57, by decide +kernel⟩⟩

/-- The hypotheses of PowerCommands are met. -/
theorem witness_PowerCommands :
    (∃ (s : State) (c : Cmd), Cmd.of 0x18 c = true ∧ s.runs c (bytesOf 28 63) false = true ∧
      checkPowerHint c (s.begin c).2 (s.begin c).1 = none) ∧
    (∃ (s : State) (c : Cmd), Cmd.of 0x18 c = true ∧ s.runs c (bytesOf 28 63) false = true ∧
      (checkPowerHint c (s.begin c).2 (s.begin c).1).isSome = true) ∧
    (∃ (s : State) (c : Cmd), Cmd.of 0x19 c = true ∧ s.runs c (bytesOf 17 63) true = true ∧ 3 < fld c.slot 16 1) ∧
    (∃ (s : State) (c : Cmd), Cmd.of 0x19 c = true ∧ s.runs c (bytesOf 17 63) true = true ∧ 1 ≤ fld c.slot 16 1 ∧ bit ((s.begin c).2.rdf Reg.PWR_PS_CTL 0 3 1) (fld c.slot 16 1 - 1) = false) ∧
    (∃ (s : State) (c : Cmd), Cmd.of 0x19 c = true ∧ s.runs c (bytesOf 17 63) true = true ∧ fld c.slot 16 1 ≤ 3 ∧ (s.begin c).2.psHolds (fld c.slot 16 1) (some (s.begin c).1) = false) ∧
    (∃ (s : State) (c : Cmd), Cmd.of 0x19 c = true ∧ s.runs c (bytesOf 17 63) true = true ∧ fld c.slot 16 1 = 0 ∧ (s.begin c).2.ps = fld c.slot 16 1) ∧
    (∃ (s : State) (c : Cmd), Cmd.of 0x19 c = true ∧ s.runs c (bytesOf 17 63) true = true ∧ fld c.slot 16 1 = 0 ∧ (s.begin c).2.ps ≠ fld c.slot 16 1) ∧
    (∃ (s : State) (c : Cmd), Cmd.of 0x19 c = true ∧ s.runs c (bytesOf 17 63) true = true ∧ fld c.slot 16 1 = 3 ∧ bit ((s.begin c).2.rdf Reg.PWR_PS_CTL 0 3 1) (fld c.slot 16 1 - 1) = true ∧
      (s.begin c).2.psHolds (fld c.slot 16 1) (some (s.begin c).1) = true ∧ (s.begin c).2.ps ≠ fld c.slot 16 1) :=
  ⟨⟨st busy, cmd [(0, 0x18), (26, 0x84), (27, 0x40)], by decide +kernel⟩,
   ⟨st busy, cmd [(0, 0x18)], by decide +kernel⟩,
   ⟨st ready, cmd [(0, 0x19), (16, 4)], by decide +kernel⟩,
   ⟨st (regs [(Reg.PWR_PS_CTL, 0, 0)] ready), cmd [(0, 0x19), (16, 1)], by decide +kernel⟩,
   ⟨st { (regs [(Reg.PWR_PS_CTL, 0, 0xE)] ready) with cmds := [pend 0 [(0, 1)] .admitted], hif := { next := 1 } }, cmd [(0, 0x19), (16, 3)], by decide +kernel⟩,
   ⟨st ready, cmd [(0, 0x19)], by decide +kernel⟩,
   ⟨st (regs [(Reg.PWR_STATUS, 0, 1)] ready), cmd [(0, 0x19)], by decide +kernel⟩,
   ⟨st (regs [(Reg.PWR_PS_CTL, 0, 0xE)] ready), cmd [(0, 0x19), (16, 3)], by decide +kernel⟩⟩

/-- The hypotheses of JobCommands are met. -/
theorem witness_JobCommands :
    (∃ (s : State) (c : Cmd), Cmd.of 0x20 c = true ∧ s.runs c ([17, 26, 27] ++ bytesOf 54 63) false = true ∧
      checkJobOpen c (s.begin c).2 (s.begin c).1 = none) ∧
    (∃ (s : State) (c : Cmd), Cmd.of 0x20 c = true ∧ s.runs c ([17, 26, 27] ++ bytesOf 54 63) false = true ∧
      (checkJobOpen c (s.begin c).2 (s.begin c).1).isSome = true) ∧
    (∃ (s : State) (c : Cmd), Cmd.of 0x21 c = true ∧ s.runs c (bytesOf 17 63) false = true ∧
      checkJobClose c (s.begin c).2 (s.begin c).1 = none) ∧
    (∃ (s : State) (c : Cmd), Cmd.of 0x21 c = true ∧ s.runs c (bytesOf 17 63) false = true ∧
      (checkJobClose c (s.begin c).2 (s.begin c).1).isSome = true) ∧
    (∃ (s : State) (c : Cmd), Cmd.of 0x22 c = true ∧ s.runs c (bytesOf 17 19 ++ bytesOf 32 63) false = true ∧
      checkRouteWrite c (s.begin c).2 (s.begin c).1 = none) ∧
    (∃ (s : State) (c : Cmd), Cmd.of 0x22 c = true ∧ s.runs c (bytesOf 17 19 ++ bytesOf 32 63) false = true ∧
      (checkRouteWrite c (s.begin c).2 (s.begin c).1).isSome = true) ∧
    (∃ (s : State) (c : Cmd), Cmd.of 0x23 c = true ∧ s.runs c (45 :: bytesOf 48 63) false = true ∧
      (s.begin c).2.dispCheck c.ld (s.begin c).1 c.slot = none) ∧
    (∃ (s : State) (c : Cmd), Cmd.of 0x23 c = true ∧ s.runs c (45 :: bytesOf 48 63) false = true ∧
      ((s.begin c).2.dispCheck c.ld (s.begin c).1 c.slot).isSome = true) ∧
    (∃ (s : State) (c : Cmd), Cmd.of 0x23 c = true ∧ s.runs c (45 :: bytesOf 48 63) false = true ∧
      ((s.begin c).2.dispCheck c.ld (s.begin c).1 c.slot).map (·.1) = some St.notOwner ∧ fld c.slot 18 1 = 2) :=
  ⟨⟨st busy, cmd [(0, 0x20), (18, 1), (20, 2), (28, 64), (42, 1), (44, 1), (46, 32), (48, 32), (50, 1)], by decide +kernel⟩,
   ⟨st busy, cmd [(0, 0x20), (25, 5)], by decide +kernel⟩,
   ⟨st busy, cmd [(0, 0x21)], by decide +kernel⟩,
   ⟨st busy, cmd [(0, 0x21), (16, 64)], by decide +kernel⟩,
   ⟨st busy, cmd [(0, 0x22), (24, 1)], by decide +kernel⟩,
   ⟨st busy, cmd [(0, 0x22), (16, 64)], by decide +kernel⟩,
   ⟨st busy, cmd [(0, 0x23), (19, 0x55), (20, 1)], by decide +kernel⟩,
   ⟨st busy, cmd [(0, 0x23)], by decide +kernel⟩,
   ⟨st busy, cmd [(0, 0x23), (18, 2), (19, 0x55), (20, 1)], by decide +kernel⟩⟩

/-- The hypotheses of PlacementCommands are met. -/
theorem witness_PlacementCommands :
    (∃ (s : State) (c : Cmd), Cmd.of 0x30 c = true ∧ s.runs c (bytesOf 57 63) false = true ∧
      (s.begin c).2.placeCheck c.ld (s.begin c).1 c.slot (placeObj (s.begin c).2 c.slot (s.begin c).1) = none) ∧
    (∃ (s : State) (c : Cmd), Cmd.of 0x30 c = true ∧ s.runs c (bytesOf 57 63) false = true ∧
      ((s.begin c).2.placeCheck c.ld (s.begin c).1 c.slot (placeObj (s.begin c).2 c.slot (s.begin c).1)).map (·.1) = some St.refusedCapacity ∧ bit (fld c.slot 19 1) 1 = false) ∧
    (∃ (s : State) (c : Cmd), Cmd.of 0x30 c = true ∧ s.runs c (bytesOf 57 63) false = true ∧
      ((s.begin c).2.placeCheck c.ld (s.begin c).1 c.slot (placeObj (s.begin c).2 c.slot (s.begin c).1)).map (·.1) = some St.refusedCapacity ∧ bit (fld c.slot 19 1) 1 = true ∧ fld c.slot 20 1 < 64) ∧
    (∃ (s : State) (c : Cmd), Cmd.of 0x30 c = true ∧ s.runs c (bytesOf 57 63) false = true ∧
      ((s.begin c).2.placeCheck c.ld (s.begin c).1 c.slot (placeObj (s.begin c).2 c.slot (s.begin c).1)).map (·.1) = some St.invalidField) ∧
    (∃ (s : State) (c : Cmd), Cmd.of 0x31 c = true ∧ s.runs c (bytesOf 19 63) false = true ∧
      checkUnplace c (s.begin c).2 (s.begin c).1 = none) ∧
    (∃ (s : State) (c : Cmd), Cmd.of 0x31 c = true ∧ s.runs c (bytesOf 19 63) false = true ∧
      (checkUnplace c (s.begin c).2 (s.begin c).1).isSome = true) :=
  ⟨⟨st busy, cmd [(0, 0x30), (16, 40), (18, 1), (19, 1), (22, 1), (40, 32), (48, 32), (52, 1)], by decide +kernel⟩,
   ⟨st (regs [(Reg.TIER_PIN_LIMIT, 0, 0)] busy), cmd [(0, 0x30), (16, 40), (18, 1), (19, 1), (22, 1), (40, 32), (48, 32), (52, 1)], by decide +kernel⟩,
   ⟨st (regs [(Reg.TIER_PIN_LIMIT, 0, 0)] busy), cmd [(0, 0x30), (16, 40), (18, 1), (19, 3), (22, 1), (40, 32), (48, 32), (52, 1)], by decide +kernel⟩,
   ⟨st busy, cmd [(0, 0x30)], by decide +kernel⟩,
   ⟨st busy, cmd [(0, 0x31), (16, 9)], by decide +kernel⟩,
   ⟨st busy, cmd [(0, 0x31), (16, 1)], by decide +kernel⟩⟩

/-- The hypotheses of ReductionCommands, part 1, are met. -/
theorem witness_ReductionCommands_1 :
    (∃ (s : State) (c : Cmd), Cmd.of 0x24 c = true ∧ s.runs c (33 :: bytesOf 54 63) false = true ∧
      checkShardOpen c (s.begin c).2 (s.begin c).1 = none) ∧
    (∃ (s : State) (c : Cmd), Cmd.of 0x24 c = true ∧ s.runs c (33 :: bytesOf 54 63) false = true ∧
      (checkShardOpen c (s.begin c).2 (s.begin c).1).isSome = true) ∧
    (∃ (s : State) (c : Cmd), Cmd.of 0x25 c = true ∧ s.runs c (bytesOf 18 63) false = true ∧
      checkShardClose c (s.begin c).2 (s.begin c).1 = none) ∧
    (∃ (s : State) (c : Cmd), Cmd.of 0x25 c = true ∧ s.runs c (bytesOf 18 63) false = true ∧
      (checkShardClose c (s.begin c).2 (s.begin c).1).isSome = true) ∧
    (∃ (s : State) (c : Cmd), Cmd.of 0x26 c = true ∧ s.runs c ([34, 35] ++ bytesOf 40 63) false = true ∧
      checkReduceOpen c (s.begin c).2 (s.begin c).1 = none) ∧
    (∃ (s : State) (c : Cmd), Cmd.of 0x26 c = true ∧ s.runs c ([34, 35] ++ bytesOf 40 63) false = true ∧
      (checkReduceOpen c (s.begin c).2 (s.begin c).1).isSome = true) ∧
    (∃ (s : State) (c : Cmd), Cmd.of 0x27 c = true ∧ s.runs c (bytesOf 19 63) false = true ∧
      checkRankDone c (s.begin c).2 (s.begin c).1 = none) ∧
    (∃ (s : State) (c : Cmd), Cmd.of 0x27 c = true ∧ s.runs c (bytesOf 19 63) false = true ∧
      (checkRankDone c (s.begin c).2 (s.begin c).1).isSome = true) ∧
    (∃ (s : State) (c : Cmd), Cmd.of 0x28 c = true ∧ s.runs c (bytesOf 18 63) false = true ∧
      checkReduceCommit c (s.begin c).2 (s.begin c).1 = none) ∧
    (∃ (s : State) (c : Cmd), Cmd.of 0x28 c = true ∧ s.runs c (bytesOf 18 63) false = true ∧
      (checkReduceCommit c (s.begin c).2 (s.begin c).1).isSome = true) ∧
    (∃ (s : State) (c : Cmd), Cmd.of 0x29 c = true ∧ s.runs c (19 :: bytesOf 28 63) false = true ∧
      checkCheckpoint c (s.begin c).2 (s.begin c).1 = none) ∧
    (∃ (s : State) (c : Cmd), Cmd.of 0x29 c = true ∧ s.runs c (19 :: bytesOf 28 63) false = true ∧
      (checkCheckpoint c (s.begin c).2 (s.begin c).1).isSome = true) :=
  ⟨⟨st busy, cmd [(0, 0x24), (17, 4), (18, 4), (24, 30), (26, 31), (28, 32), (30, 33), (32, 1), (34, 32), (36, 32), (50, 0x3F800000)], by decide +kernel⟩,
   ⟨st busy, cmd [(0, 0x24), (16, 64)], by decide +kernel⟩,
   ⟨st busy, cmd [(0, 0x25)], by decide +kernel⟩,
   ⟨st busy, cmd [(0, 0x25), (17, 1)], by decide +kernel⟩,
   ⟨st busy, cmd [(0, 0x26), (18, 2), (20, 1), (24, 1), (28, 1), (30, 1000), (32, 1), (36, 128)], by decide +kernel⟩,
   ⟨st busy, cmd [(0, 0x26), (16, 64)], by decide +kernel⟩,
   ⟨st busy, cmd [(0, 0x27)], by decide +kernel⟩,
   ⟨st busy, cmd [(0, 0x27), (18, 2)], by decide +kernel⟩,
   ⟨st busy, cmd [(0, 0x28)], by decide +kernel⟩,
   ⟨st busy, cmd [(0, 0x28), (17, 1)], by decide +kernel⟩,
   ⟨st busy, cmd [(0, 0x29)], by decide +kernel⟩,
   ⟨st busy, cmd [(0, 0x29), (17, 1)], by decide +kernel⟩⟩

/-- The hypotheses of ReductionCommands, part 2, are met. -/
theorem witness_ReductionCommands_2 :
    (∃ (s : State) (c : Cmd), Cmd.of 0x28 c = true ∧ s.runs c (bytesOf 18 63) false = true ∧ (checkReduceCommit c (s.begin c).2 (s.begin c).1).map (·.1) = some St.notOwner) :=
  ⟨st (regs [(Reg.JOB_STATUS, 0, 5)] busy), cmd [(0, 0x28)], by decide +kernel⟩

/-- The hypotheses of EmbeddingCommands are met. -/
theorem witness_EmbeddingCommands :
    (∃ (s : State) (c : Cmd), Cmd.of 0x2A c = true ∧ s.runs c (bytesOf 22 63) false = true ∧
      checkEmbOpen c (s.begin c).2 (s.begin c).1 = none) ∧
    (∃ (s : State) (c : Cmd), Cmd.of 0x2A c = true ∧ s.runs c (bytesOf 22 63) false = true ∧
      (checkEmbOpen c (s.begin c).2 (s.begin c).1).isSome = true) ∧
    (∃ (s : State) (c : Cmd), Cmd.of 0x2B c = true ∧ s.runs c (bytesOf 18 63) false = true ∧
      checkEmbClose c (s.begin c).2 (s.begin c).1 = none) ∧
    (∃ (s : State) (c : Cmd), Cmd.of 0x2B c = true ∧ s.runs c (bytesOf 18 63) false = true ∧
      (checkEmbClose c (s.begin c).2 (s.begin c).1).isSome = true) ∧
    (∃ (s : State) (c : Cmd), Cmd.of 0x2D c = true ∧ s.runs c (bytesOf 48 63) false = true ∧
      checkEmbUpdate c (s.begin c).2 (s.begin c).1 = none) ∧
    (∃ (s : State) (c : Cmd), Cmd.of 0x2D c = true ∧ s.runs c (bytesOf 48 63) false = true ∧
      (checkEmbUpdate c (s.begin c).2 (s.begin c).1).isSome = true) ∧
    (∃ (s : State) (c : Cmd), Cmd.of 0x2C c = true ∧ s.runs c (bytesOf 40 63) false = true ∧
      (s.begin c).2.embCheck c.ld (s.begin c).1 c.slot false = none) ∧
    (∃ (s : State) (c : Cmd), Cmd.of 0x2C c = true ∧ s.runs c (bytesOf 40 63) false = true ∧
      (s.begin c).2.embCheck c.ld (s.begin c).1 c.slot false = none ∧ bit (fld c.slot 18 1) 0 = true) ∧
    (∃ (s : State) (c : Cmd), Cmd.of 0x2C c = true ∧ s.runs c (bytesOf 40 63) false = true ∧
      ((s.begin c).2.embCheck c.ld (s.begin c).1 c.slot false).isSome = true) :=
  ⟨⟨st busy, cmd [(0, 0x2A), (17, 1), (18, 16)], by decide +kernel⟩,
   ⟨st busy, cmd [(0, 0x2A), (17, 5)], by decide +kernel⟩,
   ⟨st busy, cmd [(0, 0x2B)], by decide +kernel⟩,
   ⟨st busy, cmd [(0, 0x2B), (17, 1)], by decide +kernel⟩,
   ⟨st busy, cmd [(0, 0x2D), (19, 7), (20, 1), (24, 1), (32, 256), (44, 0x3F800000)], by decide +kernel⟩,
   ⟨st busy, cmd [(0, 0x2D)], by decide +kernel⟩,
   ⟨st busy, cmd [(0, 0x2C), (19, 7), (20, 1), (24, 1), (32, 256)], by decide +kernel⟩,
   ⟨st busy, cmd [(0, 0x2C), (18, 1), (19, 7), (20, 1)], by decide +kernel⟩,
   ⟨st busy, cmd [(0, 0x2C)], by decide +kernel⟩⟩

/-- The hypotheses of SearchCommands are met. -/
theorem witness_SearchCommands :
    (∃ (s : State) (c : Cmd), Cmd.of 0x32 c = true ∧ s.runs c (19 :: bytesOf 22 63) false = true ∧
      checkSrchOpen c (s.begin c).2 (s.begin c).1 = none) ∧
    (∃ (s : State) (c : Cmd), Cmd.of 0x32 c = true ∧ s.runs c (19 :: bytesOf 22 63) false = true ∧
      (checkSrchOpen c (s.begin c).2 (s.begin c).1).isSome = true) ∧
    (∃ (s : State) (c : Cmd), Cmd.of 0x33 c = true ∧ s.runs c (bytesOf 17 63) false = true ∧
      checkSrchClose c (s.begin c).2 (s.begin c).1 = none) ∧
    (∃ (s : State) (c : Cmd), Cmd.of 0x33 c = true ∧ s.runs c (bytesOf 17 63) false = true ∧
      (checkSrchClose c (s.begin c).2 (s.begin c).1).isSome = true) ∧
    (∃ (s : State) (c : Cmd), Cmd.of 0x34 c = true ∧ s.runs c ([29, 30, 31] ++ bytesOf 48 63) false = true ∧
      checkSearch c (s.begin c).2 (s.begin c).1 = none) ∧
    (∃ (s : State) (c : Cmd), Cmd.of 0x34 c = true ∧ s.runs c ([29, 30, 31] ++ bytesOf 48 63) false = true ∧
      (checkSearch c (s.begin c).2 (s.begin c).1).isSome = true) ∧
    (∃ (s : State) (c : Cmd), Cmd.of 0x35 c = true ∧ s.runs c ([17, 18, 19] ++ bytesOf 28 63) false = true ∧
      checkVecInsert c (s.begin c).2 (s.begin c).1 = none) ∧
    (∃ (s : State) (c : Cmd), Cmd.of 0x35 c = true ∧ s.runs c ([17, 18, 19] ++ bytesOf 28 63) false = true ∧
      (checkVecInsert c (s.begin c).2 (s.begin c).1).isSome = true) ∧
    (∃ (s : State) (c : Cmd), Cmd.of 0x36 c = true ∧ s.runs c ([17, 18, 19] ++ bytesOf 28 63) false = true ∧
      checkVecDelete c (s.begin c).2 (s.begin c).1 = none) ∧
    (∃ (s : State) (c : Cmd), Cmd.of 0x36 c = true ∧ s.runs c ([17, 18, 19] ++ bytesOf 28 63) false = true ∧
      (checkVecDelete c (s.begin c).2 (s.begin c).1).isSome = true) ∧
    (∃ (s : State) (c : Cmd), Cmd.of 0x37 c = true ∧ s.runs c (17 :: bytesOf 20 63) false = true ∧
      checkIndexFold c (s.begin c).2 (s.begin c).1 = none) ∧
    (∃ (s : State) (c : Cmd), Cmd.of 0x37 c = true ∧ s.runs c (17 :: bytesOf 20 63) false = true ∧
      (checkIndexFold c (s.begin c).2 (s.begin c).1).isSome = true) :=
  ⟨⟨st busy, cmd [(0, 0x32), (17, 3)], by decide +kernel⟩,
   ⟨st busy, cmd [(0, 0x32), (17, 1)], by decide +kernel⟩,
   ⟨st busy, cmd [(0, 0x33)], by decide +kernel⟩,
   ⟨st busy, cmd [(0, 0x33), (16, 1)], by decide +kernel⟩,
   ⟨st busy, cmd [(0, 0x34), (18, 1), (20, 16), (22, 1), (24, 1), (26, 1)], by decide +kernel⟩,
   ⟨st busy, cmd [(0, 0x34)], by decide +kernel⟩,
   ⟨st busy, cmd [(0, 0x35), (20, 1)], by decide +kernel⟩,
   ⟨st busy, cmd [(0, 0x35)], by decide +kernel⟩,
   ⟨st busy, cmd [(0, 0x36), (20, 1), (24, 384)], by decide +kernel⟩,
   ⟨st busy, cmd [(0, 0x36)], by decide +kernel⟩,
   ⟨st busy, cmd [(0, 0x37), (18, 16)], by decide +kernel⟩,
   ⟨st busy, cmd [(0, 0x37), (18, 15)], by decide +kernel⟩⟩

/-- The hypotheses of RawMediaCommands are met. -/
theorem witness_RawMediaCommands :
    (∃ (s : State) (c : Cmd), s.runs c (bytesOf 28 63) true = true ∧ Cmd.rawOf 1 c = true ∧ (s.begin c).2.rawCheck c.ld c.slot 1 1 = none ∧ ((s.begin c).2.lun (fld c.slot 18 2)).job = none) ∧
    (∃ (s : State) (c : Cmd), s.runs c (bytesOf 28 63) true = true ∧ Cmd.rawOf 1 c = true ∧ ((s.begin c).2.rawCheck c.ld c.slot 1 1).isSome = true) ∧
    (∃ (s : State) (c : Cmd), s.runs c (bytesOf 28 63) true = true ∧ Cmd.rawOf 1 c = true ∧ (s.begin c).2.rawCheck c.ld c.slot 1 1 = none ∧ ((s.begin c).2.lun (fld c.slot 18 2)).job ≠ none ∧ ((s.begin c).2.cmd (s.begin c).1).isSome = true) ∧
    (∃ (s : State) (c : Cmd), s.runs c (bytesOf 28 63) true = true ∧ Cmd.rawOf 2 c = true ∧ (s.begin c).2.rawCheck c.ld c.slot 2 (rawPages c.slot (s.begin c).2) = none ∧ ((s.begin c).2.lun (fld c.slot 18 2)).job = none) ∧
    (∃ (s : State) (c : Cmd), s.runs c (bytesOf 28 63) true = true ∧ Cmd.rawOf 2 c = true ∧ ((s.begin c).2.rawCheck c.ld c.slot 2 (rawPages c.slot (s.begin c).2)).isSome = true) ∧
    (∃ (s : State) (c : Cmd), s.runs c (bytesOf 28 63) true = true ∧ Cmd.rawOf 2 c = true ∧ (s.begin c).2.rawCheck c.ld c.slot 2 (rawPages c.slot (s.begin c).2) = none ∧ ((s.begin c).2.lun (fld c.slot 18 2)).job ≠ none ∧ ((s.begin c).2.cmd (s.begin c).1).isSome = true) ∧
    (∃ (s : State) (c : Cmd), s.runs c (bytesOf 28 63) true = true ∧ Cmd.rawOf 3 c = true ∧ (s.begin c).2.rawCheck c.ld c.slot 3 0 = none ∧ ((s.begin c).2.lun (fld c.slot 18 2)).job = none) ∧
    (∃ (s : State) (c : Cmd), s.runs c (bytesOf 28 63) true = true ∧ Cmd.rawOf 3 c = true ∧ ((s.begin c).2.rawCheck c.ld c.slot 3 0).isSome = true) ∧
    (∃ (s : State) (c : Cmd), s.runs c (bytesOf 28 63) true = true ∧ Cmd.rawOf 3 c = true ∧ (s.begin c).2.rawCheck c.ld c.slot 3 0 = none ∧ ((s.begin c).2.lun (fld c.slot 18 2)).job ≠ none ∧ ((s.begin c).2.cmd (s.begin c).1).isSome = true) :=
  ⟨⟨st busy, cmd [(0, 0x40), (16, 1)], by decide +kernel⟩,
   ⟨st busy, cmd [(0, 0x40), (16, 1), (18, 1791)], by decide +kernel⟩,
   ⟨st { busy with media := { busy.media with luns := [(0, { ({} : Lun) with job := some (.read 0) })] } }, cmd [(0, 0x40), (16, 1)], by decide +kernel⟩,
   ⟨st busy, cmd [(0, 0x40), (16, 2)], by decide +kernel⟩,
   ⟨st busy, cmd [(0, 0x40), (16, 2), (18, 1791)], by decide +kernel⟩,
   ⟨st { busy with media := { busy.media with luns := [(0, { ({} : Lun) with job := some (.read 0) })] } }, cmd [(0, 0x40), (16, 2)], by decide +kernel⟩,
   ⟨st busy, cmd [(0, 0x40), (16, 3)], by decide +kernel⟩,
   ⟨st busy, cmd [(0, 0x40), (16, 3), (18, 1791)], by decide +kernel⟩,
   ⟨st { busy with media := { busy.media with luns := [(0, { ({} : Lun) with job := some (.read 0) })] } }, cmd [(0, 0x40), (16, 3)], by decide +kernel⟩⟩

/-- The hypotheses of SpdmRequests are met. -/
theorem witness_SpdmRequests :
    (∃ (s : State) (ld : Nat), ld < 16 ∧ s.hubRuns = false) ∧
    (∃ (s : State) (ld : Nat), ld < 16 ∧ s.hubRuns = true ∧ s.lifecycle = 4) ∧
    (∃ (s : State) (ld : Nat), ld < 16 ∧ s.hubRuns = true ∧ s.lifecycle ≠ 4) ∧
    (∃ (s : State) (ld slot : Nat), ld < 16 ∧ s.hubRuns = true ∧ s.lifecycle ≠ 4 ∧ s.lockout = false ∧ slot ≠ 0) ∧
    (∃ (s : State) (ld : Nat), ld < 16 ∧ s.hubRuns = true ∧ s.lifecycle ≠ 4 ∧ s.lockout = true) ∧
    (∃ (s : State) (ld i : Nat), ld < 16 ∧ s.hubRuns = true ∧ s.lifecycle ≠ 4 ∧ 1 ≤ i ∧ i ≤ 8) ∧
    (∃ (s : State) (ld i : Nat), ld < 16 ∧ s.hubRuns = true ∧ s.lifecycle ≠ 4 ∧ 8 < i ∧ i ≠ 0xFF) :=
  ⟨⟨st { ready with sled := { stage := 1 } }, 15, by decide +kernel⟩,
   ⟨st (regs [(Reg.SEC_STATUS, 0, 4)]), 15, by decide +kernel⟩,
   ⟨st ready, 0, by decide +kernel⟩,
   ⟨st ready, 0, 1, by decide +kernel⟩,
   ⟨st (regs [(Reg.SEC_STATUS, 0, 0x40)]), 0, by decide +kernel⟩,
   ⟨st ready, 0, 8, by decide +kernel⟩,
   ⟨st ready, 0, 9, by decide +kernel⟩⟩

/-- The hypotheses of ManagementPort are met. -/
theorem witness_ManagementPort :
    (∃ (s : State) (typ a : Nat), s.portUp = false ∧ typ ≠ 0 ∧ typ ≠ 7 ∧ a < 128) ∧
    (∃ (s : State) (x : Nat), s.portUp = true ∧ 8 ≤ x ∧ x < 255) ∧
    (∃ (s : State) (x : Nat), s.portUp = true ∧ (x < 8 ∨ 255 ≤ x)) ∧
    (∃ (s : State) (ld u : Nat), s.portUp = true ∧ ld < 16 ∧ u ≤ 256 ∧ s.rdf Reg.HIF_LD_STATUS ld 0 0 = 0) ∧
    (∃ (s : State) (ld u : Nat), s.portUp = true ∧ (16 ≤ ld ∨ 256 < u ∨ s.rdf Reg.HIF_LD_STATUS ld 0 0 = 1)) ∧
    (∃ (s : State) (ld : Nat), s.portUp = true ∧ ld < 16 ∧ s.rdf Reg.HIF_LD_STATUS ld 0 0 = 1) ∧
    (∃ (s : State) (ld : Nat), s.portUp = true ∧ (16 ≤ ld ∨ s.rdf Reg.HIF_LD_STATUS ld 0 0 = 0)) ∧
    (∃ (s : State) (typ : Nat), s.portUp = true ∧ typ ≠ 0 ∧ typ ≠ 7) ∧
    (∃ (s : State) (a : Nat), s.portUp = true ∧ a < 128 ∧ s.rdf Reg.SB_STATUS 0 2 2 = 1) ∧
    (∃ (s : State) (a : Nat), s.portUp = true ∧ a < 128 ∧ s.rdf Reg.SB_STATUS 0 2 2 = 0) :=
  ⟨⟨st { ready with sled := { stage := 1 } }, 1, 127, by decide +kernel⟩,
   ⟨st ready, 8, by decide +kernel⟩,
   ⟨st ready, 255, by decide +kernel⟩,
   ⟨st ready, 15, 256, by decide +kernel⟩,
   ⟨st ready, 0, 257, by decide +kernel⟩,
   ⟨st (regs [(Reg.HIF_LD_STATUS, 15, 1)] ready), 15, by decide +kernel⟩,
   ⟨st ready, 16, by decide +kernel⟩,
   ⟨st ready, 8, by decide +kernel⟩,
   ⟨st (regs [(Reg.SB_STATUS, 0, 4)]), 127, by decide +kernel⟩,
   ⟨st ready, 127, by decide +kernel⟩⟩

/-- The hypotheses of DiscardedPackets, part 1, are met. -/
theorem witness_DiscardedPackets_1 :
    (∃ (s : State) (p : Packet) (i : Instr) (k : Nat), i = .writePacket p ∧ i.wf = true ∧ s.dramWaits p = false ∧ s.mayLand p = true ∧ (s.receive p).ejectCause p.dstDie p = some k) ∧
    (∃ (s : State) (p : Packet) (i : Instr) (k : Nat), i = .readReq p [] ∧ i.wf = true ∧ s.dramWaits p = false ∧ s.mayLand p = true ∧ (s.receive p).ejectCause p.dstDie p = some k) ∧
    (∃ (s : State) (p : Packet) (i : Instr) (k : Nat), i = .readResp p ∧ i.wf = true ∧ s.dramWaits p = false ∧ s.mayLand p = true ∧ (s.receive p).ejectCause p.dstDie p = some k) ∧
    (∃ (s : State) (p : Packet) (i : Instr) (k : Nat), i = .writeAck p ∧ i.wf = true ∧ s.dramWaits p = false ∧ s.mayLand p = true ∧ (s.receive p).ejectCause p.dstDie p = some k) ∧
    (∃ (s : State) (p : Packet) (i : Instr) (k : Nat), i = .media p ∧ i.wf = true ∧ s.dramWaits p = false ∧ s.mayLand p = true ∧ (s.receive p).ejectCause p.dstDie p = some k) ∧
    (∃ (s : State) (p : Packet) (i : Instr) (k : Nat), i = .reg p ∧ i.wf = true ∧ s.dramWaits p = false ∧ s.mayLand p = true ∧ (s.receive p).ejectCause p.dstDie p = some k) ∧
    (∃ (s : State) (p : Packet) (i : Instr) (k : Nat), i = .clean p ∧ i.wf = true ∧ s.dramWaits p = false ∧ s.mayLand p = true ∧ (s.receive p).ejectCause p.dstDie p = some k) ∧
    (∃ (s : State) (p : Packet) (i : Instr) (k : Nat), i = .reopen p ∧ i.wf = true ∧ s.dramWaits p = false ∧ s.mayLand p = true ∧ (s.receive p).ejectCause p.dstDie p = some k) ∧
    (∃ (s : State) (p : Packet) (i : Instr) (k : Nat), i = .reopenAck p ∧ i.wf = true ∧ s.dramWaits p = false ∧ s.mayLand p = true ∧ (s.receive p).ejectCause p.dstDie p = some k) ∧
    (∃ (s : State) (p : Packet) (i : Instr) (k : Nat), i = .releaseAck p ∧ i.wf = true ∧ s.dramWaits p = false ∧ s.mayLand p = true ∧ (s.receive p).ejectCause p.dstDie p = some k) ∧
    (∃ (s : State) (p : Packet) (i : Instr) (k : Nat), i = .squashFrom p ∧ i.wf = true ∧ s.dramWaits p = false ∧ s.mayLand p = true ∧ (s.receive p).ejectCause p.dstDie p = some k) ∧
    (∃ (s : State) (p : Packet) (i : Instr) (k : Nat), i = .writePacket p ∧ i.wf = true ∧ s.dramWaits p = false ∧ s.mayLand p = true ∧ (s.receive p).ejectCause p.dstDie p = some k) :=
  ⟨⟨st ready, { pkt with typ := 1, vc := 3, dstDie := 42, dstUnit := 2 }, .writePacket ({ pkt with typ := 1, vc := 3, dstDie := 42, dstUnit := 2 }), 3, by decide +kernel⟩,
   ⟨st ready, { pkt with typ := 2, vc := 3, dstDie := 42, dstUnit := 2 }, .readReq ({ pkt with typ := 2, vc := 3, dstDie := 42, dstUnit := 2 }) [], 3, by decide +kernel⟩,
   ⟨st ready, { pkt with typ := 3, vc := 1, dstDie := 42, dstUnit := 2 }, .readResp ({ pkt with typ := 3, vc := 1, dstDie := 42, dstUnit := 2 }), 3, by decide +kernel⟩,
   ⟨st ready, { pkt with typ := 4, vc := 1, len := 0, body := [], dstDie := 42, dstUnit := 2 }, .writeAck ({ pkt with typ := 4, vc := 1, len := 0, body := [], dstDie := 42, dstUnit := 2 }), 3, by decide +kernel⟩,
   ⟨st ready, { pkt with typ := 5, vc := 3, dstDie := 42, dstUnit := 2 }, .media ({ pkt with typ := 5, vc := 3, dstDie := 42, dstUnit := 2 }), 3, by decide +kernel⟩,
   ⟨st ready, { pkt with typ := 9, vc := 2, len := 0, body := [], dstDie := 42, dstUnit := 2 }, .reg ({ pkt with typ := 9, vc := 2, len := 0, body := [], dstDie := 42, dstUnit := 2 }), 3, by decide +kernel⟩,
   ⟨st ready, { pkt with typ := 7, vc := 2, len := 0, body := [], dstDie := 42, dstUnit := 2, addr := 1 }, .clean ({ pkt with typ := 7, vc := 2, len := 0, body := [], dstDie := 42, dstUnit := 2, addr := 1 }), 3, by decide +kernel⟩,
   ⟨st ready, { pkt with typ := 7, vc := 2, len := 0, body := [], dstDie := 42, dstUnit := 2, addr := 2 }, .reopen ({ pkt with typ := 7, vc := 2, len := 0, body := [], dstDie := 42, dstUnit := 2, addr := 2 }), 3, by decide +kernel⟩,
   ⟨st ready, { pkt with typ := 7, vc := 2, len := 0, body := [], dstDie := 42, dstUnit := 2, addr := 3 }, .reopenAck ({ pkt with typ := 7, vc := 2, len := 0, body := [], dstDie := 42, dstUnit := 2, addr := 3 }), 3, by decide +kernel⟩,
   ⟨st ready, { pkt with typ := 7, vc := 2, len := 0, body := [], dstDie := 42, dstUnit := 2, addr := 4 }, .releaseAck ({ pkt with typ := 7, vc := 2, len := 0, body := [], dstDie := 42, dstUnit := 2, addr := 4 }), 3, by decide +kernel⟩,
   ⟨st ready, { pkt with typ := 8, vc := 2, len := 0, body := [], dstDie := 42, dstUnit := 2, addr := 1 }, .squashFrom ({ pkt with typ := 8, vc := 2, len := 0, body := [], dstDie := 42, dstUnit := 2, addr := 1 }), 3, by decide +kernel⟩,
   ⟨st ready, { pkt with typ := 1, vc := 2, cls := 0 }, .writePacket ({ pkt with typ := 1, vc := 2, cls := 0 }), 2, by decide +kernel⟩⟩

/-- The hypotheses of DiscardedPackets, part 2, are met. -/
theorem witness_DiscardedPackets_2 :
    (∃ (s : State) (p : Packet) (i : Instr) (k : Nat), i = .readReq p [] ∧ i.wf = true ∧ s.dramWaits p = false ∧ s.mayLand p = true ∧ (s.receive p).ejectCause p.dstDie p = some k) ∧
    (∃ (s : State) (p : Packet) (i : Instr) (k : Nat), i = .readResp p ∧ i.wf = true ∧ s.dramWaits p = false ∧ s.mayLand p = true ∧ (s.receive p).ejectCause p.dstDie p = some k) ∧
    (∃ (s : State) (p : Packet) (i : Instr) (k : Nat), i = .writeAck p ∧ i.wf = true ∧ s.dramWaits p = false ∧ s.mayLand p = true ∧ (s.receive p).ejectCause p.dstDie p = some k) ∧
    (∃ (s : State) (p : Packet) (i : Instr) (k : Nat), i = .media p ∧ i.wf = true ∧ s.dramWaits p = false ∧ s.mayLand p = true ∧ (s.receive p).ejectCause p.dstDie p = some k) ∧
    (∃ (s : State) (p : Packet) (i : Instr) (k : Nat), i = .reg p ∧ i.wf = true ∧ s.dramWaits p = false ∧ s.mayLand p = true ∧ (s.receive p).ejectCause p.dstDie p = some k) ∧
    (∃ (s : State) (p : Packet) (i : Instr) (k : Nat), i = .clean p ∧ i.wf = true ∧ s.dramWaits p = false ∧ s.mayLand p = true ∧ (s.receive p).ejectCause p.dstDie p = some k) ∧
    (∃ (s : State) (p : Packet) (i : Instr) (k : Nat), i = .reopen p ∧ i.wf = true ∧ s.dramWaits p = false ∧ s.mayLand p = true ∧ (s.receive p).ejectCause p.dstDie p = some k) ∧
    (∃ (s : State) (p : Packet) (i : Instr) (k : Nat), i = .reopenAck p ∧ i.wf = true ∧ s.dramWaits p = false ∧ s.mayLand p = true ∧ (s.receive p).ejectCause p.dstDie p = some k) ∧
    (∃ (s : State) (p : Packet) (i : Instr) (k : Nat), i = .releaseAck p ∧ i.wf = true ∧ s.dramWaits p = false ∧ s.mayLand p = true ∧ (s.receive p).ejectCause p.dstDie p = some k) ∧
    (∃ (s : State) (p : Packet) (i : Instr) (k : Nat), i = .squashFrom p ∧ i.wf = true ∧ s.dramWaits p = false ∧ s.mayLand p = true ∧ (s.receive p).ejectCause p.dstDie p = some k) ∧
    (∃ (s : State) (p : Packet) (i : Instr) (k : Nat), i = .writePacket p ∧ i.wf = true ∧ s.dramWaits p = false ∧ s.mayLand p = true ∧ (s.receive p).ejectCause p.dstDie p = some k) ∧
    (∃ (s : State) (p : Packet) (i : Instr) (k : Nat), i = .writePacket p ∧ i.wf = true ∧ s.dramWaits p = false ∧ s.mayLand p = true ∧ (s.receive p).ejectCause p.dstDie p = some k) :=
  ⟨⟨st ready, { pkt with typ := 2, vc := 2, cls := 0 }, .readReq ({ pkt with typ := 2, vc := 2, cls := 0 }) [], 2, by decide +kernel⟩,
   ⟨st ready, { pkt with typ := 3, vc := 2, cls := 0 }, .readResp ({ pkt with typ := 3, vc := 2, cls := 0 }), 2, by decide +kernel⟩,
   ⟨st ready, { pkt with typ := 4, vc := 2, len := 0, body := [], cls := 0 }, .writeAck ({ pkt with typ := 4, vc := 2, len := 0, body := [], cls := 0 }), 2, by decide +kernel⟩,
   ⟨st ready, { pkt with typ := 5, vc := 2, cls := 0 }, .media ({ pkt with typ := 5, vc := 2, cls := 0 }), 2, by decide +kernel⟩,
   ⟨st ready, { pkt with typ := 9, vc := 1, len := 0, body := [], cls := 0 }, .reg ({ pkt with typ := 9, vc := 1, len := 0, body := [], cls := 0 }), 2, by decide +kernel⟩,
   ⟨st ready, { pkt with typ := 7, vc := 1, len := 0, body := [], cls := 0, addr := 1 }, .clean ({ pkt with typ := 7, vc := 1, len := 0, body := [], cls := 0, addr := 1 }), 2, by decide +kernel⟩,
   ⟨st ready, { pkt with typ := 7, vc := 1, len := 0, body := [], cls := 0, addr := 2 }, .reopen ({ pkt with typ := 7, vc := 1, len := 0, body := [], cls := 0, addr := 2 }), 2, by decide +kernel⟩,
   ⟨st ready, { pkt with typ := 7, vc := 1, len := 0, body := [], cls := 0, addr := 3 }, .reopenAck ({ pkt with typ := 7, vc := 1, len := 0, body := [], cls := 0, addr := 3 }), 2, by decide +kernel⟩,
   ⟨st ready, { pkt with typ := 7, vc := 1, len := 0, body := [], cls := 0, addr := 4 }, .releaseAck ({ pkt with typ := 7, vc := 1, len := 0, body := [], cls := 0, addr := 4 }), 2, by decide +kernel⟩,
   ⟨st ready, { pkt with typ := 8, vc := 1, len := 0, body := [], cls := 0, addr := 1 }, .squashFrom ({ pkt with typ := 8, vc := 1, len := 0, body := [], cls := 0, addr := 1 }), 2, by decide +kernel⟩,
   ⟨st ready, { pkt with typ := 1, vc := 3, addr := 0x10000 }, .writePacket ({ pkt with typ := 1, vc := 3, addr := 0x10000 }), 4, by decide +kernel⟩,
   ⟨st ready, { pkt with typ := 1, vc := 3, addr := 0xFFF1 }, .writePacket ({ pkt with typ := 1, vc := 3, addr := 0xFFF1 }), 4, by decide +kernel⟩⟩

/-- The hypotheses of DiscardedPackets, part 3, are met. -/
theorem witness_DiscardedPackets_3 :
    (∃ (s : State) (p : Packet) (i : Instr) (k : Nat), i = .writePacket p ∧ i.wf = true ∧ s.dramWaits p = false ∧ s.mayLand p = true ∧ (s.receive p).ejectCause p.dstDie p = some k) ∧
    (∃ (s : State) (p : Packet) (i : Instr) (k : Nat), i = .squashFrom p ∧ i.wf = true ∧ s.dramWaits p = false ∧ s.mayLand p = true ∧ (s.receive p).ejectCause p.dstDie p = some k) :=
  ⟨⟨st (regs [(Reg.JOB_DEV_STATUS, 0, 1)]), { pkt with typ := 1, vc := 3 }, .writePacket ({ pkt with typ := 1, vc := 3 }), 5, by decide +kernel⟩,
   ⟨st (regs [(Reg.JOB_DEV_STATUS, 0, 1)]), { pkt with typ := 8, vc := 2, len := 0, body := [], addr := 1 }, .squashFrom ({ pkt with typ := 8, vc := 2, len := 0, body := [], addr := 1 }), 5, by decide +kernel⟩⟩

/-- The hypotheses of DataPackets, part 1, are met. -/
theorem witness_DataPackets_1 :
    (∃ (s : State) (p : Packet), s.dramWaits p = true ∧ Packet.of 1 p = true) ∧
    (∃ (s : State) (p : Packet), s.dramWaits p = true ∧ Packet.of 2 p = true) ∧
    (∃ (s : State) (p : Packet), s.dramWaits p = true ∧ Packet.of 5 p = true) ∧
    (∃ (s : State) (p : Packet), s.mayLand p = false ∧ Packet.of 1 p = true) ∧
    (∃ (s : State) (p : Packet), s.mayLand p = false ∧ Packet.of 2 p = true) ∧
    (∃ (s : State) (p : Packet), s.mayLand p = false ∧ Packet.of 3 p = true) ∧
    (∃ (s : State) (p : Packet), s.mayLand p = false ∧ Packet.of 4 p = true) ∧
    (∃ (s : State) (p : Packet), s.mayLand p = false ∧ Packet.of 5 p = true) ∧
    (∃ (s : State) (p : Packet), s.mayLand p = false ∧ Packet.of 9 p = true) ∧
    (∃ (s : State) (p : Packet), s.dramWaits p = false ∧ s.mayLand p = true ∧ (s.receive p).ejectCause p.dstDie p = none ∧ Packet.of 1 p = true) ∧
    (∃ (s : State) (p : Packet), s.dramWaits p = false ∧ s.mayLand p = true ∧ (s.receive p).ejectCause p.dstDie p = none ∧ Packet.of 2 p = true) ∧
    (∃ (s : State) (p : Packet), s.dramWaits p = false ∧ s.mayLand p = true ∧ (s.receive p).ejectCause p.dstDie p = none ∧ Packet.of 3 p = true) :=
  ⟨⟨st { ready with avl := { training := [0] } }, { pkt with typ := 1, vc := 3, dstUnit := 11 }, by decide +kernel⟩,
   ⟨st { ready with avl := { training := [0] } }, { pkt with typ := 2, vc := 3, dstUnit := 11 }, by decide +kernel⟩,
   ⟨st { ready with avl := { training := [0] } }, { pkt with typ := 5, vc := 3, dstUnit := 11 }, by decide +kernel⟩,
   ⟨st { ready with fab := { fly := [headKey ({ pkt with typ := 1, vc := 3, dstUnit := 9 })] } }, { pkt with typ := 1, vc := 3, dstUnit := 9 }, by decide +kernel⟩,
   ⟨st { ready with fab := { fly := [headKey ({ pkt with typ := 2, vc := 3, dstUnit := 9 })] } }, { pkt with typ := 2, vc := 3, dstUnit := 9 }, by decide +kernel⟩,
   ⟨st { ready with fab := { fly := [headKey ({ pkt with typ := 3, vc := 1, dstUnit := 9 })] } }, { pkt with typ := 3, vc := 1, dstUnit := 9 }, by decide +kernel⟩,
   ⟨st { ready with fab := { fly := [headKey ({ pkt with typ := 4, vc := 1, len := 0, body := [], dstUnit := 9 })] } }, { pkt with typ := 4, vc := 1, len := 0, body := [], dstUnit := 9 }, by decide +kernel⟩,
   ⟨st { ready with fab := { fly := [headKey ({ pkt with typ := 5, vc := 3, dstUnit := 9 })] } }, { pkt with typ := 5, vc := 3, dstUnit := 9 }, by decide +kernel⟩,
   ⟨st { ready with fab := { fly := [headKey ({ pkt with typ := 9, vc := 2, len := 0, body := [], dstUnit := 9 })] } }, { pkt with typ := 9, vc := 2, len := 0, body := [], dstUnit := 9 }, by decide +kernel⟩,
   ⟨st ready, { pkt with typ := 1, vc := 3, dstUnit := 9, addr := 65520 }, by decide +kernel⟩,
   ⟨st ready, { pkt with typ := 2, vc := 3, dstUnit := 9, addr := 65520 }, by decide +kernel⟩,
   ⟨st ready, { pkt with typ := 3, vc := 1, dstUnit := 9, addr := 0 }, by decide +kernel⟩⟩

/-- The hypotheses of DataPackets, part 2, are met. -/
theorem witness_DataPackets_2 :
    (∃ (s : State) (p : Packet), s.dramWaits p = false ∧ s.mayLand p = true ∧ (s.receive p).ejectCause p.dstDie p = none ∧ Packet.of 4 p = true) ∧
    (∃ (s : State) (p : Packet), s.dramWaits p = false ∧ s.mayLand p = true ∧ (s.receive p).ejectCause p.dstDie p = none ∧ Packet.of 5 p = true) ∧
    (∃ (s : State) (p : Packet), s.dramWaits p = false ∧ s.mayLand p = true ∧ (s.receive p).ejectCause p.dstDie p = none ∧ Packet.of 9 p = true) ∧
    (∃ (s : State) (p : Packet), s.dramWaits p = false ∧ s.mayLand p = true ∧ (s.receive p).ejectCause p.dstDie p = none ∧ Packet.of 1 p = true ∧ p.notify = true ∧ dieKind p.dstDie = 1 ∧ p.dstUnit ≤ 9 ∧ p.spec = false ∧ p.poison = [] ∧
      (s.receive p).isCut p = false ∧ p.vc = 3) ∧
    (∃ (s : State) (p : Packet), s.dramWaits p = false ∧ s.mayLand p = true ∧ (s.receive p).ejectCause p.dstDie p = none ∧ Packet.of 1 p = true ∧ p.notify = false ∧ dieKind p.dstDie = 1 ∧ p.dstUnit ≤ 9 ∧ p.spec = false ∧ p.poison = [] ∧
      (s.receive p).isCut p = false ∧ p.vc = 3) ∧
    (∃ (s : State) (p : Packet), s.dramWaits p = false ∧ s.mayLand p = true ∧ (s.receive p).ejectCause p.dstDie p = none ∧ Packet.of 1 p = true ∧ dieKind p.dstDie ≠ 1 ∧ p.spec = true ∧ specRefused p.dstDie p.dstUnit = true ∧ p.vc = 3) ∧
    (∃ (s : State) (p : Packet), s.dramWaits p = false ∧ s.mayLand p = true ∧ (s.receive p).ejectCause p.dstDie p = none ∧ Packet.of 2 p = true ∧ ¬(dieKind p.dstDie = 0 ∧ p.dstUnit = 5 ∧ p.spec = false ∧ p.srcUnit = 15) ∧ p.spec = true ∧
      specRefused p.dstDie p.dstUnit = true) ∧
    (∃ (s : State) (p : Packet), s.dramWaits p = false ∧ s.mayLand p = true ∧ (s.receive p).ejectCause p.dstDie p = none ∧ Packet.of 3 p = true ∧ (s.receive p).isCut p = true) ∧
    (∃ (s : State) (p : Packet), s.dramWaits p = false ∧ s.mayLand p = true ∧ (s.receive p).ejectCause p.dstDie p = none ∧ Packet.of 3 p = true ∧ (s.receive p).isCut p = false ∧ dieKind p.dstDie = 1 ∧ p.dstUnit ≤ 9) ∧
    (∃ (s : State) (p : Packet), s.dramWaits p = false ∧ s.mayLand p = true ∧ (s.receive p).ejectCause p.dstDie p = none ∧ Packet.of 3 p = true ∧ (s.receive p).isCut p = false ∧ ¬(dieKind p.dstDie = 1 ∧ p.dstUnit ≤ 9)) ∧
    (∃ (s : State) (p : Packet), s.dramWaits p = false ∧ s.mayLand p = true ∧ (s.receive p).ejectCause p.dstDie p = none ∧ Packet.of 4 p = true ∧ dieKind p.dstDie = 1 ∧ p.dstUnit ≤ 9 ∧
      (((s.receive p).core (unitCore p.dstDie p.dstUnit)).dma.find? (fun d =>
        !d.read && d.tag == p.tag && d.die == p.srcDie && d.unit == p.srcUnit)).isSome = true ∧ p.rsp ≠ 3) ∧
    (∃ (s : State) (p : Packet), s.dramWaits p = false ∧ s.mayLand p = true ∧ (s.receive p).ejectCause p.dstDie p = none ∧ Packet.of 4 p = true ∧ dieKind p.dstDie = 1 ∧ p.dstUnit ≤ 9 ∧
      (((s.receive p).core (unitCore p.dstDie p.dstUnit)).dma.find? (fun d =>
        !d.read && d.tag == p.tag && d.die == p.srcDie && d.unit == p.srcUnit)).isSome = true ∧ p.rsp = 3) :=
  ⟨⟨st ready, { pkt with typ := 4, vc := 1, len := 0, body := [], dstUnit := 9, addr := 0 }, by decide +kernel⟩,
   ⟨st ready, { pkt with typ := 5, vc := 3, dstUnit := 9, addr := 65520 }, by decide +kernel⟩,
   ⟨st ready, { pkt with typ := 9, vc := 2, len := 0, body := [], dstUnit := 9, addr := 0 }, by decide +kernel⟩,
   ⟨st ready, { pkt with dstUnit := 9, notify := true }, by decide +kernel⟩,
   ⟨st ready, { pkt with dstUnit := 9, notify := false }, by decide +kernel⟩,
   ⟨st ready, { pkt with dstDie := 0, spec := true }, by decide +kernel⟩,
   ⟨st ready, { pkt with typ := 2, vc := 3, dstDie := 0, spec := true }, by decide +kernel⟩,
   ⟨st { ready with fab := { cut := [{ pkt with typ := 3, vc := 1 }] } }, { pkt with typ := 3, vc := 1 }, by decide +kernel⟩,
   ⟨st ready, { pkt with typ := 3, vc := 1, dstUnit := 9 }, by decide +kernel⟩,
   ⟨st ready, { pkt with typ := 3, vc := 1, dstUnit := 10 }, by decide +kernel⟩,
   ⟨st (ready.setCore 0 { dma := [{ tag := 0, seq := 0, die := sparDie 1, unit := 0, raddr := 0, laddr := 0, bytes := 16, read := false, probe := false, sent := true }] }), { pkt with typ := 4, vc := 1, len := 0, body := [], rsp := 0 }, by decide +kernel⟩,
   ⟨st (ready.setCore 0 { dma := [{ tag := 0, seq := 0, die := sparDie 1, unit := 0, raddr := 0, laddr := 0, bytes := 16, read := false, probe := false, sent := true }] }), { pkt with typ := 4, vc := 1, len := 0, body := [], rsp := 3 }, by decide +kernel⟩⟩

/-- The hypotheses of VerdictPackets, part 1, are met. -/
theorem witness_VerdictPackets_1 :
    (∃ (s : State) (p : Packet), s.mayLand p = true ∧ (s.receive p).ejectCause p.dstDie p = none ∧ Packet.verdict 1 p = true ∧ toCore p = true) ∧
    (∃ (s : State) (p : Packet), s.mayLand p = true ∧ (s.receive p).ejectCause p.dstDie p = none ∧ Packet.verdict 1 p = true ∧ dieKind p.dstDie = 1 ∧ p.dstUnit = 13) ∧
    (∃ (s : State) (p : Packet), s.mayLand p = true ∧ (s.receive p).ejectCause p.dstDie p = none ∧ Packet.verdict 1 p = true ∧ toCore p = false ∧ ¬(dieKind p.dstDie = 1 ∧ p.dstUnit = 13)) ∧
    (∃ (s : State) (p : Packet), s.mayLand p = true ∧ (s.receive p).ejectCause p.dstDie p = none ∧ Packet.of 7 p = true ∧ (p.addr = 0 ∨ 4 < p.addr)) ∧
    (∃ (s : State) (p : Packet), s.mayLand p = true ∧ (s.receive p).ejectCause p.dstDie p = none ∧ Packet.of 7 p = true ∧ (p.addr = 0 ∨ 4 < p.addr)) ∧
    (∃ (s : State) (p : Packet), s.mayLand p = true ∧ (s.receive p).ejectCause p.dstDie p = none ∧ Packet.verdict 2 p = true ∧ toCore p = true) ∧
    (∃ (s : State) (p : Packet), s.mayLand p = true ∧ (s.receive p).ejectCause p.dstDie p = none ∧ Packet.verdict 2 p = true ∧ toCore p = false) ∧
    (∃ (s : State) (p : Packet), s.mayLand p = true ∧ (s.receive p).ejectCause p.dstDie p = none ∧ Packet.verdict 3 p = true ∧ toCore p = true) ∧
    (∃ (s : State) (p : Packet), s.mayLand p = true ∧ (s.receive p).ejectCause p.dstDie p = none ∧ Packet.verdict 3 p = true ∧ toCore p = false) ∧
    (∃ (s : State) (p : Packet), s.mayLand p = true ∧ (s.receive p).ejectCause p.dstDie p = none ∧ Packet.verdict 4 p = true ∧ toCore p = true) ∧
    (∃ (s : State) (p : Packet), s.mayLand p = true ∧ (s.receive p).ejectCause p.dstDie p = none ∧ Packet.verdict 4 p = true ∧ toCore p = false) ∧
    (∃ (s : State) (p : Packet), s.mayLand p = true ∧ (s.receive p).ejectCause p.dstDie p = none ∧ Packet.of 8 p = true ∧ p.addr = 1 ∧ p.specEng < 1600 ∧ toCore p = true) :=
  ⟨⟨st ready, { pkt with typ := 7, vc := 2, len := 0, body := [], spec := true, specEng := 1599, addr := 1, dstUnit := 9 }, by decide +kernel⟩,
   ⟨st ready, { pkt with typ := 7, vc := 2, len := 0, body := [], spec := true, specEng := 1599, addr := 1, dstUnit := 13 }, by decide +kernel⟩,
   ⟨st ready, { pkt with typ := 7, vc := 2, len := 0, body := [], spec := true, specEng := 1599, addr := 1, dstUnit := 10 }, by decide +kernel⟩,
   ⟨st ready, { pkt with typ := 7, vc := 2, len := 0, body := [], spec := true, specEng := 1599, addr := 0, dstUnit := 0 }, by decide +kernel⟩,
   ⟨st ready, { pkt with typ := 7, vc := 2, len := 0, body := [], spec := true, specEng := 1599, addr := 5, dstUnit := 0 }, by decide +kernel⟩,
   ⟨st ready, { pkt with typ := 7, vc := 2, len := 0, body := [], spec := true, specEng := 1599, addr := 2, dstUnit := 9 }, by decide +kernel⟩,
   ⟨st ready, { pkt with typ := 7, vc := 2, len := 0, body := [], spec := true, specEng := 1599, addr := 2, dstUnit := 10 }, by decide +kernel⟩,
   ⟨st ready, { pkt with typ := 7, vc := 2, len := 0, body := [], spec := true, specEng := 1599, addr := 3, dstUnit := 9 }, by decide +kernel⟩,
   ⟨st ready, { pkt with typ := 7, vc := 2, len := 0, body := [], spec := true, specEng := 1599, addr := 3, dstUnit := 10 }, by decide +kernel⟩,
   ⟨st ready, { pkt with typ := 7, vc := 2, len := 0, body := [], spec := true, specEng := 1599, addr := 4, dstUnit := 9 }, by decide +kernel⟩,
   ⟨st ready, { pkt with typ := 7, vc := 2, len := 0, body := [], spec := true, specEng := 1599, addr := 4, dstUnit := 10 }, by decide +kernel⟩,
   ⟨st ready, { pkt with typ := 8, vc := 2, len := 0, body := [], spec := true, specEng := 1599, addr := 1, dstUnit := 9 }, by decide +kernel⟩⟩

/-- The hypotheses of VerdictPackets, part 2, are met. -/
theorem witness_VerdictPackets_2 :
    (∃ (s : State) (p : Packet), s.mayLand p = true ∧ (s.receive p).ejectCause p.dstDie p = none ∧ Packet.of 8 p = true ∧ p.addr = 1 ∧ p.specEng < 1600 ∧ toCore p = true ∧
      (let u := (s.receive p).inc Reg.TLT_SQUASH_IN (unitCore p.dstDie p.dstUnit) 1; let k := u.core (unitCore p.dstDie p.dstUnit)
       let d : Dep := nget {} k.deps (verdictCore p)
       squashIdle d.cleaned (nget none k.shut (verdictCore p)) p.specEpoch (!(d.landed.filter (fun e => epochGe e p.specEpoch)).isEmpty)) = true) ∧
    (∃ (s : State) (p : Packet), s.mayLand p = true ∧ (s.receive p).ejectCause p.dstDie p = none ∧ Packet.of 8 p = true ∧ p.addr = 1 ∧ p.specEng < 1600 ∧ toCore p = true ∧
      (let u := (s.receive p).inc Reg.TLT_SQUASH_IN (unitCore p.dstDie p.dstUnit) 1; let k := u.core (unitCore p.dstDie p.dstUnit)
       let d : Dep := nget {} k.deps (verdictCore p)
       squashIdle d.cleaned (nget none k.shut (verdictCore p)) p.specEpoch (!(d.landed.filter (fun e => epochGe e p.specEpoch)).isEmpty)) = false ∧
      highEpoch (nget ({} : Dep) (((s.receive p).inc Reg.TLT_SQUASH_IN (unitCore p.dstDie p.dstUnit) 1).core (unitCore p.dstDie p.dstUnit)).deps (verdictCore p)).epochs = none) ∧
    (∃ (s : State) (p : Packet), s.mayLand p = true ∧ (s.receive p).ejectCause p.dstDie p = none ∧ Packet.of 8 p = true ∧ p.addr = 1 ∧ p.specEng < 1600 ∧ toCore p = false ∧ ¬(dieKind p.dstDie = 1 ∧ p.dstUnit = 13)) ∧
    (∃ (s : State) (p : Packet), s.mayLand p = true ∧ (s.receive p).ejectCause p.dstDie p = none ∧ Packet.of 8 p = true ∧ p.addr ≠ 1) :=
  ⟨⟨st (ready.setCore 0 { deps := [(399, { cleaned := some 3 })] }), { pkt with typ := 8, vc := 2, len := 0, body := [], spec := true, specEng := 1599, addr := 1, specEpoch := 3, dstUnit := 0 }, by decide +kernel⟩,
   ⟨st ready, { pkt with typ := 8, vc := 2, len := 0, body := [], spec := true, specEng := 1599, addr := 1, dstUnit := 0 }, by decide +kernel⟩,
   ⟨st ready, { pkt with typ := 8, vc := 2, len := 0, body := [], spec := true, specEng := 1599, addr := 1, dstUnit := 10 }, by decide +kernel⟩,
   ⟨st ready, { pkt with typ := 8, vc := 2, len := 0, body := [], spec := true, specEng := 1599, addr := 2, dstUnit := 9 }, by decide +kernel⟩⟩

/-- The hypotheses of FlitsAndReplays, part 1, are met. -/
theorem witness_FlitsAndReplays_1 :
    (∃ (s : State) (die port : Nat), portOk die port = true ∧ s.pump.portState die port ≠ 2) ∧
    (∃ (s : State) (die port ord : Nat) (head : BitVec 128), portOk die port = true ∧ s.pump.nextFlit die port head ord = false) ∧
    (∃ (s : State) (die port x ord : Nat) (head : BitVec 128), portOk die port = true ∧ peerOf die port = some x ∧ s.pump.portState die port = 2 ∧ nget none s.pump.fab.nak (linkKey x (oppPort port)) = none ∧
      s.pump.nextFlit die port head ord = true ∧ s.pump.unacked x (oppPort port) ≠ []) ∧
    (∃ (s : State) (die port x ord : Nat) (head : BitVec 128), portOk die port = true ∧ peerOf die port = some x ∧ s.pump.portState die port = 2 ∧ nget none s.pump.fab.nak (linkKey x (oppPort port)) = none ∧
      s.pump.nextFlit die port head ord = true ∧ s.pump.unacked x (oppPort port) = []) ∧
    (∃ (s : State) (die port seq : Nat), portOk die port = true ∧ (s.portState die port ≠ 2 ∨ (s.unacked die port).dropWhile (fun f => f.seq ≠ seq) = [])) ∧
    (∃ (s : State) (die port seq : Nat), portOk die port = true ∧ s.portState die port = 2 ∧ (s.unacked die port).dropWhile (fun f => f.seq ≠ seq) ≠ [] ∧
      (nget (0, 0) s.fab.replays (linkKey die port)).1 = seq) ∧
    (∃ (s : State) (die port : Nat), portOk die port = true ∧ (s.portState die port ≠ 2 ∨ (nget (0, 0) s.fab.replays (linkKey die port)).2 < 16)) ∧
    (∃ (s : State) (die port x : Nat), portOk die port = true ∧ peerOf die port = some x ∧ s.portState die port = 2 ∧ 16 ≤ (nget (0, 0) s.fab.replays (linkKey die port)).2) ∧
    (∃ (s : State) (die port : Nat), portOk die port = true ∧ s.portState die port ≠ 3) ∧
    (∃ (s : State) (die port : Nat), portOk die port = true ∧ s.portState die port = 3) ∧
    (∃ (s : State) (die port : Nat), portOk die port = true ∧ s.portState die port = 3 ∧ s.rdf (portReg Reg.STAY_PORT_SPARES port) die 1 0 = 2) ∧
    (∃ (s : State) (die port x : Nat), portOk die port = true ∧ peerOf die port = some x ∧ s.portState die port = 3 ∧ s.rdf (portReg Reg.STAY_PORT_SPARES port) die 1 0 ≠ 2) :=
  ⟨⟨st (ready.stayState 0 0 3), 0, 0, by decide +kernel⟩,
   ⟨st ready, 99, 3, 1, 0, by decide +kernel⟩,
   ⟨st { ready with fab := { replay := [(linkKey 89 1, [{ seq := 7, head := 0, ord := 0 }])] } }, 99, 3, 89, 0, 0, by decide +kernel⟩,
   ⟨st ready, 99, 3, 89, 0, 0, by decide +kernel⟩,
   ⟨st ready, 0, 0, 0, by decide +kernel⟩,
   ⟨st { ready with fab := { replay := [(0, [{ seq := 4, head := 0, ord := 0 }, { seq := 5, head := 0, ord := 0 }])], replays := [(0, (5, 15))] } }, 0, 0, 5, by decide +kernel⟩,
   ⟨st { ready with fab := { replay := [(0, [{ seq := 4, head := 0, ord := 0 }, { seq := 5, head := 0, ord := 0 }])], replays := [(0, (5, 15))] } }, 0, 0, by decide +kernel⟩,
   ⟨st { ready with fab := { replays := [(0, (5, 16))] } }, 0, 0, 1, by decide +kernel⟩,
   ⟨st ready, 0, 0, by decide +kernel⟩,
   ⟨st (ready.stayState 0 0 3), 0, 0, by decide +kernel⟩,
   ⟨st ((ready.stayState 0 0 3).wrf (portReg Reg.STAY_PORT_SPARES 0) 0 1 0 2), 0, 0, by decide +kernel⟩,
   ⟨st (ready.stayState 0 0 3), 0, 0, 1, by decide +kernel⟩⟩

/-- The hypotheses of FlitsAndReplays, part 2, are met. -/
theorem witness_FlitsAndReplays_2 :
    (∃ (s : State) (die port : Nat), portOk die port = true ∧ (s.portState die port ≠ 2 ∨ s.creditsOut die port = false)) ∧
    (∃ (s : State) (die port x : Nat), portOk die port = true ∧ peerOf die port = some x ∧ s.portState die port = 2 ∧ s.creditsOut die port = true) ∧
    (∃ (s : State) (die m : Nat), (die = 42 ∨ die = 52) ∧ m < 2 ∧ s.mirrorState m ≠ 2) ∧
    (∃ (s : State) (die m : Nat), (die = 42 ∨ die = 52) ∧ m < 2 ∧ s.mirrorState m = 2) ∧
    (∃ (s : State) (die m : Nat), (die = 42 ∨ die = 52) ∧ m < 2 ∧ s.mirrorState m ≠ 3) ∧
    (∃ (s : State) (die m : Nat), (die = 42 ∨ die = 52) ∧ m < 2 ∧ s.mirrorState m = 3) ∧
    (∃ (s : State) (die m : Nat), (die = 42 ∨ die = 52) ∧ m < 2 ∧ (nget (0, 0) s.fab.replays (linkKey die (4 + m))).2 < 16) ∧
    (∃ (s : State) (die m : Nat), (die = 42 ∨ die = 52) ∧ m < 2 ∧ s.mirrorState m = 2 ∧ 16 ≤ (nget (0, 0) s.fab.replays (linkKey die (4 + m))).2) ∧
    (∃ (s : State) (die m : Nat), (die = 42 ∨ die = 52) ∧ m < 2 ∧ s.mirrorState m = 3 ∧ nget 0 s.fab.spares (linkKey die (4 + m)) = 2) ∧
    (∃ (s : State) (die m : Nat), (die = 42 ∨ die = 52) ∧ m < 2 ∧ s.mirrorState m = 3 ∧ nget 0 s.fab.spares (linkKey die (4 + m)) ≠ 2) ∧
    (∃ die m k : Nat, (die = 42 ∨ die = 52) ∧ m < 2 ∧ k < 16) ∧
    (∃ (s : State) (die m : Nat), (die = 42 ∨ die = 52) ∧ m < 2 ∧ s.mirrorState (1 - m) = 4) :=
  ⟨⟨st ready, 0, 0, by decide +kernel⟩,
   ⟨st { ready with fab := { bufs := [(bufKey 1 2 0 0, [{ head := 0, ord := 0 }])] } }, 0, 0, 1, by decide +kernel⟩,
   ⟨st (ready.setMirror 1 3), 52, 1, by decide +kernel⟩,
   ⟨st (ready.setMirror 1 2), 52, 1, by decide +kernel⟩,
   ⟨st (ready.setMirror 1 2), 52, 1, by decide +kernel⟩,
   ⟨st (ready.setMirror 1 3), 52, 1, by decide +kernel⟩,
   ⟨st (ready.setMirror 1 2), 52, 1, by decide +kernel⟩,
   ⟨st { ready.setMirror 1 2 with fab := { replays := [(linkKey 52 5, (1, 16))] } }, 52, 1, by decide +kernel⟩,
   ⟨st { ready.setMirror 1 3 with fab := { spares := [(linkKey 52 5, 2)] } }, 52, 1, by decide +kernel⟩,
   ⟨st (ready.setMirror 1 3), 52, 1, by decide +kernel⟩,
   ⟨52, 1, 15, by decide +kernel⟩,
   ⟨st (ready.setMirror 0 4), 42, 1, by decide +kernel⟩⟩

/-- The hypotheses of RoutesAndNotices, part 1, are met. -/
theorem witness_RoutesAndNotices_1 :
    (∃ (s : State) (die port : Nat), portOk die port = true ∧ s.net = []) ∧
    (∃ (s : State) (die port : Nat), portOk die port = true ∧
      (s.net.find? (fun q => q.typ = 10 ∧ q.srcDie = die ∧ q.srcUnit = 14 ∧ q.addr = port ∧ q.len = 0)).isSome = true) ∧
    (∃ s : State, s.cutOff = false) ∧
    (∃ (s : State) (die : Nat) (es : List (Nat × Nat)), die < 100 ∧ (es.all (fun q => decide (q.1 < 100) && decide (q.2 < 2 ^ 32))) = true ∧ s.fab.reroute.find? (fun q => q.1 = die) = none) ∧
    (∃ (s : State) (die : Nat) (es : List (Nat × Nat)), die < 100 ∧ (es.all (fun q => decide (q.1 < 100) && decide (q.2 < 2 ^ 32))) = true ∧
      (s.fab.reroute.find? (fun q => q.1 = die)).map (fun q => q.2.filter (fun x => !es.contains (x.1, x.2.1))) = some []) ∧
    (∃ (s : State) (die : Nat) (es : List (Nat × Nat)), die < 100 ∧
      (s.fab.reroute.find? (fun q => q.1 = die)).map (fun q => q.2.filter (fun x => !es.contains (x.1, x.2.1))) = some [(99, 1, true)]) ∧
    (∃ (s : State) (t : Trunc), (Instr.truncNotice t).wf = true ∧ s.net = [] ∧ s.fab.cut.find? (truncNames t) = none) ∧
    (∃ (s : State) (t : Trunc), (Instr.truncNotice t).wf = true ∧ s.net = [] ∧ (s.fab.cut.find? (truncNames t)).isSome = true ∧ t.typ = 3 ∧ dieKind t.dstDie = 1 ∧ t.dstUnit ≤ 9) ∧
    (∃ (s : State) (t : Trunc), (Instr.truncNotice t).wf = true ∧ s.net = [] ∧ (s.fab.cut.find? (truncNames t)).isSome = true ∧ t.typ = 3 ∧ ¬(dieKind t.dstDie = 1 ∧ t.dstUnit ≤ 9)) ∧
    (∃ (s : State) (t : Trunc), (Instr.truncNotice t).wf = true ∧ s.net = [] ∧ (s.fab.cut.find? (truncNames t)).isSome = true ∧ t.typ ≠ 3 ∧ (t.typ = 5 ∨ t.vc = 2)) ∧
    (∃ (s : State) (t : Trunc), (Instr.truncNotice t).wf = true ∧ s.net = [] ∧ (s.fab.cut.find? (truncNames t)).isSome = true ∧ t.typ ≠ 3 ∧ (t.typ = 5 ∨ t.vc = 2)) ∧
    (∃ (s : State) (t : Trunc), (Instr.truncNotice t).wf = true ∧ s.net = [] ∧ (s.fab.cut.find? (truncNames t)).isSome = true ∧ t.typ ≠ 3 ∧ t.typ ≠ 5 ∧ t.vc = 0 ∧ t.spec = true ∧ t.specEng < 1600) :=
  ⟨⟨st ready, 99, 3, by decide +kernel⟩,
   ⟨st { ready with net := [{ pkt with typ := 10, srcDie := 99, srcUnit := 14, addr := 3, len := 0 }] }, 99, 3, by decide +kernel⟩,
   ⟨st (regs ((List.range 100).map (fun d => (Reg.AVL_DIE_STATUS, d, if d = 42 then 0 else 1)))), by decide +kernel⟩,
   ⟨st ready, 99, [(99, 0xFFFFFFFF)], by decide +kernel⟩,
   ⟨st { ready with fab := { reroute := [(99, [(99, 1, true)])] } }, 99, [(99, 1)], by decide +kernel⟩,
   ⟨st { ready with fab := { reroute := [(99, [(99, 1, true)])] } }, 99, [], by decide +kernel⟩,
   ⟨st ready, ⟨3, 1, false, 11, 0, 3, 0, 0, 2047, 0⟩, by decide +kernel⟩,
   ⟨st { ready with fab := { cut := [{ pkt with typ := 3, vc := 1, dstDie := 3, dstUnit := 9, spec := false, specEng := 0 }] } }, ⟨3, 1, false, sparDie 1, 0, 3, 9, 0, 0, 0⟩, by decide +kernel⟩,
   ⟨st { ready with fab := { cut := [{ pkt with typ := 3, vc := 1, dstDie := 3, dstUnit := 13, spec := false, specEng := 0 }] } }, ⟨3, 1, false, sparDie 1, 0, 3, 13, 0, 0, 0⟩, by decide +kernel⟩,
   ⟨st { ready with fab := { cut := [{ pkt with typ := 5, vc := 3, dstDie := 3, dstUnit := 11, spec := false, specEng := 0 }] } }, ⟨5, 3, false, sparDie 1, 0, 3, 11, 0, 0, 0⟩, by decide +kernel⟩,
   ⟨st { ready with fab := { cut := [{ pkt with typ := 7, vc := 2, dstDie := 3, dstUnit := 0, spec := true, specEng := 0 }] } }, ⟨7, 2, true, sparDie 1, 0, 3, 0, 0, 0, 0⟩, by decide +kernel⟩,
   ⟨st { ready with fab := { cut := [{ pkt with typ := 1, vc := 0, dstDie := 3, dstUnit := 0, spec := true, specEng := 1599 }] } }, ⟨1, 0, true, sparDie 1, 0, 3, 0, 0, 1599, 0⟩, by decide +kernel⟩⟩

/-- The hypotheses of RoutesAndNotices, part 2, are met. -/
theorem witness_RoutesAndNotices_2 :
    (∃ (s : State) (t : Trunc), (Instr.truncNotice t).wf = true ∧ s.net = [] ∧ (s.fab.cut.find? (truncNames t)).isSome = true ∧ t.typ ≠ 3 ∧ t.typ ≠ 5 ∧ t.vc ≠ 2 ∧ ¬(t.vc = 0 ∧ t.spec = true ∧ t.specEng < 1600)) ∧
    (∃ (s : State) (die fenced : Nat), die < 100 ∧ fenced < 100 ∧ s.fenced fenced = false) ∧
    (∃ (s : State) (die fenced : Nat), die < 100 ∧ fenced < 100 ∧ s.fenced fenced = true ∧ ∀ p ∈ s.net, ¬(p.srcDie = die ∧ p.dstDie = fenced)) ∧
    (∃ (s : State) (die out vc : Nat), die < 100 ∧ out < 5 ∧ vc < 4 ∧ nget 0 s.fab.epochAt (shareKey die out vc 0) < 1024) ∧
    (∃ (s : State) (die out vc : Nat), die < 100 ∧ out < 5 ∧ vc < 4 ∧ 1024 ≤ nget 0 s.fab.epochAt (shareKey die out vc 0)) :=
  ⟨⟨st { ready with fab := { cut := [{ pkt with typ := 1, vc := 3, dstDie := 3, dstUnit := 0, spec := true, specEng := 1599 }] } }, ⟨1, 3, true, sparDie 1, 0, 3, 0, 0, 1599, 0⟩, by decide +kernel⟩,
   ⟨st ready, 99, 0, by decide +kernel⟩,
   ⟨st (regs [(Reg.AVL_DIE_STATUS, 99, 1)]), 0, 99, by decide +kernel⟩,
   ⟨st { ready with fab := { epochAt := [(shareKey 99 4 3 0, 1023)] } }, 99, 4, 3, by decide +kernel⟩,
   ⟨st { ready with fab := { epochAt := [(shareKey 99 4 3 0, 1024)] } }, 99, 4, 3, by decide +kernel⟩⟩

/-- The hypotheses of UnitInstructionStops, part 1, are met. -/
theorem witness_UnitInstructionStops_1 :
    (∃ (s : State) (c : Nat) (i : BitVec 128) (ok : Bool) (r : Instr × Nat × Nat), r ∈ unitRows c i ok ∧ unitOf r.2.1 r.2.2 c i = true ∧ s.faulted c = true) ∧
    (∃ (s : State) (c : Nat) (i : BitVec 128) (ok : Bool) (r : Instr × Nat × Nat), r ∈ unitRows c i ok ∧ unitOf r.2.1 r.2.2 c i = true ∧ s.faulted c = true) ∧
    (∃ (s : State) (c : Nat) (i : BitVec 128) (ok : Bool) (r : Instr × Nat × Nat), r ∈ unitRows c i ok ∧ unitOf r.2.1 r.2.2 c i = true ∧ s.faulted c = true) ∧
    (∃ (s : State) (c : Nat) (i : BitVec 128) (ok : Bool) (r : Instr × Nat × Nat), r ∈ unitRows c i ok ∧ unitOf r.2.1 r.2.2 c i = true ∧ s.faulted c = true) ∧
    (∃ (s : State) (c : Nat) (i : BitVec 128) (ok : Bool) (r : Instr × Nat × Nat), r ∈ unitRows c i ok ∧ unitOf r.2.1 r.2.2 c i = true ∧ s.faulted c = true) ∧
    (∃ (s : State) (c : Nat) (i : BitVec 128) (ok : Bool) (r : Instr × Nat × Nat), r ∈ unitRows c i ok ∧ unitOf r.2.1 r.2.2 c i = true ∧ s.faulted c = true) ∧
    (∃ (s : State) (c : Nat) (i : BitVec 128) (ok : Bool) (r : Instr × Nat × Nat), r ∈ unitRows c i ok ∧ unitOf r.2.1 r.2.2 c i = true ∧ s.faulted c = true) ∧
    (∃ (s : State) (c : Nat) (i : BitVec 128) (ok : Bool) (r : Instr × Nat × Nat), r ∈ unitRows c i ok ∧ unitOf r.2.1 r.2.2 c i = true ∧ s.faulted c = true) ∧
    (∃ (s : State) (c : Nat) (i : BitVec 128) (ok : Bool) (r : Instr × Nat × Nat), r ∈ unitRows c i ok ∧ unitOf r.2.1 r.2.2 c i = true ∧ s.faulted c = true) ∧
    (∃ (s : State) (c : Nat) (i : BitVec 128) (ok : Bool) (r : Instr × Nat × Nat), r ∈ unitRows c i ok ∧ unitOf r.2.1 r.2.2 c i = true ∧ s.faulted c = true) ∧
    (∃ (s : State) (c : Nat) (i : BitVec 128) (ok : Bool) (r : Instr × Nat × Nat), r ∈ unitRows c i ok ∧ unitOf r.2.1 r.2.2 c i = true ∧ s.faulted c = true) ∧
    (∃ (s : State) (c : Nat) (i : BitVec 128) (ok : Bool) (r : Instr × Nat × Nat), r ∈ unitRows c i ok ∧ unitOf r.2.1 r.2.2 c i = true ∧ s.faulted c = true) :=
  ⟨⟨st (regs [(Reg.CORE_STATE, 399, 9)] ready), 399, (ins [(124, 1), (120, 1), (93, 1), (36, 1)]), true, (.wload 399 (ins [(124, 1), (120, 1), (93, 1), (36, 1)]), 1, 1), by decide +kernel⟩,
   ⟨st (regs [(Reg.CORE_STATE, 399, 9)] ready), 399, (ins [(124, 1), (120, 2), (93, 1), (80, 1), (36, 1), (70, 1)]), true, (.mac 399 (ins [(124, 1), (120, 2), (93, 1), (80, 1), (36, 1), (70, 1)]), 1, 2), by decide +kernel⟩,
   ⟨st (regs [(Reg.CORE_STATE, 399, 9)] ready), 399, (ins [(124, 1), (120, 3), (95, 1), (82, 1), (48, 1), (114, 7)]), true, (.drain 399 (ins [(124, 1), (120, 3), (95, 1), (82, 1), (48, 1), (114, 7)]), 1, 3), by decide +kernel⟩,
   ⟨st (regs [(Reg.CORE_STATE, 399, 9)] ready), 399, (ins [(124, 2), (118, 1)]), true, (.add 399 (ins [(124, 2), (118, 1)]) true, 2, 1), by decide +kernel⟩,
   ⟨st (regs [(Reg.CORE_STATE, 399, 9)] ready), 399, (ins [(124, 2), (118, 2)]), true, (.sub 399 (ins [(124, 2), (118, 2)]) true, 2, 2), by decide +kernel⟩,
   ⟨st (regs [(Reg.CORE_STATE, 399, 9)] ready), 399, (ins [(124, 2), (118, 3)]), true, (.mul 399 (ins [(124, 2), (118, 3)]) true, 2, 3), by decide +kernel⟩,
   ⟨st (regs [(Reg.CORE_STATE, 399, 9)] ready), 399, (ins [(124, 2), (118, 4)]), true, (.fma 399 (ins [(124, 2), (118, 4)]) true, 2, 4), by decide +kernel⟩,
   ⟨st (regs [(Reg.CORE_STATE, 399, 9)] ready), 399, (ins [(124, 2), (118, 5)]), true, (.max 399 (ins [(124, 2), (118, 5)]) true, 2, 5), by decide +kernel⟩,
   ⟨st (regs [(Reg.CORE_STATE, 399, 9)] ready), 399, (ins [(124, 2), (118, 6)]), true, (.min 399 (ins [(124, 2), (118, 6)]) true, 2, 6), by decide +kernel⟩,
   ⟨st (regs [(Reg.CORE_STATE, 399, 9)] ready), 399, (ins [(124, 2), (118, 7)]), true, (.abs 399 (ins [(124, 2), (118, 7)]) true, 2, 7), by decide +kernel⟩,
   ⟨st (regs [(Reg.CORE_STATE, 399, 9)] ready), 399, (ins [(124, 2), (118, 8)]), true, (.exp 399 (ins [(124, 2), (118, 8)]) true, 2, 8), by decide +kernel⟩,
   ⟨st (regs [(Reg.CORE_STATE, 399, 9)] ready), 399, (ins [(124, 2), (118, 9)]), true, (.recip 399 (ins [(124, 2), (118, 9)]) true, 2, 9), by decide +kernel⟩⟩

/-- The hypotheses of UnitInstructionStops, part 2, are met. -/
theorem witness_UnitInstructionStops_2 :
    (∃ (s : State) (c : Nat) (i : BitVec 128) (ok : Bool) (r : Instr × Nat × Nat), r ∈ unitRows c i ok ∧ unitOf r.2.1 r.2.2 c i = true ∧ s.faulted c = true) ∧
    (∃ (s : State) (c : Nat) (i : BitVec 128) (ok : Bool) (r : Instr × Nat × Nat), r ∈ unitRows c i ok ∧ unitOf r.2.1 r.2.2 c i = true ∧ s.faulted c = true) ∧
    (∃ (s : State) (c : Nat) (i : BitVec 128) (ok : Bool) (r : Instr × Nat × Nat), r ∈ unitRows c i ok ∧ unitOf r.2.1 r.2.2 c i = true ∧ s.faulted c = true) ∧
    (∃ (s : State) (c : Nat) (i : BitVec 128) (ok : Bool) (r : Instr × Nat × Nat), r ∈ unitRows c i ok ∧ unitOf r.2.1 r.2.2 c i = true ∧ s.faulted c = true) ∧
    (∃ (s : State) (c : Nat) (i : BitVec 128) (ok : Bool) (r : Instr × Nat × Nat), r ∈ unitRows c i ok ∧ unitOf r.2.1 r.2.2 c i = true ∧ s.faulted c = true) ∧
    (∃ (s : State) (c : Nat) (i : BitVec 128) (ok : Bool) (r : Instr × Nat × Nat), r ∈ unitRows c i ok ∧ unitOf r.2.1 r.2.2 c i = true ∧ s.faulted c = true) ∧
    (∃ (s : State) (c : Nat) (i : BitVec 128) (ok : Bool) (r : Instr × Nat × Nat), r ∈ unitRows c i ok ∧ unitOf r.2.1 r.2.2 c i = true ∧ s.faulted c = true) ∧
    (∃ (s : State) (c : Nat) (i : BitVec 128) (ok : Bool) (r : Instr × Nat × Nat), r ∈ unitRows c i ok ∧ unitOf r.2.1 r.2.2 c i = true ∧ s.faulted c = true) ∧
    (∃ (s : State) (c : Nat) (i : BitVec 128) (ok : Bool) (r : Instr × Nat × Nat), r ∈ unitRows c i ok ∧ unitOf r.2.1 r.2.2 c i = true ∧ s.faulted c = true) ∧
    (∃ (s : State) (c : Nat) (i : BitVec 128) (ok : Bool) (r : Instr × Nat × Nat), r ∈ unitRows c i ok ∧ unitOf r.2.1 r.2.2 c i = true ∧ s.faulted c = true) ∧
    (∃ (s : State) (c : Nat) (i : BitVec 128) (ok : Bool) (r : Instr × Nat × Nat), r ∈ unitRows c i ok ∧ unitOf r.2.1 r.2.2 c i = true ∧ s.faulted c = true) ∧
    (∃ (s : State) (c : Nat) (i : BitVec 128) (ok : Bool) (r : Instr × Nat × Nat), r ∈ unitRows c i ok ∧ unitOf r.2.1 r.2.2 c i = true ∧ s.faulted c = true) :=
  ⟨⟨st (regs [(Reg.CORE_STATE, 399, 9)] ready), 399, (ins [(124, 2), (118, 10)]), true, (.rsqrt 399 (ins [(124, 2), (118, 10)]) true, 2, 10), by decide +kernel⟩,
   ⟨st (regs [(Reg.CORE_STATE, 399, 9)] ready), 399, (ins [(124, 2), (118, 11)]), true, (.sigmoid 399 (ins [(124, 2), (118, 11)]) true, 2, 11), by decide +kernel⟩,
   ⟨st (regs [(Reg.CORE_STATE, 399, 9)] ready), 399, (ins [(124, 2), (118, 12)]), true, (.siluMul 399 (ins [(124, 2), (118, 12)]) true, 2, 12), by decide +kernel⟩,
   ⟨st (regs [(Reg.CORE_STATE, 399, 9)] ready), 399, (ins [(124, 2), (118, 13)]), true, (.cvt 399 (ins [(124, 2), (118, 13)]) true, 2, 13), by decide +kernel⟩,
   ⟨st (regs [(Reg.CORE_STATE, 399, 9)] ready), 399, (ins [(124, 2), (118, 16)]), true, (.rsum 399 (ins [(124, 2), (118, 16)]) true, 2, 16), by decide +kernel⟩,
   ⟨st (regs [(Reg.CORE_STATE, 399, 9)] ready), 399, (ins [(124, 2), (118, 17)]), true, (.rmax 399 (ins [(124, 2), (118, 17)]) true, 2, 17), by decide +kernel⟩,
   ⟨st (regs [(Reg.CORE_STATE, 399, 9)] ready), 399, (ins [(124, 2), (118, 18)]), true, (.absmax 399 (ins [(124, 2), (118, 18)]) true, 2, 18), by decide +kernel⟩,
   ⟨st (regs [(Reg.CORE_STATE, 399, 9)] ready), 399, (ins [(124, 3), (120, 1)]), true, (.copy 399 (ins [(124, 3), (120, 1)]), 3, 1), by decide +kernel⟩,
   ⟨st (regs [(Reg.CORE_STATE, 399, 9)] ready), 399, (ins [(124, 3), (120, 3)]), true, (.get 399 (ins [(124, 3), (120, 3)]), 3, 3), by decide +kernel⟩,
   ⟨st (regs [(Reg.CORE_STATE, 399, 9)] ready), 399, (ins [(124, 4), (120, 1)]), true, (.ckpt 399 (ins [(124, 4), (120, 1)]), 4, 1), by decide +kernel⟩,
   ⟨st (regs [(Reg.CORE_STATE, 399, 9)] ready), 399, (ins [(124, 4), (120, 2)]), true, (.fence 399 (ins [(124, 4), (120, 2)]), 4, 2), by decide +kernel⟩,
   ⟨st (regs [(Reg.CORE_STATE, 399, 9)] ready), 399, (ins [(124, 4), (120, 3)]), true, (.post 399 (ins [(124, 4), (120, 3)]), 4, 3), by decide +kernel⟩⟩

/-- The hypotheses of UnitInstructionStops, part 3, are met. -/
theorem witness_UnitInstructionStops_3 :
    (∃ (s : State) (c : Nat) (i : BitVec 128) (ok : Bool) (r : Instr × Nat × Nat), r ∈ unitRows c i ok ∧ unitOf r.2.1 r.2.2 c i = true ∧ s.faulted c = true) ∧
    (∃ (s : State) (c : Nat) (i : BitVec 128) (ok : Bool) (r : Instr × Nat × Nat), r ∈ unitRows c i ok ∧ unitOf r.2.1 r.2.2 c i = true ∧ s.faulted c = true) ∧
    (∃ (s : State) (c : Nat) (i : BitVec 128) (ok : Bool) (r : Instr × Nat × Nat), r ∈ unitRows c i ok ∧ unitOf r.2.1 r.2.2 c i = true ∧ s.faulted c = false ∧ malformed i = some 1) ∧
    (∃ (s : State) (c : Nat) (i : BitVec 128) (ok : Bool) (r : Instr × Nat × Nat), r ∈ unitRows c i ok ∧ unitOf r.2.1 r.2.2 c i = true ∧ s.faulted c = false ∧ malformed i = some 1) ∧
    (∃ (s : State) (c : Nat) (i : BitVec 128) (ok : Bool) (r : Instr × Nat × Nat), r ∈ unitRows c i ok ∧ unitOf r.2.1 r.2.2 c i = true ∧ s.faulted c = false ∧ malformed i = some 1) ∧
    (∃ (s : State) (c : Nat) (i : BitVec 128) (ok : Bool) (r : Instr × Nat × Nat), r ∈ unitRows c i ok ∧ unitOf r.2.1 r.2.2 c i = true ∧ s.faulted c = false ∧ malformed i = some 1) ∧
    (∃ (s : State) (c : Nat) (i : BitVec 128) (ok : Bool) (r : Instr × Nat × Nat), r ∈ unitRows c i ok ∧ unitOf r.2.1 r.2.2 c i = true ∧ s.faulted c = false ∧ malformed i = some 1) ∧
    (∃ (s : State) (c : Nat) (i : BitVec 128) (ok : Bool) (r : Instr × Nat × Nat), r ∈ unitRows c i ok ∧ unitOf r.2.1 r.2.2 c i = true ∧ s.faulted c = false ∧ malformed i = some 1) ∧
    (∃ (s : State) (c : Nat) (i : BitVec 128) (ok : Bool) (r : Instr × Nat × Nat), r ∈ unitRows c i ok ∧ unitOf r.2.1 r.2.2 c i = true ∧ s.faulted c = false ∧ malformed i = some 1) ∧
    (∃ (s : State) (c : Nat) (i : BitVec 128) (ok : Bool) (r : Instr × Nat × Nat), r ∈ unitRows c i ok ∧ unitOf r.2.1 r.2.2 c i = true ∧ s.faulted c = false ∧ malformed i = some 1) ∧
    (∃ (s : State) (c : Nat) (i : BitVec 128) (ok : Bool) (r : Instr × Nat × Nat), r ∈ unitRows c i ok ∧ unitOf r.2.1 r.2.2 c i = true ∧ s.faulted c = false ∧ malformed i = some 1) ∧
    (∃ (s : State) (c : Nat) (i : BitVec 128) (ok : Bool) (r : Instr × Nat × Nat), r ∈ unitRows c i ok ∧ unitOf r.2.1 r.2.2 c i = true ∧ s.faulted c = false ∧ malformed i = some 1) :=
  ⟨⟨st (regs [(Reg.CORE_STATE, 399, 9)] ready), 399, (ins [(124, 4), (120, 4), (118, 2)]), true, (.hint 399 (ins [(124, 4), (120, 4), (118, 2)]), 4, 4), by decide +kernel⟩,
   ⟨st (regs [(Reg.CORE_STATE, 399, 9)] ready), 399, (ins [(124, 4), (120, 5)]), true, (.endKernel 399 (ins [(124, 4), (120, 5)]), 4, 5), by decide +kernel⟩,
   ⟨st ready, 399, (ins [(124, 1), (120, 1), (93, 1), (36, 1), (0, 1)]), true, (.wload 399 (ins [(124, 1), (120, 1), (93, 1), (36, 1), (0, 1)]), 1, 1), by decide +kernel⟩,
   ⟨st ready, 399, (ins [(124, 1), (120, 2), (93, 1), (80, 1), (36, 1), (70, 1), (0, 1)]), true, (.mac 399 (ins [(124, 1), (120, 2), (93, 1), (80, 1), (36, 1), (70, 1), (0, 1)]), 1, 2), by decide +kernel⟩,
   ⟨st ready, 399, (ins [(124, 1), (120, 3), (95, 1), (82, 1), (48, 1), (114, 7), (0, 1)]), true, (.drain 399 (ins [(124, 1), (120, 3), (95, 1), (82, 1), (48, 1), (114, 7), (0, 1)]), 1, 3), by decide +kernel⟩,
   ⟨st ready, 399, (ins [(124, 2), (118, 1), (0, 1)]), true, (.add 399 (ins [(124, 2), (118, 1), (0, 1)]) true, 2, 1), by decide +kernel⟩,
   ⟨st ready, 399, (ins [(124, 2), (118, 2), (0, 1)]), true, (.sub 399 (ins [(124, 2), (118, 2), (0, 1)]) true, 2, 2), by decide +kernel⟩,
   ⟨st ready, 399, (ins [(124, 2), (118, 3), (0, 1)]), true, (.mul 399 (ins [(124, 2), (118, 3), (0, 1)]) true, 2, 3), by decide +kernel⟩,
   ⟨st ready, 399, (ins [(124, 2), (118, 4), (0, 1)]), true, (.fma 399 (ins [(124, 2), (118, 4), (0, 1)]) true, 2, 4), by decide +kernel⟩,
   ⟨st ready, 399, (ins [(124, 2), (118, 5), (0, 1)]), true, (.max 399 (ins [(124, 2), (118, 5), (0, 1)]) true, 2, 5), by decide +kernel⟩,
   ⟨st ready, 399, (ins [(124, 2), (118, 6), (0, 1)]), true, (.min 399 (ins [(124, 2), (118, 6), (0, 1)]) true, 2, 6), by decide +kernel⟩,
   ⟨st ready, 399, (ins [(124, 2), (118, 7), (0, 1)]), true, (.abs 399 (ins [(124, 2), (118, 7), (0, 1)]) true, 2, 7), by decide +kernel⟩⟩

/-- The hypotheses of UnitInstructionStops, part 4, are met. -/
theorem witness_UnitInstructionStops_4 :
    (∃ (s : State) (c : Nat) (i : BitVec 128) (ok : Bool) (r : Instr × Nat × Nat), r ∈ unitRows c i ok ∧ unitOf r.2.1 r.2.2 c i = true ∧ s.faulted c = false ∧ malformed i = some 1) ∧
    (∃ (s : State) (c : Nat) (i : BitVec 128) (ok : Bool) (r : Instr × Nat × Nat), r ∈ unitRows c i ok ∧ unitOf r.2.1 r.2.2 c i = true ∧ s.faulted c = false ∧ malformed i = some 1) ∧
    (∃ (s : State) (c : Nat) (i : BitVec 128) (ok : Bool) (r : Instr × Nat × Nat), r ∈ unitRows c i ok ∧ unitOf r.2.1 r.2.2 c i = true ∧ s.faulted c = false ∧ malformed i = some 1) ∧
    (∃ (s : State) (c : Nat) (i : BitVec 128) (ok : Bool) (r : Instr × Nat × Nat), r ∈ unitRows c i ok ∧ unitOf r.2.1 r.2.2 c i = true ∧ s.faulted c = false ∧ malformed i = some 1) ∧
    (∃ (s : State) (c : Nat) (i : BitVec 128) (ok : Bool) (r : Instr × Nat × Nat), r ∈ unitRows c i ok ∧ unitOf r.2.1 r.2.2 c i = true ∧ s.faulted c = false ∧ malformed i = some 1) ∧
    (∃ (s : State) (c : Nat) (i : BitVec 128) (ok : Bool) (r : Instr × Nat × Nat), r ∈ unitRows c i ok ∧ unitOf r.2.1 r.2.2 c i = true ∧ s.faulted c = false ∧ malformed i = some 1) ∧
    (∃ (s : State) (c : Nat) (i : BitVec 128) (ok : Bool) (r : Instr × Nat × Nat), r ∈ unitRows c i ok ∧ unitOf r.2.1 r.2.2 c i = true ∧ s.faulted c = false ∧ malformed i = some 1) ∧
    (∃ (s : State) (c : Nat) (i : BitVec 128) (ok : Bool) (r : Instr × Nat × Nat), r ∈ unitRows c i ok ∧ unitOf r.2.1 r.2.2 c i = true ∧ s.faulted c = false ∧ malformed i = some 1) ∧
    (∃ (s : State) (c : Nat) (i : BitVec 128) (ok : Bool) (r : Instr × Nat × Nat), r ∈ unitRows c i ok ∧ unitOf r.2.1 r.2.2 c i = true ∧ s.faulted c = false ∧ malformed i = some 1) ∧
    (∃ (s : State) (c : Nat) (i : BitVec 128) (ok : Bool) (r : Instr × Nat × Nat), r ∈ unitRows c i ok ∧ unitOf r.2.1 r.2.2 c i = true ∧ s.faulted c = false ∧ malformed i = some 1) ∧
    (∃ (s : State) (c : Nat) (i : BitVec 128) (ok : Bool) (r : Instr × Nat × Nat), r ∈ unitRows c i ok ∧ unitOf r.2.1 r.2.2 c i = true ∧ s.faulted c = false ∧ malformed i = some 1) ∧
    (∃ (s : State) (c : Nat) (i : BitVec 128) (ok : Bool) (r : Instr × Nat × Nat), r ∈ unitRows c i ok ∧ unitOf r.2.1 r.2.2 c i = true ∧ s.faulted c = false ∧ malformed i = some 1) :=
  ⟨⟨st ready, 399, (ins [(124, 2), (118, 8), (0, 1)]), true, (.exp 399 (ins [(124, 2), (118, 8), (0, 1)]) true, 2, 8), by decide +kernel⟩,
   ⟨st ready, 399, (ins [(124, 2), (118, 9), (0, 1)]), true, (.recip 399 (ins [(124, 2), (118, 9), (0, 1)]) true, 2, 9), by decide +kernel⟩,
   ⟨st ready, 399, (ins [(124, 2), (118, 10), (0, 1)]), true, (.rsqrt 399 (ins [(124, 2), (118, 10), (0, 1)]) true, 2, 10), by decide +kernel⟩,
   ⟨st ready, 399, (ins [(124, 2), (118, 11), (0, 1)]), true, (.sigmoid 399 (ins [(124, 2), (118, 11), (0, 1)]) true, 2, 11), by decide +kernel⟩,
   ⟨st ready, 399, (ins [(124, 2), (118, 12), (0, 1)]), true, (.siluMul 399 (ins [(124, 2), (118, 12), (0, 1)]) true, 2, 12), by decide +kernel⟩,
   ⟨st ready, 399, (ins [(124, 2), (118, 13), (0, 1)]), true, (.cvt 399 (ins [(124, 2), (118, 13), (0, 1)]) true, 2, 13), by decide +kernel⟩,
   ⟨st ready, 399, (ins [(124, 2), (118, 16), (0, 1)]), true, (.rsum 399 (ins [(124, 2), (118, 16), (0, 1)]) true, 2, 16), by decide +kernel⟩,
   ⟨st ready, 399, (ins [(124, 2), (118, 17), (0, 1)]), true, (.rmax 399 (ins [(124, 2), (118, 17), (0, 1)]) true, 2, 17), by decide +kernel⟩,
   ⟨st ready, 399, (ins [(124, 2), (118, 18), (0, 1)]), true, (.absmax 399 (ins [(124, 2), (118, 18), (0, 1)]) true, 2, 18), by decide +kernel⟩,
   ⟨st ready, 399, (ins [(124, 3), (120, 1), (0, 1)]), true, (.copy 399 (ins [(124, 3), (120, 1), (0, 1)]), 3, 1), by decide +kernel⟩,
   ⟨st ready, 399, (ins [(124, 3), (120, 3), (0, 1)]), true, (.get 399 (ins [(124, 3), (120, 3), (0, 1)]), 3, 3), by decide +kernel⟩,
   ⟨st ready, 399, (ins [(124, 4), (120, 1), (0, 1)]), true, (.ckpt 399 (ins [(124, 4), (120, 1), (0, 1)]), 4, 1), by decide +kernel⟩⟩

/-- The hypotheses of UnitInstructionStops, part 5, are met. -/
theorem witness_UnitInstructionStops_5 :
    (∃ (s : State) (c : Nat) (i : BitVec 128) (ok : Bool) (r : Instr × Nat × Nat), r ∈ unitRows c i ok ∧ unitOf r.2.1 r.2.2 c i = true ∧ s.faulted c = false ∧ malformed i = some 1) ∧
    (∃ (s : State) (c : Nat) (i : BitVec 128) (ok : Bool) (r : Instr × Nat × Nat), r ∈ unitRows c i ok ∧ unitOf r.2.1 r.2.2 c i = true ∧ s.faulted c = false ∧ malformed i = some 1) ∧
    (∃ (s : State) (c : Nat) (i : BitVec 128) (ok : Bool) (r : Instr × Nat × Nat), r ∈ unitRows c i ok ∧ unitOf r.2.1 r.2.2 c i = true ∧ s.faulted c = false ∧ malformed i = some 1) ∧
    (∃ (s : State) (c : Nat) (i : BitVec 128) (ok : Bool) (r : Instr × Nat × Nat), r ∈ unitRows c i ok ∧ unitOf r.2.1 r.2.2 c i = true ∧ s.faulted c = false ∧ malformed i = some 1) :=
  ⟨⟨st ready, 399, (ins [(124, 4), (120, 2), (0, 1)]), true, (.fence 399 (ins [(124, 4), (120, 2), (0, 1)]), 4, 2), by decide +kernel⟩,
   ⟨st ready, 399, (ins [(124, 4), (120, 3), (0, 1)]), true, (.post 399 (ins [(124, 4), (120, 3), (0, 1)]), 4, 3), by decide +kernel⟩,
   ⟨st ready, 399, (ins [(124, 4), (120, 4), (118, 2), (0, 1)]), true, (.hint 399 (ins [(124, 4), (120, 4), (118, 2), (0, 1)]), 4, 4), by decide +kernel⟩,
   ⟨st ready, 399, (ins [(124, 4), (120, 5), (0, 1)]), true, (.endKernel 399 (ins [(124, 4), (120, 5), (0, 1)]), 4, 5), by decide +kernel⟩⟩

/-- The hypotheses of EngineAndDmaInstructions are met. -/
theorem witness_EngineAndDmaInstructions :
    (∃ (s : State) (c : Nat) (i : BitVec 128), (s.issuesAs c i).isSome = true ∧ unitOf 1 1 c i = true) ∧
    (∃ (s : State) (c : Nat) (i : BitVec 128), (s.issuesAs c i).isSome = true ∧ unitOf 1 2 c i = true) ∧
    (∃ (s : State) (c : Nat) (i : BitVec 128), (s.issuesAs c i).isSome = true ∧ unitOf 1 3 c i = true) ∧
    (∃ (s : State) (c : Nat) (i : BitVec 128), (s.issuesAs c i).isSome = true ∧ unitOf 3 1 c i = true) ∧
    (∃ (s : State) (c : Nat) (i : BitVec 128), (s.issuesAs c i).isSome = true ∧ unitOf 3 2 c i = true) ∧
    (∃ (s : State) (c : Nat) (i : BitVec 128), (s.issuesAs c i).isSome = true ∧ unitOf 3 3 c i = true) ∧
    (∃ (s : State) (c : Nat) (i : BitVec 128) (t : Device) (p : Placed), s.issuesAs c i = some (t, p) ∧ unitOf 1 2 c i = true ∧ (nget ({} : Tile) (t.engine (t.macArgs c i).eng).tiles (t.macArgs c i).bank).rowCount = 0) :=
  ⟨⟨st ready, 399, (ins [(124, 1), (120, 1), (93, 1), (36, 1)]), by decide +kernel⟩,
   ⟨st ready, 399, (ins [(124, 1), (120, 2), (93, 1), (80, 1), (36, 1), (70, 1)]), by decide +kernel⟩,
   ⟨st ready, 399, (ins [(124, 1), (120, 3), (95, 1), (82, 1), (48, 1), (114, 7)]), by decide +kernel⟩,
   ⟨st ready, 399, (ins [(124, 3), (120, 1)]), by decide +kernel⟩,
   ⟨st ready, 399, (ins [(124, 3), (120, 2)]), by decide +kernel⟩,
   ⟨st ready, 399, (ins [(124, 3), (120, 3)]), by decide +kernel⟩,
   ⟨st ready, 399, (ins [(124, 1), (120, 2), (93, 1), (80, 1), (36, 1), (70, 1)]), ((st ready).place 399 (ins [(124, 1), (120, 2), (93, 1), (80, 1), (36, 1), (70, 1)])).2.issue 399 ⟨0, (ins [(124, 1), (120, 2), (93, 1), (80, 1), (36, 1), (70, 1)]), 0, 0, false⟩, ⟨0, (ins [(124, 1), (120, 2), (93, 1), (80, 1), (36, 1), (70, 1)]), 0, 0, false⟩, by decide +kernel⟩⟩

/-- The hypotheses of VectorInstructions, part 1, are met. -/
theorem witness_VectorInstructions_1 :
    (∃ (s : State) (c : Nat) (i : BitVec 128), (s.issuesAs c i).isSome = true ∧ unitOf 2 1 c i = true) ∧
    (∃ (s : State) (c : Nat) (i : BitVec 128), (s.issuesAs c i).isSome = true ∧ unitOf 2 2 c i = true) ∧
    (∃ (s : State) (c : Nat) (i : BitVec 128), (s.issuesAs c i).isSome = true ∧ unitOf 2 3 c i = true) ∧
    (∃ (s : State) (c : Nat) (i : BitVec 128), (s.issuesAs c i).isSome = true ∧ unitOf 2 4 c i = true) ∧
    (∃ (s : State) (c : Nat) (i : BitVec 128), (s.issuesAs c i).isSome = true ∧ unitOf 2 5 c i = true) ∧
    (∃ (s : State) (c : Nat) (i : BitVec 128), (s.issuesAs c i).isSome = true ∧ unitOf 2 6 c i = true) ∧
    (∃ (s : State) (c : Nat) (i : BitVec 128), (s.issuesAs c i).isSome = true ∧ unitOf 2 7 c i = true) ∧
    (∃ (s : State) (c : Nat) (i : BitVec 128), (s.issuesAs c i).isSome = true ∧ unitOf 2 8 c i = true) ∧
    (∃ (s : State) (c : Nat) (i : BitVec 128), (s.issuesAs c i).isSome = true ∧ unitOf 2 9 c i = true) ∧
    (∃ (s : State) (c : Nat) (i : BitVec 128), (s.issuesAs c i).isSome = true ∧ unitOf 2 10 c i = true) ∧
    (∃ (s : State) (c : Nat) (i : BitVec 128), (s.issuesAs c i).isSome = true ∧ unitOf 2 11 c i = true) ∧
    (∃ (s : State) (c : Nat) (i : BitVec 128), (s.issuesAs c i).isSome = true ∧ unitOf 2 12 c i = true) :=
  ⟨⟨st ready, 399, (ins [(124, 2), (118, 1)]), by decide +kernel⟩,
   ⟨st ready, 399, (ins [(124, 2), (118, 2)]), by decide +kernel⟩,
   ⟨st ready, 399, (ins [(124, 2), (118, 3)]), by decide +kernel⟩,
   ⟨st ready, 399, (ins [(124, 2), (118, 4)]), by decide +kernel⟩,
   ⟨st ready, 399, (ins [(124, 2), (118, 5)]), by decide +kernel⟩,
   ⟨st ready, 399, (ins [(124, 2), (118, 6)]), by decide +kernel⟩,
   ⟨st ready, 399, (ins [(124, 2), (118, 7)]), by decide +kernel⟩,
   ⟨st ready, 399, (ins [(124, 2), (118, 8)]), by decide +kernel⟩,
   ⟨st ready, 399, (ins [(124, 2), (118, 9)]), by decide +kernel⟩,
   ⟨st ready, 399, (ins [(124, 2), (118, 10)]), by decide +kernel⟩,
   ⟨st ready, 399, (ins [(124, 2), (118, 11)]), by decide +kernel⟩,
   ⟨st ready, 399, (ins [(124, 2), (118, 12)]), by decide +kernel⟩⟩

/-- The hypotheses of VectorInstructions, part 2, are met. -/
theorem witness_VectorInstructions_2 :
    (∃ (s : State) (c : Nat) (i : BitVec 128), (s.issuesAs c i).isSome = true ∧ unitOf 2 13 c i = true) ∧
    (∃ (s : State) (c : Nat) (i : BitVec 128), (s.issuesAs c i).isSome = true ∧ unitOf 2 16 c i = true) ∧
    (∃ (s : State) (c : Nat) (i : BitVec 128), (s.issuesAs c i).isSome = true ∧ unitOf 2 17 c i = true) ∧
    (∃ (s : State) (c : Nat) (i : BitVec 128), (s.issuesAs c i).isSome = true ∧ unitOf 2 18 c i = true) :=
  ⟨⟨st ready, 399, (ins [(124, 2), (118, 13)]), by decide +kernel⟩,
   ⟨st ready, 399, (ins [(124, 2), (118, 16)]), by decide +kernel⟩,
   ⟨st ready, 399, (ins [(124, 2), (118, 17)]), by decide +kernel⟩,
   ⟨st ready, 399, (ins [(124, 2), (118, 18)]), by decide +kernel⟩⟩

/-- The hypotheses of SyncInstructions, part 1, are met. -/
theorem witness_SyncInstructions_1 :
    (∃ (s : State) (c : Nat) (i : BitVec 128) (j : Nat) (x : Job), s.syncActs c i false = true ∧ unitOf 4 4 c i = true ∧ ifld i 114 114 = 1 ∧ (s.syncTaken c i).coreJob c = some j ∧ (s.syncTaken c i).job j = some x) ∧
    (∃ (s : State) (c : Nat) (i : BitVec 128), s.syncActs c i true = true ∧ unitOf 4 1 c i = true) ∧
    (∃ (s : State) (c : Nat) (i : BitVec 128), s.syncActs c i true = true ∧ unitOf 4 2 c i = true) ∧
    (∃ (s : State) (c : Nat) (i : BitVec 128), s.syncActs c i true = true ∧ unitOf 4 5 c i = true) ∧
    (∃ (s : State) (c : Nat) (i : BitVec 128), s.syncActs c i false = true ∧ unitOf 4 3 c i = true) ∧
    (∃ (s : State) (c : Nat) (i : BitVec 128), s.syncActs c i false = true ∧ unitOf 4 4 c i = true ∧ ifld i 114 114 = 0) ∧
    (∃ (s : State) (c : Nat) (i : BitVec 128) (x : Instr), s.faulted c = false ∧ s.seqWaits c = false ∧ malformed i = none ∧ s.waitMet c i = false ∧ x ∈ [Instr.ckpt c i, .fence c i, .post c i, .hint c i, .endKernel c i] ∧ x.wf = true) ∧
    (∃ (s : State) (c : Nat) (i : BitVec 128) (x : Instr), s.faulted c = false ∧ s.seqWaits c = false ∧ malformed i = none ∧ s.waitMet c i = false ∧ x ∈ [Instr.ckpt c i, .fence c i, .post c i, .hint c i, .endKernel c i] ∧ x.wf = true) ∧
    (∃ (s : State) (c : Nat) (i : BitVec 128) (x : Instr), s.faulted c = false ∧ s.seqWaits c = false ∧ malformed i = none ∧ s.waitMet c i = false ∧ x ∈ [Instr.ckpt c i, .fence c i, .post c i, .hint c i, .endKernel c i] ∧ x.wf = true) ∧
    (∃ (s : State) (c : Nat) (i : BitVec 128) (x : Instr), s.faulted c = false ∧ s.seqWaits c = false ∧ malformed i = none ∧ s.waitMet c i = false ∧ x ∈ [Instr.ckpt c i, .fence c i, .post c i, .hint c i, .endKernel c i] ∧ x.wf = true) ∧
    (∃ (s : State) (c : Nat) (i : BitVec 128) (x : Instr), s.faulted c = false ∧ s.seqWaits c = false ∧ malformed i = none ∧ s.waitMet c i = false ∧ x ∈ [Instr.ckpt c i, .fence c i, .post c i, .hint c i, .endKernel c i] ∧ x.wf = true) ∧
    (∃ (s : State) (c : Nat) (i : BitVec 128) (x : Instr), s.faulted c = false ∧ s.seqWaits c = false ∧ malformed i = none ∧ s.waitMet c i = true ∧ (s.core c).board ≠ [] ∧ x ∈ [Instr.ckpt c i, .fence c i, .endKernel c i] ∧ x.wf = true) :=
  ⟨⟨st (regs [(Reg.CORE_STATE, 0, 2 ^ 10)] { ready with work := { jobs := [(0, some jobx)] } }), 0, (ins [(124, 4), (120, 4), (118, 2), (114, 1)]), 0, jobx, by decide +kernel⟩,
   ⟨st ready, 399, (ins [(124, 4), (120, 1)]), by decide +kernel⟩,
   ⟨st ready, 399, (ins [(124, 4), (120, 2)]), by decide +kernel⟩,
   ⟨st ready, 399, (ins [(124, 4), (120, 5)]), by decide +kernel⟩,
   ⟨st ready, 399, (ins [(124, 4), (120, 3)]), by decide +kernel⟩,
   ⟨st ready, 399, (ins [(124, 4), (120, 4), (118, 2)]), by decide +kernel⟩,
   ⟨st ready, 399, (ins [(124, 4), (120, 1), (27, 31), (19, 255)]), .ckpt 399 (ins [(124, 4), (120, 1), (27, 31), (19, 255)]), by decide +kernel⟩,
   ⟨st ready, 399, (ins [(124, 4), (120, 2), (27, 31), (19, 255)]), .fence 399 (ins [(124, 4), (120, 2), (27, 31), (19, 255)]), by decide +kernel⟩,
   ⟨st ready, 399, (ins [(124, 4), (120, 3), (27, 31), (19, 255)]), .post 399 (ins [(124, 4), (120, 3), (27, 31), (19, 255)]), by decide +kernel⟩,
   ⟨st ready, 399, (ins [(124, 4), (120, 4), (118, 2), (27, 31), (19, 255)]), .hint 399 (ins [(124, 4), (120, 4), (118, 2), (27, 31), (19, 255)]), by decide +kernel⟩,
   ⟨st ready, 399, (ins [(124, 4), (120, 5), (27, 31), (19, 255)]), .endKernel 399 (ins [(124, 4), (120, 5), (27, 31), (19, 255)]), by decide +kernel⟩,
   ⟨st (ready.setCore 399 { board := [⟨0, 0, 0, 0, false⟩] }), 399, (ins [(124, 4), (120, 1)]), .ckpt 399 (ins [(124, 4), (120, 1)]), by decide +kernel⟩⟩

/-- The hypotheses of SyncInstructions, part 2, are met. -/
theorem witness_SyncInstructions_2 :
    (∃ (s : State) (c : Nat) (i : BitVec 128) (x : Instr), s.faulted c = false ∧ s.seqWaits c = false ∧ malformed i = none ∧ s.waitMet c i = true ∧ (s.core c).board ≠ [] ∧ x ∈ [Instr.ckpt c i, .fence c i, .endKernel c i] ∧ x.wf = true) ∧
    (∃ (s : State) (c : Nat) (i : BitVec 128) (x : Instr), s.faulted c = false ∧ s.seqWaits c = false ∧ malformed i = none ∧ s.waitMet c i = true ∧ (s.core c).board ≠ [] ∧ x ∈ [Instr.ckpt c i, .fence c i, .endKernel c i] ∧ x.wf = true) :=
  ⟨⟨st (ready.setCore 399 { board := [⟨0, 0, 0, 0, false⟩] }), 399, (ins [(124, 4), (120, 2)]), .fence 399 (ins [(124, 4), (120, 2)]), by decide +kernel⟩,
   ⟨st (ready.setCore 399 { board := [⟨0, 0, 0, 0, false⟩] }), 399, (ins [(124, 4), (120, 5)]), .endKernel 399 (ins [(124, 4), (120, 5)]), by decide +kernel⟩⟩

/-- The hypotheses of CoreEvents, part 1, are met. -/
theorem witness_CoreEvents_1 :
    (∃ (s : State) (c : Nat), c < 400 ∧ s.faulted c = true) ∧
    (∃ (s : State) (c : Nat) (i : BitVec 128), c < 400 ∧ s.faulted c = false ∧ (malformed i).isSome = true) ∧
    (∃ (s : State) (c : Nat) (i : BitVec 128), c < 400 ∧ s.faulted c = false ∧ malformed i = none ∧ queueOf i ≠ 6 ∧ (s.seqWaits c = true ∨ 48 ≤ (s.core c).board.length ∨ 8 ≤ ((s.core c).board.filter (fun p => p.queue == queueOf i && !p.issued)).length)) ∧
    (∃ (s : State) (c : Nat) (i : BitVec 128), c < 400 ∧ s.faulted c = false ∧ malformed i = none ∧ queueOf i ≠ 6 ∧ (s.seqWaits c = true ∨ 48 ≤ (s.core c).board.length ∨ 8 ≤ ((s.core c).board.filter (fun p => p.queue == queueOf i && !p.issued)).length)) ∧
    (∃ (s : State) (c : Nat) (i : BitVec 128), c < 400 ∧ s.faulted c = false ∧ malformed i = none ∧ queueOf i ≠ 6 ∧ (s.seqWaits c = true ∨ 48 ≤ (s.core c).board.length ∨ 8 ≤ ((s.core c).board.filter (fun p => p.queue == queueOf i && !p.issued)).length)) ∧
    (∃ (s : State) (c : Nat) (i : BitVec 128), c < 400 ∧ s.faulted c = false ∧ malformed i = none ∧ queueOf i ≠ 6 ∧ (s.seqWaits c = true ∨ 48 ≤ (s.core c).board.length ∨ 8 ≤ ((s.core c).board.filter (fun p => p.queue == queueOf i && !p.issued)).length)) ∧
    (∃ (s : State) (c : Nat) (i : BitVec 128), c < 400 ∧ s.faulted c = false ∧ malformed i = none ∧ queueOf i ≠ 6 ∧ s.seqWaits c = false ∧ (s.core c).board.length < 48 ∧ ((s.core c).board.filter (fun p => p.queue == queueOf i && !p.issued)).length < 8) ∧
    (∃ (s : State) (c : Nat) (i : BitVec 128), c < 400 ∧ s.faulted c = false ∧ malformed i = none ∧ queueOf i ≠ 6 ∧ s.seqWaits c = false ∧ (s.core c).board.length < 48 ∧ ((s.core c).board.filter (fun p => p.queue == queueOf i && !p.issued)).length < 8) ∧
    (∃ (s : State) (c : Nat) (i : BitVec 128), c < 400 ∧ s.faulted c = false ∧ malformed i = none ∧ queueOf i = 6 ∧ s.seqWaits c = false) ∧
    (∃ (s : State) (c seq : Nat), c < 400 ∧ (s.core c).board.find? (fun p => p.seq = seq ∧ p.issued) = none) ∧
    (∃ (s : State) (c seq : Nat) (p : Placed), c < 400 ∧ (s.core c).board.find? (fun p => p.seq = seq ∧ p.issued) = some p ∧ p.queue = 5 ∧ ((s.core c).dma.any (fun d => !d.probe && d.seq == seq)) = true) ∧
    (∃ (s : State) (c seq : Nat) (p : Placed), c < 400 ∧ (s.core c).board.find? (fun p => p.seq = seq ∧ p.issued) = some p ∧ p.queue = 5 ∧ ((s.core c).dma.all (fun d => d.probe || d.seq ≠ seq)) = true ∧ ifld p.instr 18 18 = 0) :=
  ⟨⟨st (regs [(Reg.CORE_STATE, 399, 9)] ready), 399, by decide +kernel⟩,
   ⟨st ready, 399, (ins [(124, 1), (120, 1), (93, 1), (36, 1), (0, 1)]), by decide +kernel⟩,
   ⟨st (regs [(Reg.CORE_STATE, 399, 3)] ready), 399, (ins [(124, 1), (120, 1), (93, 1), (36, 1)]), by decide +kernel⟩,
   ⟨st (ready.setCore 399 { atSync := some 0 }), 399, (ins [(124, 1), (120, 1), (93, 1), (36, 1)]), by decide +kernel⟩,
   ⟨st (ready.setCore 399 { board := ((List.range 48).map (fun k => (⟨k, 0, k % 7, 0, false⟩ : Placed))) }), 399, (ins [(124, 1), (120, 1), (93, 1), (36, 1)]), by decide +kernel⟩,
   ⟨st (ready.setCore 399 { board := ((List.range 8).map (fun k => (⟨k, 0, 0, 0, false⟩ : Placed))) }), 399, (ins [(124, 1), (120, 1), (93, 1), (36, 1)]), by decide +kernel⟩,
   ⟨st (ready.setCore 399 { board := ((List.range 47).map (fun k => (⟨k, 0, 4, 0, true⟩ : Placed))) }), 399, (ins [(124, 1), (120, 1), (93, 1), (36, 1)]), by decide +kernel⟩,
   ⟨st (ready.setCore 399 { board := ((List.range 7).map (fun k => (⟨k, 0, 0, 0, false⟩ : Placed))) }), 399, (ins [(124, 1), (120, 1), (93, 1), (36, 1)]), by decide +kernel⟩,
   ⟨st ready, 399, (ins [(124, 4), (120, 2)]), by decide +kernel⟩,
   ⟨st ready, 399, 0, by decide +kernel⟩,
   ⟨st (ready.setCore 399 { board := [⟨7, 0, 5, 0, true⟩], dma := [{ tag := 0, seq := 7, die := sparDie 1, unit := 0, raddr := 0, laddr := 0, bytes := 16, read := false, probe := false, sent := true }] }), 399, 7, ⟨7, 0, 5, 0, true⟩, by decide +kernel⟩,
   ⟨st (ready.setCore 399 { board := [⟨7, 0, 5, 0, true⟩], dma := [{ tag := 0, seq := 7, die := sparDie 1, unit := 0, raddr := 0, laddr := 0, bytes := 16, read := false, probe := true, sent := true }] }), 399, 7, ⟨7, 0, 5, 0, true⟩, by decide +kernel⟩⟩

/-- The hypotheses of CoreEvents, part 2, are met. -/
theorem witness_CoreEvents_2 :
    (∃ (s : State) (c seq : Nat) (p : Placed), c < 400 ∧ (s.core c).board.find? (fun p => p.seq = seq ∧ p.issued) = some p ∧ p.queue = 5 ∧ ((s.core c).dma.all (fun d => d.probe || d.seq ≠ seq)) = true ∧ ifld p.instr 18 18 = 1) ∧
    (∃ (s : State) (c seq : Nat) (p : Placed), c < 400 ∧ (s.core c).board.find? (fun p => p.seq = seq ∧ p.issued) = some p ∧ 4 ≤ p.queue ∧ p.queue ≠ 5 ∧ ifld p.instr 18 18 = 0) ∧
    (∃ (s : State) (c seq : Nat) (p : Placed), c < 400 ∧ (s.core c).board.find? (fun p => p.seq = seq ∧ p.issued) = some p ∧ 4 ≤ p.queue ∧ p.queue ≠ 5 ∧ ifld p.instr 18 18 = 1) ∧
    (∃ (s : State) (c seq : Nat) (p : Placed), c < 400 ∧ (s.core c).board.find? (fun p => p.seq = seq ∧ p.issued) = some p ∧ p.queue < 4 ∧ ifld p.instr 18 18 = 0) ∧
    (∃ (s : State) (c seq : Nat) (p : Placed), c < 400 ∧ (s.core c).board.find? (fun p => p.seq = seq ∧ p.issued) = some p ∧ p.queue < 4 ∧ ifld p.instr 18 18 = 1) ∧
    (∃ (s : State) (a : Nat), a < 1600 ∧ s.rdf Reg.ENG_STATUS a 2 0 = 0) ∧
    (∃ (s : State) (a : Nat), a < 1600 ∧ s.rdf Reg.ENG_STATUS a 2 0 ≠ 0) ∧
    (∃ (s : State) (a : Nat) (d : DrainCheck), a < 1600 ∧ (s.core (a / 4)).drains.find? (fun d => d.eng = a) = some d ∧ d.sumFail = none) ∧
    (∃ (s : State) (a : Nat) (d : DrainCheck) (f : Nat × F32 × F32) (ok : Bool), a < 1600 ∧ (s.core (a / 4)).drains.find? (fun d => d.eng = a) = some d ∧ d.sumFail = some f ∧
      (ok = false ∨ (s.setCore (a / 4) { (s.core (a / 4)) with drains := (s.core (a / 4)).drains.erase d }).rdf Reg.TLT_VERDICT_CTL (a / 4) 4 4 = 0 ∨ sameAgain ((s.setCore (a / 4) { (s.core (a / 4)) with drains := (s.core (a / 4)).drains.erase d }).site (a / 4) d.epoch d.ordinal 0) (a % 4) f = false)) ∧
    (∃ (s : State) (a : Nat) (d : DrainCheck) (f : Nat × F32 × F32) (ok : Bool), a < 1600 ∧ (s.core (a / 4)).drains.find? (fun d => d.eng = a) = some d ∧ d.sumFail = some f ∧
      (ok = false ∨ (s.setCore (a / 4) { (s.core (a / 4)) with drains := (s.core (a / 4)).drains.erase d }).rdf Reg.TLT_VERDICT_CTL (a / 4) 4 4 = 0 ∨ sameAgain ((s.setCore (a / 4) { (s.core (a / 4)) with drains := (s.core (a / 4)).drains.erase d }).site (a / 4) d.epoch d.ordinal 0) (a % 4) f = false)) ∧
    (∃ (s : State) (a : Nat) (d : DrainCheck) (f : Nat × F32 × F32) (ok : Bool), a < 1600 ∧ (s.core (a / 4)).drains.find? (fun d => d.eng = a) = some d ∧ d.sumFail = some f ∧
      (ok = false ∨ (s.setCore (a / 4) { (s.core (a / 4)) with drains := (s.core (a / 4)).drains.erase d }).rdf Reg.TLT_VERDICT_CTL (a / 4) 4 4 = 0 ∨ sameAgain ((s.setCore (a / 4) { (s.core (a / 4)) with drains := (s.core (a / 4)).drains.erase d }).site (a / 4) d.epoch d.ordinal 0) (a % 4) f = false)) ∧
    (∃ (s : State) (a : Nat) (d : DrainCheck) (f : Nat × F32 × F32), a < 1600 ∧ (s.core (a / 4)).drains.find? (fun d => d.eng = a) = some d ∧ d.sumFail = some f ∧
      (s.setCore (a / 4) { (s.core (a / 4)) with drains := (s.core (a / 4)).drains.erase d }).rdf Reg.TLT_VERDICT_CTL (a / 4) 4 4 = 1 ∧ sameAgain ((s.setCore (a / 4) { (s.core (a / 4)) with drains := (s.core (a / 4)).drains.erase d }).site (a / 4) d.epoch d.ordinal 0) (a % 4) f = true) :=
  ⟨⟨st (ready.setCore 399 { board := [⟨7, (ins [(18, 1), (13, 16)]), 5, 0, true⟩], dma := [{ tag := 0, seq := 7, die := sparDie 1, unit := 0, raddr := 0, laddr := 0, bytes := 16, read := false, probe := true, sent := true }] }), 399, 7, ⟨7, (ins [(18, 1), (13, 16)]), 5, 0, true⟩, by decide +kernel⟩,
   ⟨st (ready.setCore 399 { board := [⟨7, 0, 4, 0, true⟩], dma := [] }), 399, 7, ⟨7, 0, 4, 0, true⟩, by decide +kernel⟩,
   ⟨st (ready.setCore 399 { board := [⟨7, (ins [(18, 1), (13, 16)]), 4, 0, true⟩], dma := [] }), 399, 7, ⟨7, (ins [(18, 1), (13, 16)]), 4, 0, true⟩, by decide +kernel⟩,
   ⟨st (ready.setCore 399 { board := [⟨7, 0, 3, 0, true⟩], dma := [] }), 399, 7, ⟨7, 0, 3, 0, true⟩, by decide +kernel⟩,
   ⟨st (ready.setCore 399 { board := [⟨7, (ins [(18, 1), (13, 16)]), 3, 0, true⟩], dma := [] }), 399, 7, ⟨7, (ins [(18, 1), (13, 16)]), 3, 0, true⟩, by decide +kernel⟩,
   ⟨st ready, 1599, by decide +kernel⟩,
   ⟨st (regs [(Reg.ENG_STATUS, 1599, 1)]), 1599, by decide +kernel⟩,
   ⟨st (ready.setCore 399 { drains := [⟨1599, 3, 0, 0, true, none⟩] }), 1599, ⟨1599, 3, 0, 0, true, none⟩, by decide +kernel⟩,
   ⟨st (ready.setCore 399 { drains := [⟨1599, 3, 0, 0, true, some (0, 0, 0)⟩] }), 1599, ⟨1599, 3, 0, 0, true, some (0, 0, 0)⟩, (0, 0, 0), false, by decide +kernel⟩,
   ⟨st ((regs [(Reg.TLT_VERDICT_CTL, 399, 0)] ready).setCore 399 { drains := [⟨1599, 3, 0, 0, true, some (0, 0, 0)⟩] }), 1599, ⟨1599, 3, 0, 0, true, some (0, 0, 0)⟩, (0, 0, 0), true, by decide +kernel⟩,
   ⟨st (ready.setCore 399 { drains := [⟨1599, 3, 0, 0, true, some (0, 0, 0)⟩] }), 1599, ⟨1599, 3, 0, 0, true, some (0, 0, 0)⟩, (0, 0, 0), true, by decide +kernel⟩,
   ⟨st (ready.setCore 399 { drains := [⟨1599, 3, 0, 0, true, some (0, 0, 0)⟩], sites := [⟨0, 0, 0, [⟨0, 0, 0, 0, 0⟩]⟩] }), 1599, ⟨1599, 3, 0, 0, true, some (0, 0, 0)⟩, (0, 0, 0), by decide +kernel⟩⟩

/-- The hypotheses of CoreEvents, part 3, are met. -/
theorem witness_CoreEvents_3 :
    (∃ (s : State) (c : Nat), c < 400 ∧ s.resetting = false) ∧
    (∃ (s : State) (c : Nat), c < 400 ∧ s.resetting = true) ∧
    (∃ (s : State) (c : Nat), c < 400 ∧ s.mayCommit c = true ∧ s.halted c = false) ∧
    (∃ (s : State) (c : Nat), c < 400 ∧ (s.mayCommit c = false ∨ s.halted c = true)) ∧
    (∃ (s : State) (c : Nat), c < 400 ∧ (s.mayCommit c = false ∨ s.halted c = true)) ∧
    (∃ (s : State) (die idx : Nat), die < 100 ∧ (s.holdBuf die).waiting[idx]? = none) ∧
    (∃ (s : State) (die idx : Nat) (x : HeldWrite), die < 100 ∧ (s.holdBuf die).waiting[idx]? = some x ∧ x.pkt.typ = 2) ∧
    (∃ (s : State) (die idx : Nat) (x : HeldWrite), die < 100 ∧ (s.holdBuf die).waiting[idx]? = some x ∧ x.pkt.typ ≠ 2) ∧
    (∃ (s : State) (c : Nat), c < 400 ∧ (s.task c = none ∨ (s.core c).ended = false ∨ (s.core c).releaseWait ≠ [])) ∧
    (∃ (s : State) (c : Nat), c < 400 ∧ (s.task c).isSome = true ∧ (s.core c).ended = false) ∧
    (∃ (s : State) (c : Nat), c < 400 ∧ (s.task c).isSome = true ∧ (s.core c).releaseWait ≠ []) ∧
    (∃ (s : State) (c : Nat) (t : Task), c < 400 ∧ s.task c = some t ∧ (s.core c).ended = true ∧ (s.core c).releaseWait = []) :=
  ⟨⟨st ready, 399, by decide +kernel⟩,
   ⟨st (regs [(Reg.JOB_DEV_STATUS, 0, 1)]), 399, by decide +kernel⟩,
   ⟨st (ready.setCore 399 { epochs := [⟨0, true, 0, 0, [], []⟩] }), 399, by decide +kernel⟩,
   ⟨st ready, 399, by decide +kernel⟩,
   ⟨st (ready.setCore 399 { epochs := [⟨0, true, 0, 0, [], []⟩], halting := true }), 399, by decide +kernel⟩,
   ⟨st ready, 99, 0, by decide +kernel⟩,
   ⟨st (ready.setHold 99 { waiting := [{ pkt := { pkt with typ := 2 }, since := 0 }] }), 99, 0, { pkt := { pkt with typ := 2 }, since := 0 }, by decide +kernel⟩,
   ⟨st (ready.setHold 99 { waiting := [{ pkt := pkt, since := 0 }] }), 99, 0, { pkt := pkt, since := 0 }, by decide +kernel⟩,
   ⟨st ready, 399, by decide +kernel⟩,
   ⟨st { (ready.setCore 399 { ended := false, releaseWait := [] }) with work := { tasks := [(399, some ⟨0, [], 0, 39, 0⟩)] } }, 399, by decide +kernel⟩,
   ⟨st { (ready.setCore 399 { ended := true, releaseWait := [(0, 0)] }) with work := { tasks := [(399, some ⟨0, [], 0, 39, 0⟩)] } }, 399, by decide +kernel⟩,
   ⟨st { (ready.setCore 399 { ended := true }) with work := { tasks := [(399, some ⟨0, [], 0, 39, 0⟩)] } }, 399, ⟨0, [], 0, 39, 0⟩, by decide +kernel⟩⟩

/-- The hypotheses of SlicesAndTasks, part 1, are met. -/
theorem witness_SlicesAndTasks_1 :
    (∃ (s : State) (ord : Nat), ord < 40 ∧ (s.hsUp ord = false ∨ s.resetting = true ∨ (∀ k < 32, (s.slot (s.hsDie ord) k).isSome = true) ∨ s.tier.loads = [])) ∧
    (∃ (s : State) (ord : Nat), ord < 40 ∧ (s.hsUp ord = false ∨ s.resetting = true ∨ (∀ k < 32, (s.slot (s.hsDie ord) k).isSome = true) ∨ s.tier.loads = [])) ∧
    (∃ (s : State) (ord : Nat), ord < 40 ∧ (s.hsUp ord = false ∨ s.resetting = true ∨ (∀ k < 32, (s.slot (s.hsDie ord) k).isSome = true) ∨ s.tier.loads = [])) ∧
    (∃ (s : State) (ord k : Nat) (l : Load) (rest : List Load), ord < 40 ∧ s.hsUp ord = true ∧ s.resetting = false ∧ (List.range 32).find? (fun k => (s.slot (s.hsDie ord) k).isNone) = some k ∧
      s.tier.loads = l :: rest ∧ s.loadOf ord l = none) ∧
    (∃ (s : State) (ord k : Nat) (l : Load) (rest : List Load) (o : Obj) (x : Slice), ord < 40 ∧ s.hsUp ord = true ∧ s.resetting = false ∧ (List.range 32).find? (fun k => (s.slot (s.hsDie ord) k).isNone) = some k ∧
      s.tier.loads = l :: rest ∧ s.loadOf ord l = some (o, x) ∧
      (s.placeSlice l.slice o x l.job).1 = false) ∧
    (∃ (s : State) (ord k : Nat) (l : Load) (rest : List Load) (o : Obj) (x : Slice), ord < 40 ∧ s.hsUp ord = true ∧ s.resetting = false ∧ (List.range 32).find? (fun k => (s.slot (s.hsDie ord) k).isNone) = some k ∧
      s.tier.loads = l :: rest ∧ s.loadOf ord l = some (o, x) ∧
      (s.placeSlice l.slice o x l.job).1 = true ∧ x.resident = false) ∧
    (∃ (s : State) (ord k : Nat) (l : Load) (rest : List Load) (o : Obj) (x : Slice), ord < 40 ∧ s.hsUp ord = true ∧ s.resetting = false ∧ (List.range 32).find? (fun k => (s.slot (s.hsDie ord) k).isNone) = some k ∧
      s.tier.loads = l :: rest ∧ s.loadOf ord l = some (o, x) ∧
      (s.placeSlice l.slice o x l.job).1 = true ∧ x.resident = true) ∧
    (∃ (s : State) (ord k : Nat), ord < 40 ∧ k < 32 ∧ s.slot (s.hsDie ord) k = none) ∧
    (∃ (s : State) (ord k : Nat) (l : Landing), ord < 40 ∧ k < 32 ∧ s.slot (s.hsDie ord) k = some l ∧ l.landed < l.bytes) ∧
    (∃ (s : State) (ord k : Nat) (l : Landing), ord < 40 ∧ k < 32 ∧ s.slot (s.hsDie ord) k = some l ∧ l.bytes ≤ l.landed ∧ (s.setSlot (s.hsDie ord) k none).slice l.slice = none) ∧
    (∃ (s : State) (ord k p : Nat) (l : Landing) (x : Slice) (o : Obj), ord < 40 ∧ k < 32 ∧ s.slot (s.hsDie ord) k = some l ∧ l.bytes ≤ l.landed ∧ (s.setSlot (s.hsDie ord) k none).slice l.slice = some x ∧ x.page = some p ∧
      (((s.setSlot (s.hsDie ord) k none).writeMem 5 x.hs (p * pageBytes + l.offset) (s.readMem 4 (s.hsDie ord) (k * unitBytes) l.bytes)
        (s.poisonIn 4 (s.hsDie ord) (k * unitBytes) l.bytes)).setSlice l.slice (some { x with loaded := x.loaded + l.bytes })).obj (sliceObj l.slice) = some o ∧
      (s.poisonIn 4 (s.hsDie ord) (k * unitBytes) l.bytes = [] ∨ (o.policy ≠ 2 ∧ o.policy ≠ 3))) ∧
    (∃ (s : State) (ord k p : Nat) (l : Landing) (x : Slice) (o : Obj), ord < 40 ∧ k < 32 ∧ s.slot (s.hsDie ord) k = some l ∧ l.bytes ≤ l.landed ∧ (s.setSlot (s.hsDie ord) k none).slice l.slice = some x ∧ x.page = some p ∧
      (((s.setSlot (s.hsDie ord) k none).writeMem 5 x.hs (p * pageBytes + l.offset) (s.readMem 4 (s.hsDie ord) (k * unitBytes) l.bytes)
        (s.poisonIn 4 (s.hsDie ord) (k * unitBytes) l.bytes)).setSlice l.slice (some { x with loaded := x.loaded + l.bytes })).obj (sliceObj l.slice) = some o ∧
      s.poisonIn 4 (s.hsDie ord) (k * unitBytes) l.bytes ≠ [] ∧ (o.policy = 2 ∨ o.policy = 3)) :=
  ⟨⟨st { busy with tier := { busy.tier with loads := [] } }, 39, by decide +kernel⟩,
   ⟨st { busy with tier := { busy.tier with loads := [⟨(sliceKey 9 0 0), none, none⟩], landing := (List.range 32).map (fun k => (sparDie 39 * 32 + k, some ⟨(sliceKey 9 0 0), 0, 4096, 0⟩)) } }, 39, by decide +kernel⟩,
   ⟨st (regs [(Reg.JOB_DEV_STATUS, 0, 1)] busy), 39, by decide +kernel⟩,
   ⟨st { busy with tier := { busy.tier with loads := [⟨(sliceKey 9 0 0), none, none⟩] } }, 39, 0, ⟨(sliceKey 9 0 0), none, none⟩, [], by decide +kernel⟩,
   ⟨st { busy with tier := { busy.tier with slices := [((sliceKey 9 0 0), some ⟨39, none, 0, 4096, [], false, 0, false, false, none⟩)], loads := [⟨(sliceKey 9 0 0), none, none⟩], pages := [(39 * 12288, some ⟨12288, 1, none, none⟩)] } }, 39, 0, ⟨(sliceKey 9 0 0), none, none⟩, [], objx 4096 1, ⟨39, none, 0, 4096, [], false, 0, false, false, none⟩, by decide +kernel⟩,
   ⟨st { busy with tier := { busy.tier with slices := [((sliceKey 9 0 0), some ⟨39, none, 0, 4096, [], false, 0, false, false, none⟩)], loads := [⟨(sliceKey 9 0 0), none, none⟩] } }, 39, 0, ⟨(sliceKey 9 0 0), none, none⟩, [], objx 4096 1, ⟨39, none, 0, 4096, [], false, 0, false, false, none⟩, by decide +kernel⟩,
   ⟨st { busy with tier := { busy.tier with slices := [((sliceKey 9 0 0), some ⟨39, some 0, 4096, 4096, [], true, 0, false, false, none⟩)], loads := [⟨(sliceKey 9 0 0), none, none⟩], objs := [(9, some { objx 4096 1 with policy := 3, workset := 64 })], pages := [(39 * 12288, some ⟨1, 3, some (sliceKey 9 0 0), none⟩)] } }, 39, 0, ⟨(sliceKey 9 0 0), none, none⟩, [], { objx 4096 1 with policy := 3, workset := 64 }, ⟨39, some 0, 4096, 4096, [], true, 0, false, false, none⟩, by decide +kernel⟩,
   ⟨st ready, 39, 31, by decide +kernel⟩,
   ⟨st { busy with tier := { busy.tier with landing := [(sparDie 39 * 32 + 31, some ⟨(sliceKey 9 0 0), 0, 4096, 4095⟩)], slices := [] } }, 39, 31, ⟨(sliceKey 9 0 0), 0, 4096, 4095⟩, by decide +kernel⟩,
   ⟨st { busy with tier := { busy.tier with landing := [(sparDie 39 * 32 + 31, some ⟨(sliceKey 9 0 0), 0, 4096, 4096⟩)], slices := [] } }, 39, 31, ⟨(sliceKey 9 0 0), 0, 4096, 4096⟩, by decide +kernel⟩,
   ⟨st { busy with tier := { busy.tier with objs := [(9, some (objx 4096 1))], landing := [(sparDie 39 * 32 + 31, some ⟨(sliceKey 9 0 0), 0, 4096, 4096⟩)], slices := [((sliceKey 9 0 0), some ⟨39, some 0, 0, 4096, [], false, 0, false, false, none⟩)] } }, 39, 31, 0, ⟨(sliceKey 9 0 0), 0, 4096, 4096⟩, ⟨39, some 0, 0, 4096, [], false, 0, false, false, none⟩, objx 4096 1, by decide +kernel⟩,
   ⟨st { (busy.markPoison 4 (sparDie 39) (31 * unitBytes / 16) true) with tier := { busy.tier with objs := [(9, some ({ objx 4096 1 with policy := 3 }))], landing := [(sparDie 39 * 32 + 31, some ⟨(sliceKey 9 0 0), 0, 4096, 4096⟩)], slices := [((sliceKey 9 0 0), some ⟨39, some 0, 0, 4096, [], false, 0, false, false, none⟩)] } }, 39, 31, 0, ⟨(sliceKey 9 0 0), 0, 4096, 4096⟩, ⟨39, some 0, 0, 4096, [], false, 0, false, false, none⟩, { objx 4096 1 with policy := 3 }, by decide +kernel⟩⟩

/-- The hypotheses of SlicesAndTasks, part 2, are met. -/
theorem witness_SlicesAndTasks_2 :
    (∃ s : State, s.routeTurn = none) ∧
    (∃ (s : State) (seq : Nat) (d : Disp) (left : Nat), s.routeTurn = some (d, left) ∧ d.seq ≠ seq) ∧
    (∃ (s : State) (seq : Nat) (d : Disp) (left : Nat) (x : Job) (r : Rec), s.routeTurn = some (d, left) ∧ d.seq = seq ∧ s.job d.job = some x ∧ d.recs[d.routed]? = some r ∧
      ((({ s.toDevice with work := { s.work with turnOrder := s.dispOrder d, turnLeft := left - 1 } } : Device).setDisp { d with routed := d.routed + 1 }).batchRecord x { d with routed := d.routed + 1 } d.routed r).isSome = true) ∧
    (∃ (s : State) (seq : Nat) (d : Disp) (left : Nat) (x : Job) (r : Rec), s.routeTurn = some (d, left) ∧ d.seq = seq ∧ s.job d.job = some x ∧ d.recs[d.routed]? = some r ∧
      ((({ s.toDevice with work := { s.work with turnOrder := s.dispOrder d, turnLeft := left - 1 } } : Device).setDisp { d with routed := d.routed + 1 }).batchRecord x { d with routed := d.routed + 1 } d.routed r).isSome = false) ∧
    (∃ (s : State) (seq : Nat), s.disp seq = none) ∧
    (∃ (s : State) (seq : Nat) (d : Disp), s.disp seq = some d ∧ (d.go = true ∨ s.barred d.n d.job = true)) ∧
    (∃ (s : State) (seq : Nat) (d : Disp), s.disp seq = some d ∧ d.go = false ∧ s.barred d.n d.job = true) ∧
    (∃ (s : State) (seq : Nat) (d : Disp), s.disp seq = some d ∧ d.go = false ∧ s.barred d.n d.job = false) ∧
    (∃ (s : State) (ord j slot : Nat), ord < 40 ∧ j < 64 ∧ (s.work.batches.find? (fun b => b.hs = ord ∧ b.job = j ∧ b.slot = slot ∧ b.st = 0 ∧ b.timer ≠ 0)).isSome = true ∧ s.resetting = true) ∧
    (∃ (s : State) (ord j slot : Nat), ord < 40 ∧ j < 64 ∧ (s.work.batches.find? (fun b => b.hs = ord ∧ b.job = j ∧ b.slot = slot ∧ b.st = 0 ∧ b.timer ≠ 0)).isSome = true ∧ s.resetting = false) ∧
    (∃ (s : State) (ord j slot : Nat), ord < 40 ∧ j < 64 ∧ s.work.batches.find? (fun b => b.hs = ord ∧ b.job = j ∧ b.slot = slot ∧ b.st = 0 ∧ b.timer ≠ 0) = none) ∧
    (∃ (s : State) (ord j slot : Nat), ord < 40 ∧ j < 64 ∧ (s.work.batches.find? (fun b => b.hs = ord ∧ b.job = j ∧ b.slot = slot ∧ b.st = 3)).isSome = true) :=
  ⟨⟨st ready, by decide +kernel⟩,
   ⟨st { busy with work := { busy.work with disps := [{ dispx with recs := [⟨0, 0, 0, 0, 0, 0, 0, 0⟩] }] } }, 1, { dispx with recs := [⟨0, 0, 0, 0, 0, 0, 0, 0⟩] }, 256, by decide +kernel⟩,
   ⟨st { busy with work := { busy.work with disps := [{ dispx with recs := [⟨0, 0, 0, 0, 0, 0, 0, 0⟩] }] } }, 0, { dispx with recs := [⟨0, 0, 0, 0, 0, 0, 0, 0⟩] }, 256, jobx, ⟨0, 0, 0, 0, 0, 0, 0, 0⟩, by decide +kernel⟩,
   ⟨st { { busy with work := { busy.work with jobs := [(0, some { jobx with slots := 0 })] } } with work := { { busy with work := { busy.work with jobs := [(0, some { jobx with slots := 0 })] } }.work with disps := [{ dispx with recs := [⟨0, 0, 0, 0, 0, 0, 0, 0⟩] }] } }, 0, { dispx with recs := [⟨0, 0, 0, 0, 0, 0, 0, 0⟩] }, 256, { jobx with slots := 0 }, ⟨0, 0, 0, 0, 0, 0, 0, 0⟩, by decide +kernel⟩,
   ⟨st ready, 0, by decide +kernel⟩,
   ⟨st { busy with work := { busy.work with disps := [{ dispx with go := true }] } }, 0, dispx, by decide +kernel⟩,
   ⟨st { busy with cmds := [pend 0 [(0, 0x23)] .fetched, { pend 1 [(0, 0x23)] .fetched with order := 5 }], work := { busy.work with disps := [{ dispx with n := 1, go := false }] } }, 0, { dispx with n := 1, go := false }, by decide +kernel⟩,
   ⟨st { ready with work := { ready.work with disps := [{ dispx with go := false }] } }, 0, { dispx with go := false }, by decide +kernel⟩,
   ⟨st { (regs [(Reg.JOB_DEV_STATUS, 0, 1)]) with work := { (regs [(Reg.JOB_DEV_STATUS, 0, 1)]).work with batches := [{ id := 0, job := 63, key := [], hs := 39, slot := 5, entries := [], opened := 0, timer := 1, st := 0, timed := false, taskSeq := 0 }] } }, 39, 63, 5, by decide +kernel⟩,
   ⟨st { ready with work := { ready.work with batches := [{ id := 0, job := 63, key := [], hs := 39, slot := 5, entries := [], opened := 0, timer := 1, st := 0, timed := false, taskSeq := 0 }] } }, 39, 63, 5, by decide +kernel⟩,
   ⟨st { ready with work := { ready.work with batches := [{ id := 0, job := 63, key := [], hs := 39, slot := 5, entries := [], opened := 0, timer := 0, st := 0, timed := false, taskSeq := 0 }] } }, 39, 63, 5, by decide +kernel⟩,
   ⟨st { ready with work := { ready.work with batches := [{ id := 0, job := 63, key := [], hs := 39, slot := 5, entries := [], opened := 0, timer := 0, st := 3, timed := false, taskSeq := 0 }] } }, 39, 63, 5, by decide +kernel⟩⟩

/-- The hypotheses of SlicesAndTasks, part 3, are met. -/
theorem witness_SlicesAndTasks_3 :
    (∃ (s : State) (ord j : Nat), ord < 40 ∧ j < 64 ∧ (s.job j = none ∨ s.computeHeld = true)) ∧
    (∃ (s : State) (ord j c : Nat) (x : Job) (t : QTask), ord < 40 ∧ j < 64 ∧ s.job j = some x ∧ s.computeHeld = false ∧ s.fenced (sparDie ord) = false ∧ s.idleCore (sparDie ord) x = some c ∧
      (s.pickTask (s.dieQueue (sparDie ord) j true)).1 = some t) ∧
    (∃ (s : State) (ord j c v : Nat) (x : Job) (t : QTask), ord < 40 ∧ j < 64 ∧ s.job j = some x ∧ s.computeHeld = false ∧ s.fenced (sparDie ord) = false ∧ s.rdf Reg.JOB_CTL j 20 16 ≠ 0 ∧
      s.dieQueue (sparDie ord) j true = [] ∧ s.idleCore (sparDie ord) x = some c ∧
      (s.stealOrder (sparDie ord) (s.rdf Reg.JOB_CTL j 20 16)).find?
        (fun d => (s.idleCore d x).isNone && !(s.dieQueue d j false).isEmpty) = some v ∧
      (s.pickTask (s.dieQueue v j false)).1 = some t) ∧
    (∃ (s : State) (j : Nat), j < 64 ∧ s.jobState j ≠ 0) ∧
    (∃ (s : State) (j : Nat), j < 64 ∧ s.jobState j = 0) :=
  ⟨⟨st ready, 39, 63, by decide +kernel⟩,
   ⟨st { ready with work := { ready.work with jobs := [(0, some { jobx with cores := [0] })], queue := [⟨0, none, 2, 0, 0, none⟩] } }, 0, 0, 0, { jobx with cores := [0] }, ⟨0, none, 2, 0, 0, none⟩, by decide +kernel⟩,
   ⟨st { (regs [(Reg.JOB_CTL, 0, 18 * 2 ^ 16)] ready) with work := { (regs [(Reg.JOB_CTL, 0, 18 * 2 ^ 16)] ready).work with jobs := [(0, some { jobx with cores := [0] })], queue := [⟨0, some 1, 2, 0, 0, none⟩] } }, 0, 0, 0, sparDie 1, { jobx with cores := [0] }, ⟨0, some 1, 2, 0, 0, none⟩, by decide +kernel⟩,
   ⟨st (regs [(Reg.JOB_STATUS, 63, 1)]), 63, by decide +kernel⟩,
   ⟨st ready, 63, by decide +kernel⟩⟩

/-- The hypotheses of ReductionEvents, part 1, are met. -/
theorem witness_ReductionEvents_1 :
    (∃ (s : State) (p : Packet), Packet.of 6 p = true ∧ s.mayLand p = true ∧ (s.receive p).ejectCause p.dstDie p = none ∧ dieKind p.dstDie = 1 ∧ p.dstUnit = 13 ∧ dieKind p.srcDie = 1 ∧ p.srcUnit ≤ 9 ∧ p.addr = 0xF00000000) ∧
    (∃ (s : State) (p : Packet), Packet.of 6 p = true ∧ s.mayLand p = true ∧ (s.receive p).ejectCause p.dstDie p = none ∧ dieKind p.dstDie = 1 ∧ p.dstUnit = 13 ∧ dieKind p.srcDie = 1 ∧ p.srcUnit ≤ 9 ∧ p.addr < 0xF00000000) ∧
    (∃ (s : State) (p : Packet), Packet.of 6 p = true ∧ s.mayLand p = true ∧ (s.receive p).ejectCause p.dstDie p = none ∧ dieKind p.dstDie = 1 ∧ p.dstUnit = 13 ∧ dieKind p.srcDie = 1 ∧ p.srcUnit ≤ 9 ∧ p.addr = 0xF00000020) ∧
    (∃ (s : State) (p : Packet) (i : Instr), Packet.of 6 p = true ∧ s.mayLand p = true ∧ (s.receive p).ejectCause p.dstDie p = none ∧ (dieKind p.dstDie ≠ 1 ∨ p.dstUnit ≠ 13 ∨ dieKind p.srcDie ≠ 1 ∨ 9 < p.srcUnit) ∧
      i ∈ [Instr.tackleContext p, .tackleCodes p, .tackleStatistics p] ∧ i.wf = true) ∧
    (∃ (s : State) (p : Packet) (i : Instr), Packet.of 6 p = true ∧ s.mayLand p = true ∧ (s.receive p).ejectCause p.dstDie p = none ∧ (dieKind p.dstDie ≠ 1 ∨ p.dstUnit ≠ 13 ∨ dieKind p.srcDie ≠ 1 ∨ 9 < p.srcUnit) ∧
      i ∈ [Instr.tackleContext p, .tackleCodes p, .tackleStatistics p] ∧ i.wf = true) ∧
    (∃ (s : State) (p : Packet) (i : Instr), Packet.of 6 p = true ∧ s.mayLand p = true ∧ (s.receive p).ejectCause p.dstDie p = none ∧ (dieKind p.dstDie ≠ 1 ∨ p.dstUnit ≠ 13 ∨ dieKind p.srcDie ≠ 1 ∨ 9 < p.srcUnit) ∧
      i ∈ [Instr.tackleContext p, .tackleCodes p, .tackleStatistics p] ∧ i.wf = true) ∧
    (∃ (s : State) (ord red : Nat), ord < 40 ∧ red < 64 ∧ s.red red = none) ∧
    (∃ (s : State) (ord red : Nat) (r : Red), ord < 40 ∧ red < 64 ∧ s.red red = some r ∧ s.work.queue = []) ∧
    (∃ (s : State) (ord red : Nat) (r y : Red) (t : QTask) (b : Batch) (elems : Nat), ord < 40 ∧ red < 64 ∧ s.red red = some r ∧ t ∈ s.work.queue ∧ t.kind = 0 ∧ t.resvFrom.isSome = true ∧ s.leads t = true ∧ r.granted t = false ∧
      s.batch t.ref = some b ∧ s.batchRed b = some (red, y, ord, elems) ∧ s.mayReserve ord red (b.key.getD 8 0) r elems = true) ∧
    (∃ (s : State) (ord red : Nat) (r y : Red) (t : QTask) (b : Batch) (elems : Nat), ord < 40 ∧ red < 64 ∧ s.red red = some r ∧ t ∈ s.work.queue ∧ t.kind = 0 ∧ t.resvFrom.isSome = true ∧ s.leads t = true ∧ r.granted t = false ∧
      s.batch t.ref = some b ∧ s.batchRed b = some (red, y, ord, elems) ∧ s.mayReserve ord red (b.key.getD 8 0) r elems = true) ∧
    (∃ (s : State) (id : Nat), id < 64 ∧ s.red id = none) ∧
    (∃ (s : State) (id : Nat) (r : Red), id < 64 ∧ s.red id = some r ∧ (r.phase ≠ 1 ∨ r.complete = true)) :=
  ⟨⟨st ready, { pkt with typ := 6, vc := 0, dstUnit := 13, addr := 0xF00000000, srcUnit := 9 }, by decide +kernel⟩,
   ⟨st ready, { pkt with typ := 6, vc := 0, dstUnit := 13, addr := 0xEFFFFFFFF, srcUnit := 9 }, by decide +kernel⟩,
   ⟨st ready, { pkt with typ := 6, vc := 0, dstUnit := 13, addr := 0xF00000020, srcUnit := 9 }, by decide +kernel⟩,
   ⟨st ready, { pkt with typ := 6, vc := 0, dstUnit := 13, addr := 0xF00000000, srcUnit := 10 }, .tackleContext ({ pkt with typ := 6, vc := 0, dstUnit := 13, addr := 0xF00000000, srcUnit := 10 }), by decide +kernel⟩,
   ⟨st ready, { pkt with typ := 6, vc := 0, dstUnit := 13, addr := 0, srcUnit := 10 }, .tackleCodes ({ pkt with typ := 6, vc := 0, dstUnit := 13, addr := 0, srcUnit := 10 }), by decide +kernel⟩,
   ⟨st ready, { pkt with typ := 6, vc := 0, dstUnit := 13, addr := 0xF00000020, srcUnit := 10 }, .tackleStatistics ({ pkt with typ := 6, vc := 0, dstUnit := 13, addr := 0xF00000020, srcUnit := 10 }), by decide +kernel⟩,
   ⟨st ready, 39, 63, by decide +kernel⟩,
   ⟨st busy, 0, 0, redx, by decide +kernel⟩,
   ⟨st { busy with work := { busy.work with batches := [⟨3, 0, [0, 23, 0, 0, 2, 0, 0, 0, 1, 1], 0, 0, [(0, 0)], 0, 0, 1, false, 0⟩], queue := [⟨0, some 0, 0, 3, 0, some 0⟩] } }, 0, 0, redx, redx, ⟨0, some 0, 0, 3, 0, some 0⟩, ⟨3, 0, [0, 23, 0, 0, 2, 0, 0, 0, 1, 1], 0, 0, [(0, 0)], 0, 0, 1, false, 0⟩, 1024, by decide +kernel⟩,
   ⟨st { busy with work := { busy.work with batches := [⟨3, 0, [0, 23, 0, 0, 2, 0, 0, 0, 1, 1], 0, 0, [(0, 0)], 0, 0, 1, false, 0⟩], queue := ⟨0, none, 2, 0, 0, none⟩ :: [⟨0, some 0, 0, 3, 0, some 0⟩] } }, 0, 0, redx, redx, ⟨0, some 0, 0, 3, 0, some 0⟩, ⟨3, 0, [0, 23, 0, 0, 2, 0, 0, 0, 1, 1], 0, 0, [(0, 0)], 0, 0, 1, false, 0⟩, 1024, by decide +kernel⟩,
   ⟨st ready, 63, by decide +kernel⟩,
   ⟨st { busy with tkl := { shards := [(0, some shardx)], reds := [(63, some { redx with phase := 2 })] } }, 63, { redx with phase := 2 }, by decide +kernel⟩⟩

/-- The hypotheses of ReductionEvents, part 2, are met. -/
theorem witness_ReductionEvents_2 :
    (∃ (s : State) (id : Nat) (r : Red), id < 64 ∧ s.red id = some r ∧ (r.phase ≠ 1 ∨ r.complete = true)) ∧
    (∃ (s : State) (id : Nat) (r : Red), id < 64 ∧ s.red id = some r ∧ r.phase = 1 ∧ r.complete = false) ∧
    (∃ (s : State) (id : Nat) (r : Red) (x : Shard), id < 64 ∧ s.red id = some r ∧ s.shard r.shard = some x ∧ r.phase = 1 ∧ r.complete = true ∧ s.serveHeld x r = false ∧ x.ckpts = []) ∧
    (∃ (s : State) (id : Nat) (r : Red) (x : Shard), id < 64 ∧ s.red id = some r ∧ s.shard r.shard = some x ∧ (r.phase ≠ 1 ∨ r.complete = false ∨ s.serveHeld x r = true ∨ x.ckpts ≠ [])) ∧
    (∃ (s : State) (id : Nat) (r : Red) (x : Shard), id < 64 ∧ s.red id = some r ∧ s.shard r.shard = some x ∧ (r.phase ≠ 1 ∨ r.complete = false ∨ s.serveHeld x r = true ∨ x.ckpts ≠ [])) ∧
    (∃ (s : State) (id : Nat) (r : Red) (x : Shard), id < 64 ∧ s.red id = some r ∧ s.shard r.shard = some x ∧ (r.phase ≠ 1 ∨ r.complete = false ∨ s.serveHeld x r = true ∨ x.ckpts ≠ [])) ∧
    (∃ (s : State) (id : Nat) (r : Red), id < 64 ∧ s.red id = some r ∧ r.phase = 2 ∧ r.poisoned = false) ∧
    (∃ (s : State) (id : Nat) (r : Red), id < 64 ∧ s.red id = some r ∧ r.phase = 2 ∧ r.poisoned = true) ∧
    (∃ (s : State) (id : Nat) (r : Red), id < 64 ∧ s.red id = some r ∧ r.phase ≠ 2) :=
  ⟨⟨st { busy with tkl := { shards := [(0, some shardx)], reds := [(63, some { redx with sums := [] })] } }, 63, { redx with sums := [] }, by decide +kernel⟩,
   ⟨st { busy with tkl := { shards := [(0, some shardx)], reds := [(63, some { redx with sums := [(39, 1)] })] } }, 63, { redx with sums := [(39, 1)] }, by decide +kernel⟩,
   ⟨st { busy with tkl := { shards := [(0, some shardx)], reds := [(63, some { redx with sums := [] })] } }, 63, { redx with sums := [] }, shardx, by decide +kernel⟩,
   ⟨st { busy with tkl := { shards := [(0, some shardx)], reds := [(63, some { redx with phase := 2 })] } }, 63, { redx with phase := 2 }, shardx, by decide +kernel⟩,
   ⟨st { busy with tkl := { shards := [(0, some shardx)], reds := [(63, some { redx with sums := [(39, 1)] })] } }, 63, { redx with sums := [(39, 1)] }, shardx, by decide +kernel⟩,
   ⟨st { busy with tkl := { shards := [(0, some { shardx with ckpts := [1] })], reds := [(63, some { redx with sums := [] })] } }, 63, { redx with sums := [] }, { shardx with ckpts := [1] }, by decide +kernel⟩,
   ⟨st { busy with tkl := { shards := [(0, some shardx)], reds := [(63, some { redx with phase := 2, poisoned := false })] } }, 63, { redx with phase := 2, poisoned := false }, by decide +kernel⟩,
   ⟨st { busy with tkl := { shards := [(0, some shardx)], reds := [(63, some { redx with phase := 2, poisoned := true })] } }, 63, { redx with phase := 2, poisoned := true }, by decide +kernel⟩,
   ⟨st { busy with tkl := { shards := [(0, some shardx)], reds := [(63, some { redx with phase := 1 })] } }, 63, { redx with phase := 1 }, by decide +kernel⟩⟩

/-- The hypotheses of EmbeddingAndSearchEvents, part 1, are met. -/
theorem witness_EmbeddingAndSearchEvents_1 :
    (∃ (s : State) (n : Nat), s.embCmd n = none) ∧
    (∃ (s : State) (n row : Nat) (c : EmbCmd) (h : EmbHandle) (x : Ns), s.embCmd n = some c ∧ s.embH c.h = some h ∧ s.ns h.nsid = some x ∧ s.embServe c (c.dies.getD (rowUnit c.dies.length row) 0) row = none) ∧
    (∃ (s : State) (n row : Nat) (c : EmbCmd) (h : EmbHandle) (x : Ns), s.embCmd n = some c ∧ s.embH c.h = some h ∧ s.ns h.nsid = some x ∧ (c.phase ≠ 1 ∨ c.rowList.contains row = false ∨ (nget none c.rows row).isSome = true ∨ s.prefetching c row = true ∨ s.embTaken c.n = false)) ∧
    (∃ (s : State) (n row : Nat) (c : EmbCmd) (h : EmbHandle) (x : Ns), s.embCmd n = some c ∧ s.embH c.h = some h ∧ s.ns h.nsid = some x ∧ (c.phase ≠ 1 ∨ c.rowList.contains row = false ∨ (nget none c.rows row).isSome = true ∨ s.prefetching c row = true ∨ s.embTaken c.n = false)) ∧
    (∃ (s : State) (n row : Nat) (c : EmbCmd) (h : EmbHandle) (x : Ns), s.embCmd n = some c ∧ s.embH c.h = some h ∧ s.ns h.nsid = some x ∧ (c.phase ≠ 1 ∨ c.rowList.contains row = false ∨ (nget none c.rows row).isSome = true ∨ s.prefetching c row = true ∨ s.embTaken c.n = false)) ∧
    (∃ (s : State) (n row : Nat) (c : EmbCmd) (h : EmbHandle) (x : Ns), s.embCmd n = some c ∧ s.embH c.h = some h ∧ s.ns h.nsid = some x ∧ (c.phase ≠ 1 ∨ c.rowList.contains row = false ∨ (nget none c.rows row).isSome = true ∨ s.prefetching c row = true ∨ s.embTaken c.n = false)) ∧
    (∃ (s : State) (n row : Nat) (c : EmbCmd) (h : EmbHandle) (x : Ns), s.embCmd n = some c ∧ s.embH c.h = some h ∧ s.ns h.nsid = some x ∧ (c.phase ≠ 1 ∨ c.rowList.contains row = false ∨ (nget none c.rows row).isSome = true ∨ s.prefetching c row = true ∨ s.embTaken c.n = false)) ∧
    (∃ (s : State) (n row : Nat) (c : EmbCmd) (h : EmbHandle) (x : Ns) (l : List (Nat × Nat)), s.embCmd n = some c ∧ s.embH c.h = some h ∧ s.ns h.nsid = some x ∧ s.embServe c (c.dies.getD (rowUnit c.dies.length row) 0) row = some l) ∧
    (∃ (s : State) (n row : Nat) (c : EmbCmd) (h : EmbHandle) (x : Ns), s.embCmd n = some c ∧ s.embH c.h = some h ∧ s.ns h.nsid = some x ∧ c.update = false ∧ c.prefetch = false ∧ row + 1 < c.offs.length ∧ c.bags.contains row = false ∧ c.rowList.all (fun r => (nget none c.rows r).isSome) = true) ∧
    (∃ (s : State) (n row : Nat) (c : EmbCmd) (h : EmbHandle) (x : Ns), s.embCmd n = some c ∧ s.embH c.h = some h ∧ s.ns h.nsid = some x ∧ c.update = false ∧ c.prefetch = false ∧ row + 1 < c.offs.length ∧ c.bags.contains row = false ∧ c.rowList.all (fun r => (nget none c.rows r).isSome) = false) ∧
    (∃ (s : State) (n : Nat) (c : EmbCmd) (h : EmbHandle) (x : Ns), s.embCmd n = some c ∧ s.embH c.h = some h ∧ s.ns h.nsid = some x ∧ c.update = true ∧ c.phase = 1 ∧ c.rowList.all (fun r => (nget none c.rows r).isSome) = true) ∧
    (∃ (s : State) (n : Nat) (c : EmbCmd) (h : EmbHandle) (x : Ns), s.embCmd n = some c ∧ s.embH c.h = some h ∧ s.ns h.nsid = some x ∧ c.update = true ∧ c.phase = 1 ∧ c.rowList.all (fun r => (nget none c.rows r).isSome) = false) :=
  ⟨⟨st busy, 0, by decide +kernel⟩,
   ⟨st { busy with emb := { busy.emb with cmds := [{ n := 5, h := 0, update := false, prefetch := false, mean := false, opt := 0, fmt := 0, entries := [(1, 0)], offs := [0, 1], addr := 0, lr := 0, eps := 0, dies := [0], rows := [], bags := [], poisoned := false, fetched := 0, phase := 1 }] } }, 5, 2, { n := 5, h := 0, update := false, prefetch := false, mean := false, opt := 0, fmt := 0, entries := [(1, 0)], offs := [0, 1], addr := 0, lr := 0, eps := 0, dies := [0], rows := [], bags := [], poisoned := false, fetched := 0, phase := 1 }, embx, nsx 2 0x1000000 64 (natLe 2 32 ++ natLe 2 7 ++ natLe 2 128 ++ natLe 5 1024), by decide +kernel⟩,
   ⟨st { busy with emb := { busy.emb with cmds := [{ n := 5, h := 0, update := false, prefetch := false, mean := false, opt := 0, fmt := 0, entries := [(1, 0)], offs := [0, 1], addr := 0, lr := 0, eps := 0, dies := [0], rows := [], bags := [], poisoned := false, fetched := 0, phase := 2 }] } }, 5, 1, { n := 5, h := 0, update := false, prefetch := false, mean := false, opt := 0, fmt := 0, entries := [(1, 0)], offs := [0, 1], addr := 0, lr := 0, eps := 0, dies := [0], rows := [], bags := [], poisoned := false, fetched := 0, phase := 2 }, embx, nsx 2 0x1000000 64 (natLe 2 32 ++ natLe 2 7 ++ natLe 2 128 ++ natLe 5 1024), by decide +kernel⟩,
   ⟨st { busy with emb := { busy.emb with cmds := [{ n := 5, h := 0, update := false, prefetch := false, mean := false, opt := 0, fmt := 0, entries := [(1, 0)], offs := [0, 1], addr := 0, lr := 0, eps := 0, dies := [0], rows := [], bags := [], poisoned := false, fetched := 0, phase := 1 }] } }, 5, 2, { n := 5, h := 0, update := false, prefetch := false, mean := false, opt := 0, fmt := 0, entries := [(1, 0)], offs := [0, 1], addr := 0, lr := 0, eps := 0, dies := [0], rows := [], bags := [], poisoned := false, fetched := 0, phase := 1 }, embx, nsx 2 0x1000000 64 (natLe 2 32 ++ natLe 2 7 ++ natLe 2 128 ++ natLe 5 1024), by decide +kernel⟩,
   ⟨st { busy with emb := { busy.emb with cmds := [{ n := 5, h := 0, update := false, prefetch := false, mean := false, opt := 0, fmt := 0, entries := [(1, 0)], offs := [0, 1], addr := 0, lr := 0, eps := 0, dies := [0], rows := [(1, some ([], false))], bags := [], poisoned := false, fetched := 0, phase := 1 }] } }, 5, 1, { n := 5, h := 0, update := false, prefetch := false, mean := false, opt := 0, fmt := 0, entries := [(1, 0)], offs := [0, 1], addr := 0, lr := 0, eps := 0, dies := [0], rows := [(1, some ([], false))], bags := [], poisoned := false, fetched := 0, phase := 1 }, embx, nsx 2 0x1000000 64 (natLe 2 32 ++ natLe 2 7 ++ natLe 2 128 ++ natLe 5 1024), by decide +kernel⟩,
   ⟨st { busy with emb := { busy.emb with cmds := [{ ({ n := 5, h := 0, update := false, prefetch := true, mean := false, opt := 0, fmt := 0, entries := [(1, 0)], offs := [0, 1], addr := 0, lr := 0, eps := 0, dies := [0], rows := [], bags := [], poisoned := false, fetched := 0, phase := 1 } : EmbCmd) with n := 4 }, { n := 5, h := 0, update := false, prefetch := false, mean := false, opt := 0, fmt := 0, entries := [(1, 0)], offs := [0, 1], addr := 0, lr := 0, eps := 0, dies := [0], rows := [], bags := [], poisoned := false, fetched := 0, phase := 1 }] } }, 5, 1, { n := 5, h := 0, update := false, prefetch := false, mean := false, opt := 0, fmt := 0, entries := [(1, 0)], offs := [0, 1], addr := 0, lr := 0, eps := 0, dies := [0], rows := [], bags := [], poisoned := false, fetched := 0, phase := 1 }, embx, nsx 2 0x1000000 64 (natLe 2 32 ++ natLe 2 7 ++ natLe 2 128 ++ natLe 5 1024), by decide +kernel⟩,
   ⟨st { busy with cmds := [{ pend 4 [(0, 0x2C)] .fetched with ran := false }, pend 5 [(0, 0x2C)] .started], emb := { busy.emb with cmds := [{ n := 5, h := 0, update := false, prefetch := false, mean := false, opt := 0, fmt := 0, entries := [(1, 0)], offs := [0, 1], addr := 0, lr := 0, eps := 0, dies := [0], rows := [], bags := [], poisoned := false, fetched := 0, phase := 1 }] } }, 5, 1, { n := 5, h := 0, update := false, prefetch := false, mean := false, opt := 0, fmt := 0, entries := [(1, 0)], offs := [0, 1], addr := 0, lr := 0, eps := 0, dies := [0], rows := [], bags := [], poisoned := false, fetched := 0, phase := 1 }, embx, nsx 2 0x1000000 64 (natLe 2 32 ++ natLe 2 7 ++ natLe 2 128 ++ natLe 5 1024), by decide +kernel⟩,
   ⟨st { busy with emb := { busy.emb with cmds := [{ n := 5, h := 0, update := false, prefetch := false, mean := false, opt := 0, fmt := 0, entries := [(1, 0)], offs := [0, 1], addr := 0, lr := 0, eps := 0, dies := [0], rows := [], bags := [], poisoned := false, fetched := 0, phase := 1 }] } }, 5, 1, { n := 5, h := 0, update := false, prefetch := false, mean := false, opt := 0, fmt := 0, entries := [(1, 0)], offs := [0, 1], addr := 0, lr := 0, eps := 0, dies := [0], rows := [], bags := [], poisoned := false, fetched := 0, phase := 1 }, embx, nsx 2 0x1000000 64 (natLe 2 32 ++ natLe 2 7 ++ natLe 2 128 ++ natLe 5 1024), [(5, 65535)], by decide +kernel⟩,
   ⟨st { busy with emb := { busy.emb with cmds := [{ n := 5, h := 0, update := false, prefetch := false, mean := false, opt := 0, fmt := 0, entries := [(1, 0)], offs := [0, 1], addr := 0, lr := 0, eps := 0, dies := [0], rows := [(1, some ([], false))], bags := [], poisoned := false, fetched := 0, phase := 1 }] } }, 5, 0, { n := 5, h := 0, update := false, prefetch := false, mean := false, opt := 0, fmt := 0, entries := [(1, 0)], offs := [0, 1], addr := 0, lr := 0, eps := 0, dies := [0], rows := [(1, some ([], false))], bags := [], poisoned := false, fetched := 0, phase := 1 }, embx, nsx 2 0x1000000 64 (natLe 2 32 ++ natLe 2 7 ++ natLe 2 128 ++ natLe 5 1024), by decide +kernel⟩,
   ⟨st { busy with emb := { busy.emb with cmds := [{ n := 5, h := 0, update := false, prefetch := false, mean := false, opt := 0, fmt := 0, entries := [(1, 0)], offs := [0, 1], addr := 0, lr := 0, eps := 0, dies := [0], rows := [], bags := [], poisoned := false, fetched := 0, phase := 1 }] } }, 5, 0, { n := 5, h := 0, update := false, prefetch := false, mean := false, opt := 0, fmt := 0, entries := [(1, 0)], offs := [0, 1], addr := 0, lr := 0, eps := 0, dies := [0], rows := [], bags := [], poisoned := false, fetched := 0, phase := 1 }, embx, nsx 2 0x1000000 64 (natLe 2 32 ++ natLe 2 7 ++ natLe 2 128 ++ natLe 5 1024), by decide +kernel⟩,
   ⟨st { busy with emb := { busy.emb with cmds := [{ n := 5, h := 0, update := true, prefetch := false, mean := false, opt := 0, fmt := 0, entries := [(1, 0)], offs := [0, 1], addr := 0, lr := 0, eps := 0, dies := [0], rows := [(1, some ([], false))], bags := [], poisoned := false, fetched := 0, phase := 1 }] } }, 5, { n := 5, h := 0, update := true, prefetch := false, mean := false, opt := 0, fmt := 0, entries := [(1, 0)], offs := [0, 1], addr := 0, lr := 0, eps := 0, dies := [0], rows := [(1, some ([], false))], bags := [], poisoned := false, fetched := 0, phase := 1 }, embx, nsx 2 0x1000000 64 (natLe 2 32 ++ natLe 2 7 ++ natLe 2 128 ++ natLe 5 1024), by decide +kernel⟩,
   ⟨st { busy with emb := { busy.emb with cmds := [{ n := 5, h := 0, update := true, prefetch := false, mean := false, opt := 0, fmt := 0, entries := [(1, 0)], offs := [0, 1], addr := 0, lr := 0, eps := 0, dies := [0], rows := [], bags := [], poisoned := false, fetched := 0, phase := 1 }] } }, 5, { n := 5, h := 0, update := true, prefetch := false, mean := false, opt := 0, fmt := 0, entries := [(1, 0)], offs := [0, 1], addr := 0, lr := 0, eps := 0, dies := [0], rows := [], bags := [], poisoned := false, fetched := 0, phase := 1 }, embx, nsx 2 0x1000000 64 (natLe 2 32 ++ natLe 2 7 ++ natLe 2 128 ++ natLe 5 1024), by decide +kernel⟩⟩

/-- The hypotheses of EmbeddingAndSearchEvents, part 2, are met. -/
theorem witness_EmbeddingAndSearchEvents_2 :
    (∃ h slot : Nat, h < 64 ∧ slot < 8) ∧
    (∃ (s : State) (h : Nat), h < 64 ∧ s.srchH h = none) ∧
    (∃ (s : State) (h : Nat) (y : SrchHandle), h < 64 ∧ s.srchH h = some y ∧ y.sideUs = 0) ∧
    (∃ (s : State) (h : Nat) (y : SrchHandle), h < 64 ∧ s.srchH h = some y ∧ y.sideUs ≠ 0) ∧
    (∃ (s : State) (h n : Nat) (y : SrchHandle) (x : Ns), h < 64 ∧ s.srchH h = some y ∧ y.folding = some n ∧ s.ns y.nsid = some x ∧ y.foldReady = true ∧ y.applying = false) ∧
    (∃ (s : State) (h n : Nat) (y : SrchHandle) (x : Ns), h < 64 ∧ s.srchH h = some y ∧ y.folding = some n ∧ s.ns y.nsid = some x ∧ (y.foldReady = false ∨ y.applying = true)) ∧
    (∃ (s : State) (h n : Nat) (y : SrchHandle) (x : Ns), h < 64 ∧ s.srchH h = some y ∧ y.folding = some n ∧ s.ns y.nsid = some x ∧ (y.foldReady = false ∨ y.applying = true)) :=
  ⟨⟨63, 7, by decide +kernel⟩,
   ⟨st ready, 63, by decide +kernel⟩,
   ⟨st { busy with srch := { busy.srch with handles := [(63, some { srchx with sideUs := 0 })] } }, 63, { srchx with sideUs := 0 }, by decide +kernel⟩,
   ⟨st { busy with srch := { busy.srch with handles := [(63, some { srchx with sideUs := 1 })] } }, 63, { srchx with sideUs := 1 }, by decide +kernel⟩,
   ⟨st { busy with srch := { busy.srch with handles := [(63, some { srchx with nsid := 0, folding := some 5, foldReady := true })] } }, 63, 5, { srchx with nsid := 0, folding := some 5, foldReady := true }, nsx 0 0x1000000 0 [], by decide +kernel⟩,
   ⟨st { busy with srch := { busy.srch with handles := [(63, some { srchx with nsid := 0, folding := some 5, foldReady := false })] } }, 63, 5, { srchx with nsid := 0, folding := some 5, foldReady := false }, nsx 0 0x1000000 0 [], by decide +kernel⟩,
   ⟨st { busy with srch := { busy.srch with handles := [(63, some { srchx with nsid := 0, folding := some 5, foldReady := true, applying := true })] } }, 63, 5, { srchx with nsid := 0, folding := some 5, foldReady := true, applying := true }, nsx 0 0x1000000 0 [], by decide +kernel⟩⟩

/-- The hypotheses of MediaEvents, part 1, are met. -/
theorem witness_MediaEvents_1 :
    (∃ (s : State) (ch : Nat), ch < 224 ∧ s.busTaken ch = true) ∧
    (∃ (s : State) (ch : Nat), ch < 224 ∧ s.busTaken ch = false) ∧
    (∃ (s : State) (ch : Nat), ch < 224 ∧ (s.busTaken ch = true ∨ s.chanMoved ch ≤ 15)) ∧
    (∃ (s : State) (ch : Nat), ch < 224 ∧ (s.busTaken ch = true ∨ s.chanMoved ch ≤ 15)) ∧
    (∃ (s : State) (ch : Nat), ch < 224 ∧ s.busTaken ch = false ∧ 15 < s.chanMoved ch) ∧
    (∃ (s : State) (lun cls : Nat), lun < 1792 ∧ 1 ≤ cls ∧ cls ≤ 5 ∧ s.lunUp lun = true) ∧
    (∃ (s : State) (lun cls : Nat), lun < 1792 ∧ 1 ≤ cls ∧ cls ≤ 5 ∧ s.lunUp lun = false) ∧
    (∃ (s : State) (lun cls quad wl : Nat), lun < 1792 ∧ (cls = 2 ∨ cls = 3) ∧ quad < 3312 ∧ wl < 384 ∧ s.lunIdle lun = true ∧ s.servedClass (lun / 8) = some cls ∧
      s.mayDispatch (lun / 8) cls true false = true ∧ (s.formGroup lun cls quad wl true).isSome = true) ∧
    (∃ (s : State) (lun cls quad wl : Nat), lun < 1792 ∧ (cls = 2 ∨ cls = 3) ∧ quad < 3312 ∧ wl < 384 ∧ s.lunIdle lun = true ∧ s.servedClass (lun / 8) = some cls ∧
      s.mayDispatch (lun / 8) cls true false = true ∧ (s.formGroup lun cls quad wl true).isSome = true) ∧
    (∃ (s : State) (lun cls quad wl : Nat), lun < 1792 ∧ (cls = 2 ∨ cls = 3) ∧ quad < 3312 ∧ wl < 384 ∧ s.lunIdle lun = false) ∧
    (∃ (s : State) (lun quad : Nat), lun < 1792 ∧ quad < 3312 ∧ (s.ftl.erases.any (fun q => q.1 == lun && q.2.1 == quad)) = false) ∧
    (∃ (s : State) (lun q ran u : Nat) (slc : Bool), lun < 1792 ∧ (s.lun lun).job = some (.erase q slc ran u) ∧ s.lunState lun = 6 ∧ (s.media.reads.any (fun r => r.busy && r.nd == lun)) = false ∧
      (s.nextRead lun 1 = none ∨ s.windowOpen lun = false)) :=
  ⟨⟨(st (ready.setLun 1791 { job := some (.program 0 0 true) } 2)), 223, by decide +kernel⟩,
   ⟨st ready, 223, by decide +kernel⟩,
   ⟨(st (ready.setLun 1791 { job := some (.program 0 0 true) } 2)), 223, by decide +kernel⟩,
   ⟨st { (regs [(Reg.PWR_DIE_TEMP, sheaveDie 55, 55)] ready) with media := { trained := [(223, 40)] } }, 223, by decide +kernel⟩,
   ⟨st { (regs [(Reg.PWR_DIE_TEMP, sheaveDie 55, 24)] ready) with media := { trained := [(223, 40)] } }, 223, by decide +kernel⟩,
   ⟨st ready, 1791, 5, by decide +kernel⟩,
   ⟨st (regs [(Reg.AVL_DIE_STATUS, 99, 1)]), 1791, 5, by decide +kernel⟩,
   ⟨st { ready with ftl := { squads := [(0, { st := 1, slc := true, use := 0 })], buf := [{ ord := 0, cw := { data := [], band := 0, unit := 0, kind := 6, wsn := 0, key := 0 }, cmd := none, txn := 0, old := none, slc := true, loc := some 0, done := false }] } }, 0, 2, 0, 0, by decide +kernel⟩,
   ⟨st { ready with ftl := { squads := [(0, { st := 1, slc := true, use := 1 })], buf := [{ ord := 0, cw := { data := [], band := 0, unit := 0, kind := 6, wsn := 0, key := 0 }, cmd := none, txn := 0, old := none, slc := true, loc := some 0, done := false }] } }, 0, 3, 0, 0, by decide +kernel⟩,
   ⟨st ((ready).setLun 1791 { job := some (.erase 3311 true 0 0) } 4), 1791, 3, 3311, 383, by decide +kernel⟩,
   ⟨st ready, 1791, 3311, by decide +kernel⟩,
   ⟨st ((ready).setLun 1791 { job := some (.erase 3311 true 0 0) } 6), 1791, 3311, 0, 0, true, by decide +kernel⟩⟩

/-- The hypotheses of MediaEvents, part 2, are met. -/
theorem witness_MediaEvents_2 :
    (∃ (s : State) (lun : Nat), lun < 1792 ∧ s.lunState lun ≠ 6) ∧
    (∃ (s : State) (lun : Nat), lun < 1792 ∧ s.lunState lun = 5) ∧
    (∃ (s : State) (lun : Nat), lun < 1792 ∧ s.lunState lun ≠ 5) ∧
    (∃ (s : State) (lun : Nat), lun < 1792 ∧ s.lunState lun = 2) ∧
    (∃ (s : State) (lun : Nat), lun < 1792 ∧ s.lunState lun ≠ 2) ∧
    (∃ (s : State) (lun quad : Nat), lun < 1792 ∧ quad < 3312 ∧ s.lunIdle lun = true ∧ s.servedClass (lun / 8) = some 3 ∧ s.mayDispatch (lun / 8) 3 false true = true ∧
      (s.ftl.erases.any (fun q => q.1 == lun && q.2.1 == quad)) = true) ∧
    (∃ (s : State) (lun q ran u : Nat) (slc : Bool), lun < 1792 ∧ (s.lun lun).job = some (.erase q slc ran u) ∧ s.lunState lun = 6 ∧ (s.media.reads.any (fun r => r.busy && r.nd == lun)) = false ∧
      s.nextRead lun 1 ≠ none ∧ s.windowOpen lun = false) ∧
    (∃ (s : State) (lun step : Nat), lun < 1792 ∧ step < 8 ∧ s.media.reads.find? (fun r => r.busy ∧ r.nd = lun) = none) ∧
    (∃ (s : State) (lun step : Nat) (r : ReadReq), lun < 1792 ∧ step < 8 ∧ s.media.reads.find? (fun r => r.busy ∧ r.nd = lun) = some r ∧ r.dest = .member 9) ∧
    (∃ (s : State) (lun step : Nat) (r : ReadReq), lun < 1792 ∧ step < 8 ∧ s.media.reads.find? (fun r => r.busy ∧ r.nd = lun) = some r ∧ r.dest = .cmd 0 0) ∧
    (∃ (s : State) (lun q wl : Nat) (slc : Bool), lun < 1792 ∧ (s.lun lun).job = some (.program q wl slc) ∧ s.lunState lun = 2) ∧
    (∃ (s : State) (lun q wl : Nat) (slc : Bool), lun < 1792 ∧ (s.lun lun).job = some (.program q wl slc) ∧ s.lunState lun = 3) :=
  ⟨⟨st ((ready).setLun 1791 { job := some (.erase 3311 true 0 0) } 4), 1791, by decide +kernel⟩,
   ⟨st ((ready).setLun 1791 { job := some (.erase 3311 true 0 0) } 5), 1791, by decide +kernel⟩,
   ⟨st ((ready).setLun 1791 { job := some (.erase 3311 true 0 0) } 6), 1791, by decide +kernel⟩,
   ⟨st ((ready).setLun 1791 { job := some (.erase 3311 true 0 0) } 2), 1791, by decide +kernel⟩,
   ⟨st ((ready).setLun 1791 { job := some (.erase 3311 true 0 0) } 3), 1791, by decide +kernel⟩,
   ⟨st { ready with ftl := { erases := [(1791, 3311, true)] } }, 1791, 3311, by decide +kernel⟩,
   ⟨st (({ ready with clocks := [(0, { counter := 10000000 })], media := { reads := [{ id := 0, ord := 55, loc := mkLoc 31 3311 0, cls := 1, dest := .member 0, busy := false, recon := none }] } }).setLun 1791 { job := some (.erase 3311 true 0 0) } 6), 1791, 3311, 0, 0, true, by decide +kernel⟩,
   ⟨st ready, 1791, 7, by decide +kernel⟩,
   ⟨st { ready with media := { reads := [{ id := 0, ord := 55, loc := mkLoc 31 3311 0, cls := 1, dest := .member 9, busy := true, recon := none }] } }, 1791, 7, { id := 0, ord := 55, loc := mkLoc 31 3311 0, cls := 1, dest := .member 9, busy := true, recon := none }, by decide +kernel⟩,
   ⟨st { ready with media := { reads := [{ id := 0, ord := 55, loc := mkLoc 31 3311 0, cls := 1, dest := .cmd 0 0, busy := true, recon := none }] } }, 1791, 7, { id := 0, ord := 55, loc := mkLoc 31 3311 0, cls := 1, dest := .cmd 0 0, busy := true, recon := none }, by decide +kernel⟩,
   ⟨st ((ready).setLun 1791 { job := some (.program 3311 383 true) } 2), 1791, 3311, 383, true, by decide +kernel⟩,
   ⟨st ((ready).setLun 1791 { job := some (.program 3311 383 true) } 3), 1791, 3311, 383, true, by decide +kernel⟩⟩

/-- The hypotheses of MediaEvents, part 3, are met. -/
theorem witness_MediaEvents_3 :
    (∃ (s : State) (lun q ran u : Nat) (slc : Bool), lun < 1792 ∧ (s.lun lun).job = some (.erase q slc ran u) ∧ s.lunState lun = 4) ∧
    (∃ (s : State) (lun : Nat), lun < 1792 ∧ (s.lun lun).job = none) ∧
    (∃ (s : State) (lun quad plane step : Nat), lun < 1792 ∧ quad < 3312 ∧ plane < 4 ∧ step < 8 ∧ (s.lunIdle lun = false ∨ s.blkState lun (quad * 4 + plane) ≠ 2 ∨ s.mayDispatch (lun / 8) 5 false false = false)) ∧
    (∃ (s : State) (lun quad plane step : Nat), lun < 1792 ∧ quad < 3312 ∧ plane < 4 ∧ step < 8 ∧ (s.lunIdle lun = false ∨ s.blkState lun (quad * 4 + plane) ≠ 2 ∨ s.mayDispatch (lun / 8) 5 false false = false)) ∧
    (∃ (s : State) (lun quad plane step : Nat), lun < 1792 ∧ quad < 3312 ∧ plane < 4 ∧ step < 8 ∧ (s.lunIdle lun = false ∨ s.blkState lun (quad * 4 + plane) ≠ 2 ∨ s.mayDispatch (lun / 8) 5 false false = false)) ∧
    (∃ (s : State) (lun quad plane step : Nat), lun < 1792 ∧ quad < 3312 ∧ plane < 4 ∧ step < 8 ∧ s.lunIdle lun = true ∧ s.blkState lun (quad * 4 + plane) = 2 ∧ s.mayDispatch (lun / 8) 5 false false = true ∧ step < 2) ∧
    (∃ (s : State) (lun quad plane step : Nat), lun < 1792 ∧ quad < 3312 ∧ plane < 4 ∧ step < 8 ∧ s.lunIdle lun = true ∧ s.blkState lun (quad * 4 + plane) = 2 ∧ s.mayDispatch (lun / 8) 5 false false = true ∧ 2 ≤ step) ∧
    (∃ (s : State) (lun quad plane : Nat), lun < 1792 ∧ quad < 3312 ∧ plane < 4 ∧ s.ftl.flagged.contains (lun, quad * 4 + plane) = false) ∧
    (∃ (s : State) (lun quad plane : Nat), lun < 1792 ∧ quad < 3312 ∧ plane < 4 ∧ s.ftl.flagged.contains (lun, quad * 4 + plane) = true ∧ s.ftl.nand = []) ∧
    (∃ (s : State) (ord : Nat), ord < 40 ∧ s.avl.training.contains ord = false) ∧
    (∃ (s : State) (ord : Nat), ord < 40 ∧ s.avl.training.contains ord = true) :=
  ⟨⟨st ((ready).setLun 1791 { job := some (.erase 3311 true 0 0) } 4), 1791, 3311, 0, 0, true, by decide +kernel⟩,
   ⟨st ready, 1791, by decide +kernel⟩,
   ⟨st ((regs [] ready).setEc 1791 13247 (1 * 2 ^ 32 + 0 * 2 ^ 64)), 1791, 3311, 3, 7, by decide +kernel⟩,
   ⟨st ((ready).setLun 1791 { job := some (.erase 3311 true 0 0) } 4), 1791, 3311, 3, 7, by decide +kernel⟩,
   ⟨st ((regs [(Reg.MEDIA_DIE_STATUS, 55, 2)] ready).setEc 1791 13247 (2 * 2 ^ 32)), 1791, 3311, 3, 7, by decide +kernel⟩,
   ⟨st ((regs [] ready).setEc 1791 13247 (2 * 2 ^ 32 + 0 * 2 ^ 64)), 1791, 3311, 3, 1, by decide +kernel⟩,
   ⟨st ((regs [] ready).setEc 1791 13247 (2 * 2 ^ 32 + 0 * 2 ^ 64)), 1791, 3311, 3, 2, by decide +kernel⟩,
   ⟨st ready, 1791, 3311, 3, by decide +kernel⟩,
   ⟨st { ready with ftl := { flagged := [(1791, 13247)] } }, 1791, 3311, 3, by decide +kernel⟩,
   ⟨st ready, 39, by decide +kernel⟩,
   ⟨st { ready with avl := { training := [39] } }, 39, by decide +kernel⟩⟩

/-- The hypotheses of TranslationEvents, part 1, are met. -/
theorem witness_TranslationEvents_1 :
    (∃ (s : State) (ord : Nat), ord < 56 ∧ nget none s.ftl.cycle ord = none ∧ ((nget [] s.ftl.journal ord).filter (fun r => r.page.isNone)).take 128 = [] ∧
      2 * s.rd Reg.FTL_JRNL_RETAINED ord ≤ s.rdf Reg.FTL_JRNL_MAX 0 15 0 * 2 ^ 20) ∧
    (∃ (s : State) (ord : Nat), ord < 56 ∧ nget none s.ftl.cycle ord = none ∧ ((nget [] s.ftl.journal ord).filter (fun r => r.page.isNone)).take 128 ≠ []) ∧
    (∃ (s : State) (ord die quad wls : Nat), ord < 56 ∧ die < 32 ∧ quad < 3312 ∧ ((s.squad (rainGroup ord) die quad).st ≠ 1 ∨ s.progress (nandDie ord die) quad < wls)) ∧
    (∃ (s : State) (ord die quad wls : Nat), ord < 56 ∧ die < 32 ∧ quad < 3312 ∧ ((s.squad (rainGroup ord) die quad).st ≠ 1 ∨ s.progress (nandDie ord die) quad < wls)) ∧
    (∃ (s : State) (ord die quad wls : Nat), ord < 56 ∧ die < 32 ∧ quad < 3312 ∧ (s.squad (rainGroup ord) die quad).st = 1 ∧ wls ≤ s.progress (nandDie ord die) quad ∧ (s.quadCws (nandDie ord die) quad).any (fun c => decide (locOff c.1 /
        max 1 (s.groupCws (nandDie ord die) quad (s.squad (rainGroup ord) die quad).slc) < wls) && !s.setDurable ord c.1 c.2) = false) ∧
    (∃ (s : State) (ord die quad wls : Nat), ord < 56 ∧ die < 32 ∧ quad < 3312 ∧ (s.squad (rainGroup ord) die quad).st = 1 ∧ wls ≤ s.progress (nandDie ord die) quad ∧ (s.quadCws (nandDie ord die) quad).any (fun c => decide (locOff c.1 /
        max 1 (s.groupCws (nandDie ord die) quad (s.squad (rainGroup ord) die quad).slc) < wls) && !s.setDurable ord c.1 c.2) = true) ∧
    (∃ (s : State) (ord die quad wls : Nat), ord < 56 ∧ die < 32 ∧ quad < 3312 ∧ (s.squad (rainGroup ord) die quad).st = 1 ∧ wls ≤ s.progress (nandDie ord die) quad ∧ (s.quadCws (nandDie ord die) quad).any (fun c => decide (locOff c.1 /
        max 1 (s.groupCws (nandDie ord die) quad (s.squad (rainGroup ord) die quad).slc) < wls) && !s.setDurable ord c.1 c.2) = false) ∧
    (∃ (s : State) (n : Nat), s.ftl.txns.find? (fun x => x.id = n) = none) ∧
    (∃ (s : State) (n : Nat) (x : Txn), s.ftl.txns.find? (fun x => x.id = n) = some x ∧ (x.committed = true ∨ x.parts.all x.prepared.contains = false)) ∧
    (∃ (s : State) (n : Nat) (x : Txn), s.ftl.txns.find? (fun x => x.id = n) = some x ∧ (x.committed = true ∨ x.parts.all x.prepared.contains = false)) ∧
    (∃ (s : State) (n : Nat) (x : Txn), s.ftl.txns.find? (fun x => x.id = n) = some x ∧ x.committed = false ∧ x.parts.all x.prepared.contains = true ∧ x.parts = []) ∧
    (∃ (s : State) (n : Nat) (x : Txn), s.ftl.txns.find? (fun x => x.id = n) = some x ∧ x.committed = false ∧ x.parts.all x.prepared.contains = true ∧ x.parts ≠ []) :=
  ⟨⟨st { ready with ftl := { journal := [(55, [{ n := 4, wsn := 0, change := 0, typ := 4, flags := 0, txn := 0, payload := [], page := some 3, copies := 0, cmd := none }])] } }, 55, by decide +kernel⟩,
   ⟨st { ready with ftl := { journal := [(55, [{ n := 4, wsn := 0, change := 0, typ := 4, flags := 0, txn := 0, payload := [], page := none, copies := 0, cmd := none }])] } }, 55, by decide +kernel⟩,
   ⟨st ready, 55, 31, 3311, 1, by decide +kernel⟩,
   ⟨st { ready with ftl := { squads := [(sqKey (rainGroup 55) 31 3311, { st := 1 })], progress := [(nandDie 55 31 * 4096 + 3311, 3)] } }, 55, 31, 3311, 4, by decide +kernel⟩,
   ⟨st { ready with ftl := { squads := [(sqKey (rainGroup 55) 31 3311, { st := 1 })], progress := [(nandDie 55 31 * 4096 + 3311, 3)] } }, 55, 31, 3311, 3, by decide +kernel⟩,
   ⟨st { { ready with ftl := { squads := [(sqKey (rainGroup 55) 31 3311, { st := 1 })], progress := [(nandDie 55 31 * 4096 + 3311, 3)] } } with ftl := { ({ ready with ftl := { squads := [(sqKey (rainGroup 55) 31 3311, { st := 1 })], progress := [(nandDie 55 31 * 4096 + 3311, 3)] } } : Device).ftl with bands := [(7, 55)], map := [(7 * 1024, { loc := mkLoc 31 3311 0 })], nand := [(55 * 2 ^ 32 + mkLoc 31 3311 0, some { data := [], band := 7, unit := 0, kind := 0, wsn := 0, key := 0 })] } }, 55, 31, 3311, 3, by decide +kernel⟩,
   ⟨st { { ready with ftl := { squads := [(sqKey (rainGroup 55) 31 3311, { st := 1 })], progress := [(nandDie 55 31 * 4096 + 3311, 3)] } } with ftl := { ({ ready with ftl := { squads := [(sqKey (rainGroup 55) 31 3311, { st := 1 })], progress := [(nandDie 55 31 * 4096 + 3311, 3)] } } : Device).ftl with bands := [(7, 55)], map := [(7 * 1024, { loc := mkLoc 31 3311 0 })], nand := [(55 * 2 ^ 32 + mkLoc 31 3311 0, some { data := [], band := 7, unit := 0, kind := 0, wsn := 0, key := 0 })], durable := [(7 * 1024, { loc := mkLoc 31 3311 0 })] } }, 55, 31, 3311, 3, by decide +kernel⟩,
   ⟨st ready, 0, by decide +kernel⟩,
   ⟨st { ready with ftl := { txns := [{ id := 3, parts := [0], prepared := [0], committed := true, cmd := 0 }] } }, 3, { id := 3, parts := [0], prepared := [0], committed := true, cmd := 0 }, by decide +kernel⟩,
   ⟨st { ready with ftl := { txns := [{ id := 3, parts := [0, 1], prepared := [0], committed := false, cmd := 0 }] } }, 3, { id := 3, parts := [0, 1], prepared := [0], committed := false, cmd := 0 }, by decide +kernel⟩,
   ⟨st { ready with ftl := { txns := [{ id := 3, parts := [], prepared := [], committed := false, cmd := 0 }] } }, 3, { id := 3, parts := [], prepared := [], committed := false, cmd := 0 }, by decide +kernel⟩,
   ⟨st { ready with ftl := { txns := [{ id := 3, parts := [5, 0], prepared := [0, 5], committed := false, cmd := 0 }] } }, 3, { id := 3, parts := [5, 0], prepared := [0, 5], committed := false, cmd := 0 }, by decide +kernel⟩⟩

/-- The hypotheses of TranslationEvents, part 2, are met. -/
theorem witness_TranslationEvents_2 :
    (∃ (s : State) (grp t quad : Nat), grp < 4 ∧ t < 32 ∧ quad < 3312 ∧ (s.squad grp t quad).st ≠ 3) ∧
    (∃ (s : State) (grp t quad : Nat), grp < 4 ∧ t < 32 ∧ quad < 3312 ∧ (s.media.reads.any (fun r => rainGroup r.ord == grp && locDie r.loc == t && locQuad r.loc == quad)) = true) ∧
    (∃ (s : State) (grp t quad : Nat), grp < 4 ∧ t < 32 ∧ quad < 3312 ∧ (s.squad grp t quad).st = 3 ∧ s.media.reads = [] ∧ s.ftl.nand = []) :=
  ⟨⟨st ready, 3, 31, 3311, by decide +kernel⟩,
   ⟨st { ready with media := { reads := [{ id := 0, ord := 55, loc := mkLoc 31 3311 0, cls := 1, dest := .member 0, busy := false, recon := none }] } }, 3, 31, 3311, by decide +kernel⟩,
   ⟨st { ready with ftl := { squads := [(sqKey 3 31 3311, { st := 3 })] } }, 3, 31, 3311, by decide +kernel⟩⟩

/-- The hypotheses of MemoryIntegrityEvents, part 1, are met. -/
theorem witness_MemoryIntegrityEvents_1 :
    (∃ (s : State) (m : Nat), s.mem.merge[m]? = none) ∧
    (∃ (s : State) (m : Nat) (x : Merge), s.mem.merge[m]? = some x ∧ x.mem = 5 ∧ s.now - x.at_ < 64) ∧
    (∃ (s : State) (m : Nat) (x : Merge), s.mem.merge[m]? = some x ∧ ¬(x.mem = 5 ∧ s.now - x.at_ < 64)) ∧
    (∃ (s : State) (m : Nat) (x : Merge), s.mem.merge[m]? = some x ∧ ¬(x.mem = 5 ∧ s.now - x.at_ < 64)) ∧
    (∃ (s : State) (ord : Nat), ord < 40 ∧ (s.fenced (s.hsDie ord) = true ∨ s.hsUp ord = false ∨ s.rdf Reg.MEM_PATROL_CTL (s.hsDie ord) 7 0 = 0)) ∧
    (∃ (s : State) (ord : Nat), ord < 40 ∧ (s.fenced (s.hsDie ord) = true ∨ s.hsUp ord = false ∨ s.rdf Reg.MEM_PATROL_CTL (s.hsDie ord) 7 0 = 0)) ∧
    (∃ (s : State) (ord : Nat), ord < 40 ∧ (s.fenced (s.hsDie ord) = true ∨ s.hsUp ord = false ∨ s.rdf Reg.MEM_PATROL_CTL (s.hsDie ord) 7 0 = 0)) ∧
    (∃ (s : State) (ord : Nat), ord < 40 ∧ s.fenced (s.hsDie ord) = false ∧ s.hsUp ord = true ∧ s.rdf Reg.MEM_PATROL_CTL (s.hsDie ord) 7 0 ≠ 0) ∧
    (∃ inst : Nat, (inst < 400 ∨ (512 ≤ inst ∧ inst < 612))) ∧
    (∃ (s : State) (inst : Nat), (inst < 400 ∨ (512 ≤ inst ∧ inst < 612)) ∧ nget none s.mem.scrubs inst = none) ∧
    (∃ (s : State) (eng : Nat), eng < 1600 ∧ (s.rdf Reg.MEM_CORE_LTEST_CTL (eng / 4) 0 0 = 0 ∨ s.rdf Reg.ENG_STATUS eng 11 11 = 1 ∨ (s.engine eng).standIn ≠ [] ∨ s.fenced (coreDie (eng / 4)) = true)) ∧
    (∃ (s : State) (eng : Nat), eng < 1600 ∧ (s.rdf Reg.MEM_CORE_LTEST_CTL (eng / 4) 0 0 = 0 ∨ s.rdf Reg.ENG_STATUS eng 11 11 = 1 ∨ (s.engine eng).standIn ≠ [] ∨ s.fenced (coreDie (eng / 4)) = true)) :=
  ⟨⟨st ready, 0, by decide +kernel⟩,
   ⟨st { ready with clocks := [(0, { counter := 63 })], mem := { merge := [⟨5, 39, 0, [], 0⟩] } }, 0, ⟨5, 39, 0, [], 0⟩, by decide +kernel⟩,
   ⟨st { ready with clocks := [(0, { counter := 64 })], mem := { merge := [⟨5, 39, 0, [], 0⟩] } }, 0, ⟨5, 39, 0, [], 0⟩, by decide +kernel⟩,
   ⟨st { ready with mem := { merge := [⟨4, 39, 0, [], 0⟩] } }, 0, ⟨4, 39, 0, [], 0⟩, by decide +kernel⟩,
   ⟨st (regs [(Reg.AVL_DIE_STATUS, sparDie 39, 1)]), 39, by decide +kernel⟩,
   ⟨st (regs [(Reg.TIER_HS_STATUS, 39, 0)]), 39, by decide +kernel⟩,
   ⟨st (regs [(Reg.MEM_PATROL_CTL, sparDie 39, 0)]), 39, by decide +kernel⟩,
   ⟨st ready, 39, by decide +kernel⟩,
   ⟨399, by decide +kernel⟩,
   ⟨st ready, 611, by decide +kernel⟩,
   ⟨st (regs [(Reg.MEM_CORE_LTEST_CTL, 399, 0)]), 1599, by decide +kernel⟩,
   ⟨st (regs [(Reg.ENG_STATUS, 1599, 0x800)] (regs [(Reg.MEM_CORE_LTEST_CTL, 399, 1)] ready)), 1599, by decide +kernel⟩⟩

/-- The hypotheses of MemoryIntegrityEvents, part 2, are met. -/
theorem witness_MemoryIntegrityEvents_2 :
    (∃ (s : State) (eng : Nat), eng < 1600 ∧ (s.rdf Reg.MEM_CORE_LTEST_CTL (eng / 4) 0 0 = 0 ∨ s.rdf Reg.ENG_STATUS eng 11 11 = 1 ∨ (s.engine eng).standIn ≠ [] ∨ s.fenced (coreDie (eng / 4)) = true)) ∧
    (∃ (s : State) (eng : Nat), eng < 1600 ∧ (s.rdf Reg.MEM_CORE_LTEST_CTL (eng / 4) 0 0 = 0 ∨ s.rdf Reg.ENG_STATUS eng 11 11 = 1 ∨ (s.engine eng).standIn ≠ [] ∨ s.fenced (coreDie (eng / 4)) = true)) ∧
    (∃ (s : State) (eng : Nat), eng < 1600 ∧ s.rdf Reg.MEM_CORE_LTEST_CTL (eng / 4) 0 0 = 1 ∧ s.rdf Reg.ENG_STATUS eng 11 11 = 0 ∧ (s.engine eng).standIn = [] ∧ s.fenced (coreDie (eng / 4)) = false ∧
      s.rdf Reg.CORE_STATE (eng / 4) 2 0 ≠ 0 ∧ s.rdf Reg.CORE_STATE (eng / 4) 2 0 ≠ 6 ∧ (s.engine eng).region < 271) ∧
    (∃ (s : State) (eng : Nat), eng < 1600 ∧ s.rdf Reg.MEM_CORE_LTEST_CTL (eng / 4) 0 0 = 1 ∧ s.rdf Reg.ENG_STATUS eng 11 11 = 0 ∧ (s.engine eng).standIn = [] ∧ s.fenced (coreDie (eng / 4)) = false ∧
      s.rdf Reg.CORE_STATE (eng / 4) 2 0 ≠ 0 ∧ s.rdf Reg.CORE_STATE (eng / 4) 2 0 ≠ 6 ∧ (s.engine eng).region = 271) ∧
    (∃ (s : State) (die : Nat), (die = 42 ∨ die = 52) ∧ s.fenced die = true) ∧
    (∃ (s : State) (die : Nat), (die = 42 ∨ die = 52) ∧ s.fenced die = false ∧ nget 0 s.mem.secRegion die ≠ 1023) ∧
    (∃ (s : State) (die : Nat), (die = 42 ∨ die = 52) ∧ s.fenced die = false ∧ nget 0 s.mem.secRegion die = 1023) ∧
    (∃ (s : State) (die : Nat), (die = 42 ∨ die = 52) ∧ s.fenced die = false ∧ nget 0 s.mem.secRegion die ≠ 1023 ∧ 1 < s.rd Reg.MEM_SEC_SPARES_LEFT die) ∧
    (∃ (s : State) (die : Nat), (die = 42 ∨ die = 52) ∧ s.fenced die = false ∧ nget 0 s.mem.secRegion die ≠ 1023 ∧ s.rd Reg.MEM_SEC_SPARES_LEFT die = 1) :=
  ⟨⟨st ((regs [(Reg.MEM_CORE_LTEST_CTL, 399, 1)] ready).setEngine 1599 { standIn := [0] }), 1599, by decide +kernel⟩,
   ⟨st (regs [(Reg.AVL_DIE_STATUS, coreDie 399, 1)]), 1599, by decide +kernel⟩,
   ⟨st ((regs [(Reg.MEM_CORE_LTEST_CTL, 399, 1)] ready).setEngine 1599 { region := 270 }), 1599, by decide +kernel⟩,
   ⟨st ((regs [(Reg.MEM_CORE_LTEST_CTL, 399, 1)] ready).setEngine 1599 { region := 271 }), 1599, by decide +kernel⟩,
   ⟨st (regs [(Reg.AVL_DIE_STATUS, 52, 1)]), 52, by decide +kernel⟩,
   ⟨st { ready with mem := { secRegion := [(52, 1022)] } }, 52, by decide +kernel⟩,
   ⟨st { ready with mem := { secRegion := [(52, 1023)] } }, 52, by decide +kernel⟩,
   ⟨st (regs [(Reg.MEM_SEC_SPARES_LEFT, 52, 2)] { ready with mem := { secRegion := [(52, 1022)] } }), 52, by decide +kernel⟩,
   ⟨st (regs [(Reg.MEM_SEC_SPARES_LEFT, 52, 1)] { ready with mem := { secRegion := [(52, 1022)] } }), 52, by decide +kernel⟩⟩

/-- The hypotheses of SupplyEvents, part 1, are met. -/
theorem witness_SupplyEvents_1 :
    (∃ v : Nat, 440 ≤ v) ∧
    (∃ (s : State) (b : Bool) (v : Nat), v < 440 ∧ (s.setFeed b v false).dark = true) ∧
    (∃ (s : State) (b : Bool) (v : Nat), v < 440 ∧ (s.setFeed b v false).dark = false ∧ (s.setFeed b v false).feedGood (!b) = true ∧ (s.setFeed b v false).onB ≠ b) ∧
    (∃ (s : State) (b : Bool) (v : Nat), v < 440 ∧ (s.setFeed b v false).dark = false ∧ (s.setFeed b v false).feedGood (!b) = true ∧ (s.setFeed b v false).onB = b ∧ (s.setFeed b v false).sled.stage < 2) ∧
    (∃ (s : State) (b : Bool) (v : Nat), v < 440 ∧ (s.setFeed b v false).dark = false ∧ (s.setFeed b v false).feedGood (!b) = true ∧ (s.setFeed b v false).onB = b ∧ 2 ≤ (s.setFeed b v false).sled.stage) ∧
    (∃ (s : State) (b : Bool) (v : Nat), v < 440 ∧ (s.setFeed b v false).dark = false ∧ (s.setFeed b v false).feedGood (!b) = false) ∧
    (∃ v : Nat, (v < 480 ∨ 1024 ≤ v)) ∧
    (∃ v : Nat, (v < 480 ∨ 1024 ≤ v)) ∧
    (∃ (s : State) (b : Bool) (v : Nat), 480 ≤ v ∧ v < 1024 ∧ ((s.setFeed b v true).sled.mated = false ∨ (s.setFeed b v true).dark = false)) ∧
    (∃ (s : State) (b : Bool) (v : Nat), 480 ≤ v ∧ v < 1024 ∧ (s.setFeed b v true).sled.mated = true ∧ (s.setFeed b v true).dark = true) ∧
    (∃ s : State, s.rdf Reg.PWR_SUP_CTL 0 0 0 = 1 ∧ s.onB = true ∧ s.feedGood false = true ∧ s.sled.stage < 2 ∧ s.dark = false) ∧
    (∃ s : State, (s.rdf Reg.PWR_SUP_CTL 0 0 0 = 0 ∨ s.onB = false ∨ s.feedGood false = false ∨ 2 ≤ s.sled.stage ∨ s.dark = true)) :=
  ⟨⟨440, by decide +kernel⟩,
   ⟨st ({ ((ready.setFeed false 480 true).setFeed true 480 true) with sled := { ((ready.setFeed false 480 true).setFeed true 480 true).sled with stage := 2 } }), false, 439, by decide +kernel⟩,
   ⟨st ({ ((ready.setFeed false 480 true).setFeed true 480 true) with sled := { ((ready.setFeed false 480 true).setFeed true 480 true).sled with up := true } }), true, 439, by decide +kernel⟩,
   ⟨st ({ ((ready.setFeed false 480 true).setFeed true 480 true) with sled := { ((ready.setFeed false 480 true).setFeed true 480 true).sled with up := true } }), false, 439, by decide +kernel⟩,
   ⟨st ({ ((ready.setFeed false 480 true).setFeed true 480 true) with sled := { ((ready.setFeed false 480 true).setFeed true 480 true).sled with stage := 3 } }), false, 439, by decide +kernel⟩,
   ⟨st ({ (ready.setFeed true 0 false) with sled := { (ready.setFeed true 0 false).sled with up := true } }), false, 439, by decide +kernel⟩,
   ⟨479, by decide +kernel⟩,
   ⟨1024, by decide +kernel⟩,
   ⟨st ({ ready with sled := { ready.sled with up := true } }), true, 480, by decide +kernel⟩,
   ⟨st ({ ready with sled := { ready.sled with stage := 2 } }), true, 1023, by decide +kernel⟩,
   ⟨st ({ ((((ready.setFeed false 480 true).setFeed true 480 true).setActive true).wrf Reg.PWR_SUP_CTL 0 0 0 1) with sled := { ((((ready.setFeed false 480 true).setFeed true 480 true).setActive true).wrf Reg.PWR_SUP_CTL 0 0 0 1).sled with up := true } }), by decide +kernel⟩,
   ⟨st (ready), by decide +kernel⟩⟩

/-- The hypotheses of SupplyEvents, part 2, are met. -/
theorem witness_SupplyEvents_2 :
    (∃ s : State, (s.rdf Reg.PWR_SUP_CTL 0 0 0 = 0 ∨ s.onB = false ∨ s.feedGood false = false ∨ 2 ≤ s.sled.stage ∨ s.dark = true)) ∧
    (∃ s : State, (s.rdf Reg.PWR_SUP_CTL 0 0 0 = 0 ∨ s.onB = false ∨ s.feedGood false = false ∨ 2 ≤ s.sled.stage ∨ s.dark = true)) ∧
    (∃ s : State, (s.rdf Reg.PWR_SUP_CTL 0 0 0 = 0 ∨ s.onB = false ∨ s.feedGood false = false ∨ 2 ≤ s.sled.stage ∨ s.dark = true)) ∧
    (∃ s : State, (s.rdf Reg.PWR_SUP_CTL 0 0 0 = 0 ∨ s.onB = false ∨ s.feedGood false = false ∨ 2 ≤ s.sled.stage ∨ s.dark = true)) ∧
    (∃ s : State, 2 ≤ s.sled.stage) ∧
    (∃ s : State, s.sled.stage < 2) ∧
    (∃ (s : State) (ms c : Nat), s.sled.stage < 2 ∧ c < 65536 ∧ ms < 65536 ∧ (40 ≤ ms ∨ s.rdf Reg.PWR_STATUS 0 11 11 = 1)) ∧
    (∃ (s : State) (ms c : Nat), s.sled.stage < 2 ∧ c < 65536 ∧ ms < 65536 ∧ (40 ≤ ms ∨ s.rdf Reg.PWR_STATUS 0 11 11 = 1)) ∧
    (∃ (s : State) (ms c : Nat), s.sled.stage < 2 ∧ c < 65536 ∧ ms < 65536 ∧ ms < 40 ∧ s.rdf Reg.PWR_STATUS 0 11 11 = 0) ∧
    (∃ (s : State) (p q : Nat), (s.measurePower p q).ps = 0) ∧
    (∃ (s : State) (p q : Nat), (s.measurePower p q).ps ≠ 0) :=
  ⟨⟨st ({ (((ready.setFeed false 480 true).setFeed true 480 true).wrf Reg.PWR_SUP_CTL 0 0 0 1) with sled := { (((ready.setFeed false 480 true).setFeed true 480 true).wrf Reg.PWR_SUP_CTL 0 0 0 1).sled with up := true } }), by decide +kernel⟩,
   ⟨st ({ ((ready.setActive true).wrf Reg.PWR_SUP_CTL 0 0 0 1) with sled := { ((ready.setActive true).wrf Reg.PWR_SUP_CTL 0 0 0 1).sled with up := true } }), by decide +kernel⟩,
   ⟨st ({ ((((ready.setFeed false 480 true).setFeed true 480 true).setActive true).wrf Reg.PWR_SUP_CTL 0 0 0 1) with sled := { ((((ready.setFeed false 480 true).setFeed true 480 true).setActive true).wrf Reg.PWR_SUP_CTL 0 0 0 1).sled with stage := 2 } }), by decide +kernel⟩,
   ⟨st (((((ready.setFeed false 480 true).setFeed true 480 true).setActive true).wrf Reg.PWR_SUP_CTL 0 0 0 1)), by decide +kernel⟩,
   ⟨st ({ ready with sled := { ready.sled with stage := 2 } }), by decide +kernel⟩,
   ⟨st ({ ready with sled := { ready.sled with stage := 1 } }), by decide +kernel⟩,
   ⟨st (ready), 40, 65535, by decide +kernel⟩,
   ⟨st ((ready.wrf Reg.PWR_STATUS 0 11 11 1)), 39, 65535, by decide +kernel⟩,
   ⟨st ((ready.wrf Reg.PWR_STATUS 0 11 11 0)), 39, 65535, by decide +kernel⟩,
   ⟨st ready, 5000, 1, by decide +kernel⟩,
   ⟨st (ready.wrf Reg.PWR_STATUS 0 1 0 3), 5000, 1, by decide +kernel⟩⟩

/-- The hypotheses of HintsAndFrequencies, part 1, are met. -/
theorem witness_HintsAndFrequencies_1 :
    (∃ (s : State) (c : Nat), c < 400 ∧ s.stagingDue c = none ∧ s.phaseDue c = none ∧ s.endDue c = none) ∧
    (∃ (s : State) (c : Nat), c < 400 ∧ s.stagingDue c = none ∧ s.phaseDue c = none ∧ s.endDue c = none) ∧
    (∃ (s : State) (c : Nat), c < 400 ∧ (s.stagingDue c).isSome = true) ∧
    (∃ (s : State) (c : Nat), c < 400 ∧ (s.phaseDue c).isSome = true) ∧
    (∃ (s : State) (c : Nat), c < 400 ∧ (s.endDue c).isSome = true) ∧
    (∃ (s : State) (c : Nat), c < 400 ∧ s.endDue c = none) ∧
    (∃ (s : State) (c : Nat), c < 400 ∧ s.rdf Reg.PWR_CORE_FREQ c 10 0 < s.rdf Reg.PWR_CORE_FREQ c 21 11) ∧
    (∃ (s : State) (c : Nat), c < 400 ∧ s.rdf Reg.PWR_CORE_FREQ c 21 11 ≤ s.rdf Reg.PWR_CORE_FREQ c 10 0) ∧
    (∃ c : Nat, c < 400) ∧
    (∃ (s : State) (c temp : Nat), c < 400 ∧ ((s.coreTemp c temp).junction c temp < (s.coreTemp c temp).rdf Reg.PWR_THERM_CTL 0 7 0 ∨ (s.coreTemp c temp).rotating c = true ∨ (s.coreTemp c temp).fenced (coreDie c) = true ∨ (s.coreTemp c temp).stepDue c 100000 = false)) ∧
    (∃ (s : State) (c temp : Nat), c < 400 ∧ ((s.coreTemp c temp).junction c temp < (s.coreTemp c temp).rdf Reg.PWR_THERM_CTL 0 7 0 ∨ (s.coreTemp c temp).rotating c = true ∨ (s.coreTemp c temp).fenced (coreDie c) = true ∨ (s.coreTemp c temp).stepDue c 100000 = false)) ∧
    (∃ (s : State) (c temp : Nat), c < 400 ∧ ((s.coreTemp c temp).junction c temp < (s.coreTemp c temp).rdf Reg.PWR_THERM_CTL 0 7 0 ∨ (s.coreTemp c temp).rotating c = true ∨ (s.coreTemp c temp).fenced (coreDie c) = true ∨ (s.coreTemp c temp).stepDue c 100000 = false)) :=
  ⟨⟨st ready, 399, by decide +kernel⟩,
   ⟨st { ready with clocks := [(0, { counter := 0 })], pwr := { ready.pwr with hints := [{ n := 0, core := 399, hoist := true, cls := 3, start := 20001, dur := 1, stop := none, sync := false, staged := false, started := false }] } }, 399, by decide +kernel⟩,
   ⟨st { ready with clocks := [(0, { counter := 0 })], pwr := { ready.pwr with hints := [{ n := 0, core := 399, hoist := true, cls := 3, start := 20000, dur := 1, stop := none, sync := false, staged := false, started := false }] } }, 399, by decide +kernel⟩,
   ⟨st { ready with clocks := [(0, { counter := 5 })], pwr := { ready.pwr with hints := [{ n := 0, core := 399, hoist := true, cls := 3, start := 5, dur := 1, stop := none, sync := false, staged := false, started := false }] } }, 399, by decide +kernel⟩,
   ⟨st { ready with clocks := [(0, { counter := 9 })], pwr := { ready.pwr with hints := [{ n := 0, core := 399, hoist := true, cls := 3, start := 5, dur := 1, stop := some 9, sync := false, staged := false, started := true }] } }, 399, by decide +kernel⟩,
   ⟨st { ready with clocks := [(0, { counter := 8 })], pwr := { ready.pwr with hints := [{ n := 0, core := 399, hoist := true, cls := 3, start := 5, dur := 1, stop := some 9, sync := false, staged := false, started := true }] } }, 399, by decide +kernel⟩,
   ⟨st (regs [(Reg.PWR_CORE_FREQ, 399, 399 + 400 * 2 ^ 11)] ready), 399, by decide +kernel⟩,
   ⟨st (regs [(Reg.PWR_CORE_FREQ, 399, 400 + 400 * 2 ^ 11)] ready), 399, by decide +kernel⟩,
   ⟨399, by decide +kernel⟩,
   ⟨st (regs [(Reg.PWR_THERM_CTL, 0, 105 + 110 * 2 ^ 8)] ready), 399, 104, by decide +kernel⟩,
   ⟨st (regs [(Reg.PWR_THERM_CTL, 0, 105), (Reg.AVL_DIE_STATUS, coreDie 399, 1)] ready), 399, 105, by decide +kernel⟩,
   ⟨st { (regs [(Reg.PWR_THERM_CTL, 0, 105 + 110 * 2 ^ 8), (Reg.PWR_CORE_FMAX_FACTORY, 399, 1450 + 1450 * 2 ^ 16)] ready) with clocks := [(0, { counter := 99999 })], pwr := { stepAt := [(399, some 0)] } }, 399, 105, by decide +kernel⟩⟩

/-- The hypotheses of HintsAndFrequencies, part 2, are met. -/
theorem witness_HintsAndFrequencies_2 :
    (∃ (s : State) (c temp : Nat), c < 400 ∧ (s.coreTemp c temp).rdf Reg.PWR_THERM_CTL 0 7 0 ≤ (s.coreTemp c temp).junction c temp ∧ (s.coreTemp c temp).rotating c = false ∧ (s.coreTemp c temp).fenced (coreDie c) = false ∧ (s.coreTemp c temp).stepDue c 100000 = true ∧
      (s.coreTemp c temp).thermalLimit c < (s.coreTemp c temp).fmaxAged c) ∧
    (∃ (s : State) (c temp : Nat), c < 400 ∧ (s.coreTemp c temp).rdf Reg.PWR_THERM_CTL 0 7 0 ≤ (s.coreTemp c temp).junction c temp ∧ (s.coreTemp c temp).rotating c = false ∧ (s.coreTemp c temp).fenced (coreDie c) = false ∧ (s.coreTemp c temp).stepDue c 100000 = true ∧
      (s.coreTemp c temp).fmaxAged c ≤ (s.coreTemp c temp).thermalLimit c) ∧
    (∃ (s : State) (c temp : Nat), c < 400 ∧ (s.coreTemp c temp).rdf Reg.PWR_THERM_CTL 0 7 0 ≤ (s.coreTemp c temp).junction c temp ∧ (s.coreTemp c temp).rotating c = false ∧ (s.coreTemp c temp).fenced (coreDie c) = false ∧ (s.coreTemp c temp).stepDue c 100000 = true ∧
      (s.coreTemp c temp).fmaxAged c ≤ (s.coreTemp c temp).thermalLimit c) ∧
    (∃ (s : State) (c temp : Nat), c < 400 ∧ ((s.coreTemp c temp).rdf Reg.PWR_THERM_CTL 0 7 0 ≤ (s.coreTemp c temp).junction c temp + 2 ∨ (s.coreTemp c temp).fenced (coreDie c) = true ∨ (s.coreTemp c temp).stepDue c 1000000 = false)) ∧
    (∃ (s : State) (c temp : Nat), c < 400 ∧ ((s.coreTemp c temp).rdf Reg.PWR_THERM_CTL 0 7 0 ≤ (s.coreTemp c temp).junction c temp + 2 ∨ (s.coreTemp c temp).fenced (coreDie c) = true ∨ (s.coreTemp c temp).stepDue c 1000000 = false)) ∧
    (∃ (s : State) (c temp : Nat), c < 400 ∧ ((s.coreTemp c temp).rdf Reg.PWR_THERM_CTL 0 7 0 ≤ (s.coreTemp c temp).junction c temp + 2 ∨ (s.coreTemp c temp).fenced (coreDie c) = true ∨ (s.coreTemp c temp).stepDue c 1000000 = false)) ∧
    (∃ (s : State) (c temp : Nat), c < 400 ∧ (s.coreTemp c temp).junction c temp + 2 < (s.coreTemp c temp).rdf Reg.PWR_THERM_CTL 0 7 0 ∧ (s.coreTemp c temp).fenced (coreDie c) = false ∧ (s.coreTemp c temp).stepDue c 1000000 = true) ∧
    (∃ (s : State) (c temp : Nat), c < 400 ∧ (s.coreTemp c temp).junction c temp + 2 < (s.coreTemp c temp).rdf Reg.PWR_THERM_CTL 0 7 0 ∧ (s.coreTemp c temp).fenced (coreDie c) = false ∧ (s.coreTemp c temp).stepDue c 1000000 = true) ∧
    (∃ (s : State) (ps : Nat), 1 ≤ ps ∧ ps ≤ 3 ∧ s.inTransition = false ∧ s.ps < ps ∧ s.rd (Reg.PWR_PS_IDLE_MS + 4 * (ps - 1)) 0 ≠ 0 ∧ bit (s.rdf Reg.PWR_PS_CTL 0 3 1) (ps - 1) = true ∧
      s.psHolds ps none = true ∧ s.tripped = false ∧ s.sled.stage = 0 ∧ s.lifecycle ≠ 4) ∧
    (∃ (s : State) (ps : Nat), 1 ≤ ps ∧ ps ≤ 3 ∧ s.inTransition = false ∧ s.ps < ps ∧ s.rd (Reg.PWR_PS_IDLE_MS + 4 * (ps - 1)) 0 ≠ 0 ∧ bit (s.rdf Reg.PWR_PS_CTL 0 3 1) (ps - 1) = true ∧
      s.psHolds ps none = true ∧ s.tripped = false ∧ s.sled.stage = 0 ∧ s.lifecycle ≠ 4) ∧
    (∃ (s : State) (ps : Nat), 1 ≤ ps ∧ ps ≤ 3 ∧ (s.inTransition = true ∨ ps ≤ s.ps ∨ s.rd (Reg.PWR_PS_IDLE_MS + 4 * (ps - 1)) 0 = 0 ∨ bit (s.rdf Reg.PWR_PS_CTL 0 3 1) (ps - 1) = false ∨
      s.psHolds ps none = false ∨ s.lifecycle = 4)) ∧
    (∃ (s : State) (ps : Nat), 1 ≤ ps ∧ ps ≤ 3 ∧ (s.inTransition = true ∨ ps ≤ s.ps ∨ s.rd (Reg.PWR_PS_IDLE_MS + 4 * (ps - 1)) 0 = 0 ∨ bit (s.rdf Reg.PWR_PS_CTL 0 3 1) (ps - 1) = false ∨
      s.psHolds ps none = false ∨ s.lifecycle = 4)) :=
  ⟨⟨st { (regs [(Reg.PWR_THERM_CTL, 0, 105 + 110 * 2 ^ 8), (Reg.PWR_CORE_FMAX_FACTORY, 399, 1450 + 1450 * 2 ^ 16)] ready) with pwr := { thermal := [(399, 425)] } }, 399, 105, by decide +kernel⟩,
   ⟨st (regs [(Reg.PWR_THERM_CTL, 0, 105 + 110 * 2 ^ 8), (Reg.PWR_CORE_FMAX_FACTORY, 399, 1450 + 1450 * 2 ^ 16)] ready), 399, 105, by decide +kernel⟩,
   ⟨st { (regs [(Reg.PWR_THERM_CTL, 0, 105 + 110 * 2 ^ 8), (Reg.PWR_CORE_FMAX_FACTORY, 399, 1450 + 1450 * 2 ^ 16)] ready) with clocks := [(0, { counter := 100000 })], pwr := { stepAt := [(399, some 0)] } }, 399, 105, by decide +kernel⟩,
   ⟨st (regs [(Reg.PWR_THERM_CTL, 0, 105 + 110 * 2 ^ 8)] ready), 399, 103, by decide +kernel⟩,
   ⟨st (regs [(Reg.PWR_THERM_CTL, 0, 105), (Reg.AVL_DIE_STATUS, coreDie 399, 1)] ready), 399, 0, by decide +kernel⟩,
   ⟨st { (regs [(Reg.PWR_THERM_CTL, 0, 105 + 110 * 2 ^ 8), (Reg.PWR_CORE_FMAX_FACTORY, 399, 1450 + 1450 * 2 ^ 16)] ready) with clocks := [(0, { counter := 999999 })], pwr := { stepAt := [(399, some 0)] } }, 399, 102, by decide +kernel⟩,
   ⟨st (regs [(Reg.PWR_THERM_CTL, 0, 105 + 110 * 2 ^ 8)] ready), 399, 102, by decide +kernel⟩,
   ⟨st { (regs [(Reg.PWR_THERM_CTL, 0, 105 + 110 * 2 ^ 8), (Reg.PWR_CORE_FMAX_FACTORY, 399, 1450 + 1450 * 2 ^ 16)] ready) with clocks := [(0, { counter := 1000000 })], pwr := { stepAt := [(399, some 0)] } }, 399, 102, by decide +kernel⟩,
   ⟨st (regs [(Reg.PWR_PS_CTL, 0, 0xE), (Reg.PWR_PS_IDLE_MS, 0, 1), (Reg.PWR_PS_IDLE_MS + 4, 0, 1), (Reg.PWR_PS_IDLE_MS + 8, 0, 1)] ready), 1, by decide +kernel⟩,
   ⟨st (regs [(Reg.PWR_PS_CTL, 0, 0xE), (Reg.PWR_PS_IDLE_MS, 0, 1), (Reg.PWR_PS_IDLE_MS + 4, 0, 1), (Reg.PWR_PS_IDLE_MS + 8, 0, 1)] ready), 3, by decide +kernel⟩,
   ⟨st (regs [(Reg.PWR_PS_CTL, 0, 0xE), (Reg.PWR_PS_IDLE_MS, 0, 1), (Reg.PWR_PS_IDLE_MS + 4, 0, 1), (Reg.PWR_PS_IDLE_MS + 8, 0, 1), (Reg.PWR_STATUS, 0, 3)] ready), 3, by decide +kernel⟩,
   ⟨st (regs [(Reg.PWR_PS_CTL, 0, 0), (Reg.PWR_PS_IDLE_MS, 0, 1), (Reg.PWR_PS_IDLE_MS + 4, 0, 1), (Reg.PWR_PS_IDLE_MS + 8, 0, 1)] ready), 3, by decide +kernel⟩⟩

/-- The hypotheses of HintsAndFrequencies, part 3, are met. -/
theorem witness_HintsAndFrequencies_3 :
    (∃ ord : Nat, ord < 40) ∧
    (∃ s : State, s.ps = 3 ∧ s.lifecycle ≠ 4) ∧
    (∃ s : State, (s.ps ≠ 3 ∨ s.lifecycle = 4)) ∧
    (∃ s : State, s.inTransition = false) ∧
    (∃ (s : State) (z : Option Nat), s.inTransition = true ∧ (let u : Device := (s.inc (Reg.PWR_PS_RESIDENCY + 8 * s.ps) 0 (s.now - s.pwr.since)).entryTests s.ps s.pwr.target;
      let v : Device := (({ u with avl := { u.avl with testing := [] } } : Device).wrf Reg.PWR_STATUS 0 1 0 s.pwr.target).wrf Reg.PWR_STATUS 0 2 2 0;
      let w : Device := if s.ps < 2 ∧ 2 ≤ s.pwr.target then v.coresOff else if 2 ≤ s.ps ∧ s.pwr.target < 2 then v.coresOn else v;
      let x : Device := if s.ps = 3 then w.channelsOn else w; x.pwr.waiting) = z) ∧
    (∃ (s : State) (z : Option Nat), s.inTransition = true ∧ (let u : Device := (s.inc (Reg.PWR_PS_RESIDENCY + 8 * s.ps) 0 (s.now - s.pwr.since)).entryTests s.ps s.pwr.target;
      let v : Device := (({ u with avl := { u.avl with testing := [] } } : Device).wrf Reg.PWR_STATUS 0 1 0 s.pwr.target).wrf Reg.PWR_STATUS 0 2 2 0;
      let w : Device := if s.ps < 2 ∧ 2 ≤ s.pwr.target then v.coresOff else if 2 ≤ s.ps ∧ s.pwr.target < 2 then v.coresOn else v;
      let x : Device := if s.ps = 3 then w.channelsOn else w; x.pwr.waiting) = z) :=
  ⟨⟨39, by decide +kernel⟩,
   ⟨st (regs [(Reg.PWR_STATUS, 0, 3)] ready), by decide +kernel⟩,
   ⟨st ready, by decide +kernel⟩,
   ⟨st ready, by decide +kernel⟩,
   ⟨st { (regs [(Reg.PWR_STATUS, 0, 4)] ready) with pwr := { target := 1, waiting := none } }, none, by decide +kernel⟩,
   ⟨st { (regs [(Reg.PWR_STATUS, 0, 4)] ready) with pwr := { target := 1, waiting := (some 7) } }, (some 7), by decide +kernel⟩⟩

/-- The hypotheses of ThermalResponses, part 1, are met. -/
theorem witness_ThermalResponses_1 :
    (∃ (s : State) (die temp : Nat), die < 100 ∧ (dieKind die = 1 ∨ die = 47 ∨ die = 57) ∧ ((s.dieTemp die temp false).fenced die = true ∨ temp < 115 ∨ (s.dieTemp die temp false).sled.stage ≠ 0)) ∧
    (∃ (s : State) (die temp : Nat), die < 100 ∧ (dieKind die = 1 ∨ die = 47 ∨ die = 57) ∧ (s.dieTemp die temp false).fenced die = false ∧ 115 ≤ temp ∧ (s.dieTemp die temp false).sled.stage = 0) ∧
    (∃ (s : State) (die temp : Nat), die < 100 ∧ dieKind die = 0 ∧ (temp < (s.dieTemp die temp false).rdf Reg.PWR_THERM_CTL 0 15 8 ∨ (s.dieTemp die temp false).fenced die = true ∨ (s.dieTemp die temp false).media.warm.contains (sheaveOrd die) = true)) ∧
    (∃ (s : State) (die temp : Nat), die < 100 ∧ dieKind die = 0 ∧ (temp < (s.dieTemp die temp false).rdf Reg.PWR_THERM_CTL 0 15 8 ∨ (s.dieTemp die temp false).fenced die = true ∨ (s.dieTemp die temp false).media.warm.contains (sheaveOrd die) = true)) ∧
    (∃ (s : State) (die temp : Nat), die < 100 ∧ dieKind die = 0 ∧ (s.dieTemp die temp false).rdf Reg.PWR_THERM_CTL 0 15 8 ≤ temp ∧ (s.dieTemp die temp false).fenced die = false ∧ (s.dieTemp die temp false).media.warm.contains (sheaveOrd die) = false) ∧
    (∃ (s : State) (die temp : Nat), die < 100 ∧ (dieKind die = 0 ∨ dieKind die = 1) ∧ ((s.dieTemp die temp (dieKind die == 1 || decide (temp < 105))).fenced die = true ∨ temp < (if dieKind die = 0 then 85 else 95) ∨ (s.dieTemp die temp (dieKind die == 1 || decide (temp < 105))).sled.stage ≠ 0)) ∧
    (∃ (s : State) (die temp : Nat), die < 100 ∧ dieKind die = 1 ∧ (s.dieTemp die temp (dieKind die == 1 || decide (temp < 105))).fenced die = false ∧ 95 ≤ temp ∧ (s.dieTemp die temp (dieKind die == 1 || decide (temp < 105))).sled.stage = 0 ∧ (s.dieTemp die temp (dieKind die == 1 || decide (temp < 105))).rdf Reg.PWR_STATUS 0 7 7 = 0) ∧
    (∃ (s : State) (die temp : Nat), die < 100 ∧ dieKind die = 0 ∧ (s.dieTemp die temp (dieKind die == 1 || decide (temp < 105))).fenced die = false ∧ 85 ≤ temp ∧ (s.dieTemp die temp (dieKind die == 1 || decide (temp < 105))).sled.stage = 0 ∧ (s.dieTemp die temp (dieKind die == 1 || decide (temp < 105))).rdf Reg.PWR_STATUS 0 7 7 = 0) ∧
    (∃ (s : State) (die temp : Nat), die < 100 ∧ dieKind die = 1 ∧ (s.dieTemp die temp (dieKind die == 1 || decide (temp < 105))).fenced die = false ∧ 95 ≤ temp ∧ (s.dieTemp die temp (dieKind die == 1 || decide (temp < 105))).sled.stage = 0 ∧ (s.dieTemp die temp (dieKind die == 1 || decide (temp < 105))).rdf Reg.PWR_STATUS 0 7 7 = 1) ∧
    (∃ (s : State) (die temp : Nat), die < 100 ∧ (2 ≤ s.sled.stage ∨ (temp < 125 ∧ (dieKind die ≠ 0 ∨ temp < 95)))) ∧
    (∃ (s : State) (die temp : Nat), die < 100 ∧ (2 ≤ s.sled.stage ∨ (temp < 125 ∧ (dieKind die ≠ 0 ∨ temp < 95)))) ∧
    (∃ (s : State) (die temp : Nat), die < 100 ∧ s.sled.stage < 2 ∧ (125 ≤ temp ∨ (dieKind die = 0 ∧ 95 ≤ temp))) :=
  ⟨⟨st ready, 57, 114, by decide +kernel⟩,
   ⟨st ready, 57, 115, by decide +kernel⟩,
   ⟨st (regs [(Reg.PWR_THERM_CTL, 0, 75 * 2 ^ 8)] ready), 99, 74, by decide +kernel⟩,
   ⟨st { (regs [(Reg.PWR_THERM_CTL, 0, 75 * 2 ^ 8)] ready) with media := { warm := [55] } }, 99, 75, by decide +kernel⟩,
   ⟨st (regs [(Reg.PWR_THERM_CTL, 0, 75 * 2 ^ 8)] ready), 99, 75, by decide +kernel⟩,
   ⟨st ready, 99, 84, by decide +kernel⟩,
   ⟨st ready, 3, 95, by decide +kernel⟩,
   ⟨st ready, 99, 85, by decide +kernel⟩,
   ⟨st (ready.wrf Reg.PWR_STATUS 0 7 7 1), 3, 95, by decide +kernel⟩,
   ⟨st ready, 99, 94, by decide +kernel⟩,
   ⟨st ready, 57, 124, by decide +kernel⟩,
   ⟨st ready, 57, 125, by decide +kernel⟩⟩

/-- The hypotheses of ThermalResponses, part 2, are met. -/
theorem witness_ThermalResponses_2 :
    (∃ (s : State) (die temp : Nat), die < 100 ∧ s.sled.stage < 2 ∧ (125 ≤ temp ∨ (dieKind die = 0 ∧ 95 ≤ temp))) ∧
    (∃ s : State, (s.setPwr (fun p => { p with junction := false })).tripped = true ∧ (s.setPwr (fun p => { p with junction := false })).rdf Reg.PWR_STATUS 0 7 7 = 0) ∧
    (∃ s : State, ((s.setPwr (fun p => { p with junction := false })).tripped = false ∨ (s.setPwr (fun p => { p with junction := false })).rdf Reg.PWR_STATUS 0 7 7 = 1)) ∧
    (∃ s : State, s.rdf Reg.PWR_STATUS 0 7 7 = 0) ∧
    (∃ s : State, s.rdf Reg.PWR_STATUS 0 7 7 ≠ 0 ∧ (let u : Device := ({ s.toDevice with media := { s.media with hot := [] } } : Device).wrf Reg.PWR_STATUS 0 7 7 0;
      let v : Device := u.cmds.foldl (fun (a : Device) (p : Pending) => if fld p.slot 0 1 = 0x02 ∧ p.phase = .started ∧ p.held.any (fun h => h.1 == 3) then a.unhold p.n else a) u
      (v.tripped && !v.pwr.junction)) = true) ∧
    (∃ s : State, s.rdf Reg.PWR_STATUS 0 7 7 ≠ 0 ∧ (let u : Device := ({ s.toDevice with media := { s.media with hot := [] } } : Device).wrf Reg.PWR_STATUS 0 7 7 0;
      let v : Device := u.cmds.foldl (fun (a : Device) (p : Pending) => if fld p.slot 0 1 = 0x02 ∧ p.phase = .started ∧ p.held.any (fun h => h.1 == 3) then a.unhold p.n else a) u
      (!v.tripped || v.pwr.junction)) = true) ∧
    (∃ s : State, s.rdf Reg.PWR_STATUS 0 7 7 ≠ 0 ∧ (let u : Device := ({ s.toDevice with media := { s.media with hot := [] } } : Device).wrf Reg.PWR_STATUS 0 7 7 0;
      let v : Device := u.cmds.foldl (fun (a : Device) (p : Pending) => if fld p.slot 0 1 = 0x02 ∧ p.phase = .started ∧ p.held.any (fun h => h.1 == 3) then a.unhold p.n else a) u
      (!v.tripped || v.pwr.junction)) = true) :=
  ⟨⟨st ready, 99, 95, by decide +kernel⟩,
   ⟨st (regs [(Reg.PWR_STATUS, 0, 0x40)] ready), by decide +kernel⟩,
   ⟨st (regs [(Reg.PWR_STATUS, 0, 0xC0)] ready), by decide +kernel⟩,
   ⟨st ready, by decide +kernel⟩,
   ⟨st (regs [(Reg.PWR_STATUS, 0, 0xC0)] ready), by decide +kernel⟩,
   ⟨st (regs [(Reg.PWR_STATUS, 0, 0x80)] ready), by decide +kernel⟩,
   ⟨st (regs [(Reg.PWR_STATUS, 0, 0xC0)] { ready with pwr := { junction := true } }), by decide +kernel⟩⟩

/-- The hypotheses of CoolantAlarm are met. -/
theorem witness_CoolantAlarm :
    (∃ (s : State) (inlet flow ld : Nat), (40 < inlet ∨ flow < 250) ∧ ld < 16 ∧ s.rdf Reg.HIF_LD_STATUS ld 0 0 = 1) ∧
    (∃ (s : State) (inlet flow ld : Nat), (40 < inlet ∨ flow < 250) ∧ ld < 16 ∧ s.rdf Reg.HIF_LD_STATUS ld 0 0 = 1) ∧
    (∃ q j : Nat, regAddr q j ≠ regAddr Reg.PWR_COOLANT 0 ∧ regAddr q j ≠ regAddr Reg.SB_ALERT 0) ∧
    (∃ inlet flow : Nat, inlet ≤ 40 ∧ 250 ≤ flow) :=
  ⟨⟨st (regs [(Reg.HIF_LD_STATUS, 15, 1)] ready), 41, 250, 15, by decide +kernel⟩,
   ⟨st (regs [(Reg.HIF_LD_STATUS, 15, 1)] ready), 40, 249, 15, by decide +kernel⟩,
   ⟨Reg.PWR_STATUS, 0, by decide +kernel⟩,
   ⟨40, 250, by decide +kernel⟩⟩

/-- The hypotheses of LinkAndPins, part 1, are met. -/
theorem witness_LinkAndPins_1 :
    (∃ (s : State) (rate lanes : Nat), 1 ≤ rate ∧ rate ≤ 3 ∧ (lanes = 4 ∨ lanes = 8) ∧ s.sled.stage = 0 ∧ s.rdf Reg.SB_STATUS 0 0 0 = 0 ∧ s.fenced s.hubDie = false) ∧
    (∃ (s : State) (rate lanes : Nat), 1 ≤ rate ∧ rate ≤ 3 ∧ (lanes = 4 ∨ lanes = 8) ∧ (s.sled.stage ≠ 0 ∨ s.rdf Reg.SB_STATUS 0 0 0 = 1 ∨ s.fenced s.hubDie = true)) ∧
    (∃ q j : Nat, regAddr q j ≠ regAddr Reg.HIF_PORT_STATUS 0) ∧
    (∃ (s : State) (us : Nat), (us < 100 ∨ 2 ≤ s.sled.stage)) ∧
    (∃ (s : State) (us : Nat), 100 ≤ us ∧ s.sled.stage = 0) ∧
    (∃ (s : State) (us : Nat), 100 ≤ us ∧ s.sled.stage = 1) ∧
    (∃ s : State, (s.rdf Reg.SB_STATUS 0 0 0 = 0 ∨ 2 ≤ s.sled.stage)) ∧
    (∃ s : State, s.rdf Reg.SB_STATUS 0 0 0 = 1 ∧ s.sled.stage = 0) ∧
    (∃ s : State, s.rdf Reg.SB_STATUS 0 0 0 = 1 ∧ s.sled.stage = 1) ∧
    (∃ s : State, ({ s.toDevice with sled := { s.sled with mated := true } } : Device).dark = false) ∧
    (∃ s : State, ({ s.toDevice with sled := { s.sled with mated := true } } : Device).dark = true ∧ ({ s.toDevice with sled := { s.sled with mated := true } } : Device).feedGood false = true) ∧
    (∃ s : State, ({ s.toDevice with sled := { s.sled with mated := true } } : Device).dark = true ∧ ({ s.toDevice with sled := { s.sled with mated := true } } : Device).feedGood false = false ∧ ({ s.toDevice with sled := { s.sled with mated := true } } : Device).feedGood true = true) :=
  ⟨⟨st ready, 3, 8, by decide +kernel⟩,
   ⟨st (regs [(Reg.SB_STATUS, 0, 1)] ready), 1, 4, by decide +kernel⟩,
   ⟨Reg.PWR_STATUS, 0, by decide +kernel⟩,
   ⟨st ready, 99, by decide +kernel⟩,
   ⟨st ({ ready with sled := { ready.sled with stage := 0 } }), 100, by decide +kernel⟩,
   ⟨st ({ ready with sled := { ready.sled with stage := 1 } }), 100, by decide +kernel⟩,
   ⟨st ready, by decide +kernel⟩,
   ⟨st ({ (regs [(Reg.SB_STATUS, 0, 1)] ready) with sled := { (regs [(Reg.SB_STATUS, 0, 1)] ready).sled with stage := 0 } }), by decide +kernel⟩,
   ⟨st ({ (regs [(Reg.SB_STATUS, 0, 1)] ready) with sled := { (regs [(Reg.SB_STATUS, 0, 1)] ready).sled with stage := 1 } }), by decide +kernel⟩,
   ⟨st ({ ready with sled := { ready.sled with up := true } }), by decide +kernel⟩,
   ⟨st ({ ((ready.setFeed false 480 true).setFeed true 480 true) with sled := { ((ready.setFeed false 480 true).setFeed true 480 true).sled with stage := 2 } }), by decide +kernel⟩,
   ⟨st ({ ((ready.setFeed false 0 false).setFeed true 480 true) with sled := { ((ready.setFeed false 0 false).setFeed true 480 true).sled with stage := 2 } }), by decide +kernel⟩⟩

/-- The hypotheses of LinkAndPins, part 2, are met. -/
theorem witness_LinkAndPins_2 :
    (∃ s : State, ({ s.toDevice with sled := { s.sled with mated := true } } : Device).dark = true ∧ ({ s.toDevice with sled := { s.sled with mated := true } } : Device).feedGood false = false ∧ ({ s.toDevice with sled := { s.sled with mated := true } } : Device).feedGood true = false) :=
  ⟨st ({ ((ready.setFeed false 0 false).setFeed true 0 false) with sled := { ((ready.setFeed false 0 false).setFeed true 0 false).sled with stage := 2 } }), by decide +kernel⟩

/-- The hypotheses of AvailabilityEvents, part 1, are met. -/
theorem witness_AvailabilityEvents_1 :
    (∃ s : State, s.hubRuns = true) ∧
    (∃ s : State, s.hubRuns = false) ∧
    (∃ s : State, (s.fenced (otherHub s.hubDie) = true ∨ s.sled.stage ≠ 0 ∨ (s.avl.beat ≠ 0 ∧ s.now < s.avl.beat + 1000000))) ∧
    (∃ s : State, (s.fenced (otherHub s.hubDie) = true ∨ s.sled.stage ≠ 0 ∨ (s.avl.beat ≠ 0 ∧ s.now < s.avl.beat + 1000000))) ∧
    (∃ s : State, s.fenced (otherHub s.hubDie) = false ∧ s.sled.stage = 0 ∧ (s.avl.beat = 0 ∨ s.avl.beat + 1000000 ≤ s.now)) ∧
    (∃ s : State, s.fenced (otherHub s.hubDie) = false ∧ s.sled.stage = 0 ∧ (s.avl.beat = 0 ∨ s.avl.beat + 1000000 ≤ s.now) ∧ s.rdf Reg.AVL_STATUS 0 1 1 = 1) ∧
    (∃ s : State, s.fenced (otherHub s.hubDie) = false ∧ s.sled.stage = 0 ∧ (s.avl.beat = 0 ∨ s.avl.beat + 1000000 ≤ s.now) ∧ s.rdf Reg.AVL_STATUS 0 1 1 = 0) ∧
    (∃ s : State, s.sled.stage ≠ 0) ∧
    (∃ s : State, s.sled.stage = 0 ∧ s.rdf Reg.AVL_STATUS 0 1 1 = 1) ∧
    (∃ s : State, s.sled.stage = 0 ∧ s.rdf Reg.AVL_STATUS 0 1 1 = 0) ∧
    (∃ (s : State) (d : Nat), (d = 42 ∨ d = 52) ∧ s.fenced d = true) ∧
    (∃ (s : State) (d : Nat), (d = 42 ∨ d = 52) ∧ s.fenced d = false ∧ d ≠ s.hubDie ∧ s.avl.update = 0 ∧
      ({ s.toDevice with avl := { s.avl with restarting := s.avl.restarting.filter (· ≠ d) } } : Device).fenced
        ({ s.toDevice with avl := { s.avl with restarting := s.avl.restarting.filter (· ≠ d) } } : Device).hubDie = false) :=
  ⟨⟨st ready, by decide +kernel⟩,
   ⟨st { ready with sled := { stage := 1 } }, by decide +kernel⟩,
   ⟨st (regs [(Reg.AVL_DIE_STATUS, 52, 1)] ready), by decide +kernel⟩,
   ⟨st ({ ready with clocks := [(0, { counter := 1000000 })], avl := { beat := 1 } }), by decide +kernel⟩,
   ⟨st ({ ready with clocks := [(0, { counter := 1000001 })], avl := { beat := 1 } }), by decide +kernel⟩,
   ⟨st (regs [(Reg.AVL_STATUS, 0, 2)] ready), by decide +kernel⟩,
   ⟨st (regs [(Reg.AVL_STATUS, 0, 0)] ready), by decide +kernel⟩,
   ⟨st { ready with sled := { stage := 1 } }, by decide +kernel⟩,
   ⟨st (regs [(Reg.AVL_STATUS, 0, 2)] ready), by decide +kernel⟩,
   ⟨st (regs [(Reg.AVL_STATUS, 0, 0)] ready), by decide +kernel⟩,
   ⟨st (regs [(Reg.AVL_DIE_STATUS, 52, 1)] ready), 52, by decide +kernel⟩,
   ⟨st { ready with avl := { restarting := [52] } }, 52, by decide +kernel⟩⟩

/-- The hypotheses of AvailabilityEvents, part 2, are met. -/
theorem witness_AvailabilityEvents_2 :
    (∃ d cause : Nat, d < 100 ∧ 1 ≤ cause ∧ cause ≤ 7) ∧
    (∃ (s : State) (d : Nat), d < 100 ∧ d ≠ 42 ∧ d ≠ 52 ∧ s.fenced d = true) ∧
    (∃ (s : State) (d : Nat), d < 100 ∧ d ≠ 42 ∧ d ≠ 52 ∧ s.fenced d = false) ∧
    (∃ (s : State) (d b : Nat), d < 100 ∧ b < 38 ∧ (nget 0 s.avl.tests (d * 64 + b) = 0 ∨ s.poweredHours ≤ nget 0 s.avl.tests (d * 64 + b) / 2 ^ 36 + s.rdf Reg.AVL_ST_CTL 0 15 0)) ∧
    (∃ (s : State) (d b : Nat), d < 100 ∧ b < 38 ∧ nget 0 s.avl.tests (d * 64 + b) ≠ 0 ∧ nget 0 s.avl.tests (d * 64 + b) / 2 ^ 36 + s.rdf Reg.AVL_ST_CTL 0 15 0 < s.poweredHours) ∧
    (∃ (s : State) (results : List (Nat × Nat)), ((((List.range 400).filter s.rotating).foldl (fun a c =>
        a.rotationResult c ((((results : List (Nat × Nat)).find? (fun (r : Nat × Nat) => r.1 = c)).map (·.2)).getD 1)) s.toDevice).endGroup).rdf Reg.AVL_ROT_CTL 0 0 0 = 0) ∧
    (∃ (s : State) (results : List (Nat × Nat)), ((((List.range 400).filter s.rotating).foldl (fun a c =>
        a.rotationResult c ((((results : List (Nat × Nat)).find? (fun (r : Nat × Nat) => r.1 = c)).map (·.2)).getD 1)) s.toDevice).endGroup).rdf Reg.AVL_ROT_CTL 0 0 0 = 1 ∧ s.rotGroup ≠ 24) ∧
    (∃ (s : State) (results : List (Nat × Nat)), ((((List.range 400).filter s.rotating).foldl (fun a c =>
        a.rotationResult c ((((results : List (Nat × Nat)).find? (fun (r : Nat × Nat) => r.1 = c)).map (·.2)).getD 1)) s.toDevice).endGroup).rdf Reg.AVL_ROT_CTL 0 0 0 = 1 ∧ s.rotGroup = 24) :=
  ⟨⟨99, 7, by decide +kernel⟩,
   ⟨st (regs [(Reg.AVL_DIE_STATUS, 99, 1)] ready), 99, by decide +kernel⟩,
   ⟨st ready, 99, by decide +kernel⟩,
   ⟨st ({ (regs [(Reg.AVL_ST_CTL, 0, 10)] { ready with avl := { tests := [(99 * 64 + 37, 2 ^ 36)] } }) with sled := { (regs [(Reg.AVL_ST_CTL, 0, 10)] { ready with avl := { tests := [(99 * 64 + 37, 2 ^ 36)] } }).sled with poweredNs := 11 * 3600000000000 } }), 99, 37, by decide +kernel⟩,
   ⟨st ({ (regs [(Reg.AVL_ST_CTL, 0, 10)] { ready with avl := { tests := [(99 * 64 + 37, 2 ^ 36)] } }) with sled := { (regs [(Reg.AVL_ST_CTL, 0, 10)] { ready with avl := { tests := [(99 * 64 + 37, 2 ^ 36)] } }).sled with poweredNs := 12 * 3600000000000 } }), 99, 37, by decide +kernel⟩,
   ⟨st (regs [(Reg.AVL_ROT_CTL, 0, 0), (Reg.AVL_ROT_POS, 0, 0)] ready), [], by decide +kernel⟩,
   ⟨st (regs [(Reg.AVL_ROT_CTL, 0, 1), (Reg.AVL_ROT_POS, 0, 23)] ready), [], by decide +kernel⟩,
   ⟨st (regs [(Reg.AVL_ROT_CTL, 0, 1), (Reg.AVL_ROT_POS, 0, 24)] ready), [], by decide +kernel⟩⟩

/-- The hypotheses of SecurityEvents, part 1, are met. -/
theorem witness_SecurityEvents_1 :
    (∃ (s : State) (d k : Nat), (d = 42 ∨ d = 52) ∧ 1 ≤ k ∧ k < 16 ∧ (s.fenced d = true ∨ 2 ≤ s.sled.stage)) ∧
    (∃ (s : State) (d k : Nat), (d = 42 ∨ d = 52) ∧ 1 ≤ k ∧ k < 16 ∧ s.fenced d = false ∧ s.sled.stage < 2 ∧
      (let w := ((((s.orr Reg.SEC_DIE_TAMPER d k).wipeScratch).inc Reg.SEC_TAMPER_COUNT 0 1).secAlert);
        let t := w.secRecord 0x1103 0 (w.rd Reg.SEC_DIE_TAMPER d % 16) 0xFF 3 0;
        (t.sec.tampers.filter (fun a => decide (t.now < a + dayNs)) ++ [t.now]).length) < 3) ∧
    (∃ (s : State) (d k : Nat), (d = 42 ∨ d = 52) ∧ 1 ≤ k ∧ k < 16 ∧ s.fenced d = false ∧ s.sled.stage < 2 ∧
      3 ≤ (let w := ((((s.orr Reg.SEC_DIE_TAMPER d k).wipeScratch).inc Reg.SEC_TAMPER_COUNT 0 1).secAlert);
        let t := w.secRecord 0x1103 0 (w.rd Reg.SEC_DIE_TAMPER d % 16) 0xFF 3 0;
        (t.sec.tampers.filter (fun a => decide (t.now < a + dayNs)) ++ [t.now]).length) ) ∧
    (∃ (s : State) (p : Path), s.secPath p = false) ∧
    (∃ (s : State) (p : Path), s.secPath p = true) ∧
    (∃ (s : State) (p : Path), s.secPath p = true) ∧
    (∃ (s : State) (p : Path), s.secPath p = true) ∧
    (∃ s : State, s.sec.nonceAt = none ∧ s.sec.refuseFrom = none ∧ s.sec.debugEnd = none) ∧
    (∃ (s : State) (t : Nat), s.sec.nonceAt = some t ∧ s.now < t + 10 * minuteNs) ∧
    (∃ (s : State) (t : Nat), s.sec.nonceAt = some t ∧ t + 10 * minuteNs ≤ s.now) ∧
    (∃ (s : State) (t : Nat), s.sec.refuseFrom = some t ∧ s.now < t + minuteNs) ∧
    (∃ (s : State) (t : Nat), s.sec.refuseFrom = some t ∧ t + minuteNs ≤ s.now) :=
  ⟨⟨st (regs [(Reg.AVL_DIE_STATUS, 52, 1)]), 52, 15, by decide +kernel⟩,
   ⟨st { ready with sec := { tampers := [0] } }, 52, 15, by decide +kernel⟩,
   ⟨st { ready with sec := { tampers := [0, 0] } }, 52, 15, by decide +kernel⟩,
   ⟨st ready, .ryern 1, by decide +kernel⟩,
   ⟨st ready, .ryern 0, by decide +kernel⟩,
   ⟨st ready, .fabric, by decide +kernel⟩,
   ⟨st ready, .monitor, by decide +kernel⟩,
   ⟨st ready, by decide +kernel⟩,
   ⟨st ({ ready with clocks := [(0, { counter := 599999999999 })], sec := { nonceAt := some 0 } }), 0, by decide +kernel⟩,
   ⟨st ({ ready with clocks := [(0, { counter := 600000000000 })], sec := { nonceAt := some 0 } }), 0, by decide +kernel⟩,
   ⟨st ({ ready with clocks := [(0, { counter := 59999999999 })], sec := { refuseFrom := some 0 } }), 0, by decide +kernel⟩,
   ⟨st ({ ready with clocks := [(0, { counter := 60000000000 })], sec := { refuseFrom := some 0 } }), 0, by decide +kernel⟩⟩

/-- The hypotheses of SecurityEvents, part 2, are met. -/
theorem witness_SecurityEvents_2 :
    (∃ (s : State) (t : Nat), s.sec.debugEnd = some t ∧ s.now < t) ∧
    (∃ (s : State) (t : Nat), s.sec.debugEnd = some t ∧ t ≤ s.now) :=
  ⟨⟨st ({ ready with clocks := [(0, { counter := 4 })], sec := { debugEnd := some 5 } }), 5, by decide +kernel⟩,
   ⟨st ({ ready with clocks := [(0, { counter := 5 })], sec := { debugEnd := some 5 } }), 5, by decide +kernel⟩⟩

/-- The hypotheses of MonitorLevels are met. -/
theorem witness_MonitorLevels :
    (∃ (s : State) (l : Nat) (i : Instr), (l, i) ∈ [(0, Instr.weskoId), (0, .weskoStatus), (0, .weskoNonce), (0, .weskoToken 0 []), (0, .weskoUnlock), (0, .weskoLifecycle),
      (0, .weskoLock 0), (1, .weskoLog 0), (1, .weskoRr 0), (2, .weskoRw 0 0), (2, .weskoHalt 0), (2, .weskoResume 0),
      (2, .weskoMr 0 0 0 0), (2, .weskoMw 0 0 0 0), (3, .weskoFuse), (3, .weskoTest)] ∧ s.weskoUp = false) ∧
    (∃ (s : State) (l : Nat) (i : Instr), (l, i) ∈ [(0, Instr.weskoId), (0, .weskoStatus), (0, .weskoNonce), (0, .weskoToken 0 []), (0, .weskoUnlock), (0, .weskoLifecycle),
      (0, .weskoLock 0), (1, .weskoLog 0), (1, .weskoRr 0), (2, .weskoRw 0 0), (2, .weskoHalt 0), (2, .weskoResume 0),
      (2, .weskoMr 0 0 0 0), (2, .weskoMw 0 0 0 0), (3, .weskoFuse), (3, .weskoTest)] ∧ s.weskoUp = false) ∧
    (∃ (s : State) (l : Nat) (i : Instr), (l, i) ∈ [(0, Instr.weskoId), (0, .weskoStatus), (0, .weskoNonce), (0, .weskoToken 0 []), (0, .weskoUnlock), (0, .weskoLifecycle),
      (0, .weskoLock 0), (1, .weskoLog 0), (1, .weskoRr 0), (2, .weskoRw 0 0), (2, .weskoHalt 0), (2, .weskoResume 0),
      (2, .weskoMr 0 0 0 0), (2, .weskoMw 0 0 0 0), (3, .weskoFuse), (3, .weskoTest)] ∧ s.weskoUp = true ∧ s.debug < l) ∧
    (∃ (s : State) (l : Nat) (i : Instr), (l, i) ∈ [(0, Instr.weskoId), (0, .weskoStatus), (0, .weskoNonce), (0, .weskoToken 0 []), (0, .weskoUnlock), (0, .weskoLifecycle),
      (0, .weskoLock 0), (1, .weskoLog 0), (1, .weskoRr 0), (2, .weskoRw 0 0), (2, .weskoHalt 0), (2, .weskoResume 0),
      (2, .weskoMr 0 0 0 0), (2, .weskoMw 0 0 0 0), (3, .weskoFuse), (3, .weskoTest)] ∧ s.weskoUp = true ∧ s.debug < l) ∧
    (∃ (s : State) (l : Nat) (i : Instr), (l, i) ∈ [(0, Instr.weskoId), (0, .weskoStatus), (0, .weskoNonce), (0, .weskoToken 0 []), (0, .weskoUnlock), (0, .weskoLifecycle),
      (0, .weskoLock 0), (1, .weskoLog 0), (1, .weskoRr 0), (2, .weskoRw 0 0), (2, .weskoHalt 0), (2, .weskoResume 0),
      (2, .weskoMr 0 0 0 0), (2, .weskoMw 0 0 0 0), (3, .weskoFuse), (3, .weskoTest)] ∧ s.weskoUp = true ∧ s.debug < l) ∧
    (∃ (s : State) (l : Nat) (i : Instr), (l, i) ∈ [(0, Instr.weskoId), (0, .weskoStatus), (0, .weskoNonce), (0, .weskoToken 0 []), (0, .weskoUnlock), (0, .weskoLifecycle),
      (0, .weskoLock 0), (1, .weskoLog 0), (1, .weskoRr 0), (2, .weskoRw 0 0), (2, .weskoHalt 0), (2, .weskoResume 0),
      (2, .weskoMr 0 0 0 0), (2, .weskoMw 0 0 0 0), (3, .weskoFuse), (3, .weskoTest)] ∧ s.weskoUp = true ∧ s.debug < l) ∧
    (∃ (s : State) (l : Nat) (i : Instr), (l, i) ∈ [(0, Instr.weskoId), (0, .weskoStatus), (0, .weskoNonce), (0, .weskoToken 0 []), (0, .weskoUnlock), (0, .weskoLifecycle),
      (0, .weskoLock 0), (1, .weskoLog 0), (1, .weskoRr 0), (2, .weskoRw 0 0), (2, .weskoHalt 0), (2, .weskoResume 0),
      (2, .weskoMr 0 0 0 0), (2, .weskoMw 0 0 0 0), (3, .weskoFuse), (3, .weskoTest)] ∧ s.weskoUp = true ∧ s.debug < l) ∧
    (∃ (s : State) (l : Nat) (i : Instr), (l, i) ∈ [(0, Instr.weskoId), (0, .weskoStatus), (0, .weskoNonce), (0, .weskoToken 0 []), (0, .weskoUnlock), (0, .weskoLifecycle),
      (0, .weskoLock 0), (1, .weskoLog 0), (1, .weskoRr 0), (2, .weskoRw 0 0), (2, .weskoHalt 0), (2, .weskoResume 0),
      (2, .weskoMr 0 0 0 0), (2, .weskoMw 0 0 0 0), (3, .weskoFuse), (3, .weskoTest)] ∧ s.weskoUp = true ∧ s.debug < l) ∧
    (∃ (s : State) (l : Nat) (i : Instr), (l, i) ∈ [(0, Instr.weskoId), (0, .weskoStatus), (0, .weskoNonce), (0, .weskoToken 0 []), (0, .weskoUnlock), (0, .weskoLifecycle),
      (0, .weskoLock 0), (1, .weskoLog 0), (1, .weskoRr 0), (2, .weskoRw 0 0), (2, .weskoHalt 0), (2, .weskoResume 0),
      (2, .weskoMr 0 0 0 0), (2, .weskoMw 0 0 0 0), (3, .weskoFuse), (3, .weskoTest)] ∧ s.weskoUp = true ∧ s.debug < l) ∧
    (∃ (s : State) (l : Nat) (i : Instr), (l, i) ∈ [(0, Instr.weskoId), (0, .weskoStatus), (0, .weskoNonce), (0, .weskoToken 0 []), (0, .weskoUnlock), (0, .weskoLifecycle),
      (0, .weskoLock 0), (1, .weskoLog 0), (1, .weskoRr 0), (2, .weskoRw 0 0), (2, .weskoHalt 0), (2, .weskoResume 0),
      (2, .weskoMr 0 0 0 0), (2, .weskoMw 0 0 0 0), (3, .weskoFuse), (3, .weskoTest)] ∧ s.weskoUp = true ∧ s.debug < l) ∧
    (∃ (s : State) (l : Nat) (i : Instr), (l, i) ∈ [(0, Instr.weskoId), (0, .weskoStatus), (0, .weskoNonce), (0, .weskoToken 0 []), (0, .weskoUnlock), (0, .weskoLifecycle),
      (0, .weskoLock 0), (1, .weskoLog 0), (1, .weskoRr 0), (2, .weskoRw 0 0), (2, .weskoHalt 0), (2, .weskoResume 0),
      (2, .weskoMr 0 0 0 0), (2, .weskoMw 0 0 0 0), (3, .weskoFuse), (3, .weskoTest)] ∧ s.weskoUp = true ∧ s.debug < l) ∧
    (∃ (s : State) (c g : Nat), s.weskoUp = true ∧ 2 ≤ s.debug ∧ 400 ≤ c ∧ 1 ≤ g ∧ g ≤ 64) :=
  ⟨⟨st { ready with sled := { stage := 1 } }, 0, .weskoId, by decide +kernel⟩,
   ⟨st { ready with sled := { stage := 1 } }, 3, .weskoTest, by decide +kernel⟩,
   ⟨st (regs [(Reg.SEC_STATUS, 0, 0)] ready), 1, .weskoLog 0, by decide +kernel⟩,
   ⟨st (regs [(Reg.SEC_STATUS, 0, 0)] ready), 1, .weskoRr 0, by decide +kernel⟩,
   ⟨st (regs [(Reg.SEC_STATUS, 0, 8)] ready), 2, .weskoRw 0 0, by decide +kernel⟩,
   ⟨st (regs [(Reg.SEC_STATUS, 0, 8)] ready), 2, .weskoHalt 0, by decide +kernel⟩,
   ⟨st (regs [(Reg.SEC_STATUS, 0, 8)] ready), 2, .weskoResume 0, by decide +kernel⟩,
   ⟨st (regs [(Reg.SEC_STATUS, 0, 8)] ready), 2, .weskoMr 0 0 0 0, by decide +kernel⟩,
   ⟨st (regs [(Reg.SEC_STATUS, 0, 8)] ready), 2, .weskoMw 0 0 0 0, by decide +kernel⟩,
   ⟨st (regs [(Reg.SEC_STATUS, 0, 16)] ready), 3, .weskoFuse, by decide +kernel⟩,
   ⟨st (regs [(Reg.SEC_STATUS, 0, 16)] ready), 3, .weskoTest, by decide +kernel⟩,
   ⟨st (regs [(Reg.SEC_STATUS, 0, 16)] ready), 400, 64, by decide +kernel⟩⟩

/-- The hypotheses of MonitorCommands, part 1, are met. -/
theorem witness_MonitorCommands_1 :
    (∃ s : State, s.weskoUp = true ∧ s.secNonce.1 = St.ok) ∧
    (∃ s : State, s.weskoUp = true ∧ s.secNonce.1 ≠ St.ok) ∧
    (∃ (s : State) (n : Nat) (data : List Byte), s.weskoUp = true ∧ n ≤ 5 ∧ data.length = (if n = 5 then 36 else 64)) ∧
    (∃ (s : State) (n : Nat) (data : List Byte), s.weskoUp = true ∧ (5 < n ∨ data.length ≠ (if n = 5 then 36 else 64))) ∧
    (∃ (s : State) (idx : Nat) (r : LogRecord), s.weskoUp = true ∧ 1 ≤ s.debug ∧ s.log.find? (fun r => r.index = idx) = some r) ∧
    (∃ (s : State) (idx : Nat), s.weskoUp = true ∧ 1 ≤ s.debug ∧ s.log.find? (fun r => r.index = idx) = none) ∧
    (∃ (s : State) (a : Nat), s.weskoUp = true ∧ 1 ≤ s.debug ∧ (s.regReadBy .monitor a (regWidth a)).1 = St.ok) ∧
    (∃ (s : State) (a : Nat), s.weskoUp = true ∧ 1 ≤ s.debug ∧ (s.regReadBy .monitor a (regWidth a)).1 ≠ St.ok) ∧
    (∃ s : State, s.weskoUp = true ∧ 2 ≤ s.debug) ∧
    (∃ (s : State) (c : Nat), s.weskoUp = true ∧ 2 ≤ s.debug ∧ c < 400 ∧ s.fenced (coreDie c) = false ∧ (s.rdf Reg.CORE_STATE c 2 0 = 1 ∨ s.rdf Reg.CORE_STATE c 2 0 = 2)) ∧
    (∃ (s : State) (c : Nat), s.weskoUp = true ∧ 2 ≤ s.debug ∧ c < 400 ∧ s.fenced (coreDie c) = false ∧ (s.rdf Reg.CORE_STATE c 2 0 = 1 ∨ s.rdf Reg.CORE_STATE c 2 0 = 2)) ∧
    (∃ (s : State) (c : Nat), s.weskoUp = true ∧ 2 ≤ s.debug ∧ c < 400 ∧ s.fenced (coreDie c) = false ∧ s.halted c = true) :=
  ⟨⟨st ready, by decide +kernel⟩,
   ⟨st { ready with sec := { refuseFrom := some 0 } }, by decide +kernel⟩,
   ⟨st ready, 5, List.replicate 36 0, by decide +kernel⟩,
   ⟨st ready, 6, List.replicate 64 0, by decide +kernel⟩,
   ⟨st { (regs [(Reg.SEC_STATUS, 0, 8)] ready) with log := [⟨7, [], none⟩] }, 7, ⟨7, [], none⟩, by decide +kernel⟩,
   ⟨st (regs [(Reg.SEC_STATUS, 0, 8)] ready), 7, by decide +kernel⟩,
   ⟨st (regs [(Reg.SEC_STATUS, 0, 8)] ready), Reg.HIF_ADMIT_MAX, by decide +kernel⟩,
   ⟨st (regs [(Reg.SEC_STATUS, 0, 8)] ready), 2, by decide +kernel⟩,
   ⟨st (regs [(Reg.SEC_STATUS, 0, 16)] ready), by decide +kernel⟩,
   ⟨st (regs [(Reg.SEC_STATUS, 0, 16), (Reg.CORE_STATE, 399, 1)] ready), 399, by decide +kernel⟩,
   ⟨st (regs [(Reg.SEC_STATUS, 0, 16), (Reg.CORE_STATE, 399, 2)] ready), 399, by decide +kernel⟩,
   ⟨st (regs [(Reg.SEC_STATUS, 0, 16), (Reg.CORE_STATE, 399, 3)] ready), 399, by decide +kernel⟩⟩

/-- The hypotheses of MonitorCommands, part 2, are met. -/
theorem witness_MonitorCommands_2 :
    (∃ (s : State) (c : Nat), s.weskoUp = true ∧ 2 ≤ s.debug ∧ c < 400 ∧ s.fenced (coreDie c) = false ∧ (s.rdf Reg.CORE_STATE c 2 0 = 1 ∨ s.rdf Reg.CORE_STATE c 2 0 = 2) ∧ (s.core c).board = [] ∧ (s.core c).halting = false) ∧
    (∃ (s : State) (c : Nat), s.weskoUp = true ∧ 2 ≤ s.debug ∧ c < 400 ∧ s.fenced (coreDie c) = false ∧ s.halted c = true) ∧
    (∃ (s : State) (code m a g : Nat), s.weskoUp = true ∧ 2 ≤ s.debug ∧ 1 ≤ g ∧ g ≤ 64 ∧ s.memDenied code m a g false = none ∧ (s.weskoRead code m a g).2 = false) ∧
    (∃ (s : State) (code m a g : Nat), s.weskoUp = true ∧ 2 ≤ s.debug ∧ 1 ≤ g ∧ g ≤ 64 ∧ s.memDenied code m a g false = none ∧ (s.weskoRead code m a g).2 = false) ∧
    (∃ (s : State) (code m a g : Nat), s.weskoUp = true ∧ 2 ≤ s.debug ∧ 1 ≤ g ∧ g ≤ 64 ∧ s.memDenied code m a g false = none ∧ (s.weskoRead code m a g).2 = true) ∧
    (∃ (s : State) (code m a : Nat), s.weskoUp = true ∧ 2 ≤ s.debug ∧ s.memDenied code m a 16 true = none) ∧
    (∃ s : State, s.weskoUp = true ∧ 3 ≤ s.debug) :=
  ⟨⟨st (regs [(Reg.SEC_STATUS, 0, 16), (Reg.CORE_STATE, 399, 2)] (ready.setCore 399 {  })), 399, by decide +kernel⟩,
   ⟨st (regs [(Reg.SEC_STATUS, 0, 16), (Reg.CORE_STATE, 399, 2)] (ready.setCore 399 { halting := true, board := [⟨7, 0, 4, 0, true⟩] })), 399, by decide +kernel⟩,
   ⟨st (regs [(Reg.SEC_STATUS, 0, 16)] ready), 0, 399, 0, 64, by decide +kernel⟩,
   ⟨st (regs [(Reg.SEC_STATUS, 0, 16)] ready), 0, 399, 16, 1, by decide +kernel⟩,
   ⟨st ((regs [(Reg.SEC_STATUS, 0, 16)] ready).markPoison 0 399 0 true), 0, 399, 0, 1, by decide +kernel⟩,
   ⟨st (regs [(Reg.SEC_STATUS, 0, 16)] ready), 0, 399, 0x10, by decide +kernel⟩,
   ⟨st (regs [(Reg.SEC_STATUS, 0, 24)] ready), by decide +kernel⟩⟩

/-- The hypotheses of StayIds are met. -/
theorem witness_StayIds :
    (∃ x y : Nat, x < 9 ∧ y < 10) ∧
    (∃ x y : Nat, x < 10 ∧ y < 9) :=
  ⟨⟨8, 9, by decide +kernel⟩,
   ⟨9, 8, by decide +kernel⟩⟩

end Sys2Proof.Tests
end

/-! PROOFS. The delay reason of a completion and NOP (R427, R428, R431). -/

namespace Sys2Proof.Machine

/-! ## The delay reason -/

/-- One comparison of `delayReason`: the reason seen so far stays unless the next one held the command longer. -/
def longerHold (time : Nat → Nat) (best r : Nat) : Nat := if best = 0 ∨ time best < time r then r else best

/-- Of the codes in a list, the one with the longest time, the lowest among equals (R428). -/
def IsLongest (time : Nat → Nat) (l : List Nat) (b : Nat) : Prop :=
  b ∈ l ∧ ∀ r ∈ l, time r ≤ time b ∧ (time r = time b → b ≤ r)

/-- The time for which the holds of one reason kept a command (log entry 145). -/
def holdTime (waits : List (Nat × Nat)) (r : Nat) : Nat := ((waits.filter (fun w => w.1 = r)).map (·.2)).sum

/-- The reasons noted on a command, in the order of their codes. -/
def notedReasons (waits : List (Nat × Nat)) : List Nat :=
  (List.range 7).filter (fun r => r ≠ 0 ∧ waits.any (fun w => w.1 = r))

theorem isLongest_foldl_longerHold (time : Nat → Nat) (l : List Nat) :
    ∀ x, (x :: l).Pairwise (· < ·) → 0 ∉ x :: l → IsLongest time (x :: l) (l.foldl (longerHold time) x) := by
  induction l with
  | nil => intro x _ _; simp [IsLongest]
  | cons y l ih =>
    intro x hsorted hzero
    simp only [List.pairwise_cons, List.mem_cons, not_or, forall_eq_or_imp] at hsorted hzero
    obtain ⟨⟨hxy, hxl⟩, hyl, hl⟩ := hsorted
    obtain ⟨hx, hy, h0⟩ := hzero
    rw [List.foldl_cons]
    by_cases hlt : time x < time y
    · obtain ⟨hmem, hbest⟩ := ih y (List.pairwise_cons.2 ⟨hyl, hl⟩) (by simp [hy, h0])
      have hstep : longerHold time x y = y := if_pos (.inr hlt)
      have hylt := (hbest y List.mem_cons_self).1
      rw [hstep]
      refine ⟨List.mem_cons_of_mem _ hmem, List.forall_mem_cons.2 ⟨⟨by omega, by omega⟩, hbest⟩⟩
    · obtain ⟨hmem, hbest⟩ := ih x (List.pairwise_cons.2 ⟨hxl, hl⟩) (by simp [hx, h0])
      have hstep : longerHold time x y = x := if_neg (by omega)
      have hxlt := hbest x List.mem_cons_self
      rw [hstep]
      refine ⟨List.cons_subset_cons _ (List.subset_cons_self _ _) hmem, fun r hr => ?_⟩
      obtain rfl | rfl | hr := by simpa using hr
      · exact hxlt
      · exact ⟨by omega, by omega⟩
      · exact hbest r (List.mem_cons_of_mem _ hr)

theorem delayReason_eq (waits : List (Nat × Nat)) :
    delayReason waits = (notedReasons waits).foldl (longerHold (holdTime waits)) 0 := by
  have htime : holdTime waits = fun r => ((waits.filter (fun w => w.1 = r)).map (·.2)).foldl (· + ·) 0 := by
    funext r; exact List.sum_eq_foldl
  rw [htime]; rfl

theorem mem_notedReasons {waits : List (Nat × Nat)} (hcode : ∀ w ∈ waits, w.1 < 7) (r : Nat) :
    r ∈ notedReasons waits ↔ r ≠ 0 ∧ ∃ w ∈ waits, w.1 = r := by
  simp only [notedReasons, List.mem_filter, List.mem_range, List.any_eq_true, decide_eq_true_eq, and_iff_right_iff_imp]
  rintro ⟨_, w, hw, rfl⟩
  exact hcode w hw

theorem delayReason_eq_zero {waits : List (Nat × Nat)} (hcode : ∀ w ∈ waits, w.1 < 7) (h : ∀ w ∈ waits, w.1 = 0) :
    delayReason waits = 0 := by
  have hnone : notedReasons waits = [] := List.eq_nil_iff_forall_not_mem.2 fun r hr => by
    obtain ⟨hr0, w, hw, rfl⟩ := (mem_notedReasons hcode r).1 hr
    exact hr0 (h w hw)
  rw [delayReason_eq, hnone]; rfl

theorem isLongest_delayReason {waits : List (Nat × Nat)} (hcode : ∀ w ∈ waits, w.1 < 7) (h : ∃ w ∈ waits, w.1 ≠ 0) :
    IsLongest (holdTime waits) (notedReasons waits) (delayReason waits) := by
  obtain ⟨w, hw, hw0⟩ := h
  have hmem := (mem_notedReasons hcode w.1).2 ⟨hw0, w, hw, rfl⟩
  have hsorted : (notedReasons waits).Pairwise (· < ·) := List.pairwise_lt_range.filter _
  have hzero : 0 ∉ notedReasons waits := fun h0 => ((mem_notedReasons hcode 0).1 h0).1 rfl
  rw [delayReason_eq]
  cases hl : notedReasons waits with
  | nil => simp [hl] at hmem
  | cons x l =>
    have hfirst : longerHold (holdTime waits) 0 x = x := if_pos (.inl rfl)
    rw [List.foldl_cons, hfirst]
    exact isLongest_foldl_longerHold _ l x (hl ▸ hsorted) (hl ▸ hzero)

/-- The first half of `Obligations.DelayReason` holds: the delay reason is the noted reason with the longest time, the lowest code among
equals, and 0 when none was noted (R428, log entry 145). -/
theorem delayReason_spec (waits : List (Nat × Nat)) (hcode : ∀ w ∈ waits, w.1 < 7) :
    ((∀ w ∈ waits, w.1 = 0) → delayReason waits = 0) ∧
    ((∃ w ∈ waits, w.1 ≠ 0) → (∃ w ∈ waits, w.1 = delayReason waits) ∧ delayReason waits ≠ 0 ∧
      ∀ w ∈ waits, w.1 ≠ 0 → holdTime waits w.1 ≤ holdTime waits (delayReason waits) ∧
        (holdTime waits w.1 = holdTime waits (delayReason waits) → delayReason waits ≤ w.1)) := by
  refine ⟨delayReason_eq_zero hcode, fun h => ?_⟩
  obtain ⟨hmem, hbest⟩ := isLongest_delayReason hcode h
  obtain ⟨hne, hnoted⟩ := (mem_notedReasons hcode _).1 hmem
  exact ⟨hnoted, hne, fun w hw hw0 => hbest w.1 ((mem_notedReasons hcode w.1).2 ⟨hw0, w, hw, rfl⟩)⟩

/-! ## NOP -/

/-- A started command on which no hold stands and which no queue reset cut ends OK, or OK_DELAYED with its delay reason (R7, R428). -/
theorem Device.finish_ok_of_started (s : Device) (n result : Nat) (p : Pending) (hp : s.cmd n = some p)
    (hphase : p.phase = .started) (hcut : p.cut = false) (hheld : p.held = none) :
    s.finish n St.ok result = s.setCmd { p with
      phase := .ended, status := (if delayReason p.waits = 0 then St.ok else St.okDelayed), reason := delayReason p.waits, result } := by
  have hpoison : St.ok ≠ St.poisonConsumed := by decide
  by_cases hr : delayReason p.waits = 0 <;> simp [Device.finish, hp, hphase, hcut, hheld, hpoison, hr]

/-- A NOP that nothing keeps from running does nothing but end. -/
theorem exec_nop_of_runs (s : State) (c : Cmd) (hc : Cmd.of 0x00 c = true) (hr : s.runs c (bytesOf 16 63) false = true) :
    exec (.nop c) s = .next (s.after ((s.begin c).2.finish (s.begin c).1 St.ok 0)) := by
  refine next_of (out := execNop c s) rfl ?_
  exact ryern_runs s.toDevice c 0x00 _ false _ (runNop c) hc hr rfl

/-- The second half of `Obligations.DelayReason` with the premise that it leaves out: no hold stands on the NOP. -/
theorem exec_nop_of_unheld (s : State) (c : Cmd) (p : Pending) (hc : Cmd.of 0x00 c = true) (hr : s.runs c (bytesOf 16 63) false = true)
    (hp : (s.begin c).2.cmd (s.begin c).1 = some p) (hphase : p.phase = .started) (hcut : p.cut = false) (hheld : p.held = none) :
    exec (.nop c) s = .next (s.after ((s.begin c).2.setCmd { p with
      phase := .ended, status := (if delayReason p.waits = 0 then St.ok else St.okDelayed), reason := delayReason p.waits, result := 0 })) := by
  rw [exec_nop_of_runs s c hc hr, Device.finish_ok_of_started _ _ _ p hp hphase hcut hheld]

/-- A started NOP of LD 0 on which a hold with reason 3 still stands. -/
def heldNop : Pending :=
  { n := 0, ld := 0, mb := 0, slot := 0, phase := .started, arrival := 0, full := 0, mem := 0, held := some (3, 0), waits := [],
    ran := false, order := 1, started := 0, status := 0, reason := 0, result := 0, resultHi := 0, cut := false, silent := false }

/-- Refutes O22: the clause about NOP does not ask that no hold stands on the command. From the reset state with `heldNop` in the
pipeline, the model ends the hold before it takes the delay reason (R428), so the NOP ends with OK_DELAYED and reason 3, where the
statement gives OK with reason 0 and leaves the hold in place. What holds is `delayReason_spec` and `exec_nop_of_unheld`. -/
theorem not_delayReason : ¬ Obligations.DelayReason := by
  unfold Obligations.DelayReason
  rintro ⟨_, hnop⟩
  let s : State := { cmds := [heldNop] }
  let c : Cmd := ⟨0, 0, 0⟩
  have hc : Cmd.of 0x00 c = true := by decide +kernel
  have hr : s.runs c (bytesOf 16 63) false = true := by decide +kernel
  have hclaim := hnop s c { heldNop with ran := true } hc hr (by decide +kernel) rfl rfl
  rw [exec_nop_of_runs s c hc hr, Host.Outcome.next.injEq] at hclaim
  have hreason := congrArg (fun t : State => t.cmds.map (·.reason)) hclaim
  exact absurd hreason (by decide +kernel)

/-! ## Register writes by path -/

theorem Device.accessFails_ne_ok (s : Device) (p : Path) (addr : Nat) (wide write : Bool) :
    s.accessFails p addr wide write ≠ some St.ok := by
  have hfield : St.invalidField ≠ St.ok := by decide
  have hdenied : St.securityDenied ≠ St.ok := by decide
  have hlocked : St.lifecycleLocked ≠ St.ok := by decide
  unfold Device.accessFails
  split
  · simpa only [ne_eq, Option.some.injEq] using hfield
  · dsimp only
    split
    · simpa only [ne_eq, Option.some.injEq] using hfield
    · split
      · simpa only [ne_eq, Option.some.injEq] using hdenied
      · split
        · simpa only [ne_eq, Option.some.injEq] using hlocked
        · exact nofun

/-- A write by a path that does not lead to the registers changes nothing. -/
theorem Device.writeBy_of_noPath (s : Device) (p : Path) (pass : Bool) (addr : Nat) (wide : Bool) (v : Nat)
    (h : s.regPath p = false) : s.writeBy p pass addr wide v = s := by simp [Device.writeBy, h]

/-- A write that a check of its access stops changes nothing (R3, R440, R566). -/
theorem Device.writeBy_of_accessFails (s : Device) (p : Path) (pass : Bool) (addr : Nat) (wide : Bool) (v : Nat)
    (h : (s.accessFails p addr wide true).isSome = true) : s.writeBy p pass addr wide v = s := by
  obtain ⟨st, hst⟩ := Option.isSome_iff_exists.1 h
  have hne : st ≠ St.ok := fun e => s.accessFails_ne_ok p addr wide true (e ▸ hst)
  simp [Device.writeBy, Device.regWriteBy, hst, hne]

/-- A write that reaches its register is ignored when the register is read-only; otherwise, when its field ranges allow the value, it has
the register's effect (R4, R440). -/
theorem Device.regWriteBy_of_reached (s : Device) (p : Path) (cmd : Option Nat) (pass : Bool) (addr : Nat) (wide : Bool) (v : Nat)
    (t : RegTable) (r : RegRow) (k : Nat) (h : s.accessFails p addr wide true = none) (ha : regAt addr = some (t, r, k)) :
    s.regWriteBy p cmd pass addr wide v = (if r.access = .ro then (some St.ok, s) else if !checksOk r v then (some St.invalidField, s)
      else s.regEffect p cmd pass addr r (posOf addr t r k) v) := by
  simp [Device.regWriteBy, h, ha]

/-- A write of a read-only register changes nothing while no job fault is reported (R4). -/
theorem Device.writeBy_of_readOnly (s : Device) (p : Path) (pass : Bool) (addr : Nat) (wide : Bool) (v : Nat)
    (t : RegTable) (r : RegRow) (k : Nat) (ha : regAt addr = some (t, r, k)) (hro : r.access = .ro) (hf : s.faults = []) :
    s.writeBy p pass addr wide v = s := by
  cases h : s.accessFails p addr wide true with
  | some st => exact s.writeBy_of_accessFails p pass addr wide v (by simp [h])
  | none => simp [Device.writeBy, s.regWriteBy_of_reached p none pass addr wide v t r k h ha, hro, s.settleFaults_nil hf]

/-- A write that its checks let through has the register's effect (R4, R440). -/
theorem Device.writeBy_of_checked (s : Device) (p : Path) (pass : Bool) (addr : Nat) (wide : Bool) (v : Nat)
    (t : RegTable) (r : RegRow) (k : Nat) (hp : s.regPath p = true) (h : s.accessFails p addr wide true = none)
    (ha : regAt addr = some (t, r, k)) (hro : r.access ≠ .ro) (hc : checksOk r v = true)
    (hok : (s.regEffect p none pass addr r (posOf addr t r k) v).1 = some St.ok) :
    s.writeBy p pass addr wide v = (s.regEffect p none pass addr r (posOf addr t r k) v).2.settleFaults := by
  simp [Device.writeBy, hp, s.regWriteBy_of_reached p none pass addr wide v t r k h ha, hro, hc, hok]

/-- A REGISTER_WRITE by a path other than BAR0 draws its free value and then writes by that path. -/
theorem exec_registerWrite (s : State) (p : Path) (addr : Nat) (wide : Bool) (v : BitVec 64) (hp : pathOk p = true)
    (hbar : ∀ ld, p ≠ .bar ld) : exec (.registerWrite p addr wide v) s =
      .next (s.after (s.draw.2.writeBy p (s.draw.1 % 2 == 0) addr wide (if wide then v.toNat else v.toNat % 2 ^ 32))) := by
  cases p with
  | bar ld => exact absurd rfl (hbar ld)
  | ryern ld =>
    refine next_of (out := execRegisterWrite (.ryern ld) addr wide v s) rfl ?_
    exact atUnit_eq _ _ hp
  | fabric => rfl
  | monitor => rfl
  | core c =>
    refine next_of (out := execRegisterWrite (.core c) addr wide v s) rfl ?_
    exact atUnit_eq _ _ hp

/-- A REGISTER_WRITE on BAR0 is the write of that offset (R419). -/
theorem exec_registerWrite_bar (s : State) (ld off : Nat) (wide : Bool) (v : BitVec 64) (hld : ld < 16) (hhub : s.hubRuns = true) :
    exec (.registerWrite (.bar ld) off wide v) s =
      .next (s.after (s.barWrite ld off wide (if wide then v.toNat else v.toNat % 2 ^ 32)).settleFaults) := by
  refine next_of (out := execRegisterWrite (.bar ld) off wide v s) rfl ?_
  dsimp only
  rw [if_pos hhub, atUnit_eq _ _ (decide_eq_true hld)]

/-- Settles O12: a write that no path, check or access type lets through leaves the device after the draw as it was; the others have
the effect of their register or offset. -/
theorem registerWriteByPath : Obligations.RegisterWriteByPath := by
  unfold Obligations.RegisterWriteByPath
  refine ⟨fun s p addr wide v hp hbar hstop => ?_, fun s p addr wide v t r k hp hbar hpath hreach ha hro hc hok => ?_,
    exec_registerWrite_bar⟩
  · rw [exec_registerWrite s p addr wide v hp hbar]
    obtain hpath | hfails | ⟨t, r, k, ha, hro, hf⟩ := hstop
    · rw [Device.writeBy_of_noPath _ _ _ _ _ _ hpath]
    · rw [Device.writeBy_of_accessFails _ _ _ _ _ _ hfails]
    · rw [Device.writeBy_of_readOnly _ _ _ _ _ _ t r k ha hro (by simpa using hf)]
  · rw [exec_registerWrite s p addr wide v hp hbar, Device.writeBy_of_checked _ _ _ _ _ _ t r k hpath hreach ha hro hc hok]

end Sys2Proof.Machine

/-! PROOFS. What a command can answer: a next state, or the refusal of a unit that the device lacks (R22, R431). -/

namespace Sys2Proof.Machine

/-! ## The answers of an effect -/

/-- What the effect of a command can answer: a next device or, where the command is not well formed, the refusal of a unit that the
device lacks. -/
def Answers (wf : Bool) (e : Effect) : Prop := (∃ d, e = .next d) ∨ (e = .refused .noSuchUnit ∧ wf = false)

section
variable {wf : Bool} {s : Device}

theorem answers_next (d : Device) : Answers wf (.next d) := .inl ⟨d, rfl⟩

theorem answers_refused (h : wf = true → False) : Answers wf (.refused .noSuchUnit) := .inr ⟨rfl, Bool.eq_false_iff.2 h⟩

theorem answers_ite {p : Prop} [Decidable p] {a b : Effect} (ha : p → Answers wf a) (hb : ¬p → Answers wf b) :
    Answers wf (if p then a else b) := by
  split
  · exact ha ‹_›
  · exact hb ‹_›

theorem answers_atUnit {ok : Bool} {d : Device} (h : wf = true → ok = true) : Answers wf (atUnit ok d) := by
  cases ok with
  | true => exact answers_next d
  | false => exact answers_refused fun hw => nomatch h hw

/-- An event that is well formed exactly where its unit exists. -/
theorem answers_atUnit_wf {ok : Bool} {d : Device} (h : wf = ok) : Answers wf (atUnit ok d) := answers_atUnit (h ▸ id)

/-- A Ryern command is refused only from a logical device or a mailbox that the device lacks. -/
theorem answers_ryernNote {c : Cmd} {op : Nat} {reserved : List Nat} {admin : Bool} {check : Device → Nat → Option (Nat × Nat)}
    {note : Device → Nat → Device} {body : Device → Nat → Device} (h : wf = true → c.ld < 16 ∧ c.mb < 64) :
    Answers wf (ryernNote s c op reserved admin check note body) := by
  obtain ⟨hld, hmb⟩ : (cmdAs c op).ld = c.ld ∧ (cmdAs c op).mb = c.mb := by unfold cmdAs; split <;> exact ⟨rfl, rfl⟩
  unfold ryernNote
  dsimp only
  rw [hld, hmb]
  by_cases hu : c.ld < 16 ∧ c.mb < 64
  · rw [if_neg (not_not_intro hu)]
    repeat' split
    all_goals exact answers_next _
  · rw [if_pos hu]
    exact answers_refused fun hw => hu (h hw)

theorem Cmd.of_units {op : Nat} {c : Cmd} (h : Cmd.of op c = true) : c.ld < 16 ∧ c.mb < 64 := by
  simp only [Cmd.of, Bool.and_eq_true, decide_eq_true_eq] at h
  obtain ⟨⟨_, hld⟩, hmb⟩ := h
  exact ⟨hld, hmb⟩

/-- A Ryern row, with or without a count of its refusals: `ryern`, `stCommand`, `dropCommand` and `ryernTkl` are all `ryernNote`. -/
theorem answers_ryernRow {c : Cmd} {op : Nat} {reserved : List Nat} {admin : Bool} {check : Device → Nat → Option (Nat × Nat)}
    {note : Device → Nat → Device} {body : Device → Nat → Device} (h : wf = Cmd.of op c) :
    Answers wf (ryernNote s c op reserved admin check note body) := answers_ryernNote fun hw => Cmd.of_units (h ▸ hw)

theorem answers_gatherRow {c : Cmd} (h : wf = true → c.ld < 16 ∧ c.mb < 64) : Answers wf (gatherRow c s) := by
  unfold gatherRow
  exact answers_ryernNote h

theorem answers_rawCommand {c : Cmd} {op : Nat} {pages : Device → Nat} {body : Device → Nat → Device} (h : wf = Cmd.rawOf op c) :
    Answers wf (rawCommand s c op pages body) := by
  obtain ⟨hld, hmb⟩ : (rawAs c op).ld = c.ld ∧ (rawAs c op).mb = c.mb := by unfold rawAs; split <;> exact ⟨rfl, rfl⟩
  unfold rawCommand
  refine answers_ryernNote fun hw => ?_
  rw [h] at hw
  simp only [Cmd.rawOf, Bool.and_eq_true] at hw
  rw [hld, hmb]
  exact Cmd.of_units hw.1

theorem answers_packetRow {typ : Nat} {p : Packet} {body : Packet → Device → Device}
    (h : wf = true → p.dstDie < 100 ∧ p.srcDie < 100 ∧ p.job < 64) : Answers wf (packetRow typ p s body) := by
  unfold packetRow
  dsimp only
  by_cases hu : p.dstDie < 100 ∧ p.srcDie < 100 ∧ p.job < 64
  · rw [if_neg (not_not_intro hu)]
    repeat' split
    all_goals exact answers_next _
  · rw [if_pos hu]
    exact answers_refused fun hw => hu (h hw)

theorem Packet.of_units {typ : Nat} {p : Packet} (h : Packet.of typ p = true) : p.dstDie < 100 ∧ p.srcDie < 100 ∧ p.job < 64 := by
  simp only [Packet.of, Bool.and_eq_true, decide_eq_true_eq] at h
  obtain ⟨⟨⟨_, hdst⟩, hsrc⟩, hjob⟩ := h
  exact ⟨hdst, hsrc, hjob⟩

theorem answers_verdictRow {kind : Nat} {p : Packet} {body : Packet → Device → Device}
    (h : wf = true → (p.dstDie < 100 ∧ p.srcDie < 100 ∧ p.job < 64) ∧ p.specEng < 1600) : Answers wf (verdictRow kind p s body) :=
  answers_ite (fun heng => answers_refused fun hw => Nat.not_lt.2 heng (h hw).2) fun _ => answers_packetRow fun hw => (h hw).1

theorem Packet.verdict_units {kind : Nat} {p : Packet} (h : Packet.verdict kind p = true) :
    (p.dstDie < 100 ∧ p.srcDie < 100 ∧ p.job < 64) ∧ p.specEng < 1600 := by
  have hof := Packet.of_verdict _ _ h
  simp only [Packet.verdict, Bool.and_eq_true, decide_eq_true_eq] at h
  exact ⟨Packet.of_units hof, h.2⟩

theorem answers_unitRow {u op c : Nat} {i : Word128} {body : Word128 → Device} (h : wf = unitOf u op c i) :
    Answers wf (unitRow u op c i body) := by
  refine answers_atUnit fun hw => ?_
  rw [h] at hw
  simp only [unitOf, Bool.and_eq_true] at hw
  obtain ⟨⟨hcore, _⟩, _⟩ := hw
  exact hcore

/-- A link event at a mirror stay or at a port. -/
theorem answers_linkRow {die port : Nat} {d d' : Device} (h : wf = (portOk die port || mirrorOk die port)) :
    Answers wf (if mirrorOk die port then .next d else atUnit (portOk die port) d') :=
  answers_ite (fun _ => answers_next d) fun hm => answers_atUnit fun hw => by simpa [h, hm] using hw

end

/-! ## The rows that are not of one family -/

theorem answers_clean (p : Packet) (s : Device) (ignored body : Packet → Device → Device) : Answers (Instr.clean p).wf
    (if p.addr = 0 ∨ 4 < p.addr then packetRow 7 p s ignored else verdictRow 1 p s body) := by
  have hwf : (Instr.clean p).wf = (Packet.verdict 1 p || (Packet.of 7 p && (p.addr == 0 || decide (4 < p.addr)))) := rfl
  simp only [hwf]
  refine answers_ite (fun _ => answers_packetRow fun hw => ?_) fun hkind => answers_verdictRow fun hw => ?_
  · obtain hv | ho := Bool.or_eq_true_iff.1 hw
    · exact (Packet.verdict_units hv).1
    · exact Packet.of_units (Bool.and_eq_true_iff.1 ho).1
  · obtain hv | ho := Bool.or_eq_true_iff.1 hw
    · exact Packet.verdict_units hv
    · exact absurd (by simpa using (Bool.and_eq_true_iff.1 ho).2) hkind

theorem answers_squashFrom (p : Packet) (s : Device) (ignored body : Packet → Device → Device) : Answers (Instr.squashFrom p).wf
    (if p.addr ≠ 1 then packetRow 8 p s ignored
      else if 1600 ≤ p.specEng then .refused .noSuchUnit else packetRow 8 p s body) := by
  have hwf : (Instr.squashFrom p).wf = (Packet.of 8 p && (p.addr != 1 || decide (p.specEng < 1600))) := rfl
  simp only [hwf]
  have hunits : (Packet.of 8 p && (p.addr != 1 || decide (p.specEng < 1600))) = true →
      p.dstDie < 100 ∧ p.srcDie < 100 ∧ p.job < 64 := fun hw => Packet.of_units (Bool.and_eq_true_iff.1 hw).1
  refine answers_ite (fun _ => answers_packetRow hunits) fun horder =>
    answers_ite (fun heng => answers_refused fun hw => ?_) fun _ => answers_packetRow hunits
  have heng' := (Bool.and_eq_true_iff.1 hw).2
  simp only [Bool.or_eq_true, bne_iff_ne, decide_eq_true_eq] at heng'
  omega

/-! ## The answers of a command -/

/-- What a command can answer: a next state with the queue as it was or, where the command is not well formed, the refusal of a unit
that the device lacks. -/
def OutAnswers (wf : Bool) (s : State) (out : Out) : Prop :=
  (∃ t, out = .next t ∧ t.pending = s.pending) ∨ (out = .refused .noSuchUnit ∧ wf = false)

theorem onDevice_answers {wf : Bool} {s : State} {f : Device → Effect} (h : Answers wf (f s.toDevice)) :
    OutAnswers wf s (onDevice s f) := by
  obtain hnext | ⟨hrefused, hwf⟩ := h
  · exact .inl (onDevice_goes s f hnext)
  · exact .inr ⟨by rw [onDevice, hrefused], hwf⟩

/-- Every command acts on the device alone, and none faults: only one that is not well formed is refused. -/
theorem exec_answers (i : Instr) (s : State) : OutAnswers i.wf s (exec i s) := by
  unfold exec
  cases i with
  | nop | read | write | discard | secureDiscard | nsCreate | nsDelete | nsFormat | nsAccess | nsInfo | regRead | regWrite
    | timeAnchor | hostRegister | hostDeregister | powerHint | powerState | jobOpen | jobClose | routeWrite | dispatch
    | shardOpen | shardClose | reduceOpen | rankDone | reduceCommit | checkpoint | embOpen | embClose | embUpdate
    | place | unplace | srchOpen | srchClose | search | vecInsert | vecDelete | indexFold =>
    exact onDevice_answers (answers_ryernRow rfl)
  | mediaRawRead | mediaRawProgram | mediaRawErase =>
    exact onDevice_answers (answers_rawCommand rfl)
  | wload | mac | drain | add | sub | mul | fma | max | min | abs | exp | recip | rsqrt | sigmoid | siluMul | cvt | rsum | rmax
    | absmax | copy | put | get | ckpt | fence | post | hint | endKernel =>
    exact onDevice_answers (answers_unitRow rfl)
  | readResp | writeAck | reg =>
    exact onDevice_answers (answers_packetRow Packet.of_units)
  | writePacket | readReq | media =>
    exact onDevice_answers (answers_ite (fun _ => answers_next _) fun _ => answers_packetRow Packet.of_units)
  | reopen | reopenAck | releaseAck =>
    exact onDevice_answers (answers_verdictRow Packet.verdict_units)
  | flitReceive | linkNak | linkRetrain | handshakeTimeout | linkRetrainEnd =>
    exact onDevice_answers (answers_linkRow rfl)
  | timeAnchorMgmt | mbSqTail | mbCqHead | mbEnable | queueReset | queueResetEnd | functionLevelReset | commandFetch
    | commandAdmit | interruptCoalesceTimeout | ldBind | ldUnbind | adminLdDesignate | cxlMemWrite | cxlMemRead
    | identifyMemoryDevice | getSupportedLogs | getLog | getHealthInfo | getEventRecords | clearEventRecords | getVersion
    | getCapabilities | negotiateAlgorithms | getDigests | getCertificate | challenge | getMeasurements | chunkGet
    | spdmUnsupportedRequest | failNotice | routeTableWrite | truncNotice | fenceNotice | hopEpochEnd | unitInstructionPlace
    | unitInstructionComplete | rowGate | verdictIssue | sequencerMismatch | epochCommit | holdTimeout | kernelEndReport
    | sliceFetchIssue | stagingMove | batchTimerExpiry | taskGive | workSteal | outputCopyComplete | reservationGrant
    | reductionTimeout | updatePhaseStart | updatePhaseEnd | bitmapBuildComplete | sideBatchTimer | foldApplyPhase
    | zqCalibrationShort | dqRetrain | eraseResume | arrayReadComplete | programDataInEnd | programCheck | eraseCheck
    | patrolRead | blockRefresh | journalPageClose | quadProgress | streamFlush | gcErase | dramPatrol | scrubSummary
    | laneRegionTest | secureScratchTest | memCoreRet | pwrCapW | hoistStagingStart | hintPhaseStart | hintEnd | droopEvent
    | thermalTrip | thermalThrottleStep | throttleRecoverStep | storageWarn | storageHot | thermalShutdown | psIdleTimer
    | halfStackSleep | mhcLockstepMismatch | avlSwap | dieFirmwareSwitch | dieFence | avlStRun | selftestAgeExpiry
    | rotationRestart | tamperEvent | hifLdQos | stayCntClr | qntCntClr | tierCntClr | tierJobCntClr | jobCntClr | tklJobCntClr
    | embHCntClr | srchHCntClr | mediaChCntClr | mediaDieCntClr | ftlCntClr | hifLdCntClr | memCoreCntClr | memDieCntClr
    | pwrCntClr | avlCntClr | secCntClr | eraseSuspendReady | linkL0 | storageWarnEnd | mhcRestartEnd | voltageRampEnd
    | dynamicAddressAssign | handoverTrainingEnd =>
    exact onDevice_answers (answers_atUnit_wf rfl)
  | commandExecutionStart | admitDeadlineExpiry | completionWrite | hostDmaReject | mctpControlMessage | fmApiMessage
    | mctpUnsupportedType | recordRoute | barrierDispatchStart | paceInterval | gatherRowRead | gatherReduce | embApplyPhase
    | txnCommit | mergeWriteOut | feedLost | feedGood | feedReturn | holdupMeasure | shutdownRequest | capRecompute
    | hardwareLimiter | tripEnd | backgroundTaskWake | coolantAlarm | heartbeat | hubTakeover | rotationPeriod | nonce | unlock
    | lock | lifecycle | fwStage | fwActivate | svnCommit | nonceExpiry | nonceRefusalEnd | debugExpiry | weskoId | weskoStatus
    | weskoNonce | weskoToken | weskoUnlock | weskoLifecycle | weskoLock | weskoLog | weskoRr | weskoRw | weskoHalt
    | weskoResume | weskoMr | weskoMw | weskoFuse | weskoTest | perstAssert | perstRelease | prsntMate | prsntBreak
    | portFailure | storageHotEnd | standbyPhyTest | psTransitionEnd =>
    exact onDevice_answers (answers_next _)
  | gather => exact onDevice_answers (answers_gatherRow Cmd.of_units)
  | gatherPrefetch =>
    refine onDevice_answers (answers_gatherRow fun hw => ?_)
    have hunits := Cmd.of_units (Bool.and_eq_true_iff.1 hw).1
    split <;> exact hunits
  | registerWrite p =>
    cases p with
    | fabric | monitor => exact onDevice_answers (answers_next _)
    | bar | ryern | core => exact onDevice_answers (answers_atUnit_wf rfl)
  | quadGrant | quadRelease | scrubStart | scrubAbort =>
    refine onDevice_answers (answers_atUnit fun hw => ?_)
    obtain ⟨hpath, hunit⟩ := Bool.and_eq_true_iff.1 hw
    exact Bool.and_eq_true_iff.2 ⟨(Bool.and_eq_true_iff.1 hpath).2, hunit⟩
  | nandOperationDispatch lun op => exact onDevice_answers (answers_atUnit_wf (by cases op <;> rfl))
  | clean p => exact onDevice_answers (answers_clean p _ _ _)
  | squashFrom p => exact onDevice_answers (answers_squashFrom p _ _ _)
  | tackleContext | tackleCodes | tackleStatistics =>
    exact onDevice_answers (answers_packetRow fun hw => Packet.of_units (Bool.and_eq_true_iff.1 hw).1)

/-! ## The step -/

theorem step_of_idle {s : State} (h : s.pending = []) : step s = .next (s.after s.tick) := by
  unfold step
  split
  · rfl
  · next hc => exact nomatch h.symm.trans hc

theorem step_of_pending {s : State} {c : Instr} {rest : List Instr} (h : s.pending = c :: rest) :
    step s = exec c { s with pending := rest } := by
  unfold step
  rw [h]

/-- Settles O5: the one refusal of the model is that of a unit that the device lacks. -/
theorem nothingFaults : Obligations.NothingFaults := by
  unfold Obligations.NothingFaults
  intro c s
  obtain ⟨t, ht, _⟩ | ⟨hrefused, _⟩ := exec_answers c s
  · exact .inl ⟨t, ht⟩
  · exact .inr hrefused

/-- A well-formed command goes on, and leaves the queue as it was. -/
theorem exec_goes_of_wf {i : Instr} (h : i.wf = true) (s : State) : ∃ t, exec i s = .next t ∧ t.pending = s.pending :=
  (exec_answers i s).resolve_right fun hno => absurd (h.symm.trans hno.2) nofun

/-- Settles O4: the step takes the front of the queue, which is well formed, and leaves a rest that is well formed. -/
theorem wellFormedRunsOn : Obligations.WellFormedRunsOn := by
  unfold Obligations.WellFormedRunsOn
  intro s hs
  cases hq : s.pending with
  | nil => exact ⟨s.after s.tick, step_of_idle hq, hs⟩
  | cons c rest =>
    simp only [State.queueOk, hq, List.all_cons, Bool.and_eq_true] at hs
    obtain ⟨hfront, hrest⟩ := hs
    obtain ⟨t, ht, hpending⟩ := exec_goes_of_wf hfront { s with pending := rest }
    exact ⟨t, (step_of_pending hq).trans ht, by rw [State.queueOk, hpending]; exact hrest⟩

end Sys2Proof.Machine

/-! PROOFS. The package and its dies: the stays' numbers, the nanosecond of an idle step, the state after reset, host ranges and time. -/

namespace Sys2Proof.Machine

/-! ## Places of dies and stays -/

theorem column_of_place {x y : Nat} (h : x < 10) : (y * 10 + x) % 10 = x := by omega

theorem row_of_place {x y : Nat} (h : x < 10) : (y * 10 + x) / 10 = y := by omega

/-- Settles O60: the column and the row of each die give both ends of a stay the same number. -/
theorem stayIds : Obligations.StayIds := by
  unfold Obligations.StayIds
  refine ⟨fun x y hx hy => ?_, fun x y hx hy => ?_⟩
  · have hwest : x < 10 := by omega
    have heast : x + 1 < 10 := by omega
    simp only [stayAt, peerOf, column_of_place hwest, row_of_place hwest, column_of_place heast, row_of_place heast]
    refine ⟨rfl, ?_, by omega, ?_, ?_⟩
    · simp
    · simp [hx, Nat.add_assoc]
    · simp
  · simp only [stayAt, peerOf, column_of_place hx, row_of_place hx]
    refine ⟨rfl, ?_, by omega, by omega, ?_, ?_⟩
    · simp
    · simp [hy]; omega
    · simp; omega

/-! ## The nanosecond of an idle step -/

/-- A die's oscillator changes its own counter only, and draws a free value where it may drift (R30, log entry 153). -/
theorem Device.tickClock_spec (s : Device) (i : Nat) :
    { s.tickClock i with free := s.free, clocks := s.clocks } = s ∧ (∀ j, j ≠ i → (s.tickClock i).clock j = s.clock j) ∧
    ∃ v, (s.tickClock i).clock i = (s.clock i).advance v := by
  have hset (t : Device) (v : Nat) (ht : t.clocks = s.clocks) :
      (∀ j, j ≠ i → (t.setClock i ((s.clock i).advance v)).clock j = s.clock j) ∧
      (t.setClock i ((s.clock i).advance v)).clock i = (s.clock i).advance v := by
    simp only [Device.clock, Device.setClock, ht]
    exact ⟨fun j hj => nget_nset_ne _ _ _ _ _ _ hj, nget_nset_same _ _ _ _⟩
  unfold Device.tickClock
  dsimp only
  split
  · obtain ⟨hne, hsame⟩ := hset s 0 rfl
    exact ⟨rfl, hne, 0, hsame⟩
  · obtain ⟨hne, hsame⟩ := hset s.draw.2 s.draw.1 rfl
    exact ⟨rfl, hne, _, hsame⟩

/-- A counter that advances stays within 20 ppm of the time it has run for (R30). -/
theorem MastClock.advance_bound (c : MastClock) (v : Nat) : (c.advance v).ran = c.ran + 1 ∧
    (c.advance v).ran - oscBound (c.advance v).ran ≤ (c.advance v).counter ∧
    (c.advance v).counter ≤ (c.advance v).ran + oscBound (c.advance v).ran := by
  unfold MastClock.advance
  dsimp only
  omega

/-- Settles O2: a step on an empty queue is the tick of the device, in which each oscillator counts on within its bound. -/
theorem idleTick : Obligations.IdleTick := by
  unfold Obligations.IdleTick
  refine ⟨fun s hs => ⟨step_of_idle hs, fun hoff => ?_, fun hon => ?_⟩, Device.tickClock_spec, MastClock.advance_bound⟩
  · exact if_pos hoff
  · exact if_neg (by omega)

/-! ## The state after reset -/

/-- Settles O6: the maps of the reset state are empty, so each location and register reads its reset value. -/
theorem resetState : Obligations.ResetState := by
  unfold Obligations.ResetState
  refine ⟨rfl, rfl, rfl, rfl, fun _ => rfl, fun _ _ _ => rfl, fun _ _ _ => rfl, rfl,
    by decide +kernel, by decide +kernel, by decide +kernel, rfl, rfl⟩

/-! ## Host ranges and time -/

/-- A Ryern row that nothing keeps from running: its effect where its check passes, else its end with the status of the check. -/
theorem next_of_ryern {out : Out} {s : State} {c : Cmd} {op : Nat} {reserved : List Nat} {admin : Bool}
    {check : Device → Nat → Option (Nat × Nat)} {body : Device → Nat → Device}
    (h : out = onDevice s fun d => ryern d c op reserved admin check body)
    (hc : Cmd.of op c = true) (hr : s.runs c reserved admin = true) :
    (check (s.begin c).2 (s.begin c).1 = none → out = .next (s.after (body (s.begin c).2 (s.begin c).1))) ∧
    (∀ st r, check (s.begin c).2 (s.begin c).1 = some (st, r) →
      out = .next (s.after ((s.begin c).2.finish (s.begin c).1 st r))) :=
  ⟨fun hk => next_of h (ryern_runs _ _ _ _ _ _ _ hc hr hk), fun _ _ hk => next_of h (ryern_ends _ _ _ _ _ _ _ hc hr _ _ hk)⟩

section
variable {c : Cmd} {s : Device} {n : Nat}

/-- A range that is not of 4 KiB units, that is too large or that has reserved access bits fails the first check (R438). -/
theorem checkHostRegister_of_bad (h : fld c.slot 16 8 % 4096 ≠ 0 ∨ fld c.slot 24 8 % 4096 ≠ 0 ∨ 2 ^ 40 < fld c.slot 24 8 ∨
    4 ≤ fld c.slot 32 1) : checkHostRegister c s n = some (St.invalidField, 0) := by
  have hfail : (fld c.slot 16 8 % 4096 != 0 || fld c.slot 24 8 % 4096 != 0 || decide (2 ^ 40 < fld c.slot 24 8)
      || decide (4 ≤ fld c.slot 32 1)) = true := by
    simpa only [Bool.or_eq_true, bne_iff_ne, decide_eq_true_eq, or_assoc] using h
  rw [checkHostRegister, hfail]
  rfl

/-- A sound range fails only where the LD has no free number (R438). -/
theorem checkHostRegister_of_sound (hbase : fld c.slot 16 8 % 4096 = 0) (hlength : fld c.slot 24 8 % 4096 = 0)
    (hmax : fld c.slot 24 8 ≤ 2 ^ 40) (haccess : fld c.slot 32 1 < 4) : checkHostRegister c s n =
      if (List.range 4096).all (fun h => (s.hreg c.ld h).isSome) then some (St.refusedCapacity, 0) else none := by
  have hpass : (fld c.slot 16 8 % 4096 != 0 || fld c.slot 24 8 % 4096 != 0 || decide (2 ^ 40 < fld c.slot 24 8)
      || decide (4 ≤ fld c.slot 32 1)) = false := by
    simp only [hbase, hlength, Nat.not_lt.2 hmax, Nat.not_le.2 haccess, bne_self_eq_false, decide_false, Bool.or_self]
  rw [checkHostRegister, hpass]
  simp only [firstFail, Bool.false_eq_true, if_false]

/-- The search for a free number of an LD finds the lowest (R438). -/
theorem find?_free_hreg {h : Nat} (hh : h < 4096) (hfree : s.hreg c.ld h = none) (hused : ∀ k < h, (s.hreg c.ld k).isSome = true) :
    (List.range 4096).find? (fun h => (s.hreg c.ld h).isNone) = some h := by
  rw [List.find?_range_eq_some]
  exact ⟨by simp [hfree], List.mem_range.2 hh, fun k hk => by simpa [Option.isSome_iff_ne_none] using hused k hk⟩

/-- A HOST_REGISTER puts its range at the free number that the search finds; the search's result is a variable here, so that the list of
4,096 numbers is not written out. -/
theorem runHostRegister_of_free {h : Nat} (hh : h < 4096) (hfree : s.hreg c.ld h = none)
    (hused : ∀ k < h, (s.hreg c.ld k).isSome = true) : runHostRegister c s n =
      (s.setLd c.ld { s.ld c.ld with
        hregs := nset none (s.ld c.ld).hregs h (some (fld c.slot 16 8, fld c.slot 24 8, fld c.slot 32 1)) }).finish n St.ok h := by
  have hfind := find?_free_hreg hh hfree hused
  delta runHostRegister
  generalize (List.range 4096).find? (fun h => (s.hreg c.ld h).isNone) = r at hfind ⊢
  rw [hfind]

theorem checkHostDeregister_of_unused (h : s.hreg c.ld (fld c.slot 16 2) = none) :
    checkHostDeregister c s n = some (St.invalidField, 0) := by
  rw [checkHostDeregister, h]
  rfl

end

/-- What a HOST_REGISTER that nothing keeps from running does: the check of its range, then the lowest free number (R438). -/
theorem exec_hostRegister (s : State) (c : Cmd) (hc : Cmd.of 0x13 c = true) (hr : s.runs c (bytesOf 33 63) false = true) :
    ((fld c.slot 16 8 % 4096 ≠ 0 ∨ fld c.slot 24 8 % 4096 ≠ 0 ∨ 2 ^ 40 < fld c.slot 24 8 ∨ 4 ≤ fld c.slot 32 1) →
      exec (.hostRegister c) s = .next (s.after ((s.begin c).2.finish (s.begin c).1 St.invalidField 0))) ∧
    (fld c.slot 16 8 % 4096 = 0 → fld c.slot 24 8 % 4096 = 0 → fld c.slot 24 8 ≤ 2 ^ 40 → fld c.slot 32 1 < 4 →
      ((∀ h < 4096, ((s.begin c).2.hreg c.ld h).isSome = true) →
        exec (.hostRegister c) s = .next (s.after ((s.begin c).2.finish (s.begin c).1 St.refusedCapacity 0))) ∧
      (∀ h < 4096, ((s.begin c).2.hreg c.ld h) = none → (∀ k < h, ((s.begin c).2.hreg c.ld k).isSome = true) →
        exec (.hostRegister c) s = .next (s.after (((s.begin c).2.setLd c.ld { (s.begin c).2.ld c.ld with
          hregs := nset none ((s.begin c).2.ld c.ld).hregs h (some (fld c.slot 16 8, fld c.slot 24 8, fld c.slot 32 1)) }).finish
            (s.begin c).1 St.ok h)))) := by
  obtain ⟨hruns, hends⟩ := next_of_ryern (out := execHostRegister c s) rfl hc hr
  refine ⟨fun hbad => hends _ _ (checkHostRegister_of_bad hbad), fun hbase hlength hmax haccess => ⟨fun hfull => ?_,
    fun h hh hfree hused => ?_⟩⟩
  · have hall : (List.range 4096).all (fun h => ((s.begin c).2.hreg c.ld h).isSome) = true :=
      List.all_eq_true.2 fun h hh => hfull h (List.mem_range.1 hh)
    exact hends _ _ ((checkHostRegister_of_sound hbase hlength hmax haccess).trans (if_pos hall))
  · have hnot : ¬ (List.range 4096).all (fun h => ((s.begin c).2.hreg c.ld h).isSome) = true := fun hall => by
      have hsome : ((s.begin c).2.hreg c.ld h).isSome = true := List.all_eq_true.1 hall h (List.mem_range.2 hh)
      rw [hfree] at hsome
      exact nomatch hsome
    have heffect := hruns ((checkHostRegister_of_sound hbase hlength hmax haccess).trans (if_neg hnot))
    rwa [runHostRegister_of_free hh hfree hused] at heffect

/-- Settles O25: each command is a Ryern row with the checks of its rule, and TIME_ANCHOR_MGMT an event at a coordination die. -/
theorem hostRangesAndTime : Obligations.HostRangesAndTime := by
  unfold Obligations.HostRangesAndTime
  intro s c
  refine ⟨next_of_ryern (out := execRegRead c s) rfl, next_of_ryern (out := execRegWrite c s) rfl, fun hc hr => ?_,
    exec_hostRegister s c, fun hc hr => ?_, fun die utc hdie => ?_⟩
  · exact (next_of_ryern (out := execTimeAnchor c s) rfl hc hr).1 rfl
  · obtain ⟨hruns, hends⟩ := next_of_ryern (out := execHostDeregister c s) rfl hc hr
    exact ⟨fun hfree => hends _ _ (checkHostDeregister_of_unused hfree), hruns⟩
  · refine next_of (out := execTimeAnchorMgmt die utc s) rfl (atUnit_eq _ _ ?_)
    obtain rfl | rfl | rfl | rfl := hdie <;> rfl

end Sys2Proof.Machine

/-! PROOFS. Flits, replays, retraining and failure of the stays of the mesh and of the mirror (R39, R55, R58, R65, R66, R524). -/

namespace Sys2Proof.Machine

/-! ## The rows of a stay's end -/

theorem mirrorOk_of_portOk {die port : Nat} (h : portOk die port = true) : mirrorOk die port = false := by
  simp only [portOk, Bool.and_eq_true, decide_eq_true_eq] at h
  simp only [mirrorOk, Bool.and_eq_false_iff, Bool.or_eq_false_iff, beq_eq_false_iff_ne]
  omega

theorem mirrorOk_of_hub {die m : Nat} (hdie : die = 42 ∨ die = 52) (hm : m < 2) : mirrorOk die (4 + m) = true := by
  simp only [mirrorOk, Bool.and_eq_true, Bool.or_eq_true, beq_iff_eq]
  omega

section
variable {out : Out} {s : State} {die port : Nat} {mirror mesh : Device → Device}

/-- A link event at a port of the mesh. -/
theorem next_of_port (h : out = onDevice s fun d => if mirrorOk die port then .next (mirror d) else atUnit (portOk die port) (mesh d))
    (hport : portOk die port = true) : out = .next (s.after (mesh s.toDevice)) :=
  next_of h (by rw [mirrorOk_of_portOk hport, hport]; rfl)

/-- A link event at an end of a mirror stay (log entry 146). -/
theorem next_of_mirror (h : out = onDevice s fun d => if mirrorOk die port then .next (mirror d) else atUnit (portOk die port) (mesh d))
    (hmirror : mirrorOk die port = true) : out = .next (s.after (mirror s.toDevice)) :=
  next_of h (by rw [hmirror]; rfl)

end

section
variable {s : Device} {die port : Nat}

/-! ## Flits -/

theorem onFlitReceive_of_not_next {head : BitVec 128} {ord : Nat} {ecc : Ecc}
    (h : s.pump.portState die port ≠ 2 ∨ s.pump.nextFlit die port head ord = false) : onFlitReceive die port head ord ecc s = s.pump := by
  unfold onFlitReceive
  cases peerOf die port with
  | none => rfl
  | some e =>
    refine if_pos ?_
    obtain hdown | hother := h
    · exact .inl hdown
    · exact .inr (.inr (by rw [hother]; rfl))

/-- The flit that comes next is refused where it cannot be corrected, and taken otherwise (R39, R58). -/
theorem onFlitReceive_of_next {e : Nat} {head : BitVec 128} {ord : Nat} (ecc : Ecc) (hpeer : peerOf die port = some e)
    (hup : s.pump.portState die port = 2) (hnak : nget none s.pump.fab.nak (linkKey e (oppPort port)) = none)
    (hnext : s.pump.nextFlit die port head ord = true) : onFlitReceive die port head ord ecc s =
      if ecc = .uncorrectable then s.pump.refuseFlit e (oppPort port) else s.pump.acceptFlit die port e head ord ecc := by
  unfold onFlitReceive
  rw [hpeer]
  refine if_neg ?_
  simp [hup, hnak, hnext]

/-- What a flit that is taken does after its counts: it leaves the sender's replay buffer and goes on (R58). -/
def Device.passFlit (s : Device) (die port e : Nat) (head : BitVec 128) (ord : Nat) : Device :=
  (((s.ackFlit e (oppPort port)).takeFlit die port head ord).poisonHeld die).pump

section
variable (s die port) (e : Nat) (head : BitVec 128) (ord : Nat)

theorem Device.acceptFlit_clean : s.acceptFlit die port e head ord .clean =
    (s.inc (portReg Reg.STAY_PORT_RX_FLITS port) die 1).passFlit die port e head ord := by
  simp only [Device.acceptFlit, Device.passFlit, reduceCtorEq, if_false]

theorem Device.acceptFlit_corrected : s.acceptFlit die port e head ord .corrected =
    (((s.inc (portReg Reg.STAY_PORT_RX_FLITS port) die 1).inc (portReg Reg.STAY_PORT_CORRECTED port) die 1).portErr die port 1).passFlit
      die port e head ord := by
  simp only [Device.acceptFlit, Device.passFlit, reduceCtorEq, if_false, if_true]

theorem Device.acceptFlit_poison : s.acceptFlit die port e head ord .poison =
    ((s.inc (portReg Reg.STAY_PORT_RX_FLITS port) die 1).markFlit head ord).passFlit die port e head ord := by
  simp only [Device.acceptFlit, Device.passFlit, reduceCtorEq, if_false, if_true]

end

/-- With flits under way, the one that comes next is the oldest of them (R58). -/
theorem Device.nextFlit_oldest {e : Nat} {head : BitVec 128} {ord : Nat} {f : Flit} {l : List Flit} (hpeer : peerOf die port = some e)
    (hnext : s.nextFlit die port head ord = true) (hsent : s.unacked e (oppPort port) = f :: l) : f.head = head ∧ f.ord = ord := by
  simpa [Device.nextFlit, hpeer, hsent] using hnext

/-- The refusal of a flit names the sequence number of the oldest that is not acknowledged (R58). -/
theorem Device.refuseFlit_nak {f : Flit} {l : List Flit} (hsent : s.unacked die port = f :: l) :
    nget none (s.refuseFlit die port).fab.nak (linkKey die port) = some f.seq := by
  rw [Device.refuseFlit, hsent]
  exact nget_nset_same none s.fab.nak (linkKey die port) (some f.seq)

/-! ## Replays, retraining and failure -/

theorem onLinkNak_of_not_held {seq : Nat} (h : s.portState die port ≠ 2 ∨ (s.unacked die port).dropWhile (fun f => f.seq ≠ seq) = []) :
    onLinkNak die port seq s = s := by
  refine if_pos ?_
  rwa [List.isEmpty_iff]

/-- What a replay notes of the refused flit, before its counts: how often in a row it has been refused (R58, R69). -/
def Device.noteReplay (s : Device) (die port seq : Nat) : Device :=
  { s with fab := { s.fab with
      replays := nset (0, 0) s.fab.replays (linkKey die port)
        (seq, if (nget (0, 0) s.fab.replays (linkKey die port)).1 = seq then (nget (0, 0) s.fab.replays (linkKey die port)).2 + 1 else 1)
      nak := nset none s.fab.nak (linkKey die port) none } }

theorem Device.noteReplay_nak (seq : Nat) : nget none (s.noteReplay die port seq).fab.nak (linkKey die port) = none :=
  nget_nset_same none s.fab.nak _ none

theorem Device.noteReplay_replays (seq : Nat) : nget (0, 0) (s.noteReplay die port seq).fab.replays (linkKey die port) =
    (seq, if (nget (0, 0) s.fab.replays (linkKey die port)).1 = seq then (nget (0, 0) s.fab.replays (linkKey die port)).2 + 1 else 1) :=
  nget_nset_same (0, 0) s.fab.replays _ _

theorem onLinkNak_of_held {seq : Nat} (hup : s.portState die port = 2)
    (hheld : (s.unacked die port).dropWhile (fun f => f.seq ≠ seq) ≠ []) : onLinkNak die port seq s =
      (((s.noteReplay die port seq).inc (portReg Reg.STAY_PORT_REPLAYS port) die 1).inc (portReg Reg.STAY_PORT_TX_FLITS port) die
        ((s.unacked die port).dropWhile (fun f => f.seq ≠ seq)).length).portErr die port 2 := by
  refine if_neg ?_
  rw [List.isEmpty_iff]
  exact not_or.2 ⟨not_not_intro hup, hheld⟩

theorem onLinkRetrain_of_few (h : s.portState die port ≠ 2 ∨ (nget (0, 0) s.fab.replays (linkKey die port)).2 < 16) :
    onLinkRetrain die port s = s := if_pos h

theorem onLinkRetrain_of_many {e : Nat} (hpeer : peerOf die port = some e) (hup : s.portState die port = 2)
    (hmany : 16 ≤ (nget (0, 0) s.fab.replays (linkKey die port)).2) :
    onLinkRetrain die port s = ((s.stayState die port 3).portErr die port 4).portErr e (oppPort port) 4 := by
  unfold onLinkRetrain
  rw [if_neg (by omega), hpeer]

theorem onLinkRetrainEnd_of_not_training {ok : Bool} {lane : Option Nat} (h : s.portState die port ≠ 3) :
    onLinkRetrainEnd die port ok lane s = s := if_pos h

/-- A retrain that fails, or that finds a faulty lane with both spares in use, fails the stay (R65). -/
theorem onLinkRetrainEnd_of_failed {ok : Bool} {lane : Option Nat} (htrain : s.portState die port = 3)
    (h : ok = false ∨ lane.isSome = true ∧ s.rdf (portReg Reg.STAY_PORT_SPARES port) die 1 0 = 2) :
    onLinkRetrainEnd die port ok lane s = s.stayFail die port 0 := by
  unfold onLinkRetrainEnd
  rw [if_neg (not_not_intro htrain), if_pos (by simpa using h)]

theorem onLinkRetrainEnd_of_sound (htrain : s.portState die port = 3) :
    onLinkRetrainEnd die port true none s = s.stayUp die port := by
  unfold onLinkRetrainEnd
  rw [if_neg (not_not_intro htrain), if_neg (by simp)]

theorem onLinkRetrainEnd_of_spare {e lane : Nat} (hpeer : peerOf die port = some e) (htrain : s.portState die port = 3)
    (hspare : s.rdf (portReg Reg.STAY_PORT_SPARES port) die 1 0 ≠ 2) : onLinkRetrainEnd die port true (some lane) s =
      ((s.useSpare die port 0 lane).useSpare e (oppPort port) 2 lane).stayUp die port := by
  unfold onLinkRetrainEnd
  rw [if_neg (not_not_intro htrain), if_neg (by simpa using hspare), hpeer]

theorem onHandshakeTimeout_of_idle (h : s.portState die port ≠ 2 ∨ s.creditsOut die port = false) :
    onHandshakeTimeout die port s = s := by
  refine if_neg fun hc => ?_
  obtain hdown | hnone := h
  · exact hdown hc.1
  · simp [hnone] at hc

theorem onHandshakeTimeout_of_credits {e : Nat} (hpeer : peerOf die port = some e) (hup : s.portState die port = 2)
    (hout : s.creditsOut die port = true) : onHandshakeTimeout die port s = (s.portFail die port 0x40).portFail e (oppPort port) 0 := by
  unfold onHandshakeTimeout
  rw [if_pos ⟨hup, hout⟩, Device.stayFail, hpeer]

/-! ## Mirror stays -/

theorem bits_eq_mod_div {n hi lo : Nat} (h : lo ≤ hi) : bits n hi lo = n % 2 ^ (hi + 1) / 2 ^ lo := by
  have hpow : 2 ^ lo * 2 ^ (hi + 1 - lo) = 2 ^ (hi + 1) := by rw [← Nat.pow_add]; congr 1; omega
  rw [bits, ← Nat.mod_mul_right_div_self, hpow]

/-- A field below the one written reads as before. -/
theorem bits_setBits_below {n hi lo v hi' lo' : Nat} (hwritten : lo ≤ hi) (hread : lo' ≤ hi') (h : hi' < lo) :
    bits (setBits n hi lo v) hi' lo' = bits n hi' lo' := by
  have hmod : setBits n hi lo v % 2 ^ (hi' + 1) = n % 2 ^ (hi' + 1) := by
    obtain ⟨a, ha⟩ : 2 ^ lo ∣ 2 ^ (hi + 1) := Nat.pow_dvd_pow 2 (by omega)
    have hlow : setBits n hi lo v % 2 ^ lo = n % 2 ^ lo := by
      have he : setBits n hi lo v = n % 2 ^ lo + 2 ^ lo * (n / 2 ^ (hi + 1) * a + v % 2 ^ (hi + 1 - lo)) := by
        rw [setBits, ha, Nat.mul_add, Nat.mul_left_comm (2 ^ lo), Nat.mul_comm (2 ^ lo) (v % _)]
        exact Nat.add_comm _ _
      rw [he, Nat.add_mul_mod_self_left, Nat.mod_mod]
    have hdvd : 2 ^ (hi' + 1) ∣ 2 ^ lo := Nat.pow_dvd_pow 2 (by omega)
    rw [← Nat.mod_mod_of_dvd _ hdvd, hlow, Nat.mod_mod_of_dvd _ hdvd]
  rw [bits_eq_mod_div hread, bits_eq_mod_div hread, hmod]

/-- A field above the one written reads as before. -/
theorem bits_setBits_above {n hi lo v hi' lo' : Nat} (hwritten : lo ≤ hi) (h : hi < lo') :
    bits (setBits n hi lo v) hi' lo' = bits n hi' lo' := by
  have hpow : 2 ^ (hi + 1) = 2 ^ (hi + 1 - lo) * 2 ^ lo := by rw [← Nat.pow_add]; congr 1; omega
  have hfield : v % 2 ^ (hi + 1 - lo) * 2 ^ lo + n % 2 ^ lo < 2 ^ (hi + 1) := by
    have hv : v % 2 ^ (hi + 1 - lo) + 1 ≤ 2 ^ (hi + 1 - lo) := Nat.mod_lt _ (Nat.two_pow_pos _)
    have hn := Nat.mod_lt n (Nat.two_pow_pos lo)
    have hmul := Nat.mul_le_mul_right (2 ^ lo) hv
    rw [Nat.add_mul, ← hpow] at hmul
    omega
  have hhigh : setBits n hi lo v / 2 ^ (hi + 1) = n / 2 ^ (hi + 1) := by
    rw [setBits, Nat.add_assoc, Nat.mul_comm (n / _), Nat.mul_add_div (Nat.two_pow_pos _), Nat.div_eq_of_lt hfield, Nat.add_zero]
  have hsplit : 2 ^ lo' = 2 ^ (hi + 1) * 2 ^ (lo' - (hi + 1)) := by rw [← Nat.pow_add]; congr 1; omega
  rw [bits, bits, hsplit, ← Nat.div_div_eq_div_mul, hhigh, Nat.div_div_eq_div_mul]

theorem Device.mirrorState_wrf_ne {m r i hi lo v : Nat} (h : regAddr Reg.STAY_MIRROR_STATUS 42 ≠ regAddr r i) :
    (s.wrf r i hi lo v).mirrorState m = s.mirrorState m := Device.rdf_wr_ne _ _ _ _ _ _ _ _ h

/-- Both ends of a mirror stay take a state, before the path of the mirror is looked at. -/
def Device.writeMirror (s : Device) (m st : Nat) : Device :=
  (s.wrf Reg.STAY_MIRROR_STATUS 42 (4 * m + 3) (4 * m) st).wrf Reg.STAY_MIRROR_STATUS 52 (4 * m + 3) (4 * m) st

theorem Device.setMirror_eq (m st : Nat) : s.setMirror m st =
    if (s.writeMirror m st).mirrorState 0 = 4 ∧ (s.writeMirror m st).mirrorState 1 = 4 then
      (s.writeMirror m st).wrf Reg.AVL_STATUS 0 2 2 1
    else s.writeMirror m st := rfl

theorem Device.mirrorState_writeMirror_same {m st : Nat} (hst : st < 16) : (s.writeMirror m st).mirrorState m = st := by
  have hwidth : 4 * m + 3 + 1 - 4 * m = 4 := by omega
  rw [Device.writeMirror, Device.mirrorState_wrf_ne (by decide), Device.mirrorState, Device.rdf_wrf_same _ _ _ _ _ _ (by omega), hwidth]
  exact Nat.mod_eq_of_lt hst

theorem Device.mirrorState_writeMirror_other {m st : Nat} (hm : m < 2) :
    (s.writeMirror m st).mirrorState (1 - m) = s.mirrorState (1 - m) := by
  rw [Device.writeMirror, Device.mirrorState_wrf_ne (by decide)]
  simp only [Device.mirrorState, Device.rdf, Device.wrf, Device.rd_wr_same]
  obtain rfl | rfl : m = 0 ∨ m = 1 := by omega
  · exact bits_setBits_above (by decide) (by decide)
  · exact bits_setBits_below (by decide) (by decide) (by decide)

theorem Device.mirrorState_setMirror (m st k : Nat) : (s.setMirror m st).mirrorState k = (s.writeMirror m st).mirrorState k := by
  rw [Device.setMirror_eq]
  split
  · exact Device.mirrorState_wrf_ne (by decide)
  · rfl

/-- The mirror runs over the mesh once both stays have failed (R12, R524). -/
theorem Device.setMirror_failed {m : Nat} (hm : m < 2) (hother : s.mirrorState (1 - m) = 4) :
    (s.setMirror m 4).rdf Reg.AVL_STATUS 0 2 2 = 1 := by
  have hthis : (s.writeMirror m 4).mirrorState m = 4 := Device.mirrorState_writeMirror_same (by decide)
  have hthat := (Device.mirrorState_writeMirror_other (s := s) (st := 4) hm).trans hother
  have hboth : (s.writeMirror m 4).mirrorState 0 = 4 ∧ (s.writeMirror m 4).mirrorState 1 = 4 := by
    obtain rfl | rfl : m = 0 ∨ m = 1 := by omega
    · exact ⟨hthis, hthat⟩
    · exact ⟨hthat, hthis⟩
  rw [Device.setMirror_eq, if_pos hboth]
  exact Device.rdf_wrf_same _ _ _ _ _ _ (by decide)

theorem Device.moveMirror_of_eq {m old st : Nat} (h : s.mirrorState m = old) : s.moveMirror m old st = s.setMirror m st := if_pos h

theorem Device.moveMirror_of_ne {m old st : Nat} (h : s.mirrorState m ≠ old) : s.moveMirror m old st = s := if_neg h

section
variable {m : Nat}

theorem Device.mirrorNak_of_down {seq : Nat} (h : s.mirrorState m ≠ 2) : s.mirrorNak die (4 + m) seq = s := by
  rw [Device.mirrorNak, Nat.add_sub_cancel_left, if_pos h]

theorem Device.mirrorNak_of_up {seq : Nat} (h : s.mirrorState m = 2) : s.mirrorNak die (4 + m) seq =
    { s with fab := { s.fab with replays := nset (0, 0) s.fab.replays (linkKey die (4 + m)) (seq,
      if (nget (0, 0) s.fab.replays (linkKey die (4 + m))).1 = seq then (nget (0, 0) s.fab.replays (linkKey die (4 + m))).2 + 1 else 1) } } := by
  rw [Device.mirrorNak, Nat.add_sub_cancel_left, if_neg (not_not_intro h)]

theorem Device.mirrorRetrain_of_few (h : s.mirrorState m ≠ 2 ∨ (nget (0, 0) s.fab.replays (linkKey die (4 + m))).2 < 16) :
    s.mirrorRetrain die (4 + m) = s := by
  rw [Device.mirrorRetrain, Nat.add_sub_cancel_left]
  split
  · rfl
  · next hmany => exact Device.moveMirror_of_ne (h.resolve_right hmany)

theorem Device.mirrorRetrain_of_many (hup : s.mirrorState m = 2) (hmany : 16 ≤ (nget (0, 0) s.fab.replays (linkKey die (4 + m))).2) :
    s.mirrorRetrain die (4 + m) = s.setMirror m 3 := by
  rw [Device.mirrorRetrain, Nat.add_sub_cancel_left, if_neg (by omega), Device.moveMirror_of_eq hup]

theorem Device.mirrorRetrainEnd_of_not_training {ok : Bool} {lane : Option Nat} (h : s.mirrorState m ≠ 3) :
    s.mirrorRetrainEnd die (4 + m) ok lane = s := by
  rw [Device.mirrorRetrainEnd, Nat.add_sub_cancel_left]
  exact if_pos h

/-- A retrain of a mirror stay that fails, or that finds a faulty lane with both spares in use, fails it (R65). -/
theorem Device.mirrorRetrainEnd_of_failed {ok : Bool} {lane : Option Nat} (htrain : s.mirrorState m = 3)
    (h : ok = false ∨ lane.isSome = true ∧ nget 0 s.fab.spares (linkKey die (4 + m)) = 2) :
    s.mirrorRetrainEnd die (4 + m) ok lane = s.setMirror m 4 := by
  rw [Device.mirrorRetrainEnd, Nat.add_sub_cancel_left]
  dsimp only
  rw [if_neg (not_not_intro htrain), if_pos (by simpa using h)]

/-- What a retrain that succeeds leaves at an end of a mirror stay, before its state: the replays forgotten and a spare lane in use
(R65). -/
def Device.mirrorTrained (s : Device) (die port : Nat) (lane : Option Nat) : Device :=
  { s with fab := { s.fab with
      replays := nset (0, 0) s.fab.replays (linkKey die port) (0, 0)
      spares := nset 0 s.fab.spares (linkKey die port) (nget 0 s.fab.spares (linkKey die port) + b2n lane.isSome) } }

theorem Device.mirrorRetrainEnd_of_sound {lane : Option Nat} (htrain : s.mirrorState m = 3)
    (h : lane = none ∨ nget 0 s.fab.spares (linkKey die (4 + m)) ≠ 2) :
    s.mirrorRetrainEnd die (4 + m) true lane = (s.mirrorTrained die (4 + m) lane).setMirror m 2 := by
  have hpass : (!true || lane.isSome && nget 0 s.fab.spares (linkKey die (4 + m)) == 2) = false := by
    obtain rfl | hspare := h
    · rfl
    · simp [hspare]
  rw [Device.mirrorRetrainEnd, Nat.add_sub_cancel_left]
  dsimp only
  rw [if_neg (not_not_intro htrain), hpass]
  rfl

end

end

/-! ## The statement -/

/-- Settles O35: at a port of the mesh each event has its effect where the state of the port, the replay buffer and the replays allow it,
and does nothing elsewhere; the mirror stays go through the same states. -/
theorem flitsAndReplays : Obligations.FlitsAndReplays := by
  unfold Obligations.FlitsAndReplays
  refine ⟨fun s die port hport => ?_, fun s die m hdie hm => ?_⟩
  · have hreceive (head ord ecc) := next_of_port (out := execFlitReceive die port head ord ecc s) rfl hport
    have hnak (seq) := next_of_port (out := execLinkNak die port seq s) rfl hport
    have hretrain := next_of_port (out := execLinkRetrain die port s) rfl hport
    have hend (ok lane) := next_of_port (out := execLinkRetrainEnd die port ok lane s) rfl hport
    have htimeout := next_of_port (out := execHandshakeTimeout die port s) rfl hport
    refine ⟨fun head ord ecc h => ?_, fun e head ord hpeer hup hnone hnext => ?_, fun seq => ⟨fun h => ?_, fun hup hheld => ?_⟩,
      fun h => ?_, fun e hpeer hup hmany => ?_, fun ok lane h => ?_, fun lane htrain => ?_, fun lane htrain hspare => ?_,
      fun htrain => ?_, fun e lane hpeer htrain hspare => ?_, fun h => ?_, fun e hpeer hup hout => ?_⟩
    · exact (hreceive head ord ecc).trans (by rw [onFlitReceive_of_not_next h])
    · have hnow (ecc) := onFlitReceive_of_next ecc hpeer hup hnone hnext
      refine ⟨(hreceive head ord .clean).trans ?_, (hreceive head ord .corrected).trans ?_, (hreceive head ord .poison).trans ?_,
        (hreceive head ord .uncorrectable).trans ?_, fun f l hsent => ?_⟩
      · rw [hnow, if_neg nofun, Device.acceptFlit_clean]; rfl
      · rw [hnow, if_neg nofun, Device.acceptFlit_corrected]; rfl
      · rw [hnow, if_neg nofun, Device.acceptFlit_poison]; rfl
      · rw [hnow, if_pos rfl]
      · obtain ⟨hhead, hord⟩ := Device.nextFlit_oldest hpeer hnext hsent
        exact ⟨hhead, hord, Device.refuseFlit_nak hsent⟩
    · exact (hnak seq).trans (by rw [onLinkNak_of_not_held h]; rfl)
    · exact ⟨s.noteReplay die port seq, (hnak seq).trans (by rw [onLinkNak_of_held hup hheld]), rfl, Device.noteReplay_nak seq,
        Device.noteReplay_replays seq⟩
    · exact hretrain.trans (by rw [onLinkRetrain_of_few h]; rfl)
    · exact hretrain.trans (by rw [onLinkRetrain_of_many hpeer hup hmany])
    · exact (hend ok lane).trans (by rw [onLinkRetrainEnd_of_not_training h]; rfl)
    · exact (hend false lane).trans (by rw [onLinkRetrainEnd_of_failed htrain (.inl rfl)])
    · exact (hend true (some lane)).trans (by rw [onLinkRetrainEnd_of_failed htrain (.inr ⟨rfl, hspare⟩)])
    · exact (hend true none).trans (by rw [onLinkRetrainEnd_of_sound htrain])
    · exact (hend true (some lane)).trans (by rw [onLinkRetrainEnd_of_spare hpeer htrain hspare])
    · exact htimeout.trans (by rw [onHandshakeTimeout_of_idle h]; rfl)
    · exact htimeout.trans (by rw [onHandshakeTimeout_of_credits hpeer hup hout])
  · have hmirror := mirrorOk_of_hub hdie hm
    have hnak (seq) := next_of_mirror (out := execLinkNak die (4 + m) seq s) rfl hmirror
    have hretrain := next_of_mirror (out := execLinkRetrain die (4 + m) s) rfl hmirror
    have hend (ok lane) := next_of_mirror (out := execLinkRetrainEnd die (4 + m) ok lane s) rfl hmirror
    have htimeout := next_of_mirror (out := execHandshakeTimeout die (4 + m) s) rfl hmirror
    refine ⟨fun head ord ecc => next_of_mirror (out := execFlitReceive die (4 + m) head ord ecc s) rfl hmirror,
      fun seq => ⟨fun h => ?_, fun hup => ?_⟩, fun h => ?_, fun hup hmany => ?_, fun ok lane h => ?_, fun lane htrain => ?_,
      fun lane htrain hspare => ?_, fun lane htrain h => ?_, fun h => ?_, fun hup => ?_, fun st hst => ⟨?_, ?_⟩,
      Device.setMirror_failed hm⟩
    · exact (hnak seq).trans (by rw [Device.mirrorNak_of_down h]; rfl)
    · exact (hnak seq).trans (by rw [Device.mirrorNak_of_up hup])
    · exact hretrain.trans (by rw [Device.mirrorRetrain_of_few h]; rfl)
    · exact hretrain.trans (by rw [Device.mirrorRetrain_of_many hup hmany])
    · exact (hend ok lane).trans (by rw [Device.mirrorRetrainEnd_of_not_training h]; rfl)
    · exact (hend false lane).trans (by rw [Device.mirrorRetrainEnd_of_failed htrain (.inl rfl)])
    · exact (hend true (some lane)).trans (by rw [Device.mirrorRetrainEnd_of_failed htrain (.inr ⟨rfl, hspare⟩)])
    · exact (hend true lane).trans (by rw [Device.mirrorRetrainEnd_of_sound htrain h]; rfl)
    · exact htimeout.trans (by rw [Nat.add_sub_cancel_left, Device.moveMirror_of_ne h]; rfl)
    · exact htimeout.trans (by rw [Nat.add_sub_cancel_left, Device.moveMirror_of_eq hup])
    · exact (Device.mirrorState_setMirror m st m).trans (Device.mirrorState_writeMirror_same hst)
    · exact (Device.mirrorState_setMirror m st (1 - m)).trans (Device.mirrorState_writeMirror_other hm)

end Sys2Proof.Machine

/-! PROOFS. New routes, truncation, fence notices and hop epochs (R42, R49, R50, R51, R60, R61, R66, R67, R68, R69, R178, R533). -/

namespace Sys2Proof.Machine

section
variable {s : Device} {die : Nat}

/-! ## New routes -/

/-- The masthead controller's answer to a failure notice: dies apart are fenced, and what the working stays change is noted (R51, R66). -/
def Device.newRoutes (s : Device) : Device :=
  let t := Device.fenceApart 100 s
  let todo := (t.diesInService.map (fun d => (d, t.newEntries d))).filter (fun e => !e.2.isEmpty || t.fab.holding.contains e.1)
  (({ t with fab := { t.fab with reroute := todo } } : Device).settleAll).pump

theorem onFailNotice_of_no_notice {port : Nat} (h : s.net.find? (fun q => q.typ = 10 ∧ q.srcDie = die ∧ q.srcUnit = 14 ∧
    q.addr = port ∧ q.len = 0) = none) : onFailNotice die port s = s.newRoutes := by
  rw [onFailNotice, h]; rfl

theorem onFailNotice_of_notice {port : Nat} {q : Packet} (h : s.net.find? (fun q => q.typ = 10 ∧ q.srcDie = die ∧ q.srcUnit = 14 ∧
    q.addr = port ∧ q.len = 0) = some q) :
    onFailNotice die port s = Device.newRoutes { s with net := s.net.erase q, fab := s.fab.purge (sameHead q) } := by
  rw [onFailNotice, h]; rfl

theorem Device.fenceApart_of_joined (h : s.cutOff = false) (fuel : Nat) : Device.fenceApart fuel s = s := by
  cases fuel with
  | zero => rfl
  | succ fuel => rw [Device.fenceApart, h]; rfl

theorem onRouteTableWrite_of_unasked {es : List (Nat × Nat)} (h : s.fab.reroute.find? (fun e => e.1 = die) = none) :
    onRouteTableWrite die es s = s := by
  rw [onRouteTableWrite, h]

section
variable {es : List (Nat × Nat)} {k : Nat} {todo mine left : List (Nat × Nat × Bool)}
  (h : s.fab.reroute.find? (fun e => e.1 = die) = some (k, todo))
  (hmine : mine = todo.filter (fun e => es.contains (e.1, e.2.1))) (hleft : left = todo.filter (fun e => !mine.contains e))
include h hmine hleft

/-- With the last of its entries a router goes on to what it holds (R66 step 5, R69). -/
theorem onRouteTableWrite_of_last (hlast : left = []) :
    onRouteTableWrite die es s = (mine.foldl (fun (a : Device) e => a.takeEntry die e) s).rerouted die := by
  subst hmine hleft
  rw [onRouteTableWrite, h]
  exact if_pos (List.isEmpty_iff.2 hlast)

theorem onRouteTableWrite_of_more (hmore : left ≠ []) :
    let t : Device := mine.foldl (fun (a : Device) e => a.takeEntry die e) s
    onRouteTableWrite die es s =
      { t with fab := { t.fab with reroute := t.fab.reroute.map (fun e => if e.1 = die then (die, left) else e) } } := by
  subst hmine hleft
  rw [onRouteTableWrite, h]
  exact if_neg (mt List.isEmpty_iff.1 hmore)

end

/-- The reroute is counted and what the router holds is sent by its new table; the record comes with the last router (R66 steps 5, 6). -/
theorem Device.rerouted_eq (s : Device) (die : Nat) :
    let rest := s.fab.reroute.filter (fun e => e.1 ≠ die)
    let u := s.inc Reg.STAY_REROUTE_COUNT die 1
    let v := (Device.poisonHeld { u with fab := { u.fab with
      reroute := rest, holding := u.fab.holding.filter (fun d => d ≠ die) } } die).pump
    s.rerouted die = if rest = [] then v.rerouteRecord else v := by
  simp only [Device.rerouted, List.isEmpty_iff, Device.inc_fab]

/-! ## Notices -/

section
variable {t : Trunc} (hnet : ∀ q ∈ s.net, ¬(q.typ = 10 ∧ q.srcUnit = 14 ∧ q.len = 1 ∧ q.tag = t.tag))
include hnet

/-- The search for the packet of a TRUNC notice finds none where none with its TAG is under way. -/
theorem find?_truncNotice : s.net.find? (fun q => q.typ = 10 ∧ q.srcUnit = 14 ∧ q.len = 1 ∧ q.tag = t.tag ∧
    ((q.dstDie = t.srcDie ∧ q.dstUnit = t.srcUnit) ∨ (q.dstDie = t.dstDie ∧ q.dstUnit = t.dstUnit))) = none := by
  refine List.find?_eq_none.2 fun q hq hfound => hnet q hq ?_
  obtain ⟨htyp, hunit, hlen, htag, _⟩ := of_decide_eq_true hfound
  exact ⟨htyp, hunit, hlen, htag⟩

theorem onTruncNotice_of_not_cut (h : s.fab.cut.find? (truncNames t) = none) : onTruncNotice t s = s := by
  rw [onTruncNotice, find?_truncNotice hnet]
  dsimp only
  rw [h]

/-- What a unit does about a truncated packet goes by the packet's type, its VC and whether it is speculative (R68, R178). -/
theorem onTruncNotice_of_cut {q : Packet} (h : s.fab.cut.find? (truncNames t) = some q) : onTruncNotice t s =
    if t.typ = 3 then
      if dieKind t.dstDie = 1 ∧ t.dstUnit ≤ 9 then (s.forgetCut q).readAgain (unitCore t.dstDie t.dstUnit) t else s.forgetCut q
    else if t.typ = 5 ∨ t.vc = 2 then (s.forgetCut q).send q
    else if t.vc = 0 ∧ t.spec ∧ t.specEng < 1600 then (s.squashTo (t.specEng / 4) t.specEpoch).settleFaults
    else s := by
  rw [onTruncNotice, find?_truncNotice hnet]
  dsimp only
  rw [h]

end

theorem onFenceNotice_of_in_service {fenced : Nat} (h : s.fenced fenced = false) : onFenceNotice die fenced s = s := by
  rw [onFenceNotice, h]; rfl

theorem onFenceNotice_of_fenced {fenced : Nat} (h : s.fenced fenced = true) :
    let gone := fun (p : Packet) => p.srcDie == die && p.dstDie == fenced
    onFenceNotice die fenced s = (s.net.filter gone).foldl (fun (a : Device) p => a.discard die p 3 true) (s.dropNet gone) := by
  rw [onFenceNotice, h]; rfl

end

/-! ## Hop weights -/

/-- The weight of an input from its hop vector: the number of hop values seen, 1 to 16, or 1 with hop weighting off (R61). -/
def hopWeight (on : Bool) (v : Nat) : Nat := if on then min 16 (max 1 (popCount 32 v)) else 1

/-- The end of a hop epoch for one input. -/
def Fabric.endHop (on : Bool) (f : Fabric) (k : Nat) : Fabric :=
  { f with
    weight := nset 1 f.weight k (hopWeight on (nget 0 f.hopNow k))
    hopLast := nset 0 f.hopLast k (nget 0 f.hopNow k), hopNow := nset 0 f.hopNow k 0 }

/-- What the fabric holds of an input's hops: the vector of this epoch, that of the last one, and the weight. -/
def Fabric.hops (f : Fabric) (k : Nat) : Nat × Nat × Nat := (nget 0 f.hopNow k, nget 0 f.hopLast k, nget 1 f.weight k)

theorem Fabric.hops_endHop_same (on : Bool) (f : Fabric) (k : Nat) :
    (f.endHop on k).hops k = (0, nget 0 f.hopNow k, hopWeight on (nget 0 f.hopNow k)) := by
  simp only [Fabric.hops, Fabric.endHop, nget_nset_same]

theorem Fabric.hops_endHop_ne (on : Bool) (f : Fabric) {k j : Nat} (h : j ≠ k) : (f.endHop on k).hops j = f.hops j := by
  simp only [Fabric.hops, Fabric.endHop, nget_nset_ne _ _ _ _ _ _ h]

theorem Fabric.hops_foldl_endHop_of_notMem (on : Bool) {k : Nat} : ∀ (ks : List Nat) (f : Fabric), k ∉ ks →
    (ks.foldl (Fabric.endHop on) f).hops k = f.hops k
  | [], _, _ => rfl
  | a :: ks, f, h => by
    obtain ⟨hne, hks⟩ := List.ne_and_not_mem_of_not_mem_cons h
    exact (Fabric.hops_foldl_endHop_of_notMem on ks _ hks).trans (Fabric.hops_endHop_ne on f hne)

/-- Each input of an epoch that ends has its weight from its own vector, whatever the order of the inputs. -/
theorem Fabric.hops_foldl_endHop (on : Bool) {k : Nat} : ∀ (ks : List Nat) (f : Fabric), ks.Nodup → k ∈ ks →
    (ks.foldl (Fabric.endHop on) f).hops k = (0, nget 0 f.hopNow k, hopWeight on (nget 0 f.hopNow k))
  | [], _, _, hk => absurd hk List.not_mem_nil
  | a :: ks, f, hnodup, hk => by
    obtain ⟨ha, hks⟩ := List.nodup_cons.1 hnodup
    rw [List.foldl_cons]
    obtain rfl | hmem := List.mem_cons.1 hk
    · rw [Fabric.hops_foldl_endHop_of_notMem on ks _ ha, Fabric.hops_endHop_same]
    · have hne : k ≠ a := fun he => ha (he ▸ hmem)
      have hnow : nget 0 (f.endHop on a).hopNow k = nget 0 f.hopNow k := congrArg Prod.fst (Fabric.hops_endHop_ne on f hne)
      rw [Fabric.hops_foldl_endHop on ks _ hks hmem, hnow]

/-- The keys of the five inputs of an output and VC. -/
def inputKeys (die out vc : Nat) : List Nat := (List.range 5).map (shareKey die out vc)

theorem nodup_inputKeys (die out vc : Nat) : (inputKeys die out vc).Nodup :=
  List.pairwise_map.2 (List.nodup_range.imp fun hne hkey => hne (Nat.add_left_cancel hkey))

/-- The state at the end of a hop epoch, before the fabric goes on (R61). -/
def Device.endHopEpoch (s : Device) (die out vc : Nat) : Device :=
  let f := (inputKeys die out vc).foldl (Fabric.endHop (s.rdf Reg.STAY_CTL die 0 0 == 1)) s.fab
  { s with fab := { f with epochAt := nset 0 f.epochAt (shareKey die out vc 0) 0 } }

section
variable {s : Device} {die out vc : Nat}

theorem onHopEpochEnd_of_early (h : nget 0 s.fab.epochAt (shareKey die out vc 0) < 1024) : onHopEpochEnd die out vc s = s := if_pos h

theorem onHopEpochEnd_of_due (h : 1024 ≤ nget 0 s.fab.epochAt (shareKey die out vc 0)) :
    onHopEpochEnd die out vc s = (s.endHopEpoch die out vc).pump := if_neg (Nat.not_lt.2 h)

theorem Device.endHopEpoch_epochAt : nget 0 (s.endHopEpoch die out vc).fab.epochAt (shareKey die out vc 0) = 0 := by
  simp only [Device.endHopEpoch, nget_nset_same]

theorem Device.endHopEpoch_frame : { s.endHopEpoch die out vc with fab := s.fab } = s := by
  simp only [Device.endHopEpoch]

theorem Device.endHopEpoch_hops {i : Nat} (hi : i < 5) : (s.endHopEpoch die out vc).fab.hops (shareKey die out vc i) =
    (0, nget 0 s.fab.hopNow (shareKey die out vc i),
      hopWeight (s.rdf Reg.STAY_CTL die 0 0 == 1) (nget 0 s.fab.hopNow (shareKey die out vc i))) :=
  Fabric.hops_foldl_endHop _ _ s.fab (nodup_inputKeys die out vc) (List.mem_map_of_mem (List.mem_range.2 hi))

end

/-! ## The statement -/

/-- Settles O36: each notice finds what it is about in the fabric and acts on it, or finds nothing and leaves the state as it was. -/
theorem routesAndNotices : Obligations.RoutesAndNotices := by
  unfold Obligations.RoutesAndNotices
  refine ⟨fun s die port hport => ?_, fun s die es hdie hes => ?_, fun s t hsrc hdst heng hnet => ?_,
    fun s die fenced hdie hfenced => ?_, fun s die out vc hdie hout hvc => ?_⟩
  · have hexec := next_of (out := execFailNotice die port s) rfl (atUnit_eq _ _ hport)
    exact ⟨fun h => hexec.trans (by rw [onFailNotice_of_no_notice h]; rfl),
      fun q h => hexec.trans (by rw [onFailNotice_of_notice h]; rfl), fun h => Device.fenceApart_of_joined h 100⟩
  · have hunit : (die < 100 && es.all (fun e => e.1 < 100 && e.2 < 2 ^ 32)) = true := by simpa [hdie] using hes
    have hexec := next_of (out := execRouteTableWrite die es s) rfl (atUnit_eq _ _ hunit)
    refine ⟨fun h => hexec.trans (by rw [onRouteTableWrite_of_unasked h]; rfl), fun k todo h => ⟨fun hlast => ?_, fun hmore => ?_⟩⟩
    · exact hexec.trans (by rw [onRouteTableWrite_of_last h rfl rfl hlast, Device.rerouted_eq])
    · exact hexec.trans (by rw [onRouteTableWrite_of_more h rfl rfl hmore])
  · have hunit : (t.srcDie < 100 && t.dstDie < 100 && t.specEng < 2048) = true := by simp [hsrc, hdst, heng]
    have hexec := next_of (out := execTruncNotice t s) rfl (atUnit_eq _ _ hunit)
    refine ⟨fun h => hexec.trans (by rw [onTruncNotice_of_not_cut hnet h]; rfl), fun q h => ?_⟩
    rw [onTruncNotice_of_cut hnet h] at hexec
    refine ⟨fun htyp hcore => ?_, fun htyp hcore => ?_, fun htyp hagain => ?_, fun htyp hmedia hvc hspec hengine => ?_,
      fun htyp hmedia hvc hdata => ?_⟩
    · rwa [if_pos htyp, if_pos hcore] at hexec
    · rwa [if_pos htyp, if_neg hcore] at hexec
    · rwa [if_neg htyp, if_pos hagain] at hexec
    · rwa [if_neg htyp, if_neg (by omega), if_pos ⟨hvc, hspec, hengine⟩] at hexec
    · rwa [if_neg htyp, if_neg (by omega), if_neg hdata] at hexec
  · have hexec := next_of (out := execFenceNotice die fenced s) rfl (atUnit_eq _ _ (by simp [hdie, hfenced]))
    exact ⟨fun h => hexec.trans (by rw [onFenceNotice_of_in_service h]; rfl),
      fun h => hexec.trans (by rw [onFenceNotice_of_fenced h])⟩
  · have hexec := next_of (out := execHopEpochEnd die out vc s) rfl (atUnit_eq _ _ (by simp [hdie, hout, hvc]))
    refine ⟨fun h => hexec.trans (by rw [onHopEpochEnd_of_early h]; rfl), fun h => ?_⟩
    refine ⟨s.endHopEpoch die out vc, hexec.trans ?_, Device.endHopEpoch_epochAt, fun i hi => ?_, Device.endHopEpoch_frame⟩
    · rw [onHopEpochEnd_of_due h]
    · simpa only [Fabric.hops, Prod.mk.injEq, hopWeight, beq_iff_eq] using Device.endHopEpoch_hops hi

end Sys2Proof.Machine

/-! PROOFS. TACKLE packets, reservations, timeouts and update phases of reductions (R52, R263, R266, R268, R269, R270, R272, R276, R279,
R280, R282, R283). -/

namespace Sys2Proof.Machine

/-! ## TACKLE packets -/

section
variable {p : Packet} {s : Device} {body : Packet → Device → Device}
  (hp : Packet.of 6 p = true) (hland : s.mayLand p = true) (hok : (s.receive p).ejectCause p.dstDie p = none)
include hp hland hok

/-- A TACKLE packet from a core to an adder block has its effect there (R268). -/
theorem tackleRow_of_adder (hunit : dieKind p.dstDie = 1 ∧ p.dstUnit = 13 ∧ dieKind p.srcDie = 1 ∧ p.srcUnit ≤ 9) :
    tackleRow p s body = .next ((body p (s.receive p)).afterPacket p) := by
  rw [tackleRow, packetRow_accepted 6 p s _ hp hland hok, if_neg (not_not_intro hunit)]

/-- A TACKLE packet to another unit, or not from a core, is discarded (log entry 13). -/
theorem tackleRow_of_other (hunit : ¬(dieKind p.dstDie = 1 ∧ p.dstUnit = 13 ∧ dieKind p.srcDie = 1 ∧ p.srcUnit ≤ 9)) :
    tackleRow p s body = .next (((s.receive p).wrongUnit p).afterPacket p) := by
  rw [tackleRow, packetRow_accepted 6 p s _ hp hland hok, if_pos hunit]

end

theorem packet_addr {p : Packet} {a : Nat} (h : p.addr = a) : { p with addr := a } = p := by subst h; rfl

theorem exec_tackleContext {p : Packet} (h : p.addr = 0xF00000000) (s : State) :
    exec (.tackleContext p) s = onDevice s fun s => tackleRow p s (fun p s => s.takeContext p) := by
  change execTackleContext p s = _
  simp only [execTackleContext, packet_addr h]

theorem exec_tackleStatistics {p : Packet} (h : p.addr = 0xF00000020) (s : State) :
    exec (.tackleStatistics p) s = onDevice s fun s => tackleRow p s (fun p s => s.takeCodes p true) := by
  change execTackleStatistics p s = _
  simp only [execTackleStatistics, packet_addr h]

/-- A well-formed TACKLE command is the row of its packet, with the effect of its kind (R268). -/
theorem exec_tackle {i : Instr} {p : Packet} (hi : i ∈ [Instr.tackleContext p, .tackleCodes p, .tackleStatistics p]) (hwf : i.wf = true)
    (s : State) : ∃ body, exec i s = onDevice s fun s => tackleRow p s body := by
  simp only [List.mem_cons, List.not_mem_nil, or_false] at hi
  obtain rfl | rfl | rfl := hi
  · exact ⟨_, exec_tackleContext (beq_iff_eq.1 (Bool.and_eq_true_iff.1 hwf).2) s⟩
  · exact ⟨_, rfl⟩
  · exact ⟨_, exec_tackleStatistics (beq_iff_eq.1 (Bool.and_eq_true_iff.1 hwf).2) s⟩

/-! ## Reservations -/

/-- A waiting run, of batch `b`, that fits a reservation of the adder `ord` for the reduction (R266, R272). -/
def Device.FitsReservation (s : Device) (ord red : Nat) (r : Red) (t : QTask) (b : Batch) (elems : Nat) : Prop :=
  t.kind = 0 ∧ t.resvFrom.isSome = true ∧ s.leads t = true ∧ r.granted t = false ∧
    s.batch t.ref = some b ∧ (∃ y, s.batchRed b = some (red, y, ord, elems)) ∧ s.mayReserve ord red (b.key.getD 8 0) r elems = true

/-- What the search of a grant makes of one task of the queue: the task with its length where its run fits. -/
def Device.grantOf (s : Device) (ord red : Nat) (r : Red) (t : QTask) : Option (QTask × Nat) :=
  if t.kind = 0 ∧ t.resvFrom.isSome ∧ s.leads t ∧ !r.granted t then
    match s.batch t.ref with
    | some b => match s.batchRed b with
      | some (id, _, o, elems) =>
        if id = red ∧ o = ord ∧ s.mayReserve o id (b.key.getD 8 0) r elems then some (t, elems) else none
      | none => none
    | none => none
  else none

/-- A grant after the search of the queue. -/
def Device.grantFound (s : Device) (ord red : Nat) (r : Red) : Option (QTask × Nat) → Device
  | none => s
  | some (t, elems) => ((s.grantWait t).endWait t).reserve red r (4096 + t.ref) ord elems

theorem exec_reservationGrant {ord red : Nat} (hord : ord < 40) (hred : red < 64) (s : State) :
    exec (.reservationGrant ord red) s = .next (s.after (onReservationGrant ord red s.toDevice)) :=
  next_of (out := execReservationGrant ord red s) rfl (atUnit_eq _ _ (by simp [hord, hred]))

section
variable {s : Device} {ord red : Nat} {r : Red} {t : QTask} {b : Batch} {elems : Nat}

theorem Device.grantOf_of_fits (h : s.FitsReservation ord red r t b elems) : s.grantOf ord red r t = some (t, elems) := by
  obtain ⟨hkind, hwaits, hleads, hnew, hbatch, ⟨y, hred⟩, hmay⟩ := h
  rw [Device.grantOf, if_pos ⟨hkind, hwaits, hleads, by rw [hnew]; rfl⟩, hbatch]
  dsimp only
  rw [hred]
  exact if_pos ⟨rfl, rfl, hmay⟩

theorem Device.grantOf_of_not_fits (h : ∀ b elems, ¬s.FitsReservation ord red r t b elems) : s.grantOf ord red r t = none := by
  unfold Device.grantOf
  split
  · next hwaits =>
    obtain ⟨hkind, hfrom, hleads, hnew⟩ := hwaits
    split
    · next b hbatch =>
      split
      · next id y o elems hred =>
        refine if_neg fun ⟨hid, ho, hmay⟩ => h b elems ?_
        subst hid ho
        exact ⟨hkind, hfrom, hleads, by simpa using hnew, hbatch, ⟨y, hred⟩, hmay⟩
      · rfl
    · rfl
  · rfl

theorem onReservationGrant_of_ended (h : s.red red = none) : onReservationGrant ord red s = s := by
  rw [onReservationGrant, h]

/-- With what the search of the queue finds for it, a grant gives the run its reservation and ends its wait (R266, R272). -/
theorem onReservationGrant_of_live (h : s.red red = some r) :
    onReservationGrant ord red s = s.grantFound ord red r (s.work.queue.findSome? (s.grantOf ord red r)) := by
  rw [onReservationGrant, h]; rfl

end

/-! ## Timeouts and update phases -/

section
variable {s : Device} {id : Nat} {r : Red}

theorem onReductionTimeout_of_ended (h : s.red id = none) : onReductionTimeout id s = s := by
  rw [onReductionTimeout, h]

theorem onUpdatePhaseStart_of_ended (h : s.red id = none) : onUpdatePhaseStart id s = s := by
  rw [onUpdatePhaseStart, h]

theorem onUpdatePhaseEnd_of_ended (h : s.red id = none) : onUpdatePhaseEnd id s = s := by
  rw [onUpdatePhaseEnd, h]

section
variable (hr : s.red id = some r)
include hr

theorem onReductionTimeout_of_complete (h : r.phase ≠ 1 ∨ r.complete = true) : onReductionTimeout id s = s := by
  rw [onReductionTimeout, hr]
  refine if_neg fun ⟨hphase, hopen⟩ => ?_
  obtain hother | hcomplete := h
  · exact hother hphase
  · rw [hcomplete] at hopen; exact nomatch hopen

/-- A reduction that some adder has not completed is abandoned and counted, and its pending RANK_DONEs end (R276). -/
theorem onReductionTimeout_of_open (hphase : r.phase = 1) (hopen : r.complete = false) : onReductionTimeout id s =
    (r.rankDone.foldl (fun a d => a.finish d.1 St.rankTimeout 0) ((s.abandonRed id r).inc Reg.TKL_DEV_TIMEOUTS 0 1)).settleAll := by
  rw [onReductionTimeout, hr]
  exact if_pos ⟨hphase, by rw [hopen]; rfl⟩

section
variable {x : Shard} (hx : s.shard r.shard = some x)
include hx

/-- The update phase starts on a complete reduction whose shard nothing holds or reads (R279). -/
theorem onUpdatePhaseStart_of_free (hphase : r.phase = 1) (hcomplete : r.complete = true) (hheld : s.serveHeld x r = false)
    (hckpts : x.ckpts = []) :
    let r' : Red := { r with phase := 2 }
    onUpdatePhaseStart id s = ((((s.setRed id (some r')).wrf Reg.TKL_RED_STATUS id 1 0 2).wr
      Reg.TKL_SHARD_SERVE_SAT r.shard 0).adaptGrads id x r').updateAll id x r' := by
  rw [onUpdatePhaseStart, hr]
  dsimp only
  rw [hx]
  exact if_pos ⟨hphase, hcomplete, by rw [hheld]; rfl, List.isEmpty_iff.2 hckpts⟩

theorem onUpdatePhaseStart_of_busy (h : r.phase ≠ 1 ∨ r.complete = false ∨ s.serveHeld x r = true ∨ x.ckpts ≠ []) :
    onUpdatePhaseStart id s = s := by
  rw [onUpdatePhaseStart, hr]
  dsimp only
  rw [hx]
  refine if_neg fun ⟨hphase, hcomplete, hfree, hckpts⟩ => ?_
  obtain hother | hopen | hheld | hread := h
  · exact hother hphase
  · rw [hopen] at hcomplete; exact nomatch hcomplete
  · rw [hheld] at hfree; exact nomatch hfree
  · exact hread (List.isEmpty_iff.1 hckpts)

end

theorem onUpdatePhaseEnd_of_other_phase (h : r.phase ≠ 2) : onUpdatePhaseEnd id s = s := by
  rw [onUpdatePhaseEnd, hr]
  exact if_neg h

/-- The shard's updates and last step are counted and the reduction ends; one that met poison is a job fault (R279, R282). -/
theorem onUpdatePhaseEnd_of_update (hphase : r.phase = 2) :
    let t := ((s.inc Reg.TKL_SHARD_UPDATES r.shard 1).wr Reg.TKL_SHARD_LAST_STEP r.shard r.step).endRed id r
      (if r.poisoned then St.poisonConsumed else St.ok) r.ranks
    onUpdatePhaseEnd id s = (if r.poisoned then t.reportFault (512 + r.job) 3 else t).settleAll := by
  rw [onUpdatePhaseEnd, hr]
  exact if_pos hphase

end

end

/-! ## The statement -/

/-- Settles O46: each event of a reduction has its effect in the phase it belongs to, and does nothing in the others. -/
theorem reductionEvents : Obligations.ReductionEvents := by
  unfold Obligations.ReductionEvents
  refine ⟨fun s p hp hland hok => ⟨fun hdst hblock hsrc hcore => ?_, fun hother i hi hwf => ?_⟩,
    fun s ord red hord hred => ⟨fun hended => ?_, fun r hr => ⟨fun hnone => ?_, fun before t rest b elems hqueue hbefore hfits => ?_⟩⟩,
    fun s id hid => ?_⟩
  · have heffect (body) := tackleRow_of_adder (body := body) hp hland hok ⟨hdst, hblock, hsrc, hcore⟩
    exact ⟨fun haddr => next_of (exec_tackleContext haddr s) (heffect _), fun _ => next_of (out := execTackleCodes p s) rfl (heffect _),
      fun haddr => next_of (exec_tackleStatistics haddr s) (heffect _)⟩
  · obtain ⟨body, hexec⟩ := exec_tackle hi hwf s
    exact next_of hexec (tackleRow_of_other hp hland hok (by omega))
  · exact (exec_reservationGrant hord hred s).trans (by rw [onReservationGrant_of_ended hended]; rfl)
  · have hsearch : s.work.queue.findSome? (s.grantOf ord red r) = none :=
      List.findSome?_eq_none_iff.2 fun t ht => Device.grantOf_of_not_fits (hnone t ht)
    exact (exec_reservationGrant hord hred s).trans (by rw [onReservationGrant_of_live hr, hsearch]; rfl)
  · have hskip : before.findSome? (s.grantOf ord red r) = none :=
      List.findSome?_eq_none_iff.2 fun q hq => Device.grantOf_of_not_fits (hbefore q hq)
    have hsearch : s.work.queue.findSome? (s.grantOf ord red r) = some (t, elems) := by
      rw [hqueue, List.findSome?_append, hskip, List.findSome?_cons, Device.grantOf_of_fits hfits]; rfl
    exact (exec_reservationGrant hord hred s).trans (by rw [onReservationGrant_of_live hr, hsearch]; rfl)
  · have htimeout := next_of (out := execReductionTimeout id s) rfl (atUnit_eq _ _ (decide_eq_true hid))
    have hstart := next_of (out := execUpdatePhaseStart id s) rfl (atUnit_eq _ _ (decide_eq_true hid))
    have hend := next_of (out := execUpdatePhaseEnd id s) rfl (atUnit_eq _ _ (decide_eq_true hid))
    refine ⟨fun hended => ⟨?_, ?_, ?_⟩, fun r hr => ⟨fun h => ?_, fun hphase hopen => ?_,
      fun x hx hphase hcomplete hheld hckpts => ?_, fun x hx h => ?_, fun hphase hsound => ?_, fun hphase hpoisoned => ?_, fun h => ?_⟩⟩
    · exact htimeout.trans (by rw [onReductionTimeout_of_ended hended]; rfl)
    · exact hstart.trans (by rw [onUpdatePhaseStart_of_ended hended]; rfl)
    · exact hend.trans (by rw [onUpdatePhaseEnd_of_ended hended]; rfl)
    · exact htimeout.trans (by rw [onReductionTimeout_of_complete hr h]; rfl)
    · exact htimeout.trans (by rw [onReductionTimeout_of_open hr hphase hopen])
    · exact hstart.trans (by rw [onUpdatePhaseStart_of_free hr hx hphase hcomplete hheld hckpts])
    · exact hstart.trans (by rw [onUpdatePhaseStart_of_busy hr hx h]; rfl)
    · exact hend.trans (by rw [onUpdatePhaseEnd_of_update hr hphase, hsound]; rfl)
    · exact hend.trans (by rw [onUpdatePhaseEnd_of_update hr hphase, hpoisoned]; rfl)
    · exact hend.trans (by rw [onUpdatePhaseEnd_of_other_phase hr h]; rfl)

end Sys2Proof.Machine

/-! PROOFS. Unit instructions: the rows of the engines, the vector unit, the DMA mover and the sequencer (R86, R94, R97 to R99, R102 to
R109, R111, R112, R120, R247, R504, R575). -/

namespace Sys2Proof.Machine

/-! ## The rows of unit instructions -/

/-- A row of a unit instruction acts at its core, whose sequencer then goes on (R99). -/
theorem next_of_unitRow {out : Out} {s : State} {u op c : Nat} {i : Word128} {body : Device → Word128 → Device}
    (h : out = onDevice s fun d => unitRow u op c i (body d))
    (hu : unitOf u op c i = true) : out = .next (s.after ((body s.toDevice i).settleCore c)) :=
  next_of h (unitRow_eq u op c i _ hu)

/-- A row of an engine, of the vector unit or of the DMA mover is carried out at the head of its queue, a SYNC row by the sequencer
(R97, R109). -/
theorem exec_unitRows (s : State) (c : Nat) (i : Word128) (ok : Bool) : ∀ r ∈ unitRows c i ok,
    (r.2.1 ≠ 4 ∧ ∃ run : Word128 → Device → Placed → Device,
      exec r.1 s = onDevice s fun d => unitRow r.2.1 r.2.2 c i fun i => d.runUnit c i (run i)) ∨
    (r.2.1 = 4 ∧ exec r.1 s = onDevice s fun d => unitRow r.2.1 r.2.2 c i (d.runSync c)) := by
  iterate 22 refine List.forall_mem_cons.2 ⟨.inl ⟨nofun, _, rfl⟩, ?_⟩
  iterate 5 refine List.forall_mem_cons.2 ⟨.inr ⟨rfl, rfl⟩, ?_⟩
  exact List.forall_mem_nil _

/-! ## Instructions that do not act -/

section
variable {s : Device} {c : Nat} {i : Word128}

theorem Device.runUnit_of_faulted (h : s.faulted c = true) (run : Device → Placed → Device) : s.runUnit c i run = s := if_pos h

theorem Device.runSync_of_faulted (h : s.faulted c = true) : s.runSync c i = s := if_pos h

theorem Device.runUnit_of_malformed {cause : Nat} (hfault : s.faulted c = false) (h : malformed i = some cause)
    (run : Device → Placed → Device) : s.runUnit c i run = s.instrFault c cause i (queueOf i) := by
  rw [Device.runUnit, hfault, h]; rfl

theorem Device.runSync_of_malformed {cause : Nat} (hfault : s.faulted c = false) (h : malformed i = some cause) :
    s.runSync c i = s.instrFault c cause i 6 := by
  rw [Device.runSync, hfault, h]; rfl

end

/-- Settles O40: a row of the scoreboard and a row of the sequencer both stop at a faulted core and at a malformed word. -/
theorem unitInstructionStops : Obligations.UnitInstructionStops := by
  unfold Obligations.UnitInstructionStops
  intro s c i ok r hr hu
  obtain ⟨hqueue, run, hrow⟩ | ⟨hqueue, hrow⟩ := exec_unitRows s c i ok r hr
  · have hexec := next_of_unitRow (body := fun d i => d.runUnit c i (run i)) hrow hu
    refine ⟨fun hfault => ?_, fun hfault cause hbad => ⟨queueOf i, ?_, fun h => absurd h hqueue, fun _ => rfl⟩⟩
    · rwa [Device.runUnit_of_faulted hfault] at hexec
    · rwa [Device.runUnit_of_malformed hfault hbad] at hexec
  · have hexec := next_of_unitRow hrow hu
    refine ⟨fun hfault => ?_, fun hfault cause hbad => ⟨6, ?_, fun _ => rfl, fun h => absurd hqueue h⟩⟩
    · rwa [Device.runSync_of_faulted hfault] at hexec
    · rwa [Device.runSync_of_malformed hfault hbad] at hexec

/-! ## Instructions that issue -/

/-- Where a unit instruction stands on the scoreboard when it comes to the head of its queue: the place of its entry, or the one that it
takes first, if it may (R97, log entry 158). -/
def Device.placeFor (s : Device) (c : Nat) (i : Word128) : Option (Nat × Device) :=
  (s.findPlaced c i).elim (if s.mayPlace c i then some (s.place c i) else none) fun p => some (p.seq, s)

section
variable {s : Device} {c : Nat} {i : Word128}

/-- An instruction that a core takes is refused its place, waits there, or issues (R97, R98). -/
theorem Device.runUnit_of_taken (hfault : s.faulted c = false) (hgood : malformed i = none) (run : Device → Placed → Device) :
    s.runUnit c i run = (s.placeFor c i).elim (s.inc Reg.CORE_SEQ_WAIT c 1) fun x =>
      ((x.2.core c).board.find? (fun p => p.seq = x.1)).elim x.2 fun p => if x.2.mayIssue c p then run (x.2.issue c p) p else x.2 := by
  rw [Device.runUnit, hfault, hgood, Device.placeFor]
  cases s.findPlaced c i with
  | none =>
    cases s.mayPlace c i with
    | false => rfl
    | true =>
      simp only [Bool.false_eq_true, if_false, if_true, Option.elim_none, Option.elim_some]
      cases ((s.place c i).2.core c).board.find? (fun p => p.seq = (s.place c i).1) <;> rfl
  | some p =>
    simp only [Bool.false_eq_true, if_false, Option.elim_some]
    cases (s.core c).board.find? (fun q => q.seq = p.seq) <;> rfl

theorem Device.issuesAs_of_taken (hfault : s.faulted c = false) (hgood : malformed i = none) :
    s.issuesAs c i = (s.placeFor c i).bind fun x =>
      ((x.2.core c).board.find? (fun p => p.seq = x.1)).bind fun p =>
        if x.2.mayIssue c p then some (x.2.issue c p, p) else none := by
  rw [Device.issuesAs, hfault, hgood, Device.placeFor]
  cases s.findPlaced c i with
  | none =>
    cases s.mayPlace c i with
    | false => rfl
    | true =>
      simp only [Bool.false_eq_true, Bool.false_or, Option.isSome_none, if_false, if_true, Option.elim_none, Option.bind_some]
      cases ((s.place c i).2.core c).board.find? (fun p => p.seq = (s.place c i).1) <;> rfl
  | some p =>
    simp only [Bool.false_eq_true, Bool.false_or, Option.isSome_none, if_false, Option.elim_some, Option.bind_some]
    cases (s.core c).board.find? (fun q => q.seq = p.seq) <;> rfl

theorem Device.taken_of_issues {t : Device} {p : Placed} (h : s.issuesAs c i = some (t, p)) :
    s.faulted c = false ∧ malformed i = none := by
  unfold Device.issuesAs at h
  split at h
  · exact nomatch h
  · next hok => simpa using hok

/-- An instruction that issues has its effect in the device in which it has issued (R97, R98). -/
theorem Device.runUnit_of_issues {t : Device} {p : Placed} (h : s.issuesAs c i = some (t, p)) (run : Device → Placed → Device) :
    s.runUnit c i run = run t p := by
  obtain ⟨hfault, hgood⟩ := Device.taken_of_issues h
  rw [Device.issuesAs_of_taken hfault hgood] at h
  obtain ⟨x, hplace, h⟩ := Option.bind_eq_some_iff.1 h
  obtain ⟨q, hentry, h⟩ := Option.bind_eq_some_iff.1 h
  obtain ⟨hmay, h⟩ := Option.ite_none_right_eq_some.1 h
  obtain ⟨rfl, rfl⟩ := Prod.mk.inj (Option.some.inj h)
  rw [Device.runUnit_of_taken hfault hgood, hplace, Option.elim_some, hentry, Option.elim_some, if_pos hmay]

/-- A MAC whose bank holds no tile is an instruction fault (R103, log entry 165). -/
theorem Device.macEffect_of_no_tile
    (h : (nget ({} : Tile) (s.engine (s.macArgs c i).eng).tiles (s.macArgs c i).bank).rowCount = 0) :
    s.macEffect c i = s.instrFault c 3 i (queueOf i) := if_pos h

end

/-- A row whose instruction issues has its effect there, and the sequencer of its core goes on (R97, R98, R99). -/
theorem next_of_issues {out : Out} {s : State} {u op c : Nat} {i : Word128} {t : Device} {p : Placed}
    {run : Word128 → Device → Placed → Device} (hi : s.issuesAs c i = some (t, p))
    (h : out = onDevice s fun d => unitRow u op c i fun i => d.runUnit c i (run i)) (hu : unitOf u op c i = true) :
    out = .next (s.after ((run i t p).settleCore c)) := by
  have hexec := next_of_unitRow (body := fun d i => d.runUnit c i (run i)) h hu
  rwa [Device.runUnit_of_issues hi] at hexec

/-- Settles O41: each row issues as every unit instruction does, and its effect is the model's function for it. -/
theorem engineAndDmaInstructions : Obligations.EngineAndDmaInstructions := by
  unfold Obligations.EngineAndDmaInstructions
  intro s c i t p hi
  have hwload := next_of_issues hi (out := execWload c i s) rfl
  have hmac := next_of_issues hi (out := execMac c i s) rfl
  have hdrain := next_of_issues hi (out := execDrain c i s) rfl
  have hcopy := next_of_issues hi (out := execCopy c i s) rfl
  have hput := next_of_issues hi (out := execPut c i s) rfl
  have hget := next_of_issues hi (out := execGet c i s) rfl
  refine ⟨hwload, hmac, fun hu htile => ?_, hdrain, hcopy, hput, hget⟩
  exact Device.macEffect_of_no_tile htile ▸ hmac hu

/-! ## Vector operations -/

/-- The code that a free value picks is one of the list (R106). -/
theorem pickCode_mem {free : F32} {l : List Nat} (h : l ≠ []) : ∃ k ∈ l, pickCode free l = BitVec.ofNat 32 k := by
  have hpick : free.toNat % l.length < l.length := Nat.mod_lt _ (List.length_pos_iff.2 h)
  refine ⟨l[free.toNat % l.length], List.getElem_mem hpick, ?_⟩
  rw [pickCode, if_neg (by simpa using h), List.getD_eq_getElem?_getD, List.getElem?_eq_getElem hpick, Option.getD_some]

/-- A vector row whose instruction issues computes its elements there (R105, R106). -/
theorem next_of_vector {out : Out} {s : State} {vop c : Nat} {i : Word128} {ok : Bool} {t : Device} {p : Placed}
    (hi : s.issuesAs c i = some (t, p)) (h : out = onDevice s (vectorRow vop c i ok)) (hu : unitOf 2 vop c i = true) :
    out = .next (s.after ((t.vecEffect c i ok).settleCore c)) :=
  next_of_issues (run := fun i t _ => t.vecEffect c i ok) hi h hu

/-- Settles O42: each row is that of its VOP, and the four operations of free rounding pick one of their codes. -/
theorem vectorInstructions : Obligations.VectorInstructions := by
  unfold Obligations.VectorInstructions
  refine ⟨fun s c i ok t p hi => ?_, fun a b d => ?_⟩
  · exact ⟨next_of_vector hi (out := execAdd c i ok s) rfl, next_of_vector hi (out := execSub c i ok s) rfl,
      next_of_vector hi (out := execMul c i ok s) rfl, next_of_vector hi (out := execFma c i ok s) rfl,
      next_of_vector hi (out := execMax c i ok s) rfl, next_of_vector hi (out := execMin c i ok s) rfl,
      next_of_vector hi (out := execAbs c i ok s) rfl, next_of_vector hi (out := execExp c i ok s) rfl,
      next_of_vector hi (out := execRecip c i ok s) rfl, next_of_vector hi (out := execRsqrt c i ok s) rfl,
      next_of_vector hi (out := execSigmoid c i ok s) rfl, next_of_vector hi (out := execSiluMul c i ok s) rfl,
      next_of_vector hi (out := execCvt c i ok s) rfl, next_of_vector hi (out := execRsum c i ok s) rfl,
      next_of_vector hi (out := execRmax c i ok s) rfl, next_of_vector hi (out := execAbsmax c i ok s) rfl⟩
  · exact ⟨rfl, rfl, rfl, rfl, rfl, rfl, rfl, rfl, pickCode_mem, pickCode_mem, pickCode_mem, pickCode_mem⟩

/-! ## SYNC instructions -/

/-- The sequencer of a core stands still at a SYNC instruction (R109). -/
def Device.standAt (s : Device) (c : Nat) (i : Word128) : Device := s.setCore c { s.core c with atSync := some i }

/-- The end of a SYNC row once the sequencer has gone on or waits: a halt that may end, and the answer to a job fault (R247, R575). -/
def Device.settleEnd (s : Device) (c : Nat) : Device := (s.settleHalt c).settleFaults

section
variable {s : Device} {c : Nat} {i : Word128}

@[simp] theorem Device.core_setCore_same (k : Core) : (s.setCore c k).core c = k := nget_nset_same _ _ _ _

@[simp] theorem Device.standAt_core : (s.standAt c i).core c = { s.core c with atSync := some i } := Device.core_setCore_same _
@[simp] theorem Device.standAt_faulted : (s.standAt c i).faulted c = s.faulted c := rfl
@[simp] theorem Device.standAt_waitMet : (s.standAt c i).waitMet c i = s.waitMet c i := rfl
@[simp] theorem Device.standAt_halted : (s.standAt c i).halted c = s.halted c := by
  rw [Device.halted, Device.standAt_core]; rfl

theorem Device.not_waits_iff : s.seqWaits c = false ↔
    (s.core c).atSync = none ∧ (s.core c).ckptWait = none ∧ (s.core c).ending = none ∧ s.halted c = false := by
  simp [Device.seqWaits, and_assoc]

/-- A sequencer that does not stand still comes to a SYNC instruction (R97, R109). -/
theorem Device.runSync_of_free (hfault : s.faulted c = false) (hstill : s.seqWaits c = false) (hgood : malformed i = none) :
    s.runSync c i = s.standAt c i := by
  obtain ⟨hfree, -⟩ := Device.not_waits_iff.1 hstill
  rw [Device.runSync, hfault, hgood, hfree, hstill]; rfl

/-- What the sequencer does at a SYNC instruction: it counts a wait on its semaphore, waits for the scoreboard, or goes past it. -/
theorem Device.resumeSync_standAt (hfault : s.faulted c = false) (hhalt : s.halted c = false) : (s.standAt c i).resumeSync c =
    if !s.waitMet c i then (s.standAt c i).inc Reg.CORE_SEQ_WAIT c 1
    else if syncDrains i && !(s.core c).board.isEmpty then s.standAt c i
    else (s.syncTaken c i).syncEffect c i := by
  simp only [Device.resumeSync, Device.standAt_core, Device.standAt_faulted, Device.standAt_halted, Device.standAt_waitMet, hfault, hhalt,
    Bool.or_self, Bool.false_eq_true, if_false]
  simp [Device.syncTaken, Device.standAt]

theorem syncOp_of_unitOf {op : Nat} (h : unitOf 4 op c i = true) : ifld i 123 120 = op := by
  simp only [unitOf, Bool.and_eq_true, beq_iff_eq] at h
  exact h.2

/-- The operations of SYNC that wait until the scoreboard is empty are all but POST and HINT (R109, R112). -/
theorem syncDrains_of_unitOf {op : Nat} (h : unitOf 4 op c i = true) : syncDrains i = (op != 3 && op != 4) := by
  rw [syncDrains, syncOp_of_unitOf h]

/-- What a SYNC instruction that acts asks for (R109). -/
theorem Device.syncActs_iff {drain : Bool} : s.syncActs c i drain = true ↔ s.faulted c = false ∧ s.seqWaits c = false ∧
    malformed i = none ∧ s.waitMet c i = true ∧ (drain = true → (s.core c).board = []) := by
  cases drain <;> simp [Device.syncActs, and_assoc]

theorem Device.syncEffect_ckpt (h : ifld i 123 120 = 1) : s.syncEffect c i = s.ckptEffect c i := by simp [Device.syncEffect, h]
theorem Device.syncEffect_fence (h : ifld i 123 120 = 2) : s.syncEffect c i = s.postTrailer c i := by simp [Device.syncEffect, h]
theorem Device.syncEffect_post (h : ifld i 123 120 = 3) : s.syncEffect c i =
    (s.postSem c (ifld i 119 115) (ifld i 114 99) i 6).postTrailer c i := by simp [Device.syncEffect, Device.postEffect, h]
theorem Device.syncEffect_hint (h : ifld i 123 120 = 4) : s.syncEffect c i = s.hintEffect c i := by simp [Device.syncEffect, h]
theorem Device.syncEffect_end (h : ifld i 123 120 = 5) : s.syncEffect c i = s.endEffect c i := by simp [Device.syncEffect, h]

theorem Device.hintEffect_core (h : ifld i 114 114 = 0) :
    s.hintEffect c i = (s.takeHint [c] true (i.toNat / 2 ^ 32 % 2 ^ 88)).postTrailer c i := by
  rw [Device.hintEffect, if_pos h]

theorem Device.hintEffect_group {j : Nat} {x : Job} (h : ifld i 114 114 = 1) (hjob : s.coreJob c = some j) (hx : s.job j = some x) :
    s.hintEffect c i = (s.takeHint (x.cores.filter (fun d => coreDie d = coreDie c ∧ s.coreActive d)) true
      (i.toNat / 2 ^ 32 % 2 ^ 88)).postTrailer c i := by
  rw [Device.hintEffect, h, hjob]
  dsimp only
  rw [hx]
  rfl

end

section
variable {out : Out} {s : State} {c op : Nat} {i : Word128}

/-- A SYNC row that the sequencer comes to goes on from there: the instruction waits or acts (R109). -/
theorem next_of_sync (h : out = onDevice s fun d => unitRow 4 op c i (d.runSync c)) (hu : unitOf 4 op c i = true)
    (hfault : s.faulted c = false) (hstill : s.seqWaits c = false) (hgood : malformed i = none) :
    out = .next (s.after (((s.standAt c i).resumeSync c).settleEnd c)) := by
  have hexec := next_of_unitRow h hu
  rwa [Device.runSync_of_free hfault hstill hgood] at hexec

/-- A SYNC row whose instruction acts has its effect past the instruction (R97, R109). -/
theorem next_of_syncActs {drain : Bool} (hacts : s.syncActs c i drain = true) (hdrain : (op != 3 && op != 4) = drain)
    (h : out = onDevice s fun d => unitRow 4 op c i (d.runSync c)) (hu : unitOf 4 op c i = true) :
    out = .next (s.after (((s.syncTaken c i).syncEffect c i).settleEnd c)) := by
  obtain ⟨hfault, hstill, hgood, hwait, hboard⟩ := Device.syncActs_iff.1 hacts
  obtain ⟨-, -, -, hhalt⟩ := Device.not_waits_iff.1 hstill
  have hempty : (syncDrains i && !(s.core c).board.isEmpty) = false := by
    rw [syncDrains_of_unitOf hu, hdrain]
    cases drain with
    | false => exact Bool.false_and _
    | true => rw [hboard rfl]; rfl
  rw [next_of_sync h hu hfault hstill hgood, Device.resumeSync_standAt hfault hhalt, hwait, hempty]
  rfl

/-- The SYNC rows, at the word of each (R109). -/
theorem exec_syncRows {x : Instr} (hx : x ∈ [Instr.ckpt c i, .fence c i, .post c i, .hint c i, .endKernel c i]) (hwf : x.wf = true) :
    ∃ op, unitOf 4 op c i = true ∧ exec x s = onDevice s fun d => unitRow 4 op c i (d.runSync c) := by
  simp only [List.mem_cons, List.not_mem_nil, or_false] at hx
  obtain rfl | rfl | rfl | rfl | rfl := hx <;> exact ⟨_, hwf, rfl⟩

/-- CKPT, FENCE and END are among the SYNC rows (R109). -/
theorem mem_syncRows_of_drains {x : Instr} (hx : x ∈ [Instr.ckpt c i, .fence c i, .endKernel c i]) :
    x ∈ [Instr.ckpt c i, .fence c i, .post c i, .hint c i, .endKernel c i] := by
  simp only [List.mem_cons, List.not_mem_nil, or_false] at hx ⊢
  obtain h | h | h := hx
  · exact .inl h
  · exact .inr (.inl h)
  · exact .inr (.inr (.inr (.inr h)))

theorem syncDrains_of_mem {x : Instr} (hx : x ∈ [Instr.ckpt c i, .fence c i, .endKernel c i]) (hwf : x.wf = true) :
    syncDrains i = true := by
  simp only [List.mem_cons, List.not_mem_nil, or_false] at hx
  obtain rfl | rfl | rfl := hx <;> exact syncDrains_of_unitOf hwf

end

/-- Settles O43: the sequencer comes to the instruction and, by its wait and by the scoreboard, acts or stands still at it. -/
theorem syncInstructions : Obligations.SyncInstructions := by
  unfold Obligations.SyncInstructions
  intro s c i
  refine ⟨fun hacts => ⟨fun hu => ?_, fun hu => ?_, fun hu => ?_⟩, fun hacts => ⟨fun hu => ?_, fun hu hscope => ?_,
    fun hu hscope j x hjob hx => ?_⟩, fun hfault hstill hgood hwait x hx hwf => ?_, fun hfault hstill hgood hwait hboard x hx hwf => ?_⟩
  · exact Device.syncEffect_ckpt (syncOp_of_unitOf hu) ▸ next_of_syncActs hacts rfl (out := execCkpt c i s) rfl hu
  · exact Device.syncEffect_fence (syncOp_of_unitOf hu) ▸ next_of_syncActs hacts rfl (out := execFence c i s) rfl hu
  · exact Device.syncEffect_end (syncOp_of_unitOf hu) ▸ next_of_syncActs hacts rfl (out := execEndKernel c i s) rfl hu
  · exact Device.syncEffect_post (syncOp_of_unitOf hu) ▸ next_of_syncActs hacts rfl (out := execPost c i s) rfl hu
  · have hexec := next_of_syncActs hacts rfl (out := execHint c i s) rfl hu
    rwa [Device.syncEffect_hint (syncOp_of_unitOf hu), Device.hintEffect_core hscope] at hexec
  · have hexec := next_of_syncActs hacts rfl (out := execHint c i s) rfl hu
    rwa [Device.syncEffect_hint (syncOp_of_unitOf hu), Device.hintEffect_group hscope hjob hx] at hexec
  · obtain ⟨op, hu, hrow⟩ := exec_syncRows hx hwf
    obtain ⟨-, -, -, hhalt⟩ := Device.not_waits_iff.1 hstill
    have hexec := next_of_sync hrow hu hfault hstill hgood
    rwa [Device.resumeSync_standAt hfault hhalt, hwait] at hexec
  · obtain ⟨op, hu, hrow⟩ := exec_syncRows (mem_syncRows_of_drains hx) hwf
    obtain ⟨-, -, -, hhalt⟩ := Device.not_waits_iff.1 hstill
    have hqueued : (s.core c).board.isEmpty = false := List.isEmpty_eq_false_iff.2 hboard
    have hexec := next_of_sync hrow hu hfault hstill hgood
    rwa [Device.resumeSync_standAt hfault hhalt, hwait, syncDrains_of_mem hx hwf, hqueued] at hexec

end Sys2Proof.Machine

/-! PROOFS. The events of a core: placing, completion, verdicts, commits and the end of a kernel (R87, R97 to R99, R111, R114, R158,
R159, R161, R171, R174, R180). -/

namespace Sys2Proof.Machine

/-! ## Placing and completion -/

section
variable {s : Device} {c seq : Nat} {i : Word128}

theorem onUnitInstructionPlace_of_faulted (h : s.faulted c = true) : onUnitInstructionPlace c i s = s := if_pos h

theorem onUnitInstructionPlace_of_malformed {cause : Nat} (hfault : s.faulted c = false) (h : malformed i = some cause) :
    onUnitInstructionPlace c i s = s.instrFault c cause i (queueOf i) := by
  rw [onUnitInstructionPlace, hfault, h]; rfl

theorem onUnitInstructionPlace_of_sync (hfault : s.faulted c = false) (hgood : malformed i = none) (hqueue : queueOf i = 6)
    (hstill : s.seqWaits c = false) : onUnitInstructionPlace c i s = s.standAt c i := by
  rw [onUnitInstructionPlace, hfault, hgood, hqueue, Device.runSync_of_free hfault hstill hgood]; rfl

theorem onUnitInstructionPlace_of_queue (hfault : s.faulted c = false) (hgood : malformed i = none) (hqueue : queueOf i ≠ 6) :
    onUnitInstructionPlace c i s = if s.mayPlace c i then (s.place c i).2 else s.inc Reg.CORE_SEQ_WAIT c 1 := by
  rw [onUnitInstructionPlace, hfault, hgood]
  exact if_neg hqueue

/-- The conditions of a place on the scoreboard (R97). -/
theorem Device.mayPlace_iff : s.mayPlace c i = true ↔ s.seqWaits c = false ∧ (s.core c).board.length < 48 ∧
    ((s.core c).board.filter (fun p => p.queue == queueOf i && !p.issued)).length < 8 := by
  simp only [Device.mayPlace, Bool.and_eq_true, Bool.not_eq_true', decide_eq_true_eq, and_assoc]
  rfl

theorem Device.not_mayPlace (h : s.seqWaits c = true ∨ 48 ≤ (s.core c).board.length ∨
    8 ≤ ((s.core c).board.filter (fun p => p.queue == queueOf i && !p.issued)).length) : s.mayPlace c i = false := by
  rw [← Bool.not_eq_true, Device.mayPlace_iff]
  rintro ⟨hstill, hboard, hqueue⟩
  obtain h | h | h := h
  · exact nomatch hstill.symm.trans h
  · exact absurd hboard (Nat.not_lt.2 h)
  · exact absurd hqueue (Nat.not_lt.2 h)

theorem onUnitInstructionComplete_of_absent (h : (s.core c).board.find? (fun p => p.seq = seq ∧ p.issued) = none) :
    onUnitInstructionComplete c seq s = s := by
  rw [onUnitInstructionComplete, h]

/-- An instruction that has completed is off the scoreboard, and its engine has done with it (R97, R121). -/
def Device.leaveBoard (s : Device) (c seq : Nat) (p : Placed) : Device :=
  let t := (s.setCore c { (s.core c) with board := (s.core c).board.filter (fun q => q.seq ≠ seq) }).showQueues c
  if p.queue < 4 then t.engineDone c p.instr else t

section
variable {p : Placed} (h : (s.core c).board.find? (fun p => p.seq = seq ∧ p.issued) = some p)
include h

/-- A DMA instruction completes only once none of its packets is outstanding (R99). -/
theorem onUnitInstructionComplete_of_found : onUnitInstructionComplete c seq s =
    if p.queue = 5 ∧ (s.core c).dma.any (fun d => !d.probe && d.seq == seq) then s
    else if ifld p.instr 18 18 = 1 then (s.leaveBoard c seq p).postSem c (ifld p.instr 17 13) 1 p.instr p.queue
    else s.leaveBoard c seq p := by
  rw [onUnitInstructionComplete, h]
  rfl

theorem onUnitInstructionComplete_of_outstanding (hqueue : p.queue = 5) (hdma : ∃ d ∈ (s.core c).dma, d.probe = false ∧ d.seq = seq) :
    onUnitInstructionComplete c seq s = s := by
  rw [onUnitInstructionComplete_of_found h]
  exact if_pos ⟨hqueue, by simpa using hdma⟩

theorem onUnitInstructionComplete_of_done (hdone : p.queue ≠ 5 ∨ ∀ d ∈ (s.core c).dma, d.probe = true ∨ d.seq ≠ seq) :
    onUnitInstructionComplete c seq s =
      if ifld p.instr 18 18 = 1 then (s.leaveBoard c seq p).postSem c (ifld p.instr 17 13) 1 p.instr p.queue
      else s.leaveBoard c seq p := by
  rw [onUnitInstructionComplete_of_found h]
  refine if_neg fun hwait => ?_
  obtain ⟨hqueue, hdma⟩ := hwait
  obtain ⟨d, hd, hpacket⟩ := List.any_eq_true.1 hdma
  obtain hother | hnone := hdone
  · exact hother hqueue
  · simp only [Bool.and_eq_true, Bool.not_eq_true', beq_iff_eq] at hpacket
    obtain ⟨hdata, hseq⟩ := hpacket
    obtain hprobe | hother := hnone d hd
    · exact nomatch hdata.symm.trans hprobe
    · exact hother hseq

end

end

/-! ## Verdicts, commits and the end of a kernel -/

section
variable {s : Device} {e c : Nat}

section
variable {d : DrainCheck} (h : (s.core (e / 4)).drains.find? (fun d => d.eng = e) = some d)
include h

/-- A DRAIN whose sum check passed: its verdict is that of the drain twins (R158, R161). -/
theorem onVerdictIssue_of_sum_passes (hsum : d.sumFail = none) (ok : Bool) : onVerdictIssue e ok s =
    let t := s.setCore (e / 4) { (s.core (e / 4)) with drains := (s.core (e / 4)).drains.erase d }
    if ok then t.drainClean (e / 4) d false
    else (t.inc Reg.TLT_FAIL_DRAIN (e / 4) 1).verdictFail (e / 4) d.epoch d.ordinal 0 ⟨e % 4, 1, 0xFF, 0, 0⟩ (some d.logical) := by
  rw [onVerdictIssue, h]
  dsimp only
  rw [hsum]

/-- A DRAIN whose sum check failed: a numeric event where the twins agree and the sum repeats the last attempt of another engine (R180),
else a failing verdict. -/
theorem onVerdictIssue_of_sum_fails {f : Nat × F32 × F32} (hsum : d.sumFail = some f) (ok : Bool) : onVerdictIssue e ok s =
    let c := e / 4
    let t := s.setCore c { (s.core c) with drains := (s.core c).drains.erase d }
    let tries := t.site c d.epoch d.ordinal 0
    if ok && t.rdf Reg.TLT_VERDICT_CTL c 4 4 == 1 && sameAgain tries (e % 4) f then
      (t.record 0x0502 (tltBody c (e % 4) d.epoch 0 tries.length f.1 ((t.coreJob c).getD 0) f.2.1 f.2.2)
        (t.jobViewer (t.coreJob c))).drainClean c d true
    else (t.inc Reg.TLT_FAIL_SUM c 1).verdictFail c d.epoch d.ordinal 0 ⟨e % 4, 0, f.1, f.2.1, f.2.2⟩ (some d.logical) := by
  rw [onVerdictIssue, h]
  dsimp only
  rw [hsum]

end

theorem onSequencerMismatch_of_reset (h : s.resetting = true) : onSequencerMismatch c s = s := if_pos h

theorem onSequencerMismatch_of_running (h : s.resetting = false) : onSequencerMismatch c s =
    (s.takeOrdinal c (s.epoch c)).2.checkFail c 0xFF 3 (s.takeOrdinal c (s.epoch c)).1 := by
  rw [onSequencerMismatch, h]; rfl

theorem onEpochCommit_of_may (hmay : s.mayCommit c = true) (hrun : s.halted c = false) : onEpochCommit c s = s.commitEpoch c := by
  rw [onEpochCommit, hmay, hrun]; rfl

theorem onEpochCommit_of_not (h : s.mayCommit c = false ∨ s.halted c = true) : onEpochCommit c s = s := by
  refine if_neg ?_
  obtain h | h := h <;> simp [h]

theorem onHoldTimeout_of_absent {die idx : Nat} (h : (s.holdBuf die).waiting[idx]? = none) : onHoldTimeout die idx s = s := by
  rw [onHoldTimeout, h]

/-- A request that has waited too long leaves the hold buffer, counted and logged (R171). -/
def Device.dropHeld (s : Device) (die idx : Nat) (w : HeldWrite) : Device :=
  let t := (s.setHold die { s.holdBuf die with waiting := (s.holdBuf die).waiting.eraseIdx idx }).inc Reg.TLT_HOLD_TIMEOUTS die 1
  t.record 0x0505 (tltBody (0x400 + die) 0xFF w.pkt.specEpoch 4 0 0xFF w.pkt.job 0 0)
    (t.jobViewer (if w.pkt.jobV then some w.pkt.job else none))

theorem onHoldTimeout_of_waiting {die idx : Nat} {w : HeldWrite} (h : (s.holdBuf die).waiting[idx]? = some w) :
    onHoldTimeout die idx s =
      let u := s.dropHeld die idx w
      if w.pkt.typ = 2 then (u.inc Reg.TLT_HOLD_READ_WAIT die (u.now - w.since)).send
        { pktReply w.pkt 3 3 with len := w.pkt.len, body := List.replicate (w.pkt.len * 16) 0 }
      else u.ack w.pkt 3 := by
  rw [onHoldTimeout, h]
  rfl

theorem onKernelEndReport_of_not {r : KernelResult} (h : s.task c = none ∨ (s.core c).ended = false ∨ (s.core c).releaseWait ≠ []) :
    onKernelEndReport c r s = s := by
  rw [onKernelEndReport]
  cases htask : s.task c with
  | none => rfl
  | some t =>
    refine if_pos ?_
    rw [htask] at h
    simpa using h

theorem onKernelEndReport_of_ended {r : KernelResult} {t : Task} (htask : s.task c = some t) (hended : (s.core c).ended = true)
    (hreleased : (s.core c).releaseWait = []) : onKernelEndReport c r s = ((s.freeCore c t).taskEnd t r).settleAll := by
  rw [onKernelEndReport, htask, hended, hreleased]
  rfl

end

/-- An event at a core that exists, whose sequencer then goes on. -/
theorem next_of_atCore {out : Out} {s : State} {c : Nat} {effect : Device → Device} {d : Device} (hc : c < 400)
    (h : out = onDevice s fun d => atCore c (effect d)) (heffect : effect s.toDevice = d) : out = .next (s.after (d.settleCore c)) :=
  next_of h (heffect ▸ atCore_eq c _ hc)

/-- An event at a unit that exists. -/
theorem next_of_atUnit {out : Out} {s : State} {ok : Bool} {effect : Device → Device} {d : Device} (hok : ok = true)
    (h : out = onDevice s fun d => atUnit ok (effect d)) (heffect : effect s.toDevice = d) : out = .next (s.after d) :=
  next_of h (heffect ▸ atUnit_eq ok _ hok)

/-- Settles O44: each event meets the state that its rule names and has its effect there, or leaves the core as it was. -/
theorem coreEvents : Obligations.CoreEvents := by
  unfold Obligations.CoreEvents
  refine ⟨fun s c i hc => ?_, fun s c seq hc => ?_, fun s e he => ?_, fun s e d he hfind => ?_, fun s c hc => ?_,
    fun s die idx hdie => ?_, fun s c r hc => ?_⟩
  · have hplace := fun d => next_of_atCore (d := d) hc (out := execUnitInstructionPlace c i s) rfl
    refine ⟨fun hfault => hplace _ (onUnitInstructionPlace_of_faulted hfault),
      fun cause hfault hbad => hplace _ (onUnitInstructionPlace_of_malformed hfault hbad),
      fun hfault hgood hqueue => ⟨fun hfull => hplace _ ?_, fun hstill hboard hroom => hplace _ ?_⟩,
      fun hfault hgood hqueue hstill => hplace _ (onUnitInstructionPlace_of_sync hfault hgood hqueue hstill)⟩
    · rw [onUnitInstructionPlace_of_queue hfault hgood hqueue, Device.not_mayPlace hfull]; rfl
    · rw [onUnitInstructionPlace_of_queue hfault hgood hqueue, Device.mayPlace_iff.2 ⟨hstill, hboard, hroom⟩]; rfl
  · have hcomplete := fun d => next_of_atCore (d := d) hc (out := execUnitInstructionComplete c seq s) rfl
    refine ⟨fun habsent => hcomplete _ (onUnitInstructionComplete_of_absent habsent), fun p hfind =>
      ⟨fun hqueue hdma => hcomplete _ (onUnitInstructionComplete_of_outstanding hfind hqueue hdma),
        fun hdone => ⟨fun hpost => hcomplete _ ?_, fun hpost => hcomplete _ ?_⟩⟩⟩
    · rw [onUnitInstructionComplete_of_done hfind hdone, hpost]; rfl
    · rw [onUnitInstructionComplete_of_done hfind hdone, hpost]; rfl
  · have hgate := fun d => next_of_atUnit (d := d) (decide_eq_true he) (out := execRowGate e s) rfl
    exact ⟨fun hidle => hgate _ (if_pos hidle), fun hbusy => hgate _ (if_neg hbusy)⟩
  · have hverdict := fun ok d => next_of_atCore (d := d) (by omega : e / 4 < 400) (out := execVerdictIssue e ok s) rfl
    refine ⟨fun hsum => hverdict _ _ (onVerdictIssue_of_sum_passes hfind hsum true),
      fun hsum => hverdict _ _ (onVerdictIssue_of_sum_passes hfind hsum false), fun f ok hsum hfail => hverdict _ _ ?_,
      fun f hsum hevents hsame => hverdict _ _ ?_⟩
    · refine (onVerdictIssue_of_sum_fails hfind hsum ok).trans (if_neg ?_)
      obtain h | h | h := hfail <;> simp [h]
    · refine (onVerdictIssue_of_sum_fails hfind hsum true).trans (if_pos ?_)
      rw [hevents, hsame]; rfl
  · have hmismatch := fun d => next_of_atCore (d := d) hc (out := execSequencerMismatch c s) rfl
    have hcommit := fun d => next_of_atCore (d := d) hc (out := execEpochCommit c s) rfl
    exact ⟨fun hrun => hmismatch _ (onSequencerMismatch_of_running hrun), fun hreset => hmismatch _ (onSequencerMismatch_of_reset hreset),
      fun hmay hrun => hcommit _ (onEpochCommit_of_may hmay hrun), fun hnot => hcommit _ (onEpochCommit_of_not hnot)⟩
  · have htimeout := fun d => next_of_atUnit (d := d) (decide_eq_true hdie) (out := execHoldTimeout die idx s) rfl
    refine ⟨fun habsent => htimeout _ (onHoldTimeout_of_absent habsent), fun w hwaits => ⟨fun hread => htimeout _ ?_,
      fun hwrite => htimeout _ ?_⟩⟩
    · exact (onHoldTimeout_of_waiting hwaits).trans (if_pos hread)
    · exact (onHoldTimeout_of_waiting hwaits).trans (if_neg hwrite)
  · have hend := fun d => next_of_atUnit (d := d) (decide_eq_true hc) (out := execKernelEndReport c r s) rfl
    exact ⟨fun hnot => hend _ (onKernelEndReport_of_not hnot),
      fun t htask hended hreleased => hend _ (onKernelEndReport_of_ended htask hended hreleased)⟩

end Sys2Proof.Machine

/-! PROOFS. Verdict packets and squash orders: CLEAN, REOPEN, their acknowledgements and SQUASH_FROM (R167, R169, R172, R174, R175, R176,
R177). -/

namespace Sys2Proof.Machine

/-! ## The rows -/

section
variable {s : State} {p : Packet} {out : Out} {body : Packet → Device → Device} {t : Device}
  (hland : s.mayLand p = true) (hok : (s.receive p).ejectCause p.dstDie p = none)
include hland hok

/-- The answer of a packet row whose packet lands and is accepted. -/
theorem next_of_packetRow {typ : Nat} (h : out = onDevice s fun d => packetRow typ p d body) (hp : Packet.of typ p = true)
    (heffect : body p (s.receive p) = t) : out = .next (s.after (t.afterPacket p)) :=
  next_of h (heffect ▸ packetRow_accepted typ p _ _ hp hland hok)

/-- The answer of a verdict row (R172) whose packet lands and is accepted. -/
theorem next_of_verdictRow {kind : Nat} (h : out = onDevice s fun d => verdictRow kind p d body) (hp : Packet.verdict kind p = true)
    (heffect : body p (s.receive p) = t) : out = .next (s.after (t.afterPacket p)) :=
  next_of h ((verdictRow_eq kind p _ _ hp).trans (heffect ▸ packetRow_accepted 7 p _ _ (Packet.of_verdict _ _ hp) hland hok))

end

theorem Packet.verdict_addr {kind : Nat} {p : Packet} (h : Packet.verdict kind p = true) : p.addr = kind := by
  simp only [Packet.verdict, Bool.and_eq_true, beq_iff_eq] at h
  obtain ⟨⟨_, haddr⟩, _⟩ := h
  exact haddr

/-- Unit 13, an adder block's, is not a core's. -/
theorem toCore_of_unit13 {p : Packet} (h : p.dstUnit = 13) : toCore p = false := by simp [toCore, h]

/-- The effect of a CLEAN of a kind that R172 lists (R167, R169, R174). -/
def onClean (p : Packet) (s : Device) : Device :=
  if toCore p then s.cleanDep (unitCore p.dstDie p.dstUnit) (verdictCore p) p.specEpoch
  else if dieKind p.dstDie = 1 ∧ p.dstUnit = 13 then
    (((s.setHold p.dstDie ((s.holdBuf p.dstDie).noteClean (verdictCore p) 13 p.specEpoch)).releaseContribs (sparOrd p.dstDie)
      (verdictCore p) p.specEpoch).send
        (verdictPacket 7 4 p.dstDie 13 p.srcDie p.srcUnit p.specEng p.specEpoch (pktJob p))).settleAll
  else s.releaseHold p.dstDie p.dstUnit (verdictCore p) p.specEpoch (pktJob p)

/-- The effect of SQUASH_FROM (R176, R177). -/
def onSquashFrom (p : Packet) (s : Device) : Device :=
  if toCore p then s.coreSquash (unitCore p.dstDie p.dstUnit) (verdictCore p) p.specEpoch
  else
    let adder := dieKind p.dstDie == 1 && p.dstUnit == 13
    let t := s.squashHold p.dstDie p.dstUnit (verdictCore p) p.specEpoch
      (adder && s.holdsContribs (sparOrd p.dstDie) (verdictCore p) p.specEpoch)
    if adder then t.squashContribs (sparOrd p.dstDie) (verdictCore p) p.specEpoch else t

section
variable {p : Packet} (s : State)

theorem exec_clean_of_unlisted (h : p.addr = 0 ∨ 4 < p.addr) :
    exec (.clean p) s = onDevice s fun d => packetRow 7 p d fun p d => d.ignoreVc2 p := by
  change execClean p s = _
  simp only [execClean, if_pos h]

theorem exec_clean_of_clean (h : p.addr = 1) : exec (.clean p) s = onDevice s fun d => verdictRow 1 p d onClean := by
  change execClean p s = _
  simp only [execClean, if_neg (show ¬(p.addr = 0 ∨ 4 < p.addr) by omega)]
  rfl

theorem exec_reopen : exec (.reopen p) s = onDevice s fun d => verdictRow 2 p d onReopen := rfl

theorem exec_reopenAck : exec (.reopenAck p) s = onDevice s fun d => verdictRow 3 p d onReopenAck := rfl

theorem exec_releaseAck : exec (.releaseAck p) s = onDevice s fun d => verdictRow 4 p d onReleaseAck := rfl

theorem exec_squashFrom_of_unlisted (h : p.addr ≠ 1) :
    exec (.squashFrom p) s = onDevice s fun d => packetRow 8 p d fun p d => d.ignoreVc2 p := by
  change execSquashFrom p s = _
  simp only [execSquashFrom, if_pos h]

theorem exec_squashFrom_of_order (h : p.addr = 1) (heng : p.specEng < 1600) :
    exec (.squashFrom p) s = onDevice s fun d => packetRow 8 p d onSquashFrom := by
  change execSquashFrom p s = _
  simp only [execSquashFrom, if_neg (not_not_intro h), if_neg (Nat.not_le.2 heng)]
  rfl

end

/-! ## The effects at each kind of unit -/

section
variable {p : Packet} (s : Device)

theorem onClean_of_core (h : toCore p = true) :
    onClean p s = s.cleanDep (unitCore p.dstDie p.dstUnit) (verdictCore p) p.specEpoch := if_pos h

theorem onClean_of_adder (hdie : dieKind p.dstDie = 1) (hunit : p.dstUnit = 13) : onClean p s =
    (((s.setHold p.dstDie ((s.holdBuf p.dstDie).noteClean (verdictCore p) 13 p.specEpoch)).releaseContribs (sparOrd p.dstDie)
      (verdictCore p) p.specEpoch).send
        (verdictPacket 7 4 p.dstDie p.dstUnit p.srcDie p.srcUnit p.specEng p.specEpoch (pktJob p))).settleAll := by
  rw [onClean, toCore_of_unit13 hunit, if_neg Bool.false_ne_true, if_pos ⟨hdie, hunit⟩, hunit]

theorem onClean_of_hold (hcore : toCore p = false) (hadder : ¬(dieKind p.dstDie = 1 ∧ p.dstUnit = 13)) :
    onClean p s = s.releaseHold p.dstDie p.dstUnit (verdictCore p) p.specEpoch (pktJob p) := by
  rw [onClean, hcore, if_neg Bool.false_ne_true, if_neg hadder]

theorem onReopen_of_core (h : toCore p = true) : onReopen p s =
    (s.setCore (unitCore p.dstDie p.dstUnit) { s.core (unitCore p.dstDie p.dstUnit) with
      shut := nset none (s.core (unitCore p.dstDie p.dstUnit)).shut (verdictCore p) none }).send
        (verdictPacket 7 3 p.dstDie p.dstUnit p.srcDie p.srcUnit p.specEng p.specEpoch (pktJob p)) := by
  rw [onReopen, h]; rfl

theorem onReopen_of_hold (h : toCore p = false) : onReopen p s =
    (s.setHold p.dstDie { s.holdBuf p.dstDie with
      shut := nset none (s.holdBuf p.dstDie).shut (verdictCore p * 16 + p.dstUnit) none }).send
        (verdictPacket 7 3 p.dstDie p.dstUnit p.srcDie p.srcUnit p.specEng p.specEpoch (pktJob p)) := by
  rw [onReopen, h]; rfl

theorem onReopenAck_of_core (h : toCore p = true) : onReopenAck p s =
    s.setCore (unitCore p.dstDie p.dstUnit) { s.core (unitCore p.dstDie p.dstUnit) with
      reopenWait := (s.core (unitCore p.dstDie p.dstUnit)).reopenWait.filter (fun w => w.1 ≠ p.srcDie * 16 + p.srcUnit) } := if_pos h

theorem onReopenAck_of_other (h : toCore p = false) : onReopenAck p s = s := by rw [onReopenAck, h]; rfl

theorem onReleaseAck_of_core (h : toCore p = true) : onReleaseAck p s =
    s.setCore (unitCore p.dstDie p.dstUnit) { s.core (unitCore p.dstDie p.dstUnit) with
      releaseWait := (s.core (unitCore p.dstDie p.dstUnit)).releaseWait.filter
        (fun w => !(w.1 == p.srcDie * 16 + p.srcUnit && w.2 == p.specEpoch)) } := if_pos h

theorem onReleaseAck_of_other (h : toCore p = false) : onReleaseAck p s = s := by rw [onReleaseAck, h]; rfl

theorem onSquashFrom_of_core (h : toCore p = true) :
    onSquashFrom p s = s.coreSquash (unitCore p.dstDie p.dstUnit) (verdictCore p) p.specEpoch := if_pos h

theorem onSquashFrom_of_hold (hcore : toCore p = false) (hadder : ¬(dieKind p.dstDie = 1 ∧ p.dstUnit = 13)) :
    onSquashFrom p s = s.squashHold p.dstDie p.dstUnit (verdictCore p) p.specEpoch false := by
  have hno : (dieKind p.dstDie == 1 && p.dstUnit == 13) = false := by simpa using hadder
  rw [onSquashFrom, hcore, hno]
  rfl

end

/-! ## SQUASH_FROM at a core -/

/-- A core holds nothing any more of the epochs from `m` on of a producer (log entry 54). -/
def Device.withdrawn (s : Device) (c q m : Nat) : Bool :=
  let d : Dep := nget {} (s.core c).deps q
  squashIdle d.cleaned (nget none (s.core c).shut q) m (!(d.landed.filter (fun e => epochGe e m)).isEmpty)

/-- A core withdraws what arrived of a producer's epochs from `m` on, counts each and shuts the producer out (R176, log entry 150). -/
def Device.withdraw (s : Device) (c q m : Nat) : Device :=
  let k := s.core c
  let d : Dep := nget {} k.deps q
  (s.setCore c { k with
    shut := nset none k.shut q (some (lowerShut k.shut q m)), arrivals := k.arrivals.filter (fun x => !x.ofSquashed q m),
    deps := nset {} k.deps q { d with landed := d.landed.filter (fun e => !epochGe e m) } }).inc
      Reg.TLT_DISCARD_ARRIVALS c (d.landed.filter (fun e => epochGe e m)).length

section
variable {s : Device} {c q m : Nat}

theorem Device.coreSquash_of_withdrawn (h : (s.inc Reg.TLT_SQUASH_IN c 1).withdrawn c q m = true) :
    s.coreSquash c q m = (s.inc Reg.TLT_SQUASH_IN c 1).inc Reg.TLT_VC2_IGNORED c 1 := if_pos h

/-- A core that has consumed none of the epochs named restores no checkpoint of its own (R176). -/
theorem Device.coreSquash_of_unread (hheld : (s.inc Reg.TLT_SQUASH_IN c 1).withdrawn c q m = false)
    (hunread : ∀ h, highEpoch (nget ({} : Dep) ((s.inc Reg.TLT_SQUASH_IN c 1).core c).deps q).epochs = some h → epochGe h m = false) :
    s.coreSquash c q m = (s.inc Reg.TLT_SQUASH_IN c 1).withdraw c q m := by
  refine (if_neg (Bool.eq_false_iff.1 hheld)).trans ?_
  split
  · rfl
  · next h hhigh =>
    rw [hunread h hhigh]
    rfl

end

/-! ## The statement -/

/-- Settles O39: each packet lands and is accepted, so its row has the effect of the unit it is for; at a core, SQUASH_FROM meets
epochs that are withdrawn already or withdraws them. -/
theorem verdictPackets : Obligations.VerdictPackets := by
  unfold Obligations.VerdictPackets
  intro s p hland hok t c q done reply
  have hverdict {kind body out d} := next_of_verdictRow (kind := kind) (body := body) (out := out) (t := d) hland hok
  have hpacket {typ body out d} := next_of_packetRow (typ := typ) (body := body) (out := out) (t := d) hland hok
  refine ⟨fun hp => ?_, fun hp haddr => hpacket (exec_clean_of_unlisted s haddr) hp rfl,
    fun hp hcore => hverdict (exec_reopen s) hp (onReopen_of_core t hcore),
    fun hp hcore => hverdict (exec_reopen s) hp (onReopen_of_hold t hcore),
    fun hp hcore => hverdict (exec_reopenAck s) hp (onReopenAck_of_core t hcore),
    fun hp hcore => hverdict (exec_releaseAck s) hp (onReleaseAck_of_core t hcore),
    fun ⟨hp, hcore⟩ => hverdict (exec_reopenAck s) hp (onReopenAck_of_other t hcore),
    fun ⟨hp, hcore⟩ => hverdict (exec_releaseAck s) hp (onReleaseAck_of_other t hcore),
    fun hp haddr heng hcore => ?_,
    fun hp haddr heng hcore hadder => hpacket (exec_squashFrom_of_order s haddr heng) hp (onSquashFrom_of_hold t hcore hadder),
    fun hp haddr => hpacket (exec_squashFrom_of_unlisted s haddr) hp rfl⟩
  · have hclean {d} := hverdict (d := d) (exec_clean_of_clean s (Packet.verdict_addr hp)) hp
    exact ⟨fun hcore => hclean (onClean_of_core t hcore), fun hdie hunit => hclean (onClean_of_adder t hdie hunit),
      fun hcore hadder => hclean (onClean_of_hold t hcore hadder)⟩
  · have hsquash {d} (h : t.coreSquash c q p.specEpoch = d) :=
      hpacket (exec_squashFrom_of_order s haddr heng) hp ((onSquashFrom_of_core t hcore).trans h)
    exact ⟨hsquash rfl, fun hnone => hsquash (Device.coreSquash_of_withdrawn hnone),
      fun hheld hunread => hsquash (Device.coreSquash_of_unread hheld hunread)⟩

end Sys2Proof.Machine

/-! PROOFS. The counter-clearing registers of tiers, jobs, handles and LDs (R4, R218, R220, R246, R251, R287, R311, R337, R454). -/

namespace Sys2Proof.Machine

/-! ## A write of a counter-clearing register -/

/-- The registers whose write carries out an operation or is checked against the device, whatever their access type. -/
def operationRegs : List Nat :=
  [Reg.SEC_CMD, Reg.MEDIA_RAW_GRANT, Reg.MEM_SCRUB_CTL_CORE, Reg.MEM_SCRUB_CTL_DIE, Reg.MEM_CORE_RET, Reg.PWR_CAP_W, Reg.PWR_CAL_OVERLAY,
    Reg.PWR_DERATE_DEV, Reg.PWR_CORE_DERATE, Reg.AVL_SWAP, Reg.AVL_ROT_CTL, Reg.AVL_ST_RUN, Reg.TIER_PIN_LIMIT, Reg.FTL_GC_URGENT_CTL]

/-- Whether bit 0 of a register clears the counters `rs`, and a write does nothing else: the register has no other bit and no operation,
and no counter of it is one that time fills with free values. -/
def clearsOnly (reg : Nat) (rs : List Nat) : Bool :=
  clears reg == [(0, rs)] && (rs.filter freeReads.contains).isEmpty && !(Reg.STAY_CNT_CLR :: operationRegs).contains reg

theorem clearsOnly_iff {reg : Nat} {rs : List Nat} : clearsOnly reg rs = true ↔
    clears reg = [(0, rs)] ∧ rs.filter freeReads.contains = [] ∧ reg ≠ Reg.STAY_CNT_CLR ∧ reg ∉ operationRegs := by
  simp only [clearsOnly, Bool.and_eq_true, beq_iff_eq, List.isEmpty_iff, Bool.not_eq_true', List.contains_eq_mem, decide_eq_false_iff_not,
    List.mem_cons, not_or, and_assoc, ne_eq]

theorem bit_toNat_of_getLsbD {w i : Nat} {v : BitVec w} (h : v.getLsbD i = true) : bit v.toNat i = true := by
  rw [BitVec.getLsbD, Nat.testBit_eq_decide_div_mod_eq] at h
  simpa [bit] using h

section
variable {s : Device} {p : Path} {reg i : Nat} {v : BitVec 32}

/-- A write-only register without an operation of its own is one that clears counters (R4). -/
theorem Device.regEffect_of_writeOnly {cmd : Option Nat} {pass : Bool} {addr : Nat} {r : RegRow} {x : RegAt} {v : Nat}
    (hplain : x.reg ∉ operationRegs) (hwo : r.access = .wo) : s.regEffect p cmd pass addr r x v = (some St.ok, s.clearCounters x v) := by
  simp only [operationRegs, List.mem_cons, List.not_mem_nil, or_false, not_or] at hplain
  simp [Device.regEffect, hplain, hwo]

/-- The spells of a job are counted before its counters are cleared (R246). -/
def Device.beforeClear (s : Device) (reg i : Nat) : Device := if reg = Reg.JOB_CNT_CLR then s.countOpen i else s

theorem Device.clearCounters_of_clearsOnly {rs : List Nat} {k v : Nat} (hclears : clearsOnly reg rs = true) (hv : bit v 0 = true) :
    s.clearCounters ⟨reg, i, k⟩ v = (s.beforeClear reg i).zero i rs := by
  obtain ⟨hbits, hcounts, hshare, _⟩ := clearsOnly_iff.1 hclears
  simp only [Device.clearCounters, hbits, List.foldl_cons, List.foldl_nil, hv, if_true, hcounts, hshare, false_and, if_false]
  rfl

@[simp] theorem Device.beforeClear_faults : (s.beforeClear reg i).faults = s.faults := by
  unfold Device.beforeClear Device.countOpen
  split
  · split <;> rfl
  · rfl

theorem Device.writeReg_of_clearsOnly {rs : List Nat} (hreach : s.reaches p reg i = true) (hrow : regIs reg i .wo [] = true)
    (hclears : clearsOnly reg rs = true) (hfaults : s.faults = []) (hv : v.getLsbD 0 = true) :
    s.writeReg p reg i v = (s.beforeClear reg i).zero i rs := by
  obtain ⟨_, _, _, hplain⟩ := clearsOnly_iff.1 hclears
  obtain ⟨t, r, k, x, hat, hwo, hchecks, hpos⟩ := regIs_spec hrow
  have hfaults' : ((s.beforeClear reg i).zero i rs).faults = [] := by rw [Device.zero_faults, Device.beforeClear_faults, hfaults]
  have hrange : checksOk r v.toNat = true := by rw [checksOk, hchecks]; rfl
  rw [Device.writeReg_reaches s p reg i v t r k hreach hat (by rw [hwo]; nofun), if_pos hrange, hpos,
    Device.regEffect_of_writeOnly hplain hwo, Device.clearCounters_of_clearsOnly hclears (bit_toNat_of_getLsbD hv)]
  exact Device.settleFaults_nil _ hfaults'

end

/-! ## The statement -/

/-- The counter-clearing registers of tiers, jobs, handles and LDs stand in their tables as write-only, with every value allowed. -/
theorem clearingRegs_writeOnly : regIs Reg.TIER_CNT_CLR 0 .wo [] = true ∧
    (∀ i < 64, ∀ reg ∈ [Reg.TIER_JOB_CNT_CLR, Reg.JOB_CNT_CLR, Reg.TKL_JOB_CNT_CLR, Reg.EMB_H_CNT_CLR, Reg.SRCH_H_CNT_CLR],
      regIs reg i .wo [] = true) ∧
    ∀ i < 16, regIs Reg.HIF_LD_CNT_CLR i .wo [] = true := by decide +kernel

/-- A row that writes a counter-clearing register. -/
theorem next_of_clearsOnly {out : Out} {s : State} {ok : Bool} {p : Path} {reg i : Nat} {v : BitVec 32} {rs : List Nat}
    (h : out = onDevice s fun d => atUnit ok (d.writeReg p reg i v)) (hok : pathOk p = true → ok = true)
    (hrow : regIs reg i .wo [] = true) (hclears : clearsOnly reg rs = true) (hreach : s.reaches p reg i = true) (hfaults : s.faults = [])
    (hv : v.getLsbD 0 = true) : out = .next (s.after ((s.beforeClear reg i).zero i rs)) :=
  next_of_atUnit (hok (Device.reaches_pathOk hreach)) h (Device.writeReg_of_clearsOnly hreach hrow hclears hfaults hv)

/-- Settles O7: each register is write-only and clears the counters that its rule names, by bit 0. -/
theorem countersClearedPerJobAndHandle : Obligations.CountersClearedPerJobAndHandle := by
  unfold Obligations.CountersClearedPerJobAndHandle
  obtain ⟨htier, hrow, hld⟩ := clearingRegs_writeOnly
  have hunit {p : Path} {i n : Nat} (hi : i < n) (hp : pathOk p = true) : (pathOk p && decide (i < n)) = true := by simp [hp, hi]
  refine ⟨fun s p v => ?_, fun s p j v hj => ?_, fun s p j v hj => ?_, fun s p j v hj => ?_, fun s p h v hh => ?_, fun s p h v hh => ?_,
    fun s p ld v hl => ?_⟩
  · exact next_of_clearsOnly (out := execTierCntClr p v s) rfl id htier (by decide)
  · exact next_of_clearsOnly (out := execTierJobCntClr p j v s) rfl (hunit hj) (hrow j hj _ (by decide)) (by decide)
  · exact next_of_clearsOnly (out := execJobCntClr p j v s) rfl (hunit hj) (hrow j hj _ (by decide)) (by decide)
  · exact next_of_clearsOnly (out := execTklJobCntClr p j v s) rfl (hunit hj) (hrow j hj _ (by decide)) (by decide)
  · exact next_of_clearsOnly (out := execEmbHCntClr p h v s) rfl (hunit (by omega)) (hrow h hh _ (by decide)) (by decide)
  · exact next_of_clearsOnly (out := execSrchHCntClr p h v s) rfl (hunit hh) (hrow h hh _ (by decide)) (by decide)
  · exact next_of_clearsOnly (out := execHifLdCntClr p ld v s) rfl (hunit hl) (hld ld hl) (by decide)

end Sys2Proof.Machine

/-! PROOFS. PLACE and UNPLACE (R204, R210 to R215, R217, R218, R220, R430). -/

namespace Sys2Proof.Machine

/-! ## PLACE -/

section
variable {c : Cmd} {s : Device} {st : Nat}

/-- A PLACE refused for capacity is counted by the device (R218). -/
def Device.noteCapacity (s : Device) (st : Nat) : Device := if st = St.refusedCapacity then s.inc Reg.TIER_REFUSED 0 1 else s

/-- The statuses that the job of a refused PLACE counts (R220). -/
def countsForJob (st : Nat) : Prop := st = St.refusedCapacity ∨ st = St.nsAbsent ∨ st = St.notOwner

theorem notePlace_of_job (hnamed : bit (fld c.slot 19 1) 1 = true) (hjob : fld c.slot 20 1 < 64) (hcounts : countsForJob st) :
    notePlace c s st = (s.noteCapacity st).inc Reg.TIER_JOB_REFUSED (fld c.slot 20 1) 1 := by
  have hplaced : ∀ t, (placeObj t c.slot 0).job = some (fld c.slot 20 1) := fun t => by simp [placeObj, hnamed, Nat.mod_eq_of_lt hjob]
  rw [notePlace, hplaced]
  exact if_pos ⟨hjob, hcounts⟩

theorem notePlace_of_uncounted (h : bit (fld c.slot 19 1) 1 = false ∨ 64 ≤ fld c.slot 20 1 ∨ ¬countsForJob st) :
    notePlace c s st = s.noteCapacity st := by
  rw [notePlace]
  split
  · next j hj =>
    refine if_neg ?_
    rintro ⟨hjob, hcounts⟩
    obtain hunnamed | hlarge | hno := h
    · simp [placeObj, hunnamed] at hj
    · omega
    · exact hno hcounts
  · rfl

end

/-- The row of PLACE: its effect where its checks pass, else its end with the status of the check, counted. -/
theorem exec_place {s : State} {c : Cmd} (hc : Cmd.of 0x30 c = true) (hr : s.runs c (bytesOf 57 63) false = true) :
    exec (.place c) s = .next (s.after (match checkPlace c (s.begin c).2 (s.begin c).1 with
      | none => runPlace c (s.begin c).2 (s.begin c).1
      | some (st, r) => (notePlace c (s.begin c).2 st).finish (s.begin c).1 st r)) :=
  next_of (out := execPlace c s) rfl (ryernNote_runs _ _ _ _ _ _ _ _ hc hr)

theorem exec_place_of_placed {s : State} {c : Cmd} (hc : Cmd.of 0x30 c = true) (hr : s.runs c (bytesOf 57 63) false = true)
    (hcheck : checkPlace c (s.begin c).2 (s.begin c).1 = none) :
    exec (.place c) s = .next (s.after (runPlace c (s.begin c).2 (s.begin c).1)) := by rw [exec_place hc hr, hcheck]

theorem exec_place_of_refused {s : State} {c : Cmd} {st r : Nat} {d : Device} (hc : Cmd.of 0x30 c = true)
    (hr : s.runs c (bytesOf 57 63) false = true) (hcheck : checkPlace c (s.begin c).2 (s.begin c).1 = some (st, r))
    (hnote : notePlace c (s.begin c).2 st = d) : exec (.place c) s = .next (s.after (d.finish (s.begin c).1 st r)) := by
  rw [exec_place hc hr, hcheck, ← hnote]

/-! ## The statement -/

/-- Settles O28: a PLACE that fails is noted by its status and the job it names; UNPLACE is a Ryern row with one check. -/
theorem placementCommands : Obligations.PlacementCommands := by
  unfold Obligations.PlacementCommands
  refine fun s c => ⟨fun hc hr => ⟨exec_place_of_placed hc hr, fun st r hcheck => ⟨?_, fun huncounted => ?_⟩⟩, fun hc hr => ?_⟩
  · rintro _ hnamed rfl hjob hcounts
    exact exec_place_of_refused hc hr hcheck (notePlace_of_job hnamed hjob hcounts)
  · exact exec_place_of_refused hc hr hcheck (notePlace_of_uncounted huncounted)
  · exact next_of_ryern (out := execUnplace c s) rfl hc hr

end Sys2Proof.Machine

/-! PROOFS. Slice loads and landings, routing, batches, tasks, steals, barriers and pace (R188, R189, R199, R200, R217, R233 to R246). -/

namespace Sys2Proof.Machine

/-! ## Slice loads -/

section
variable {s t : Device} {ord die k : Nat} {l : Load} {rest : List Load} {o : Obj} {x : Slice}

theorem Device.tryLoads_of_done (h : s.loadOf ord l = none) :
    Device.tryLoads ord die k (l :: rest) s = Device.tryLoads ord die k rest s := by rw [Device.tryLoads, h]

theorem Device.tryLoads_of_blocked (hload : s.loadOf ord l = some (o, x)) (hplace : s.placeSlice l.slice o x l.job = (false, t)) :
    Device.tryLoads ord die k (l :: rest) s = Device.tryLoads ord die k rest (t.blockLoad l) := by
  rw [Device.tryLoads, hload]
  dsimp only
  rw [hplace]

theorem Device.tryLoads_of_placed (hload : s.loadOf ord l = some (o, x)) (hplace : s.placeSlice l.slice o x l.job = (true, t)) :
    Device.tryLoads ord die k (l :: rest) s =
      if x.resident then (t.unblockLoad l l.slice).dropLoad l.slice else (t.unblockLoad l l.slice).issueRead l.slice o ord die k := by
  rw [Device.tryLoads, hload]
  dsimp only
  rw [hplace]

theorem onSliceFetchIssue_of_free (hup : s.hsUp ord = true) (hrun : s.resetting = false)
    (hslot : (List.range 32).find? (fun k => (s.slot (s.hsDie ord) k).isNone) = some k) :
    onSliceFetchIssue ord s = Device.tryLoads ord (s.hsDie ord) k s.tier.loads s := by
  rw [onSliceFetchIssue, hup, hrun, hslot]
  rfl

theorem onSliceFetchIssue_of_idle (h : s.hsUp ord = false ∨ s.resetting = true ∨
    (∀ k < 32, (s.slot (s.hsDie ord) k).isSome = true) ∨ s.tier.loads = []) : onSliceFetchIssue ord s = s := by
  unfold onSliceFetchIssue
  split
  · rfl
  · next hserves =>
    split
    · rfl
    · next k hslot =>
      obtain hdown | hreset | hfull | hempty := h
      · simp [hdown] at hserves
      · simp [hreset] at hserves
      · have hk : k < 32 := List.mem_range.1 (List.mem_of_find?_eq_some hslot)
        have hfree := List.find?_some hslot
        simp [Option.isNone_eq_false_iff.2 (hfull k hk)] at hfree
      · rw [hempty, Device.tryLoads]

end

/-! ## Landed slots -/

/-- A landed slot is free, and what landed in it stands in the pages of its slice, poison marks with it (R188, R189). -/
def Device.takeLanded (s : Device) (die k : Nat) (l : Landing) (x : Slice) (page : Nat) : Device :=
  ((s.setSlot die k none).writeMem 5 x.hs (page * pageBytes + l.offset) (s.readMem 4 die (k * unitBytes) l.bytes)
    (s.poisonIn 4 die (k * unitBytes) l.bytes)).setSlice l.slice (some { x with loaded := x.loaded + l.bytes })

/-- The bytes that a slice took from flash are counted (R218). -/
def Device.countFlash (s : Device) (o : Obj) (n : Nat) : Device := if o.srcKind = 1 then s.inc Reg.TIER_FLASH_BYTES 0 n else s

/-- What landed is counted, a poisoned word of a window or demand slice is noted, and the slice goes on (R217, R218). -/
def Device.noteLanded (s : Device) (l : Landing) (bad : List Nat) (o : Obj) : Device :=
  let u := s.countFlash o l.bytes
  (if !bad.isEmpty && (o.policy == 2 || o.policy == 3) then u.noteSpoiled l.slice else u).sliceLoaded l.slice

/-- The page size as a number without a value: the kernel multiplies by a literal one step at a time where the other factor is open. -/
theorem exists_pageSize : ∃ n, n = pageBytes := ⟨_, rfl⟩

section
variable {s : Device} {ord k : Nat} {l : Landing}

theorem onStagingMove_of_empty (h : s.slot (s.hsDie ord) k = none) : onStagingMove ord k s = s := by
  unfold onStagingMove
  simp only [h]

theorem onStagingMove_of_landing (hslot : s.slot (s.hsDie ord) k = some l) (hlanding : l.landed < l.bytes) :
    onStagingMove ord k s = s := by
  unfold onStagingMove
  obtain ⟨n, hn⟩ := exists_pageSize
  rw [← hn]
  simp only [hslot, hlanding, if_true]

theorem onStagingMove_of_gone (hslot : s.slot (s.hsDie ord) k = some l) (hlanded : l.bytes ≤ l.landed)
    (hgone : (s.setSlot (s.hsDie ord) k none).slice l.slice = none) : onStagingMove ord k s = s.setSlot (s.hsDie ord) k none := by
  unfold onStagingMove
  obtain ⟨n, hn⟩ := exists_pageSize
  rw [← hn]
  simp only [hslot, Nat.not_lt.2 hlanded, if_false, hgone]

theorem onStagingMove_of_landed {x : Slice} {page : Nat} {o : Obj} (hslot : s.slot (s.hsDie ord) k = some l)
    (hlanded : l.bytes ≤ l.landed) (hslice : (s.setSlot (s.hsDie ord) k none).slice l.slice = some x) (hpage : x.page = some page)
    (hobj : (s.takeLanded (s.hsDie ord) k l x page).obj (sliceObj l.slice) = some o) :
    onStagingMove ord k s =
      (s.takeLanded (s.hsDie ord) k l x page).noteLanded l (s.poisonIn 4 (s.hsDie ord) (k * unitBytes) l.bytes) o := by
  unfold Device.takeLanded at hobj ⊢
  unfold onStagingMove
  obtain ⟨n, hn⟩ := exists_pageSize
  rw [← hn] at hobj ⊢
  simp only [hslot, Nat.not_lt.2 hlanded, if_false, hslice, hpage] at hobj ⊢
  rw [hobj]
  rfl

end

section
variable {s : Device} {l : Landing} {bad : List Nat} {o : Obj}

theorem Device.noteLanded_of_sound (h : bad = [] ∨ (o.policy ≠ 2 ∧ o.policy ≠ 3)) :
    s.noteLanded l bad o = (s.countFlash o l.bytes).sliceLoaded l.slice := by
  refine congrArg (Device.sliceLoaded · l.slice) (if_neg ?_)
  obtain hsound | hother := h
  · simp [hsound]
  · simp [hother]

theorem Device.noteLanded_of_poisoned (hbad : bad ≠ []) (hpolicy : o.policy = 2 ∨ o.policy = 3) :
    s.noteLanded l bad o = ((s.countFlash o l.bytes).noteSpoiled l.slice).sliceLoaded l.slice :=
  congrArg (Device.sliceLoaded · l.slice) (if_pos (by simpa [hpolicy] using hbad))

end

/-! ## Routing and barriers -/

/-- The dispatcher takes the next record of the DISPATCH whose turn it is (R233). -/
def Device.takeRecord (s : Device) (d : Disp) (left : Nat) : Device :=
  ({ s with work := { s.work with turnOrder := s.dispOrder d, turnLeft := left - 1 } } : Device).setDisp { d with routed := d.routed + 1 }

/-- The record taken goes to its batch, or waits at the dispatcher for a slot (R235, R237). -/
def Device.placeRecord (s : Device) (seq : Nat) (x : Job) (d : Disp) (r : Rec) : Device :=
  match s.batchRecord x { d with routed := d.routed + 1 } d.routed r with
  | some t => t
  | none => match s.disp seq with
    | some d' => s.setDisp { d' with waiting := d'.waiting ++ [(s.now, d.routed)] }
    | none => s

/-- Time that idle cores waited for a barrier is counted (R246). -/
def Device.countBarrier (s : Device) (d : Disp) : Device :=
  match s.job d.job with
  | some x => x.cores.foldl (fun (a : Device) c => match nget none a.work.idleFrom c with
      | some t => a.inc Reg.JOB_BARRIER_WAIT_NS d.job (a.now - a.uncounted d.job (max t d.goFrom))
      | none => a) s
  | none => s

/-- A DISPATCH goes, and the barriers of its job that still wait are counted from now on (R245, R246). -/
def Device.passBarrier (s : Device) (d : Disp) : Device :=
  let t := s.setDisp { d with go := true }
  let disps := t.work.disps.map (fun (e : Disp) => if e.job = d.job ∧ !e.go then { e with goFrom := t.now } else e)
  ({ t with work := { t.work with disps } } : Device).showBarrier d.job

section
variable {s : Device} {seq left : Nat} {d : Disp}

theorem onRecordRoute_of_none (h : s.routeTurn = none) : onRecordRoute seq s = s := by rw [onRecordRoute, h]

theorem onRecordRoute_of_other (hturn : s.routeTurn = some (d, left)) (hother : d.seq ≠ seq) : onRecordRoute seq s = s := by
  rw [onRecordRoute, hturn]
  dsimp only
  split
  · exact if_pos hother
  · rfl

section
variable {x : Job} {r : Rec}

theorem Device.placeRecord_of_batched {t : Device} (hbatch : s.batchRecord x { d with routed := d.routed + 1 } d.routed r = some t) :
    s.placeRecord seq x d r = t := by rw [Device.placeRecord, hbatch]

theorem Device.placeRecord_of_full {d' : Disp} (hfull : s.batchRecord x { d with routed := d.routed + 1 } d.routed r = none)
    (hdisp : s.disp seq = some d') :
    s.placeRecord seq x d r = s.setDisp { d' with waiting := d'.waiting ++ [(s.now, d.routed)] } := by
  rw [Device.placeRecord, hfull]
  dsimp only
  rw [hdisp]

theorem onRecordRoute_of_turn (hturn : s.routeTurn = some (d, left)) (hseq : d.seq = seq) (hjob : s.job d.job = some x)
    (hrec : d.recs[d.routed]? = some r) :
    onRecordRoute seq s =
      ((((s.takeRecord d left).placeRecord seq x d r).showSlotWait d.job).pressure d.job (s.recHome d r)).flushDisp seq := by
  unfold onRecordRoute
  rw [hturn]
  dsimp only
  rw [hjob, hrec]
  exact if_neg fun hother => hother hseq

end

theorem onBarrierDispatchStart_of_none (h : s.disp seq = none) : onBarrierDispatchStart seq s = s := by
  rw [onBarrierDispatchStart, h]

theorem onBarrierDispatchStart_of_barred (hdisp : s.disp seq = some d) (h : d.go = true ∨ s.barred d.n d.job = true) :
    onBarrierDispatchStart seq s = s := by
  rw [onBarrierDispatchStart, hdisp]
  exact if_pos (Bool.or_eq_true_iff.2 h)

theorem onBarrierDispatchStart_of_free (hdisp : s.disp seq = some d) (hwaits : d.go = false) (hfree : s.barred d.n d.job = false) :
    onBarrierDispatchStart seq s = (s.countBarrier d).passBarrier d := by
  rw [onBarrierDispatchStart, hdisp]
  dsimp only
  rw [hwaits, hfree]
  rfl

end

/-! ## Batches, tasks and steals -/

section
variable {s d : Device} {ord j slot c : Nat} {b : Batch} {x : Job} {t : QTask}

theorem onBatchTimerExpiry_of_open
    (h : s.work.batches.find? (fun b => b.hs = ord ∧ b.job = j ∧ b.slot = slot ∧ b.st = 0 ∧ b.timer ≠ 0) = some b) :
    onBatchTimerExpiry ord j slot s = if s.resetting then s else s.releaseBatch b 3 := by
  rw [onBatchTimerExpiry, h]

theorem onBatchTimerExpiry_of_none
    (h : s.work.batches.find? (fun b => b.hs = ord ∧ b.job = j ∧ b.slot = slot ∧ b.st = 0 ∧ b.timer ≠ 0) = none) :
    onBatchTimerExpiry ord j slot s = s := by
  rw [onBatchTimerExpiry, h]

theorem onOutputCopyComplete_of_copying
    (h : s.work.batches.find? (fun b => b.hs = ord ∧ b.job = j ∧ b.slot = slot ∧ b.st = 3) = some b) :
    onOutputCopyComplete ord j slot s = (s.copyDone b).settleAll := by
  rw [onOutputCopyComplete, h]

theorem onTaskGive_of_held (h : s.job j = none ∨ s.computeHeld = true) : onTaskGive ord j s = s := by
  unfold onTaskGive
  split
  · rfl
  · next x hjob =>
    have hheld : s.computeHeld = true := by simpa [hjob] using h
    exact if_pos (by simp [hheld])

theorem onTaskGive_of_idle (hjob : s.job j = some x) (hrun : s.computeHeld = false) (hup : s.fenced (sparDie ord) = false)
    (hcore : s.idleCore (sparDie ord) x = some c) (hpick : s.pickTask (s.dieQueue (sparDie ord) j true) = (some t, d)) :
    onTaskGive ord j s = d.giveTask c t := by
  simp [onTaskGive, hjob, hrun, hup, hcore, hpick]

theorem onWorkSteal_of_held (h : s.job j = none ∨ s.computeHeld = true) : onWorkSteal ord j s = s := by
  unfold onWorkSteal
  split
  · rfl
  · next x hjob =>
    have hheld : s.computeHeld = true := by simpa [hjob] using h
    exact if_pos (by simp [hheld])

theorem onWorkSteal_of_idle {v : Nat} (hjob : s.job j = some x) (hrun : s.computeHeld = false) (hup : s.fenced (sparDie ord) = false)
    (hhops : s.rdf Reg.JOB_CTL j 20 16 ≠ 0) (hown : s.dieQueue (sparDie ord) j true = [])
    (hcore : s.idleCore (sparDie ord) x = some c)
    (hvictim : (s.stealOrder (sparDie ord) (s.rdf Reg.JOB_CTL j 20 16)).find?
      (fun d => (s.idleCore d x).isNone && !(s.dieQueue d j false).isEmpty) = some v)
    (hpick : s.pickTask (s.dieQueue v j false) = (some t, d)) : onWorkSteal ord j s = (d.giveTask c t).inc Reg.JOB_STEALS j 1 := by
  simp [onWorkSteal, hjob, hrun, hup, hhops, hown, hcore, hvictim, hpick]

end

/-! ## Pace -/

/-- The pace of a job of the interval that ends is stored where the job is open (R246). -/
def Device.storePace (s : Device) (j : Nat) : Device :=
  if s.jobState j = 0 then s else s.wr Reg.JOB_PACE_PPS j (nget 0 s.work.pace j)

/-- What JOB_PACE_PPS of a job shows at the end of an interval (R246). -/
def Device.paceShown (s : Device) (j : Nat) : Nat := if s.jobState j = 0 then s.rd Reg.JOB_PACE_PPS j else nget 0 s.work.pace j

section
variable (s : Device) (j k : Nat)

theorem Device.storePace_frame : { s.storePace j with regs := s.regs } = s := by
  unfold Device.storePace
  split <;> rfl

/-- JOB_STATUS and JOB_PACE_PPS stand at different offsets of their tables. -/
theorem regAddr_jobStatus_ne_pace : regAddr Reg.JOB_STATUS k ≠ regAddr Reg.JOB_PACE_PPS j := by
  simp only [regAddr, Reg.JOB_STATUS, Reg.JOB_PACE_PPS]
  omega

theorem Device.jobState_storePace : (s.storePace j).jobState k = s.jobState k := by
  unfold Device.storePace
  split
  · rfl
  · exact Device.rdf_wr_ne s _ _ _ _ _ _ _ (regAddr_jobStatus_ne_pace j k)

theorem Device.rd_storePace_same : (s.storePace j).rd Reg.JOB_PACE_PPS j = s.paceShown j := by
  unfold Device.storePace Device.paceShown
  split
  · rfl
  · exact Device.rd_wr_same s _ _ _

theorem Device.rd_storePace_ne (h : k ≠ j) : (s.storePace j).rd Reg.JOB_PACE_PPS k = s.rd Reg.JOB_PACE_PPS k := by
  unfold Device.storePace
  split
  · rfl
  · exact Device.rd_wr_ne s _ _ _ _ _ (by simp only [regAddr]; omega)

theorem Device.paceShown_storePace : (s.storePace j).paceShown k = s.paceShown k := by
  have hwork : (s.storePace j).work = s.work := (congrArg (fun d : Device => d.work) (s.storePace_frame j) :)
  by_cases hjk : k = j
  · subst hjk
    rw [Device.paceShown, Device.jobState_storePace, Device.rd_storePace_same, hwork]
    unfold Device.paceShown
    split <;> rfl
  · rw [Device.paceShown, Device.jobState_storePace, Device.rd_storePace_ne s j k hjk, hwork]
    rfl

end

theorem Device.foldl_storePace_frame : ∀ (js : List Nat) (s : Device), { js.foldl Device.storePace s with regs := s.regs } = s
  | [], _ => rfl
  | j :: js, s => by
    have htail := congrArg (fun d : Device => { d with regs := s.regs }) (Device.foldl_storePace_frame js (s.storePace j))
    exact htail.trans (s.storePace_frame j)

theorem Device.rd_foldl_storePace (k : Nat) : ∀ (js : List Nat) (s : Device),
    (js.foldl Device.storePace s).rd Reg.JOB_PACE_PPS k = if k ∈ js then s.paceShown k else s.rd Reg.JOB_PACE_PPS k
  | [], _ => rfl
  | j :: js, s => by
    rw [List.foldl_cons, Device.rd_foldl_storePace k js, Device.paceShown_storePace]
    by_cases hjk : k = j
    · subst hjk
      simp [Device.rd_storePace_same]
    · simp [hjk, Device.rd_storePace_ne s j k hjk]

/-- The paces of all jobs are stored, and the counts start anew (R246). -/
def Device.endPace (s : Device) : Device :=
  let t := (List.range 64).foldl Device.storePace s
  { t with work := { t.work with pace := [] } }

theorem exec_paceInterval (s : State) : exec .paceInterval s = .next (s.after s.toDevice.endPace) := rfl

section
variable (s : Device)

theorem Device.endPace_work : s.endPace.work = { s.work with pace := [] } :=
  congrArg (fun d : Device => { d.work with pace := [] }) (Device.foldl_storePace_frame (List.range 64) s)

theorem Device.endPace_frame : { s.endPace with regs := s.regs, work := s.work } = s :=
  congrArg (fun d : Device => { d with work := s.work }) (Device.foldl_storePace_frame (List.range 64) s)

theorem Device.rd_endPace {j : Nat} (hj : j < 64) : s.endPace.rd Reg.JOB_PACE_PPS j = s.paceShown j :=
  (Device.rd_foldl_storePace j (List.range 64) s).trans (if_pos (List.mem_range.2 hj))

end

/-! ## The statement -/

/-- Settles O45: each event finds the load, slot, record, batch or task that its rule names and moves it on, or does nothing. -/
theorem slicesAndTasks : Obligations.SlicesAndTasks := by
  unfold Obligations.SlicesAndTasks
  refine ⟨fun s ord hord => ?_, fun s ord k hord hk => ?_, fun s seq => ?_, fun s ord j slot hord hj => ?_, fun s => ?_⟩
  · have hfetch {d} := next_of_atUnit (d := d) (out := execSliceFetchIssue ord s) (decide_eq_true hord) rfl
    refine ⟨fun hidle => hfetch (onSliceFetchIssue_of_idle hidle), fun k l rest hup hrun hslot hloads => ?_⟩
    have htry {d} (h : Device.tryLoads ord (s.hsDie ord) k (l :: rest) s.toDevice = d) :=
      hfetch ((onSliceFetchIssue_of_free hup hrun hslot).trans (hloads ▸ h))
    refine ⟨fun hdone => htry (Device.tryLoads_of_done hdone), fun o x t hload => ⟨fun hplace => ?_, fun hplace hwhole => ?_,
      fun hplace hpart => ?_⟩⟩
    · exact htry (Device.tryLoads_of_blocked hload hplace)
    · exact htry ((Device.tryLoads_of_placed hload hplace).trans (if_pos hwhole))
    · exact htry ((Device.tryLoads_of_placed hload hplace).trans (if_neg (Bool.eq_false_iff.1 hpart)))
  · have hmove {d} := next_of_atUnit (d := d) (out := execStagingMove ord k s) (by simp [hord, hk]) rfl
    refine ⟨fun hempty => hmove (onStagingMove_of_empty hempty), fun l hslot hlanding => hmove (onStagingMove_of_landing hslot hlanding),
      fun l hslot hlanded hgone => hmove (onStagingMove_of_gone hslot hlanded hgone), fun l x p o hslot hlanded hslice hpage => ?_⟩
    intro bad t hobj u
    have hlands := onStagingMove_of_landed hslot hlanded hslice hpage hobj
    exact ⟨fun hsound => hmove (hlands.trans (Device.noteLanded_of_sound hsound)),
      fun hbad hpolicy => hmove (hlands.trans (Device.noteLanded_of_poisoned hbad hpolicy))⟩
  · have hroute {d} (h : onRecordRoute seq s.toDevice = d) := next_of (out := execRecordRoute seq s) rfl (congrArg Host.Outcome.next h)
    have hbarrier {d} (h : onBarrierDispatchStart seq s.toDevice = d) :=
      next_of (out := execBarrierDispatchStart seq s) rfl (congrArg Host.Outcome.next h)
    refine ⟨fun hnone => hroute (onRecordRoute_of_none hnone), fun d left hturn hother => hroute (onRecordRoute_of_other hturn hother),
      fun d left x r hturn hseq hjob hrec => ?_, fun hnone => hbarrier (onBarrierDispatchStart_of_none hnone),
      fun d hdisp hbarred => hbarrier (onBarrierDispatchStart_of_barred hdisp hbarred),
      fun d hdisp hwaits hfree => hbarrier (onBarrierDispatchStart_of_free hdisp hwaits hfree)⟩
    have hplace {t} (h : (s.takeRecord d left).placeRecord seq x d r = t) := hroute ((onRecordRoute_of_turn hturn hseq hjob hrec).trans
      (congrArg (fun t : Device => ((t.showSlotWait d.job).pressure d.job (s.recHome d r)).flushDisp seq) h))
    exact ⟨fun t hbatch => hplace (Device.placeRecord_of_batched hbatch),
      fun d' hfull hdisp => hplace (Device.placeRecord_of_full hfull hdisp)⟩
  · have hunit : (decide (ord < 40) && decide (j < 64)) = true := by simp [hord, hj]
    have htimer {d} := next_of_atUnit (d := d) (out := execBatchTimerExpiry ord j slot s) hunit rfl
    have hcopy {d} := next_of_atUnit (d := d) (out := execOutputCopyComplete ord j slot s) hunit rfl
    have hgive {d} := next_of_atUnit (d := d) (out := execTaskGive ord j s) hunit rfl
    have hsteal {d} := next_of_atUnit (d := d) (out := execWorkSteal ord j s) hunit rfl
    refine ⟨fun b hopen => ⟨fun hreset => ?_, fun hrun => ?_⟩, fun hnone => htimer (onBatchTimerExpiry_of_none hnone),
      fun b hcopying => hcopy (onOutputCopyComplete_of_copying hcopying),
      fun hheld => ⟨hgive (onTaskGive_of_held hheld), hsteal (onWorkSteal_of_held hheld)⟩,
      fun x c t d hjob hrun hup hcore hpick => hgive (onTaskGive_of_idle hjob hrun hup hcore hpick),
      fun x c v t d hjob hrun hup hhops hown hcore hvictim hpick =>
        hsteal (onWorkSteal_of_idle hjob hrun hup hhops hown hcore hvictim hpick)⟩
    · exact htimer ((onBatchTimerExpiry_of_open hopen).trans (if_pos hreset))
    · exact htimer ((onBatchTimerExpiry_of_open hopen).trans (if_neg (Bool.eq_false_iff.1 hrun)))
  · exact ⟨s.toDevice.endPace, exec_paceInterval s, s.endPace_work, fun j hj hopen => (s.rd_endPace hj).trans (if_neg hopen),
      fun j hj hclosed => (s.rd_endPace hj).trans (if_pos hclosed), s.endPace_frame⟩

end Sys2Proof.Machine

/-! PROOFS. Rejected host transfers, and JOB_OPEN, JOB_CLOSE, ROUTE_WRITE and DISPATCH (R223 to R234, R257, R430, R439, R602). -/

namespace Sys2Proof.Machine

/-! ## Rejected host transfers -/

section
variable {s : Device} {n hreg off done : Nat} {p : Pending}

/-- A READ one of whose transfers was rejected: the units not yet read are dropped, and it ends with the bytes it had moved (R439). -/
def Device.rejectRead (s : Device) (n moved : Nat) : Device :=
  (({ s with media := { s.media with ios := s.media.ios.filter (fun q => q.n ≠ n) } } : Device).dropReads
    (fun d => match d with | .cmd m _ => m == n | _ => false)).finish n St.invalidField moved

/-- A WRITE one of whose transfers was rejected: the units that no program has taken are dropped, and `done` is what it had
transferred (R439, log entry 100). -/
def Device.rejectWrite (s : Device) (n done : Nat) (p : Pending) : Device :=
  ((s.unhold n).dropWrite p done).finish n St.invalidField done

/-- A PLACE one of whose transfers was rejected: the loads of its object are dropped (R439). -/
def Device.rejectPlace (s : Device) (n done : Nat) (p : Pending) : Device :=
  ({ s with tier := { s.tier with
    loads := s.tier.loads.filter (fun l => sliceObj l.slice ≠ objKey p.ld (fld p.slot 16 2)) } } : Device).finish n St.invalidField done

/-- How a rejected transfer ends the command that named the range, by its opcode (R234, R439). -/
def Device.rejectCmd (s : Device) (n done : Nat) (p : Pending) : Device :=
  if fld p.slot 0 1 = 0x23 then match s.work.disps.find? (fun d => d.n = n) with
    | some d => s.cutDisp d.seq true
    | none => s
  else if fld p.slot 0 1 = 0x01 then s.rejectRead n (((s.media.ios.find? (fun r => r.n = n)).map (·.moved)).getD 0)
  else if fld p.slot 0 1 = 0x02 then s.rejectWrite n done p
  else s.rejectPlace n done p

theorem Device.rejectCmd_of_dispatch {d : Disp} (hop : fld p.slot 0 1 = 0x23) (hdisp : s.work.disps.find? (fun e => e.n = n) = some d) :
    s.rejectCmd n done p = s.cutDisp d.seq true := by
  rw [Device.rejectCmd, if_pos hop, hdisp]

theorem Device.rejectCmd_of_read {r : IoRead} (hop : fld p.slot 0 1 = 0x01) (hio : s.media.ios.find? (fun q => q.n = n) = some r) :
    s.rejectCmd n done p = s.rejectRead n r.moved := by
  rw [Device.rejectCmd, if_neg (by omega), if_pos hop, hio]
  rfl

theorem Device.rejectCmd_of_write (hop : fld p.slot 0 1 = 0x02) : s.rejectCmd n done p = s.rejectWrite n done p := by
  rw [Device.rejectCmd, if_neg (by omega), if_neg (by omega), if_pos hop]

theorem Device.rejectCmd_of_place (hop : fld p.slot 0 1 = 0x30) : s.rejectCmd n done p = s.rejectPlace n done p := by
  rw [Device.rejectCmd, if_neg (by omega), if_neg (by omega), if_neg (by omega)]

/-- A command that does not name the range is not touched. -/
theorem onHostDmaReject_of_other (hcmd : s.cmd n = some p) (hother : cmdHreg p.slot ≠ some hreg) :
    onHostDmaReject n hreg off done s = s := by
  rw [onHostDmaReject, hcmd]
  exact if_pos (.inr (.inr hother))

/-- A started command that names the range: the record, its end by its opcode, and what waits goes on (R439, R602). -/
theorem onHostDmaReject_of_named (hcmd : s.cmd n = some p) (hphase : p.phase = .started) (hran : p.ran = true)
    (hnamed : cmdHreg p.slot = some hreg) :
    onHostDmaReject n hreg off done s = ((s.dmaErrorRecord p hreg off).rejectCmd n done p).settleAll := by
  have htouched : ¬ (p.phase ≠ .started ∨ (!p.ran) = true ∨ cmdHreg p.slot ≠ some hreg) := by simp [hphase, hran, hnamed]
  rw [onHostDmaReject, hcmd]
  exact if_neg htouched

end

theorem exec_hostDmaReject {s : State} {n hreg off done : Nat} {d : Device} (h : onHostDmaReject n hreg off done s.toDevice = d) :
    exec (.hostDmaReject n hreg off done) s = .next (s.after d) :=
  next_of (out := execHostDmaReject n hreg off done s) rfl (congrArg Host.Outcome.next h)

/-- Settles O16: the command is ended by its opcode where it names the range, and left as it was where it does not. -/
theorem dmaReject : Obligations.DmaReject := by
  unfold Obligations.DmaReject
  refine ⟨fun s n hreg off done p hcmd hother => exec_hostDmaReject (onHostDmaReject_of_other hcmd hother), ?_⟩
  intro s n hreg off done p hcmd hphase hran hnamed t
  have hends {d} (h : t.rejectCmd n done p = d) : exec (.hostDmaReject n hreg off done) s = .next (s.after d.settleAll) :=
    exec_hostDmaReject ((onHostDmaReject_of_named hcmd hphase hran hnamed).trans (congrArg Device.settleAll h))
  refine ⟨fun hwrite => ?_, fun r hread hio => ?_, fun d hdispatch hdisp => ?_, fun hplace => ?_⟩
  · exact hends (Device.rejectCmd_of_write hwrite)
  · exact hends (Device.rejectCmd_of_read hread hio)
  · exact hends (Device.rejectCmd_of_dispatch hdispatch hdisp)
  · exact hends (Device.rejectCmd_of_place hplace)

/-! ## Job commands -/

/-- A Ryern row that counts its refusals: its effect where its check passes, else its end with the status of the check, counted. -/
theorem next_of_ryernNote {out : Out} {s : State} {c : Cmd} {op : Nat} {reserved : List Nat} {admin : Bool}
    {check : Device → Nat → Option (Nat × Nat)} {note : Device → Nat → Device} {body : Device → Nat → Device}
    (h : out = onDevice s fun d => ryernNote d c op reserved admin check note body)
    (hc : Cmd.of op c = true) (hr : s.runs c reserved admin = true) :
    (check (s.begin c).2 (s.begin c).1 = none → out = .next (s.after (body (s.begin c).2 (s.begin c).1))) ∧
    (∀ st r, check (s.begin c).2 (s.begin c).1 = some (st, r) →
      out = .next (s.after ((note (s.begin c).2 st).finish (s.begin c).1 st r))) := by
  have hrow := next_of h (ryernNote_runs _ _ _ _ _ _ note _ hc hr)
  exact ⟨fun hpass => by rw [hrow, hpass], fun st r hfail => by rw [hrow, hfail]⟩

/-- Settles O27: the four job commands are Ryern rows, and DISPATCH notes a refusal of pass 2 with NOT_OWNER. -/
theorem jobCommands : Obligations.JobCommands := by
  unfold Obligations.JobCommands
  intro s c
  refine ⟨fun hc hr => ?_, fun hc hr => ?_, fun hc hr => ?_, fun hc hr => ?_⟩
  · exact next_of_ryern (out := execJobOpen c s) rfl hc hr
  · exact next_of_ryern (out := execJobClose c s) rfl hc hr
  · exact next_of_ryern (out := execRouteWrite c s) rfl hc hr
  · exact next_of_ryernNote (out := execDispatch c s) rfl hc hr

end Sys2Proof.Machine

/-! PROOFS. SHARD_OPEN, SHARD_CLOSE, REDUCE_OPEN, RANK_DONE, REDUCE_COMMIT and CHECKPOINT (R255 to R266, R286, R287, R430). -/

namespace Sys2Proof.Machine

/-- A row of the reductions: its effect where its check passes, else its end with the status of the check, a NOT_OWNER counted in
TKL_DEV_NOT_OWNER (R257, R430). -/
theorem next_of_ryernTkl {out : Out} {s : State} {c : Cmd} {op : Nat} {reserved : List Nat}
    {check : Device → Nat → Option (Nat × Nat)} {body : Device → Nat → Device}
    (h : out = onDevice s fun d => ryernTkl d c op reserved check body)
    (hc : Cmd.of op c = true) (hr : s.runs c reserved false = true) :
    (check (s.begin c).2 (s.begin c).1 = none → out = .next (s.after (body (s.begin c).2 (s.begin c).1))) ∧
    (∀ st r, check (s.begin c).2 (s.begin c).1 = some (st, r) → out = .next (s.after
      ((if st = St.notOwner then (s.begin c).2.inc Reg.TKL_DEV_NOT_OWNER 0 1 else (s.begin c).2).finish (s.begin c).1 st r))) :=
  next_of_ryernNote h hc hr

/-- Settles O29: the six commands are rows of the reductions, each with its own check and effect. -/
theorem reductionCommands : Obligations.ReductionCommands := by
  unfold Obligations.ReductionCommands
  intro s c
  refine ⟨?shardOpen, ?shardClose, ?reduceOpen, ?rankDone, ?reduceCommit, ?checkpoint⟩
  case shardOpen => exact next_of_ryernTkl (out := execShardOpen c s) rfl
  case shardClose => exact next_of_ryernTkl (out := execShardClose c s) rfl
  case reduceOpen => exact next_of_ryernTkl (out := execReduceOpen c s) rfl
  case rankDone => exact next_of_ryernTkl (out := execRankDone c s) rfl
  case reduceCommit => exact next_of_ryernTkl (out := execReduceCommit c s) rfl
  case checkpoint => exact next_of_ryernTkl (out := execCheckpoint c s) rfl

end Sys2Proof.Machine

/-! PROOFS. EMB_OPEN, EMB_CLOSE, GATHER, GATHER_PREFETCH and EMB_UPDATE (R292, R295, R296, R298, R305, R306, R430). -/

namespace Sys2Proof.Machine

/-- A GATHER_PREFETCH whose slot has the PREFETCH flag is the GATHER of that slot (R305, log entry 6). -/
theorem exec_gatherPrefetch_of_flag {s : State} {c : Cmd} (hflag : bit (fld c.slot 18 1) 0 = true) :
    exec (.gatherPrefetch c) s = exec (.gather c) s :=
  congrArg (fun d : Cmd => onDevice s (gatherRow d)) (if_pos hflag)

/-- Settles O30: the commands are Ryern rows, each with its own check and effect, and GATHER_PREFETCH is the row of GATHER. -/
theorem embeddingCommands : Obligations.EmbeddingCommands := by
  unfold Obligations.EmbeddingCommands
  intro s c
  refine ⟨?embOpen, ?embClose, ?embUpdate, ?gather⟩
  case embOpen => exact next_of_ryern (out := execEmbOpen c s) rfl
  case embClose => exact next_of_ryern (out := execEmbClose c s) rfl
  case embUpdate => exact next_of_ryern (out := execEmbUpdate c s) rfl
  case gather =>
    intro hc hr
    obtain ⟨hruns, hends⟩ := next_of_ryern (out := execGather c s) rfl hc hr
    exact ⟨fun hpass => ⟨hruns hpass, fun hflag => (exec_gatherPrefetch_of_flag hflag).trans (hruns hpass)⟩, hends⟩

end Sys2Proof.Machine

/-! PROOFS. Row reads, bags and apply phases of embedding commands; bitmaps, side batches and folds of search (R294, R301 to R304,
R307, R308, R326, R330, R335). -/

namespace Sys2Proof.Machine

/-! ## Rows that a unit serves -/

section
variable {s : Device} {c : EmbCmd} {o row : Nat}

/-- What a row that a command may read on a unit has to be (R293, R301, R303, R310). -/
theorem Device.mem_unitRows : row ∈ s.unitRows c o ↔ c.phase = 1 ∧ s.embTaken c.n = true ∧
    c.dies.idxOf? o = some (rowUnit c.dies.length row) ∧ row ∈ c.rowList ∧ nget none c.rows row = none ∧
    s.prefetching c row = false := by
  rw [Device.unitRows]
  by_cases hgo : c.phase = 1 ∧ s.embTaken c.n = true
  · obtain ⟨hphase, htaken⟩ := hgo
    rw [if_neg (by simp only [hphase, htaken, ne_eq, not_true_eq_false, Bool.not_true, Bool.false_eq_true, or_self, not_false_eq_true])]
    cases c.dies.idxOf? o with
    | none => simp only [List.not_mem_nil, reduceCtorEq, false_and, and_false]
    | some u => simp only [hphase, htaken, List.mem_filter, Bool.and_eq_true, beq_iff_eq, Option.isNone_iff_eq_none, Bool.not_eq_true',
        Option.some.injEq, eq_comm (a := u), true_and, and_assoc, and_left_comm]
  · rw [if_pos (by simpa only [ne_eq, Bool.not_eq_true', Bool.not_eq_true, Decidable.not_and_iff_not_or_not] using hgo)]
    exact ⟨fun hmem => absurd hmem List.not_mem_nil, fun ⟨hphase, htaken, _⟩ => absurd ⟨hphase, htaken⟩ hgo⟩

/-- The round of a unit serves only the rows that the command may read there (R303, log entry 178). -/
theorem Device.embServe_of_notMem (h : row ∉ s.unitRows c o) : s.embServe c o row = none := by
  unfold Device.embServe
  dsimp only
  split
  · exact if_neg fun ⟨_, hmem, _⟩ => h (List.contains_iff_mem.1 hmem)
  · rfl

/-- A row that the command does not name, has, or that an earlier PREFETCH brings, and one of a command before which another is
still to be taken, is not served (R303, R310, log entry 85). -/
theorem Device.embServe_of_barred (h : c.phase ≠ 1 ∨ c.rowList.contains row = false ∨ (nget none c.rows row).isSome = true ∨
    s.prefetching c row = true ∨ s.embTaken c.n = false) : s.embServe c o row = none := by
  refine Device.embServe_of_notMem fun hmem => ?_
  obtain ⟨hphase, htaken, _, hnamed, hunread, hfree⟩ := Device.mem_unitRows.1 hmem
  obtain hphase' | hunnamed | hhas | hbrought | hleft := h
  · exact hphase' hphase
  · exact Bool.false_ne_true (hunnamed.symm.trans (List.contains_iff_mem.2 hnamed))
  · exact Bool.false_ne_true ((Option.isSome_eq_false_iff.2 (Option.isNone_iff_eq_none.2 hunread)).symm.trans hhas)
  · exact Bool.false_ne_true (hfree.symm.trans hbrought)
  · exact Bool.false_ne_true (hleft.symm.trans htaken)

end

/-! ## Events of an embedding command -/

section
variable {s : Device} {n row bag : Nat} {bad : Bool}

theorem onGatherRowRead_of_noCmd (hcmd : s.embCmd n = none) : onGatherRowRead n row bad s = s := by
  simp only [onGatherRowRead, hcmd]

theorem onGatherReduce_of_noCmd (hcmd : s.embCmd n = none) : onGatherReduce n bag s = s := by
  simp only [onGatherReduce, hcmd]

theorem onEmbApplyPhase_of_noCmd (hcmd : s.embCmd n = none) : onEmbApplyPhase n s = s := by
  simp only [onEmbApplyPhase, hcmd]

variable {c : EmbCmd} (hcmd : s.embCmd n = some c)
include hcmd

theorem onGatherRowRead_of_unserved (hserve : s.embServe c (c.dies.getD (rowUnit c.dies.length row) 0) row = none) :
    onGatherRowRead n row bad s = s := by
  simp only [onGatherRowRead, hcmd, hserve]

theorem onGatherReduce_of_unread (hread : c.rowList.all (fun r => (nget none c.rows r).isSome) = false) :
    onGatherReduce n bag s = s := by
  simp only [onGatherReduce, hcmd, hread, Bool.not_false, or_true, if_true]

theorem onEmbApplyPhase_of_unread (hread : c.rowList.all (fun r => (nget none c.rows r).isSome) = false) :
    onEmbApplyPhase n s = s := by
  simp only [onEmbApplyPhase, hcmd, hread, Bool.not_false, or_true, if_true]

variable {h : EmbHandle} {x : Ns} (hh : s.embH c.h = some h) (hx : s.ns h.nsid = some x)
include hh hx

/-- A row that its unit serves is fetched, and the round of the unit goes on (R294, R301, R303). -/
theorem onGatherRowRead_of_served {l : List (Nat × Nat)}
    (hserve : s.embServe c (c.dies.getD (rowUnit c.dies.length row) 0) row = some l) : onGatherRowRead n row bad s =
      ((((({ s with emb := { s.emb with rounds := nset [] s.emb.rounds (c.dies.getD (rowUnit c.dies.length row) 0) l } } :
        Device).fetchRow c x h row bad).showPairs).embEnd n).settleFaults) := by
  simp only [onGatherRowRead, hcmd, hserve, hh, hx]

/-- A bag that is still to be written is reduced and written once every row has been read (R302, R304). -/
theorem onGatherReduce_of_read (hgather : c.update = false) (hbags : c.prefetch = false) (hbag : bag + 1 < c.offs.length)
    (hnew : c.bags.contains bag = false) (hread : c.rowList.all (fun r => (nget none c.rows r).isSome) = true) :
    onGatherReduce n bag s = ((s.writeBag c x h.ld bag).embEnd n).settleAll := by
  simp only [onGatherReduce, hcmd, hgather, hbags, Nat.not_le.2 hbag, hnew, hread, Bool.not_true, Bool.false_eq_true, or_self,
    if_false, hh, hx]

/-- The rows of an update are applied once every row has been read (R307, R308). -/
theorem onEmbApplyPhase_of_read (hupdate : c.update = true) (hphase : c.phase = 1)
    (hread : c.rowList.all (fun r => (nget none c.rows r).isSome) = true) :
    onEmbApplyPhase n s = ((s.applyRows c x h).settleEmb n).settleAll := by
  simp only [onEmbApplyPhase, hcmd, hupdate, hphase, hread, Bool.not_true, Bool.false_eq_true, ne_eq, not_true_eq_false, or_self,
    if_false, hh, hx]

end

/-! ## Events of a search handle -/

section
variable {s : Device} {h : Nat} {recs : List FoldRecord}

theorem onSideBatchTimer_of_closed (hclosed : s.srchH h = none) : onSideBatchTimer h s = s := by
  simp only [onSideBatchTimer, hclosed]

theorem onFoldApplyPhase_of_closed (hclosed : s.srchH h = none) : onFoldApplyPhase h recs s = s := by
  simp only [onFoldApplyPhase, hclosed]

variable {y : SrchHandle} (hopen : s.srchH h = some y)
include hopen

/-- The timer releases the open side batch, but not where SIDE_BATCH_US is 0 (R330). -/
theorem onSideBatchTimer_of_open : onSideBatchTimer h s = if y.sideUs = 0 then s else s.releaseSide h := by
  simp only [onSideBatchTimer, hopen]

/-- A fold under way is applied when its runs are ready and it has not been applied (R335). -/
theorem onFoldApplyPhase_of_folding {n : Nat} {x : Ns} (hfold : y.folding = some n) (hx : s.ns y.nsid = some x) :
    onFoldApplyPhase h recs s =
      if y.foldReady ∧ !y.applying then ((s.foldApply h y x n recs).settleFold n).settleAll else s := by
  simp only [onFoldApplyPhase, hopen, hfold, hx]

end

/-! ## The statement -/

/-- Settles O47: each event finds the command or the handle that its rule names and moves it on, or does nothing. -/
theorem embeddingAndSearchEvents : Obligations.EmbeddingAndSearchEvents := by
  unfold Obligations.EmbeddingAndSearchEvents
  have hrow {s n row bad d} (h : onGatherRowRead n row bad s.toDevice = d) :=
    next_of (out := execGatherRowRead n row bad s) rfl (congrArg Host.Outcome.next h)
  have hreduce {s n bag d} (h : onGatherReduce n bag s.toDevice = d) :=
    next_of (out := execGatherReduce n bag s) rfl (congrArg Host.Outcome.next h)
  have happly {s n d} (h : onEmbApplyPhase n s.toDevice = d) :=
    next_of (out := execEmbApplyPhase n s) rfl (congrArg Host.Outcome.next h)
  refine ⟨fun s n row bag bad hcmd => ?_, fun s n c h x hcmd hh hx => ?_, fun s h slot hh hslot => ?_, fun s h hh => ?_⟩
  · exact ⟨hrow (onGatherRowRead_of_noCmd hcmd), hreduce (onGatherReduce_of_noCmd hcmd), happly (onEmbApplyPhase_of_noCmd hcmd)⟩
  · refine ⟨fun row bad => ⟨fun hserve => hrow (onGatherRowRead_of_unserved hcmd hserve), Device.embServe_of_barred,
      fun l hserve => hrow (onGatherRowRead_of_served hcmd hh hx hserve)⟩, fun bag hgather hbags hbag hnew => ⟨fun hread => ?_,
      fun hread => hreduce (onGatherReduce_of_unread hcmd hread)⟩, fun hupdate hphase => ⟨fun hread => ?_,
      fun hread => happly (onEmbApplyPhase_of_unread hcmd hread)⟩⟩
    · exact hreduce (onGatherReduce_of_read hcmd hh hx hgather hbags hbag hnew hread)
    · exact happly (onEmbApplyPhase_of_read hcmd hh hx hupdate hphase hread)
  · exact next_of_atUnit (out := execBitmapBuildComplete h slot s) (by simp only [hh, hslot, decide_true, Bool.and_self]) rfl rfl
  · have htimer {d} := next_of_atUnit (d := d) (out := execSideBatchTimer h s) (decide_eq_true hh) rfl
    have hfold {recs d} := next_of_atUnit (d := d) (out := execFoldApplyPhase h recs s) (decide_eq_true hh) rfl
    refine ⟨fun hclosed => ⟨htimer (onSideBatchTimer_of_closed hclosed), fun recs => hfold (onFoldApplyPhase_of_closed hclosed)⟩,
      fun y hopen => ⟨fun hnone => ?_, fun hsome => ?_, fun recs n x hfolding hx => ⟨fun hready hnew => ?_, fun hstop => ?_⟩⟩⟩
    · exact htimer ((onSideBatchTimer_of_open hopen).trans (if_pos hnone))
    · exact htimer ((onSideBatchTimer_of_open hopen).trans (if_neg hsome))
    · exact hfold ((onFoldApplyPhase_of_folding hopen hfolding hx).trans (if_pos ⟨hready, (Bool.not_eq_true' _).mpr hnew⟩))
    · refine hfold ((onFoldApplyPhase_of_folding hopen hfolding hx).trans (if_neg fun ⟨hready, hnew⟩ => ?_))
      obtain hunready | happlied := hstop
      · exact Bool.false_ne_true (hunready.symm.trans hready)
      · exact Bool.false_ne_true (((Bool.not_eq_true' _).mp hnew).symm.trans happlied)

end Sys2Proof.Machine

/-! PROOFS. SRCH_OPEN, SRCH_CLOSE, SEARCH, VEC_INSERT, VEC_DELETE and INDEX_FOLD (R316, R320, R321, R322, R328, R330, R332, R333,
R430). -/

namespace Sys2Proof.Machine

/-- Settles O31: the six commands are Ryern rows, each with its own check and effect. -/
theorem searchCommands : Obligations.SearchCommands := by
  unfold Obligations.SearchCommands
  intro s c
  refine ⟨?srchOpen, ?srchClose, ?search, ?vecInsert, ?vecDelete, ?indexFold⟩
  case srchOpen => exact next_of_ryern (out := execSrchOpen c s) rfl
  case srchClose => exact next_of_ryern (out := execSrchClose c s) rfl
  case search => exact next_of_ryern (out := execSearch c s) rfl
  case vecInsert => exact next_of_ryern (out := execVecInsert c s) rfl
  case vecDelete => exact next_of_ryern (out := execVecDelete c s) rfl
  case indexFold => exact next_of_ryern (out := execIndexFold c s) rfl

end Sys2Proof.Machine

/-! PROOFS. The register writes that carry out an operation (R359, R440, R475, R476, R480, R528, R543, R547). -/

namespace Sys2Proof.Machine

/-! ## The bits of a written value -/

theorem or_twoPow_of_getLsbD {w i : Nat} {v : BitVec w} (h : v.getLsbD i = true) : v ||| BitVec.twoPow w i = v := by
  refine BitVec.eq_of_getLsbD_eq fun j hj => ?_
  by_cases hij : i = j
  · subst hij
    rw [BitVec.getLsbD_or, h, Bool.true_or]
  · rw [BitVec.getLsbD_or, BitVec.getLsbD_twoPow, decide_eq_false hij, Bool.and_false, Bool.or_false]

theorem and_shiftLeft_of_lt {n x : Nat} (m : Nat) (h : x < 2 ^ n) : x &&& m <<< n = 0 := by
  refine Nat.eq_of_testBit_eq fun j => ?_
  rw [Nat.testBit_and, Nat.testBit_shiftLeft, Nat.zero_testBit]
  by_cases hj : n ≤ j
  · rw [Nat.testBit_lt_two_pow (h.trans_le (Nat.pow_le_pow_right (by decide) hj)), Bool.false_and]
  · rw [decide_eq_false hj, Bool.false_and, Bool.and_false]

/-- A register whose writable bits are its low `n` holds the value written, when neither the old value nor the new has others (R4). -/
theorem storedValue_of_lt {r : RegRow} {n old v : Nat} (hn : n ≤ 64) (hlocked : r.access = .rwl) (hmask : r.mask = 2 ^ n - 1)
    (hold : old < 2 ^ n) (hv : v < 2 ^ n) : storedValue r old v = v := by
  have hrest : 2 ^ 64 - 1 - (2 ^ n - 1) = (2 ^ (64 - n) - 1) <<< n := by
    rw [Nat.shiftLeft_eq, Nat.sub_mul, ← Nat.pow_add, Nat.sub_add_cancel hn, Nat.one_mul]
    have := Nat.two_pow_pos n
    omega
  simp only [storedValue, hlocked, hmask]
  rw [hrest, and_shiftLeft_of_lt _ hold, Nat.zero_or, Nat.and_two_pow_sub_one_eq_mod, Nat.mod_eq_of_lt hv]

/-! ## What the write of an operation's register answers -/

section
variable {s : Device} {p : Path} {pass : Bool} {reg i : Nat} {v : BitVec 32}

/-- A write that reaches its register and is in range does what the register's effect answers; one that the effect refuses changes
nothing (R440). -/
theorem Device.writeBy_of_effect {a : Access} {cs : List RangeCheck} {e : Option Nat × Device} (hreach : s.reaches p reg i = true)
    (hrow : regIs reg i a cs = true) (hwrites : a ≠ .ro) (hrange : ∀ r : RegRow, r.checks = cs → checksOk r v.toNat = true)
    (heffect : ∀ t r k x, regAt (regAddr reg i) = some (t, r, k) → r.access = a →
      s.regEffect p none pass (regAddr reg i) r ⟨reg, i, x⟩ v.toNat = e) :
    s.writeBy p pass (regAddr reg i) false v.toNat = if e.1 = none ∨ e.1 = some St.ok then e.2.settleFaults else s := by
  obtain ⟨t, r, k, x, hat, haccess, hchecks, hpos⟩ := regIs_spec hrow
  rw [Device.writeBy_reaches s p reg i v t r k hreach hat (haccess ▸ hwrites), if_pos (hrange r hchecks), hpos,
    heffect t r k x hat haccess]

theorem checksOk_of_unchecked {r : RegRow} {v : Nat} (h : r.checks = []) : checksOk r v = true := by rw [checksOk, h]; rfl

/-- A write whose operation is done, or is refused for its conditions. -/
theorem Device.writeBy_of_option {a : Access} {o : Option Device} (hreach : s.reaches p reg i = true)
    (hrow : regIs reg i a [] = true) (hwrites : a ≠ .ro)
    (heffect : ∀ addr r x, s.regEffect p none pass addr r ⟨reg, i, x⟩ v.toNat = o.elim (some St.invalidField, s) (some St.ok, ·)) :
    s.writeBy p pass (regAddr reg i) false v.toNat = o.elim s Device.settleFaults := by
  rw [Device.writeBy_of_effect hreach hrow hwrites (fun _ => checksOk_of_unchecked) fun _ _ _ _ _ _ => heffect _ _ _]
  cases o with
  | none => rfl
  | some t => rfl

end

/-! ## The effect of each register -/

section
variable (s : Device) (p : Path) (cmd : Option Nat) (pass : Bool) (addr : Nat) (r : RegRow) (i x v : Nat)

theorem Device.regEffect_rawGrant : s.regEffect p cmd pass addr r ⟨Reg.MEDIA_RAW_GRANT, i, x⟩ v =
    (some (s.rawGrant i v).1, (s.rawGrant i v).2) := by
  simp +decide only [Device.regEffect, if_true, if_false]

theorem Device.regEffect_scrubCore : s.regEffect p cmd pass addr r ⟨Reg.MEM_SCRUB_CTL_CORE, i, x⟩ v =
    (s.scrubCtl i v).elim (some St.invalidField, s) (some St.ok, ·) := by
  simp +decide only [Device.regEffect, if_true, if_false]
  cases s.scrubCtl i v <;> rfl

theorem Device.regEffect_scrubDie : s.regEffect p cmd pass addr r ⟨Reg.MEM_SCRUB_CTL_DIE, i, x⟩ v =
    (s.scrubCtl (0x200 + i) v).elim (some St.invalidField, s) (some St.ok, ·) := by
  simp +decide only [Device.regEffect, if_true, if_false]
  cases s.scrubCtl (0x200 + i) v <;> rfl

theorem Device.regEffect_coreRet : s.regEffect p cmd pass addr r ⟨Reg.MEM_CORE_RET, i, x⟩ v =
    (s.retain i v).elim (some St.invalidField, s) (some St.ok, ·) := by
  simp +decide only [Device.regEffect, if_true, if_false]
  cases s.retain i v <;> rfl

theorem Device.regEffect_swap : s.regEffect p cmd pass addr r ⟨Reg.AVL_SWAP, i, x⟩ v =
    (s.swapRoles v).elim (some St.invalidField, s) (some St.ok, ·) := by
  simp +decide only [Device.regEffect, if_true, if_false]
  cases s.swapRoles v <;> rfl

theorem Device.regEffect_selfTest : s.regEffect p cmd pass addr r ⟨Reg.AVL_ST_RUN, i, x⟩ v = (some St.ok, s.runTest i v pass) := by
  simp +decide only [Device.regEffect, if_true, if_false]

theorem Device.regEffect_rotation : s.regEffect p cmd pass addr r ⟨Reg.AVL_ROT_CTL, i, x⟩ v =
    (some St.ok, s.rotCtl (storedValue r (nget (regReset addr) s.regs addr) v)) := by
  simp +decide only [Device.regEffect, if_true, if_false]

end

/-! ## The conditions of each operation -/

section
variable {s : Device} {c d v : Nat} {pass : Bool}

/-- Banks are retained of an idle core or of one in retention (R480). -/
theorem Device.retain_of_busy (hidle : s.rdf Reg.CORE_STATE c 2 0 ≠ 1) (hret : s.rdf Reg.CORE_STATE c 2 0 ≠ 6) :
    s.retain c v = none := if_pos ⟨hidle, hret⟩

/-- A planned swap is refused where the standby cannot take the role or an update runs (R528). -/
theorem Device.swapRoles_of_barred (hv : bit v 0 = true) (h : s.rdf Reg.AVL_STATUS 0 1 1 = 0 ∨ s.rdf Reg.AVL_STATUS 0 4 4 = 1) :
    s.swapRoles v = none := by
  rw [Device.swapRoles, hv]
  exact if_pos h

theorem Device.swapRoles_of_ready (hv : bit v 0 = true) (hready : s.rdf Reg.AVL_STATUS 0 1 1 = 1)
    (hquiet : s.rdf Reg.AVL_STATUS 0 4 4 = 0) : s.swapRoles v = some (s.takeRole true).settleAll := by
  rw [Device.swapRoles, hv, hready, hquiet]
  rfl

theorem Device.runTest_of_run (hv : bit v 0 = true) : s.runTest d v pass = s.selfTest d (s.rdf Reg.AVL_ST_SEL d 5 0) pass := if_pos hv

/-- The rotation begins at group 0 when EN changes to 1 (R547). -/
theorem Device.rotCtl_of_enabled (hoff : s.rdf Reg.AVL_ROT_CTL 0 0 0 = 0) (hv : bit v 0 = true) :
    s.rotCtl v = ((s.wr Reg.AVL_ROT_CTL 0 v).endGroup.startGroup 0).settleAll := if_pos ⟨hoff, hv⟩

end

/-! ## The writes -/

/-- The registers that carry out an operation stand in their tables as writable; all but AVL_ROT_CTL allow every value. -/
theorem operationRegs_writable :
    (∀ o < 56, regIs Reg.MEDIA_RAW_GRANT o .rw [] = true) ∧
    (∀ c < 400, regIs Reg.MEM_SCRUB_CTL_CORE c .rw [] = true ∧ regIs Reg.MEM_CORE_RET c .rw [] = true) ∧
    (∀ d < 100, regIs Reg.MEM_SCRUB_CTL_DIE d .rw [] = true ∧ regIs Reg.AVL_ST_RUN d .wo [] = true) ∧
    regIs Reg.AVL_SWAP 0 .wo [] = true := by decide +kernel

/-- AVL_ROT_CTL holds EN and a period of 60 to 3,600 in its low 13 bits (R547). -/
theorem rotation_row : regIs Reg.AVL_ROT_CTL 0 .rwl [⟨12, 1, 60, 3600, 1⟩] = true ∧
    (regAt (regAddr Reg.AVL_ROT_CTL 0)).any (fun e => e.2.1.mask == 2 ^ 13 - 1) = true := by decide +kernel

theorem checksOk_of_period {r : RegRow} {v : Nat} (hchecks : r.checks = [⟨12, 1, 60, 3600, 1⟩])
    (hmin : 60 ≤ v / 2) (hmax : v / 2 ≤ 3600) : checksOk r v = true := by
  have hperiod : bits v 12 1 = v / 2 := Nat.mod_eq_of_lt (by omega)
  simp [checksOk, hchecks, hperiod, hmin, hmax, Nat.mod_one]

section
variable {s : Device} {p : Path} {pass : Bool} {v m : BitVec 32}

theorem Device.writeReg_rawGrant {o : Nat} (ho : o < 56) (hreach : s.reaches p Reg.MEDIA_RAW_GRANT o = true) :
    s.writeReg p Reg.MEDIA_RAW_GRANT o v =
      if (s.rawGrant o v.toNat).1 = St.ok then (s.rawGrant o v.toNat).2.settleFaults else s := by
  obtain ⟨hrow, -⟩ := operationRegs_writable
  rw [Device.writeReg, Device.writeBy_of_effect hreach (hrow o ho) nofun (fun _ => checksOk_of_unchecked)
    fun _ _ _ _ _ _ => Device.regEffect_rawGrant _ _ _ _ _ _ _ _ _]
  simp only [reduceCtorEq, Option.some.injEq, false_or]

theorem Device.scrubWrite_core {c : Nat} (hc : c < 400) (hreach : s.reaches p Reg.MEM_SCRUB_CTL_CORE c = true) (hm : v ||| m = v) :
    s.scrubWrite p c (v ||| m) = (s.scrubCtl c v.toNat).elim s Device.settleFaults := by
  obtain ⟨-, hrow, -⟩ := operationRegs_writable
  rw [hm, Device.scrubWrite, if_pos hc]
  exact Device.writeBy_of_option hreach (hrow c hc).1 nofun fun _ _ _ => Device.regEffect_scrubCore _ _ _ _ _ _ _ _ _

theorem Device.scrubWrite_die {d : Nat} (hd : d < 100) (hreach : s.reaches p Reg.MEM_SCRUB_CTL_DIE d = true) (hm : v ||| m = v) :
    s.scrubWrite p (0x200 + d) (v ||| m) = (s.scrubCtl (0x200 + d) v.toNat).elim s Device.settleFaults := by
  obtain ⟨-, -, hrow, -⟩ := operationRegs_writable
  rw [hm, Device.scrubWrite, if_neg (by omega), Nat.add_sub_cancel_left]
  exact Device.writeBy_of_option hreach (hrow d hd).1 nofun fun _ _ _ => Device.regEffect_scrubDie _ _ _ _ _ _ _ _ _

theorem Device.writeReg_coreRet {c : Nat} (hc : c < 400) (hreach : s.reaches p Reg.MEM_CORE_RET c = true) :
    s.writeReg p Reg.MEM_CORE_RET c v = (s.retain c v.toNat).elim s Device.settleFaults := by
  obtain ⟨-, hrow, -⟩ := operationRegs_writable
  exact Device.writeBy_of_option hreach (hrow c hc).2 nofun fun _ _ _ => Device.regEffect_coreRet _ _ _ _ _ _ _ _ _

theorem Device.writeReg_swap (hreach : s.reaches p Reg.AVL_SWAP 0 = true) :
    s.writeReg p Reg.AVL_SWAP 0 v = (s.swapRoles v.toNat).elim s Device.settleFaults := by
  obtain ⟨-, -, -, hrow⟩ := operationRegs_writable
  exact Device.writeBy_of_option hreach hrow nofun fun _ _ _ => Device.regEffect_swap _ _ _ _ _ _ _ _ _

theorem Device.writeBy_selfTest {d : Nat} (hd : d < 100) (hreach : s.reaches p Reg.AVL_ST_RUN d = true) :
    s.writeBy p pass (regAddr Reg.AVL_ST_RUN d) false v.toNat = (s.runTest d v.toNat pass).settleFaults := by
  obtain ⟨-, -, hrow, -⟩ := operationRegs_writable
  rw [Device.writeBy_of_effect hreach (hrow d hd).2 nofun (fun _ => checksOk_of_unchecked)
    fun _ _ _ _ _ _ => Device.regEffect_selfTest _ _ _ _ _ _ _ _ _]
  rfl

theorem Device.writeReg_rotation (hreach : s.reaches p Reg.AVL_ROT_CTL 0 = true) (hv : v.toNat < 2 ^ 13) (hmin : 60 ≤ v.toNat / 2)
    (hmax : v.toNat / 2 ≤ 3600) (hold : s.rd Reg.AVL_ROT_CTL 0 < 2 ^ 13) :
    s.writeReg p Reg.AVL_ROT_CTL 0 v = (s.rotCtl v.toNat).settleFaults := by
  obtain ⟨hrow, hmask⟩ := rotation_row
  rw [Device.writeReg, Device.writeBy_of_effect (e := (some St.ok, s.rotCtl v.toNat)) hreach hrow nofun
    (fun _ hchecks => checksOk_of_period hchecks hmin hmax) fun t r k x hat hlocked => ?_]
  · rfl
  · rw [hat, Option.any_some, beq_iff_eq] at hmask
    have hstored := storedValue_of_lt (by decide) hlocked hmask hold hv
    exact (Device.regEffect_rotation _ _ _ _ _ _ _ _ _).trans (congrArg (fun n => (some St.ok, s.rotCtl n)) hstored)

end

/-! ## The statement -/

/-- A row whose write is an operation that is done or refused. -/
theorem next_of_option {out : Out} {s : State} {ok : Bool} {write : Device → Device} {o : Option Device} (hok : ok = true)
    (h : out = onDevice s fun d => atUnit ok (write d)) (hwrite : write s.toDevice = o.elim s.toDevice Device.settleFaults) :
    (∀ t, o = some t → out = .next (s.after t.settleFaults)) ∧ (o = none → out = .next s) :=
  ⟨fun _ ho => next_of_atUnit hok h (by rw [hwrite, ho]; rfl), fun ho => next_of_atUnit hok h (by rw [hwrite, ho]; rfl)⟩

/-- A row that writes MEDIA_RAW_GRANT with a bit that the value has already (log entry 6). -/
theorem next_of_rawGrant {out : Out} {s : State} {p : Path} {o : Nat} {v m : BitVec 32} (ho : o < 56)
    (hreach : s.reaches p Reg.MEDIA_RAW_GRANT o = true) (hm : v ||| m = v)
    (h : out = onDevice s fun d => atUnit (pathOk p && o < 56) (d.writeReg p Reg.MEDIA_RAW_GRANT o (v ||| m))) :
    ((s.rawGrant o v.toNat).1 = St.ok → out = .next (s.after (s.rawGrant o v.toNat).2.settleFaults)) ∧
    ((s.rawGrant o v.toNat).1 ≠ St.ok → out = .next s) := by
  have hok : (pathOk p && decide (o < 56)) = true := by simp [Device.reaches_pathOk hreach, ho]
  rw [hm] at h
  exact ⟨fun hdone => next_of_atUnit hok h ((Device.writeReg_rawGrant ho hreach).trans (if_pos hdone)),
    fun hrefused => next_of_atUnit hok h ((Device.writeReg_rawGrant ho hreach).trans (if_neg hrefused))⟩

theorem scrubUnit_of_die {d : Nat} (hd : d < 100) : scrubUnit (0x200 + d) = true := by
  simp only [scrubUnit, Bool.or_eq_true, Bool.and_eq_true, decide_eq_true_eq]
  omega

/-- Settles O11: each register has its own effect, which its operation's conditions let through or refuse. -/
theorem registerOperations : Obligations.RegisterOperations := by
  unfold Obligations.RegisterOperations
  have hunit {s : Device} {p : Path} {reg i : Nat} {ok : Bool} (hreach : s.reaches p reg i = true) (hok : ok = true) :
      (pathOk p && ok) = true := Bool.and_eq_true_iff.2 ⟨Device.reaches_pathOk hreach, hok⟩
  have hcore {c : Nat} (hc : c < 400) : scrubUnit c = true := by simp [scrubUnit, hc]
  refine ⟨fun s p o v ho hreach hv => ?_, fun s p o v ho hreach hv => ?_, fun s p c v hc hreach hv => ?_,
    fun s p d v hd hreach hv => ?_, fun s p c v t hc hreach hv => ?_, fun s p d v t hd hreach hv => ?_, fun s p c v hc hreach => ?_,
    fun s p v hreach hv => ?_, fun s p d v pass hd hreach hv => ?_, fun s p v hreach hlt hmin hmax hv hold hoff => ?_⟩
  · exact next_of_rawGrant (out := execQuadGrant p o v s) ho hreach (or_twoPow_of_getLsbD hv) rfl
  · exact next_of_rawGrant (out := execQuadRelease p o v s) ho hreach (or_twoPow_of_getLsbD hv) rfl
  · exact next_of_option (out := execScrubStart p c v s) (hunit hreach (hcore hc)) rfl
      (Device.scrubWrite_core hc hreach (or_twoPow_of_getLsbD hv))
  · exact next_of_option (out := execScrubStart p (0x200 + d) v s) (hunit hreach (scrubUnit_of_die hd)) rfl
      (Device.scrubWrite_die hd hreach (or_twoPow_of_getLsbD hv))
  · exact (next_of_option (out := execScrubAbort p c v s) (hunit hreach (hcore hc)) rfl
      (Device.scrubWrite_core hc hreach (or_twoPow_of_getLsbD hv))).1 t
  · exact (next_of_option (out := execScrubAbort p (0x200 + d) v s) (hunit hreach (scrubUnit_of_die hd)) rfl
      (Device.scrubWrite_die hd hreach (or_twoPow_of_getLsbD hv))).1 t
  · obtain ⟨hdone, hrefused⟩ := next_of_option (out := execMemCoreRet p c v s) (hunit hreach (decide_eq_true hc)) rfl
      (Device.writeReg_coreRet hc hreach)
    exact ⟨fun ⟨hidle, hret⟩ => hrefused (Device.retain_of_busy hidle hret), hdone⟩
  · obtain ⟨hdone, hrefused⟩ := next_of_option (out := execAvlSwap p v s) (Device.reaches_pathOk hreach) rfl
      (Device.writeReg_swap hreach)
    exact ⟨fun hbarred => hrefused (Device.swapRoles_of_barred (bit_toNat_of_getLsbD hv) hbarred),
      fun ⟨hready, hquiet⟩ => hdone _ (Device.swapRoles_of_ready (bit_toNat_of_getLsbD hv) hready hquiet)⟩
  · refine next_of_atUnit (out := execAvlStRun p d v pass s) (hunit hreach (decide_eq_true hd)) rfl ?_
    rw [Device.writeBy_selfTest hd hreach, Device.runTest_of_run (bit_toNat_of_getLsbD hv)]
  · refine next_of_atUnit (out := execRotationRestart p v s) (Device.reaches_pathOk hreach) rfl ?_
    rw [Device.writeReg_rotation hreach hlt hmin hmax hold, Device.rotCtl_of_enabled hoff (bit_toNat_of_getLsbD hv)]

end Sys2Proof.Machine

/-! PROOFS. MEDIA_RAW (R359, R360, R365, R430, R431). -/

namespace Sys2Proof.Machine

section
variable {s : Device} {c : Cmd} {op : Nat} {pages : Device → Nat} {body : Device → Nat → Device} (hc : Cmd.rawOf op c = true)
  (hr : s.runs c (bytesOf 28 63) true = true)
include hc hr

/-- A raw-media command that nothing keeps from running and that fails its check ends with the status of the check (R430). -/
theorem rawCommand_ends {st r : Nat} (hcheck : (s.begin c).2.rawCheck c.ld c.slot op (pages (s.begin c).2) = some (st, r)) :
    rawCommand s c op pages body = .next ((s.begin c).2.finish (s.begin c).1 st r) := by
  rw [rawCommand, rawAs_eq c op hc]
  exact ryern_ends _ _ _ _ _ _ _ (Bool.and_eq_true_iff.1 hc).1 hr st r hcheck

/-- One whose LUN is at work has not run, and waits (R365). -/
theorem rawCommand_waits {p : Pending} (hcheck : (s.begin c).2.rawCheck c.ld c.slot op (pages (s.begin c).2) = none)
    (hbusy : ((s.begin c).2.lun (fld c.slot 18 2)).job ≠ none) (hp : (s.begin c).2.cmd (s.begin c).1 = some p) :
    rawCommand s c op pages body = .next ((s.begin c).2.setCmd { p with ran := false }) := by
  rw [rawCommand, rawAs_eq c op hc]
  refine (ryern_runs _ _ _ _ _ _ _ (Bool.and_eq_true_iff.1 hc).1 hr hcheck).trans (congrArg Host.Outcome.next ?_)
  rw [if_neg (mt Option.isNone_iff_eq_none.1 hbusy), hp]

end

/-- A row of MEDIA_RAW that nothing keeps from running: its effect on an idle LUN, its end where its check fails, and its wait. -/
theorem next_of_raw {out : Out} {s : State} {c : Cmd} {op : Nat} {pages : Device → Nat} {body : Device → Nat → Device}
    (h : out = onDevice s fun d => rawCommand d c op pages body) (hr : s.runs c (bytesOf 28 63) true = true)
    (hc : Cmd.rawOf op c = true) :
    let t := (s.begin c).2; let n := (s.begin c).1
    ((t.rawCheck c.ld c.slot op (pages t) = none → (t.lun (fld c.slot 18 2)).job = none →
        out = .next (s.after (body (t.countDispatch (fld c.slot 18 2 / 8) 5) n))) ∧
      (∀ st r, t.rawCheck c.ld c.slot op (pages t) = some (st, r) → out = .next (s.after (t.finish n st r)))) ∧
    ((t.lun (fld c.slot 18 2)).job ≠ none → ∀ p, t.cmd n = some p → t.rawCheck c.ld c.slot op (pages t) = none →
      out = .next (s.after (t.setCmd { p with ran := false }))) :=
  ⟨⟨fun hcheck hidle => next_of h (rawCommand_runs _ _ _ _ _ hc hr hcheck hidle),
      fun _ _ hcheck => next_of h (rawCommand_ends hc hr hcheck)⟩,
    fun hbusy _ hp hcheck => next_of h (rawCommand_waits hc hr hcheck hbusy hp)⟩

/-- Settles O32: the three operations are rows of MEDIA_RAW, each with its own pages and effect. -/
theorem rawMediaCommands : Obligations.RawMediaCommands := by
  unfold Obligations.RawMediaCommands
  intro s c step fail hr
  have hread := next_of_raw (out := execMediaRawRead c step s) rfl hr
  have hprogram := next_of_raw (out := execMediaRawProgram c fail s) rfl hr
  have herase := next_of_raw (out := execMediaRawErase c fail s) rfl hr
  exact ⟨fun hc => (hread hc).1, fun hc => (hprogram hc).1, fun hc => (herase hc).1, fun hbusy p hp =>
    ⟨fun hc => (hread hc).2 hbusy p hp, fun hc => (hprogram hc).2 hbusy p hp, fun hc => (herase hc).2 hbusy p hp⟩⟩

end Sys2Proof.Machine

/-! PROOFS. Events of the flash channels and LUNs (R344, R349, R351, R353, R355, R357, R365, R370, R396, R397, R537, R552). -/

namespace Sys2Proof.Machine

/-! ## Calibration -/

section
variable {s : Device} {ch : Nat}

theorem onZqCalibrationShort_of_taken (h : s.busTaken ch = true) : onZqCalibrationShort ch s = s := if_pos h

theorem onZqCalibrationShort_of_free (h : s.busTaken ch = false) : onZqCalibrationShort ch s = s.holdBus ch :=
  if_neg (Bool.eq_false_iff.1 h)

theorem onDqRetrain_of_kept (h : s.busTaken ch = true ∨ s.chanMoved ch ≤ 15) : onDqRetrain ch s = s := if_pos h

theorem onDqRetrain_of_moved (hfree : s.busTaken ch = false) (hmoved : 15 < s.chanMoved ch) :
    let t := (s.inc Reg.MEDIA_CH_RETRAINS ch 1).holdBus ch
    onDqRetrain ch s = { t with media := { t.media with trained := nset 0 t.media.trained ch (t.chanTemp ch) } } :=
  if_neg (not_or.2 ⟨Bool.eq_false_iff.1 hfree, Nat.not_le.2 hmoved⟩)

end

/-! ## Dispatch -/

section
variable {s : Device} {ch cls : Nat}

/-- The time of the active hub die does not depend on another register than the one that names that die (R13, R30). -/
theorem Device.now_wr_ne {r i v : Nat} (h : regAddr Reg.HIF_PORT_STATUS 0 ≠ regAddr r i) : (s.wr r i v).now = s.now := by
  simp only [Device.now, Device.clock, Device.hubDie, Device.rdf_wr_ne _ _ _ _ _ _ _ _ h, Device.wr_clocks]

theorem Device.now_inc_ne {r i n : Nat} (h : regAddr Reg.HIF_PORT_STATUS 0 ≠ regAddr r i) : (s.inc r i n).now = s.now := by
  rw [Device.inc, Device.now_wr_ne h]

theorem Device.now_peak_ne {r i n : Nat} (h : regAddr Reg.HIF_PORT_STATUS 0 ≠ regAddr r i) : (s.peak r i n).now = s.now := by
  rw [Device.peak, Device.now_wr_ne h]

theorem Device.now_media (m : Media) : ({ s with media := m } : Device).now = s.now := rfl

theorem Device.now_setFtl (f : Ftl → Ftl) : (s.setFtl f).now = s.now := rfl

/-- A channel's arbitration counters are not the register that names the active hub die. -/
theorem arbAddr_ne {r : Nat} (hr : r < Reg.MEDIA_ARB_DISPATCH + 0x1000) (hch : ch < 224) :
    regAddr Reg.HIF_PORT_STATUS 0 ≠ regAddr r ch := by
  simp only [regAddr, Reg.HIF_PORT_STATUS, Reg.MEDIA_ARB_DISPATCH] at hr ⊢
  omega

/-- What a dispatch does to another class of its channel that could have gone (R366, R367). -/
def Device.countSkip (s : Device) (ch c : Nat) : Device :=
  let n := s.skip ch c + 1
  let t := if n = s.arbLimit ch c then s.inc (Reg.MEDIA_ARB_PROMOTE + 4 * (c - 2)) ch 1 else s
  ({ t with media := { t.media with skips := nset 0 t.media.skips (ch * 8 + c) n } } : Device).peak
    (Reg.MEDIA_ARB_MAXWAIT + 4 * (c - 2)) ch n

theorem Device.countDispatch_eq : s.countDispatch ch cls =
    let t := s.inc (Reg.MEDIA_ARB_DISPATCH + 8 * (cls - 1)) ch 1
    ([2, 3, 4, 5].filter (fun c => c != cls && s.eligible ch c)).foldl (fun a c => a.countSkip ch c)
      { t with media := { t.media with skips := nset 0 t.media.skips (ch * 8 + cls) 0 } } := rfl

theorem Device.now_countSkip {c : Nat} (hch : ch < 224) (hc : c ≤ 5) : (s.countSkip ch c).now = s.now := by
  have hwait : Reg.MEDIA_ARB_MAXWAIT + 4 * (c - 2) < Reg.MEDIA_ARB_DISPATCH + 0x1000 := by
    simp only [Reg.MEDIA_ARB_MAXWAIT, Reg.MEDIA_ARB_DISPATCH]; omega
  have hpromote : Reg.MEDIA_ARB_PROMOTE + 4 * (c - 2) < Reg.MEDIA_ARB_DISPATCH + 0x1000 := by
    simp only [Reg.MEDIA_ARB_PROMOTE, Reg.MEDIA_ARB_DISPATCH]; omega
  rw [Device.countSkip, Device.now_peak_ne (arbAddr_ne hwait hch), Device.now_media]
  split
  · rw [Device.now_inc_ne (arbAddr_ne hpromote hch)]
  · rfl

/-- The counts of a dispatch leave the time as it was. -/
theorem Device.now_countDispatch (hch : ch < 224) (hcls : cls ≤ 5) : (s.countDispatch ch cls).now = s.now := by
  rw [Device.countDispatch_eq]
  refine List.foldlRecOn (motive := fun t : Device => t.now = s.now) _ _ ?_ fun t ht c hc => ?_
  · rw [Device.now_media, Device.now_inc_ne (arbAddr_ne (by omega) hch)]
  · have hclass : c ≤ 5 := by
      have hlisted := List.mem_of_mem_filter hc
      simp only [List.mem_cons, List.not_mem_nil, or_false] at hlisted
      omega
    exact (Device.now_countSkip hch hclass).trans ht

end

section
variable {s : Device} {lun cls quad wl : Nat} {slc : Bool}

theorem onNandOperationDispatch_read :
    onNandOperationDispatch lun (.read cls) s = if s.lunUp lun then s.dispatchRead lun cls else s := rfl

/-- A program goes when its LUN is idle, its class is served, it may go and its superquad forms a group (R349, R361, R365). -/
theorem onNandOperationDispatch_program {t : Device} (hidle : s.lunIdle lun = true) (hserved : s.servedClass (lun / 8) = some cls)
    (hmay : s.mayDispatch (lun / 8) cls true false = true) (hgroup : s.formGroup lun cls quad wl slc = some t) :
    onNandOperationDispatch lun (.program cls quad wl slc) s =
      (t.countDispatch (lun / 8) cls).setLun lun { job := some (.program quad wl slc), since := s.now } 2 := by
  simp only [onNandOperationDispatch, hidle, hserved, hmay, hgroup, bne_self_eq_false, Bool.not_true, Bool.or_self, Bool.false_eq_true,
    if_false]

theorem onNandOperationDispatch_program_of_busy (h : s.lunIdle lun = false) :
    onNandOperationDispatch lun (.program cls quad wl slc) s = s := if_pos (by rw [h]; rfl)

/-- An erase goes when its LUN is idle, class 3 is served, it may go and it is queued (R351, R353, R365). -/
theorem onNandOperationDispatch_erase (hlun : lun < 1792) (hidle : s.lunIdle lun = true) (hserved : s.servedClass (lun / 8) = some 3)
    (hmay : s.mayDispatch (lun / 8) 3 false true = true) (hqueued : s.ftl.erases.any (fun e => e.1 == lun && e.2.1 == quad) = true) :
    onNandOperationDispatch lun (.erase quad slc) s = (((s.countDispatch (lun / 8) 3).setFtl (fun f => { f with
      erases := f.erases.filter (fun e => !(e.1 == lun && e.2.1 == quad)) })).setLun lun
        { job := some (.erase quad slc 0 0), since := s.now } 4).wrf Reg.MEDIA_LUN_STATUS lun 7 4 0 := by
  have hnow : (s.countDispatch (lun / 8) 3).now = s.now := Device.now_countDispatch (by omega) (by decide)
  simp only [onNandOperationDispatch, hidle, hserved, hmay, hqueued, bne_self_eq_false, Bool.not_true, Bool.or_self, Bool.false_eq_true,
    if_false, Device.now_setFtl, hnow]

theorem onNandOperationDispatch_erase_of_unqueued (h : s.ftl.erases.any (fun e => e.1 == lun && e.2.1 == quad) = false) :
    onNandOperationDispatch lun (.erase quad slc) s = s := if_pos (by rw [h, Bool.not_false, Bool.or_true])

end

/-- The dispatch of an operation that a dispatcher can issue (R365, R366). -/
theorem exec_nandOperationDispatch {lun : Nat} {op : NandOp} (hlun : lun < 1792) (hop : op.ok = true) (s : State) :
    exec (.nandOperationDispatch lun op) s = .next (s.after (onNandOperationDispatch lun op s.toDevice)) := by
  refine next_of_atUnit (out := execNandOperationDispatch lun op s) (Bool.and_eq_true_iff.2 ⟨decide_eq_true hlun, ?_⟩) rfl rfl
  cases op <;> exact hop

theorem programOp_ok {cls quad wl : Nat} (slc : Bool) (hcls : cls = 2 ∨ cls = 3) (hquad : quad < 3312) (hwl : wl < 384) :
    (NandOp.program cls quad wl slc).ok = true := by simp [NandOp.ok, hcls, hquad, hwl]

/-! ## Suspended erases -/

section
variable {s : Device} {lun : Nat}

/-- A suspended erase goes on once its LUN reads nothing and either no class-1 read waits or the window has closed (R353, R355). -/
theorem onEraseResume_of_served {q ran served : Nat} {slc : Bool} (hjob : (s.lun lun).job = some (.erase q slc ran served))
    (hsuspended : s.lunState lun = 6) (hquiet : s.media.reads.any (fun r => r.busy && r.nd == lun) = false)
    (hend : s.nextRead lun 1 = none ∨ s.windowOpen lun = false) :
    onEraseResume lun s = s.setLun lun { job := some (.erase q slc ran 0), since := s.now } 4 := by
  rw [onEraseResume, hjob]
  exact if_pos ⟨hsuspended, by rw [hquiet]; rfl, hend.imp Option.isNone_iff_eq_none.2 fun hclosed => by rw [hclosed]; rfl⟩

theorem onEraseResume_of_other_state (h : s.lunState lun ≠ 6) : onEraseResume lun s = s := by
  unfold onEraseResume
  split
  · exact if_neg fun ⟨hsuspended, _⟩ => h hsuspended
  · rfl

theorem onEraseSuspendReady_of_suspending (h : s.lunState lun = 5) :
    onEraseSuspendReady lun s = s.setLun lun { s.lun lun with since := s.now } 6 := if_pos h

theorem onEraseSuspendReady_of_other_state (h : s.lunState lun ≠ 5) : onEraseSuspendReady lun s = s := if_neg h

end

/-! ## Reads -/

/-- A read leaves the queue of the dispatchers. -/
def Device.dropRead (s : Device) (r : ReadReq) : Device :=
  { s with media := { s.media with reads := s.media.reads.filter (fun q => q.id ≠ r.id) } }

/-- A LUN that reads becomes idle; one whose erase is suspended stays so. -/
def Device.freeReader (s : Device) (lun : Nat) : Device :=
  match (s.lun lun).job with
  | some (.read _) => s.setLun lun {} 0
  | _ => s

/-- The code word that a LUN was reading has been transferred and decoded, and is counted (R345, R347, R373). -/
def Device.readEnded (s : Device) (lun step : Nat) (r : ReadReq) : Device :=
  let v := (s.dropRead r).freeReader lun
  (v.readCounted lun (locQuad r.loc * 4 + (v.cwBlock lun r.loc).1) step).cwCounted (lun / 8) step

/-- What a code word that ends at a step is for: a member read goes to its reconstruction, any other is delivered (R348, R357). -/
def Device.routeRead (s : Device) (lun step : Nat) (r : ReadReq) : Device :=
  match r.dest with
  | .member id => s.memberDone id (step == 7)
  | _ => s.deliver r.ord (lun / 8) (some r.loc) r.dest
      (match s.stored r.ord r.loc with | some c => c.data | none => List.replicate cwBytes 0) (if step = 6 then 7 else step) (step == 7)

section
variable {s : Device} {lun step : Nat} {r : ReadReq}

theorem onArrayReadComplete_of_none (h : s.media.reads.find? (fun r => r.busy ∧ r.nd = lun) = none) :
    onArrayReadComplete lun step s = s := by
  rw [onArrayReadComplete, h]

theorem onArrayReadComplete_of_read (h : s.media.reads.find? (fun r => r.busy ∧ r.nd = lun) = some r) :
    onArrayReadComplete lun step s = (s.readEnded lun step r).routeRead lun step r := by
  rw [onArrayReadComplete, h]
  rfl

theorem Device.routeRead_of_member {id : Nat} (hdest : r.dest = .member id) :
    s.routeRead lun step r = s.memberDone id (step == 7) := by
  rw [Device.routeRead, hdest]

theorem Device.routeRead_of_wanted (hdest : ∀ id, r.dest ≠ .member id) : s.routeRead lun step r =
    s.deliver r.ord (lun / 8) (some r.loc) r.dest
      (match s.stored r.ord r.loc with | some c => c.data | none => List.replicate cwBytes 0)
      (if step = 6 then 7 else step) (step == 7) := by
  unfold Device.routeRead
  split
  · next id hmember => exact absurd hmember (hdest id)
  · rfl

end

/-! ## Programs and erases -/

section
variable {s : Device} {lun q wl : Nat} {slc ok : Bool}

/-- The planes of a quad are as they were when a LUN changes. -/
theorem Device.cwPlanes_setLun (nd st : Nat) (l : Lun) : (s.setLun nd l st).cwPlanes lun q = s.cwPlanes lun q := rfl

/-- A program whose data is in is issued, and its LUN is busy (R345, R349). -/
theorem onProgramDataInEnd_of_datain (hjob : (s.lun lun).job = some (.program q wl slc)) (hstate : s.lunState lun = 2) :
    let u := s.setLun lun { s.lun lun with since := s.now } 3
    onProgramDataInEnd lun s =
      u.inc Reg.MEDIA_CH_BUS_NS (lun / 8) (busNs ((u.cwPlanes lun q).length * (if slc then 1 else 3) * 16896)) := by
  simp only [onProgramDataInEnd, hjob, hstate, if_true, Device.cwPlanes_setLun]

theorem onProgramDataInEnd_of_other_state (h : s.lunState lun ≠ 2) : onProgramDataInEnd lun s = s := by
  unfold onProgramDataInEnd
  split
  · exact if_neg h
  · rfl

/-- A program that is busy ends: its group is done, or failed (R349, R350, R352). -/
theorem Device.programCheck_of_busy (hjob : (s.lun lun).job = some (.program q wl slc)) (hstate : s.lunState lun = 3) :
    let u := (s.inc Reg.MEDIA_LUN_BUSY_NS lun (s.now - (s.lun lun).since)).setLun lun {} 0
    s.programCheck lun ok = if ok = true then u.groupDone lun q wl slc else u.groupFail lun q wl slc := by
  rw [Device.programCheck, hjob]
  exact if_neg (not_not_intro hstate)

/-- What every erase that ends counts, and its LUN idle (R353, R373). -/
def Device.eraseEnded (s : Device) (lun ran : Nat) : Device :=
  (((s.inc Reg.MEDIA_LUN_BUSY_NS lun (ran + (s.now - (s.lun lun).since))).setLun lun {} 0).wrf Reg.MEDIA_LUN_STATUS lun 7 4 0).inc
    Reg.MEDIA_CH_ERASES (lun / 8) 1

/-- The blocks of a quad whose erase failed count the failure and retire with cause 2 (R356, R399). -/
def Device.eraseFailed (s : Device) (lun q : Nat) : Device :=
  (s.planes lun q).foldl (fun a p =>
    (a.ecChange lun (q * 4 + p) (setBits (a.ecRec lun (q * 4 + p)) 55 48 (min 255 (bits (a.ecRec lun (q * 4 + p)) 55 48 + 1)))).retire
      lun (q * 4 + p) 2) (s.inc Reg.MEDIA_ERASE_FAILS (lun / 32) 1)

theorem Device.eraseCheck_of_busy {ran served : Nat} (hjob : (s.lun lun).job = some (.erase q slc ran served))
    (hstate : s.lunState lun = 4) : s.eraseCheck lun ok =
      (if ok then s.eraseEnded lun ran else (s.eraseEnded lun ran).eraseFailed lun q).quadErased lun q slc := by
  rw [Device.eraseCheck, hjob]
  exact if_neg (not_not_intro hstate)

theorem Device.programCheck_of_idle (h : (s.lun lun).job = none) : s.programCheck lun ok = s := by rw [Device.programCheck, h]

theorem Device.eraseCheck_of_idle (h : (s.lun lun).job = none) : s.eraseCheck lun ok = s := by rw [Device.eraseCheck, h]

end

/-! ## Patrol, refresh and training -/

section
variable {s : Device} {lun quad plane step : Nat}

theorem onPatrolRead_of_kept (h : s.lunIdle lun = false ∨ s.blkState lun (quad * 4 + plane) ≠ 2 ∨
    s.mayDispatch (lun / 8) 5 false false = false) : onPatrolRead lun quad plane step s = s :=
  if_pos (by simpa [or_assoc] using h)

/-- A patrol read of a closed block of an idle LUN is counted, and flags the block when it needed step 2 or later (R370). -/
theorem onPatrolRead_of_read (hidle : s.lunIdle lun = true) (hclosed : s.blkState lun (quad * 4 + plane) = 2)
    (hmay : s.mayDispatch (lun / 8) 5 false false = true) :
    let t := ((s.countDispatch (lun / 8) 5).readCounted lun (quad * 4 + plane) step).cwCounted (lun / 8) step
    onPatrolRead lun quad plane step s = if 2 ≤ step then t.inc Reg.MEDIA_PATROL_FLAGS (lun / 32) 1 else t :=
  if_neg (by simp [hidle, hclosed, hmay])

theorem onBlockRefresh_of_unflagged (h : s.ftl.flagged.contains (lun, quad * 4 + plane) = false) :
    onBlockRefresh lun quad plane s = s := if_pos (by rw [h]; rfl)

theorem Device.quadCws_of_empty (h : s.ftl.nand = []) : s.quadCws lun quad = [] := by rw [Device.quadCws, h]; rfl

/-- The refresh of a flagged block with nothing on the media moves nothing; it is counted (R396). -/
theorem onBlockRefresh_of_empty (hflagged : s.ftl.flagged.contains (lun, quad * 4 + plane) = true) (hempty : s.ftl.nand = []) :
    onBlockRefresh lun quad plane s = (s.setFtl (fun f => { f with
      flagged := f.flagged.erase (lun, quad * 4 + plane) })).inc Reg.FTL_REFRESHES (lun / 32) 1 := by
  have hnone : (s.setFtl fun f => { f with flagged := f.flagged.erase (lun, quad * 4 + plane) }).quadCws lun quad = [] :=
    Device.quadCws_of_empty hempty
  simp only [onBlockRefresh, hflagged, hnone, Bool.not_true, Bool.false_eq_true, if_false, List.filter_nil, List.foldl_nil]

theorem onHandoverTrainingEnd_of_served {ord : Nat} (h : s.avl.training.contains ord = false) : onHandoverTrainingEnd ord s = s :=
  if_pos (by rw [h]; rfl)

/-- Controllers that train end it with a record of the die that now serves the half-stack (R537, R552). -/
theorem onHandoverTrainingEnd_of_training {ord : Nat} (h : s.avl.training.contains ord = true) : onHandoverTrainingEnd ord s =
    (({ s.draw.2 with avl := { s.avl with training := s.avl.training.filter (· ≠ ord) } } : Device).avlRecord 0x1002
      (0x100 + sparDie ord) 0 0 (s.draw.1 % 2 ^ 32) (s.hsDie ord)).settleAll :=
  if_neg (by rw [h]; nofun)

end

/-! ## The statement -/

/-- Settles O48: each event meets the channel, LUN or block in the state that its rule names and has its effect, or does nothing. -/
theorem mediaEvents : Obligations.MediaEvents := by
  unfold Obligations.MediaEvents
  refine ⟨fun s ch hch => ?_, fun s lun hlun => ?_, fun s ord hord => ?_⟩
  · have hshort {d} := next_of_atUnit (d := d) (out := execZqCalibrationShort ch s) (decide_eq_true hch) rfl
    have hretrain {d} := next_of_atUnit (d := d) (out := execDqRetrain ch s) (decide_eq_true hch) rfl
    exact ⟨fun h => hshort (onZqCalibrationShort_of_taken h), fun h => hshort (onZqCalibrationShort_of_free h),
      fun h => hretrain (onDqRetrain_of_kept h), fun hfree hmoved => hretrain (onDqRetrain_of_moved hfree hmoved)⟩
  · have hdispatch {op d} (hop : NandOp.ok op = true) (h : onNandOperationDispatch lun op s.toDevice = d) :=
      h ▸ exec_nandOperationDispatch hlun hop s
    have hresume {d} := next_of_atUnit (d := d) (out := execEraseResume lun s) (decide_eq_true hlun) rfl
    have hready {d} := next_of_atUnit (d := d) (out := execEraseSuspendReady lun s) (decide_eq_true hlun) rfl
    have hdatain {d} := next_of_atUnit (d := d) (out := execProgramDataInEnd lun s) (decide_eq_true hlun) rfl
    have hprogram (ok cws) {d} := next_of_atUnit (d := d) (out := execProgramCheck lun ok cws s) (decide_eq_true hlun) rfl
    have herase {ok d} := next_of_atUnit (d := d) (out := execEraseCheck lun ok s) (decide_eq_true hlun) rfl
    refine ⟨fun cls hmin hmax => ?_, fun cls quad wl slc t hcls hquad hwl hidle hserved hmay hgroup => ?_,
      fun cls quad wl slc hcls hquad hwl hbusy => ?_, fun quad slc hquad hidle hserved hmay hqueued => ?_,
      fun quad slc hquad hunqueued => ?_, fun q slc ran served hjob hsuspended hquiet hend => ?_, fun h => ?_, fun h => ?_, fun h => ?_,
      fun step hstep => ?_, fun q wl slc hjob hstate => ?_, fun h => ?_, fun ok cws q wl slc hjob hstate => ?_,
      fun ok q slc ran served hjob hstate => ⟨?_, ?_⟩, fun hidle ok cws => ⟨?_, ?_⟩, fun quad plane step hquad hplane hstep => ?_,
      fun quad plane hquad hplane => ?_⟩
    · have hop : (NandOp.read cls).ok = true := by simp [NandOp.ok, hmin, hmax]
      exact ⟨fun hup => hdispatch hop (onNandOperationDispatch_read.trans (if_pos hup)),
        fun hdown => hdispatch hop (onNandOperationDispatch_read.trans (if_neg (Bool.eq_false_iff.1 hdown)))⟩
    · exact hdispatch (programOp_ok slc hcls hquad hwl) (onNandOperationDispatch_program hidle hserved hmay hgroup)
    · exact hdispatch (programOp_ok slc hcls hquad hwl) (onNandOperationDispatch_program_of_busy hbusy)
    · exact hdispatch (decide_eq_true hquad) (onNandOperationDispatch_erase hlun hidle hserved hmay hqueued)
    · exact hdispatch (decide_eq_true hquad) (onNandOperationDispatch_erase_of_unqueued hunqueued)
    · exact hresume (onEraseResume_of_served hjob hsuspended hquiet hend)
    · exact hresume (onEraseResume_of_other_state h)
    · exact hready (onEraseSuspendReady_of_suspending h)
    · exact hready (onEraseSuspendReady_of_other_state h)
    · have hread {d} := next_of_atUnit (d := d) (out := execArrayReadComplete lun step s) (ok := lun < 1792 && step < 8)
        (by simp [hlun, hstep]) rfl
      refine ⟨fun hnone => hread (onArrayReadComplete_of_none hnone), fun r hfound => ⟨fun id hdest => ?_, fun hdest => ?_⟩⟩
      · exact hread ((onArrayReadComplete_of_read hfound).trans (Device.routeRead_of_member hdest))
      · exact hread ((onArrayReadComplete_of_read hfound).trans (Device.routeRead_of_wanted hdest))
    · exact hdatain (onProgramDataInEnd_of_datain hjob hstate)
    · exact hdatain (onProgramDataInEnd_of_other_state h)
    · exact hprogram ok cws (congrArg Device.settleAll (Device.programCheck_of_busy hjob hstate))
    · rintro rfl
      exact herase (congrArg Device.settleAll (Device.eraseCheck_of_busy hjob hstate))
    · rintro rfl
      exact herase (congrArg Device.settleAll (Device.eraseCheck_of_busy hjob hstate))
    · exact hprogram ok cws (congrArg Device.settleAll (Device.programCheck_of_idle hidle))
    · exact herase (congrArg Device.settleAll (Device.eraseCheck_of_idle hidle))
    · have hpatrol {d} := next_of_atUnit (d := d) (out := execPatrolRead lun quad plane step s)
        (ok := lun < 1792 && quad < 3312 && plane < 4 && step < 8) (by simp [hlun, hquad, hplane, hstep]) rfl
      refine ⟨fun h => hpatrol (onPatrolRead_of_kept h), fun hidle hclosed hmay => ⟨fun hearly => ?_, fun hlate => ?_⟩⟩
      · exact hpatrol ((onPatrolRead_of_read hidle hclosed hmay).trans (if_neg (Nat.not_le.2 hearly)))
      · exact hpatrol ((onPatrolRead_of_read hidle hclosed hmay).trans (if_pos hlate))
    · have hrefresh {d} := next_of_atUnit (d := d) (out := execBlockRefresh lun quad plane s)
        (ok := lun < 1792 && quad < 3312 && plane < 4) (by simp [hlun, hquad, hplane]) rfl
      exact ⟨fun h => hrefresh (onBlockRefresh_of_unflagged h),
        fun hflagged hempty => hrefresh (onBlockRefresh_of_empty hflagged hempty), hrefresh rfl⟩
  · have htrain {d} := next_of_atUnit (d := d) (out := execHandoverTrainingEnd ord s) (decide_eq_true hord) rfl
    exact ⟨fun h => htrain (onHandoverTrainingEnd_of_served h), fun h =>
      ⟨s.draw.1 % 2 ^ 32, Nat.mod_lt _ (Nat.two_pow_pos 32), htrain (onHandoverTrainingEnd_of_training h)⟩⟩

end Sys2Proof.Machine

/-! PROOFS. The queue and the rows of Ryern commands: what every row answers before its own checks (R424, R425, R427, R430, R431, R448,
R572, R578). -/

namespace Sys2Proof.Machine

/-! ## The queue -/

/-- Settles O1: the front of the queue is taken and carried out. -/
theorem stepRunsFront : Obligations.StepRunsFront := by
  unfold Obligations.StepRunsFront
  exact fun s c rest => step_of_pending

/-- Settles O3: what a command answers is a next state with the queue as it was, or a refusal, which is no next state. -/
theorem queueUntouched : Obligations.QueueUntouched := by
  unfold Obligations.QueueUntouched
  intro c s t hnext
  obtain ⟨u, hu, hpending⟩ | ⟨hrefused, -⟩ := exec_answers c s
  · obtain rfl : u = t := Host.Outcome.next.inj (hu.symm.trans hnext)
    exact hpending
  · exact nomatch hrefused.symm.trans hnext

/-! ## Every Ryern row -/

/-- A row that reads its slot as it is: a Ryern command with the opcode, the reserved bytes and the issuer of its row (R431). -/
def IsRyernRow (s : State) (c : Cmd) (r : RyernRow) : Prop :=
  Cmd.of r.op c = true ∧ ∃ (check : Device → Nat → Option (Nat × Nat)) (note : Device → Nat → Device) (body : Device → Nat → Device),
    exec r.instr s = onDevice s fun d => ryernNote d c r.op r.reserved r.admin check note body

section
variable {s : State} {c : Cmd} {r : RyernRow}

theorem isRyernRow_of_raw {op : Nat} {pages : Device → Nat} {body : Device → Nat → Device} (hop : r.op = 0x40)
    (hreserved : r.reserved = bytesOf 28 63) (hadmin : r.admin = true)
    (h : exec r.instr s = onDevice s fun d => rawCommand d c op pages body) (hwf : Cmd.rawOf op c = true) : IsRyernRow s c r := by
  refine ⟨hop ▸ (Bool.and_eq_true_iff.1 hwf).1, ?_⟩
  simp only [rawCommand, rawAs_eq c op hwf] at h
  rw [hop, hreserved, hadmin]
  exact ⟨_, _, _, h⟩

theorem exec_gather : exec (.gather c) s = onDevice s fun d => ryernNote d c 0x2C (bytesOf 40 63) false
    (fun s n => s.embCheck c.ld n c.slot false) (fun t _ => t) (fun s n => (s.embStart n c.ld c.slot false).embEnd n) := rfl

/-- Every well-formed row of the opcode table's Ryern commands is one, whatever its checks and its effect. -/
theorem isRyernRow_of_mem (s : State) (c : Cmd) (step : Nat) (fail : Bool) :
    ∀ r ∈ ryernRows c step fail, r.instr.wf = true → IsRyernRow s c r := by
  iterate 29 refine List.forall_mem_cons.2 ⟨fun hwf => ⟨hwf, _, _, _, rfl⟩, ?_⟩
  refine List.forall_mem_cons.2 ⟨fun hwf => ⟨hwf, _, _, _, exec_gather⟩, List.forall_mem_cons.2 ⟨fun hwf => ?gatherPrefetch, ?_⟩⟩
  case gatherPrefetch =>
    obtain ⟨hc, hflag⟩ := Bool.and_eq_true_iff.1 hwf
    exact ⟨hc, _, _, _, (exec_gatherPrefetch_of_flag hflag).trans exec_gather⟩
  iterate 9 refine List.forall_mem_cons.2 ⟨fun hwf => ⟨hwf, _, _, _, rfl⟩, ?_⟩
  iterate 3 refine List.forall_mem_cons.2 ⟨isRyernRow_of_raw rfl rfl rfl rfl, ?_⟩
  exact List.forall_mem_nil _

end

/-- Settles O20: the reserved bits come before every other check of a row. -/
theorem reservedFieldsEndCommand : Obligations.ReservedFieldsEndCommand := by
  unfold Obligations.ReservedFieldsEndCommand
  intro s c step fail r hr hwf hbad
  obtain ⟨hc, check, note, body, hexec⟩ := isRyernRow_of_mem s c step fail r hr hwf
  exact next_of hexec (ryernNote_reserved _ _ _ _ _ _ _ _ hc hbad)

/-! ## Denied, locked and held commands -/

theorem Cmd.of_iff {op : Nat} {c : Cmd} : Cmd.of op c = true ↔ fld c.slot 0 1 = op ∧ c.ld < 16 ∧ c.mb < 64 := by
  simp only [Cmd.of, Bool.and_eq_true, beq_iff_eq, decide_eq_true_eq, and_assoc]

section
variable {s : Device} {c : Cmd}

theorem Device.showFull_regs : s.showFull.regs = s.regs := by
  unfold Device.showFull
  dsimp only
  repeat' split
  all_goals rfl

theorem Device.showFull_admin : s.showFull.hif.admin = s.hif.admin := by
  unfold Device.showFull
  dsimp only
  repeat' split
  all_goals rfl

/-- A command that begins changes no designation. -/
theorem Device.begin_admin : (s.begin c).2.hif.admin = s.hif.admin := by
  unfold Device.begin
  split
  · rfl
  · exact Device.showFull_admin

/-- A command that begins changes the counters of its admission only, not the lifecycle state. -/
theorem Device.begin_lifecycle (hld : c.ld < 16) : (s.begin c).2.lifecycle = s.lifecycle := by
  have hadmitted : regAddr Reg.SEC_STATUS 0 ≠ regAddr Reg.HIF_ADMITTED 0 := by decide
  have hnow : regAddr Reg.SEC_STATUS 0 ≠ regAddr Reg.HIF_LD_ADMITTED_NOW c.ld := by
    simp only [regAddr, Reg.SEC_STATUS, Reg.HIF_LD_ADMITTED_NOW]
    omega
  have hadmissions : regAddr Reg.SEC_STATUS 0 ≠ regAddr Reg.HIF_ADMISSIONS 0 := by decide
  unfold Device.begin
  split
  · rfl
  · refine congrArg (bits · 2 0) ((Device.rd_congr Device.showFull_regs _ _).trans ?_)
    exact (Device.rd_wr_ne _ _ _ _ _ _ hadmissions).trans
      ((Device.rd_wr_ne _ _ _ _ _ _ hnow).trans (Device.rd_wr_ne _ _ _ _ _ _ hadmitted))

section
variable {op : Nat} {reserved : List Nat} {admin : Bool} {check : Device → Nat → Option (Nat × Nat)} {note : Device → Nat → Device}
  {body : Device → Nat → Device} (hc : Cmd.of op c = true) (hgood : headerBad c.slot reserved = false)
include hc hgood

/-- A command that its LD may not issue, or whose namespace has no key, ends with SECURITY_DENIED (R418, R578). -/
theorem ryernNote_denied (hdenied : (admin = true ∧ c.ld ≠ s.hif.admin) ∨ (s.begin c).2.keyless c.slot = true) :
    ryernNote s c op reserved admin check note body = .next ((s.begin c).2.finish (s.begin c).1 St.securityDenied 0) := by
  obtain ⟨hop, hunits⟩ := Cmd.of_iff.1 hc
  have hdenied' : (admin && c.ld != (s.begin c).2.hif.admin || (s.begin c).2.keyless c.slot) = true := by
    simpa [Device.begin_admin] using hdenied
  simp [ryernNote, cmdAs_eq c op hop, hunits, hgood, hdenied']

variable (hissuer : admin = false ∨ c.ld = s.hif.admin) (hkeys : (s.begin c).2.keyless c.slot = false)
include hissuer hkeys

omit hc hgood in
theorem not_denied : (admin && c.ld != (s.begin c).2.hif.admin || (s.begin c).2.keyless c.slot) = false := by
  obtain h | h := hissuer <;> simp [Device.begin_admin, h, hkeys]

/-- A RETIRED device serves NOP, REG_READ and TIME_ANCHOR only (R572). -/
theorem ryernNote_locked (hretired : s.lifecycle = 4) (hnop : op ≠ 0x00) (hread : op ≠ 0x10) (hanchor : op ≠ 0x12) :
    ryernNote s c op reserved admin check note body = .next ((s.begin c).2.finish (s.begin c).1 St.lifecycleLocked 0) := by
  obtain ⟨hop, hunits⟩ := Cmd.of_iff.1 hc
  have hlife : (s.begin c).2.lifecycle = 4 := (Device.begin_lifecycle hunits.1).trans hretired
  simp [ryernNote, cmdAs_eq c op hop, hunits, hgood, not_denied hissuer hkeys, hlife, hnop, hread, hanchor]

/-- A command that a hold keeps from running has not started and waits under the hold's reason (R427, R448). -/
theorem ryernNote_held {p : Pending} {reason : Nat} (hserved : s.lifecycle ≠ 4) (hp : (s.begin c).2.cmd (s.begin c).1 = some p)
    (hheld : (s.begin c).2.heldBy p = some reason) : ryernNote s c op reserved admin check note body =
      .next ((s.begin c).2.setCmd { p with phase := .admitted, held := some (reason, (s.begin c).2.now), ran := false }) := by
  obtain ⟨hop, hunits⟩ := Cmd.of_iff.1 hc
  have hlife : (s.begin c).2.lifecycle ≠ 4 := by rwa [Device.begin_lifecycle hunits.1]
  simp [ryernNote, cmdAs_eq c op hop, hunits, hgood, not_denied hissuer hkeys, hlife, hp, hheld]

end
end

/-- Settles O21: each row meets the checks of its issuer, of the lifecycle and of the holds in this order. -/
theorem deniedLockedAndHeldCommands : Obligations.DeniedLockedAndHeldCommands := by
  unfold Obligations.DeniedLockedAndHeldCommands
  refine ⟨fun s c step fail r hr hwf hgood => ?_, fun s c step fail r p reason hr hwf hgood hissuer hkeys hserved hp hheld => ?_⟩ <;>
    obtain ⟨hc, check, note, body, hexec⟩ := isRyernRow_of_mem s c step fail r hr hwf
  · exact ⟨fun hdenied => next_of hexec (ryernNote_denied hc hgood hdenied),
      fun hissuer hkeys hretired hnop hread hanchor =>
        next_of hexec (ryernNote_locked hc hgood hissuer hkeys hretired hnop hread hanchor)⟩
  · exact next_of hexec (ryernNote_held hc hgood hissuer hkeys hserved hp hheld)

end Sys2Proof.Machine

/-! PROOFS. Storage, namespace and power commands (R376 to R378, R384, R394, R403 to R406, R430 to R437, R504, R505, R513 to R515, R575,
R601). -/

namespace Sys2Proof.Machine

/-! ## Storage and namespace commands -/

/-- Settles O23: the four commands are Ryern rows with the checks of their access, and count a refusal by a pin. -/
theorem storageCommands : Obligations.StorageCommands := by
  unfold Obligations.StorageCommands
  intro s c
  refine ⟨?read, ?write, ?discard, ?secureDiscard⟩
  case read => exact next_of_ryernNote (out := execRead c s) rfl
  case write => exact next_of_ryernNote (out := execWrite c s) rfl
  case discard => exact next_of_ryernNote (out := execDiscard c s) rfl
  case secureDiscard => exact next_of_ryernNote (out := execSecureDiscard c s) rfl

theorem runNsAccess_of_present {c : Cmd} {s : Device} {n : Nat} {x : Ns} (hx : s.ns (fld c.slot 16 1) = some x) : runNsAccess c s n =
    (s.setNs (fld c.slot 16 1) (some { x with access := fld c.slot 18 2 ||| 2 ^ x.owner })).finish n St.ok 0 := by
  rw [runNsAccess, hx]

/-- Settles O24: the five commands are Ryern rows; NS_DELETE and NS_FORMAT count a refusal by a pin. -/
theorem namespaceCommands : Obligations.NamespaceCommands := by
  unfold Obligations.NamespaceCommands
  intro s c
  refine ⟨?nsCreate, ?nsDelete, ?nsFormat, ?nsAccess, ?nsInfo, fun hc hr hpass x hx => ?owned⟩
  case nsCreate => exact next_of_ryern (out := execNsCreate c s) rfl
  case nsDelete => exact next_of_ryernNote (out := execNsDelete c s) rfl
  case nsFormat => exact next_of_ryernNote (out := execNsFormat c s) rfl
  case nsAccess => exact next_of_ryern (out := execNsAccess c s) rfl
  case nsInfo => exact next_of_ryern (out := execNsInfo c s) rfl
  case owned =>
    rw [← runNsAccess_of_present hx]
    exact (next_of_ryern (out := execNsAccess c s) rfl hc hr).1 hpass

/-! ## Power commands -/

section
variable {c : Cmd} {s : Device} {n : Nat}

theorem checkPowerState_of_large (h : 3 < fld c.slot 16 1) : checkPowerState c s n = some (St.invalidField, 0) := by
  simp [checkPowerState, firstFail, h]

theorem checkPowerState_of_barred (hpos : 1 ≤ fld c.slot 16 1) (hmax : fld c.slot 16 1 ≤ 3)
    (h : bit (s.rdf Reg.PWR_PS_CTL 0 3 1) (fld c.slot 16 1 - 1) = false ∨ s.psHolds (fld c.slot 16 1) (some n) = false) :
    checkPowerState c s n = some (St.refusedPower, 0) := by
  have hdeep : fld c.slot 16 1 ≠ 0 := by omega
  simp [checkPowerState, firstFail, Nat.not_lt.2 hmax, hdeep, h]

theorem checkPowerState_of_free (h : fld c.slot 16 1 = 0 ∨ (fld c.slot 16 1 ≤ 3 ∧
    bit (s.rdf Reg.PWR_PS_CTL 0 3 1) (fld c.slot 16 1 - 1) = true ∧ s.psHolds (fld c.slot 16 1) (some n) = true)) :
    checkPowerState c s n = none := by
  obtain h0 | ⟨hmax, henabled, hholds⟩ := h
  · simp [checkPowerState, firstFail, h0]
  · simp [checkPowerState, firstFail, Nat.not_lt.2 hmax, henabled, hholds]

theorem runPowerState_of_same (h : s.ps = fld c.slot 16 1) : runPowerState c s n = s.finish n St.ok 0 := if_pos h

theorem runPowerState_of_other (h : s.ps ≠ fld c.slot 16 1) :
    runPowerState c s n = (s.enterPs (fld c.slot 16 1)).setPwr (fun p => { p with waiting := some n }) := if_neg h

end

/-- Settles O26: both are Ryern rows, and the checks of POWER_STATE fall into three cases. -/
theorem powerCommands : Obligations.PowerCommands := by
  unfold Obligations.PowerCommands
  refine fun s c => ⟨next_of_ryern (out := execPowerHint c s) rfl, fun hc hr => ?_⟩
  obtain ⟨hruns, hends⟩ := next_of_ryern (out := execPowerState c s) rfl hc hr
  refine ⟨fun hlarge => hends _ _ (checkPowerState_of_large hlarge),
    fun hpos hmax hbarred => hends _ _ (checkPowerState_of_barred hpos hmax hbarred), fun hfree => ⟨fun hsame => ?_, fun hother => ?_⟩⟩
  · rw [← runPowerState_of_same hsame]
    exact hruns (checkPowerState_of_free hfree)
  · rw [← runPowerState_of_other hother]
    exact hruns (checkPowerState_of_free hfree)

end Sys2Proof.Machine

/-! PROOFS. The mailboxes and the command pipeline (R417, R420, R422 to R429, R431, R444 to R449, R451). -/

namespace Sys2Proof.Machine

theorem bit_eq_testBit (n i : Nat) : bit n i = n.testBit i := by
  rw [Nat.testBit_eq_decide_div_mod_eq]
  rfl

theorem bit_toNat (v : BitVec 32) (i : Nat) : bit v.toNat i = v.getLsbD i := bit_eq_testBit _ _

section
variable {s : Device} {ld mb v : Nat}

/-! ## Doorbells and fetches -/

theorem Device.sqTail_of_shut (h : (s.mbox ld mb).enabled = false ∨ (s.mbox ld mb).resetting = true) : s.sqTail ld mb v = s := by
  obtain h | h := h <;> simp [Device.sqTail, h]

theorem Device.sqTail_of_open (hon : (s.mbox ld mb).enabled = true) (hquiet : (s.mbox ld mb).resetting = false)
    (hserved : s.sled.stage = 0) (hnew : (v % 256 + 256 - (s.mbox ld mb).tail) % 256 ≠ 0) :
    s.sqTail ld mb v = s.setMb ld mb { s.mbox ld mb with
      tail := v % 256,
      bells := (s.mbox ld mb).bells ++
        [⟨(v % 256 + 256 - (s.mbox ld mb).tail) % 256, s.now, s.fullTime, s.hif.nextReq⟩] } := by
  simp [Device.sqTail, hon, hquiet, hserved, hnew]

/-- The command that a fetch makes of the slot at SQ_HEAD (R422, R424). -/
def Device.fetchedCmd (s : Device) (ld mb : Nat) (b : Bell) : Pending :=
  { n := s.hif.next, ld, mb, slot := BitVec.ofNat 512 (leNat (s.readMem 7 42 (slotAt ld mb (s.mbox ld mb).sqHead) 64)), phase := .fetched,
    arrival := b.at_, full := b.full, mem := b.mem, held := none, waits := [], ran := false, order := 0, started := 0, status := 0,
    reason := 0, result := 0, resultHi := 0, cut := false, silent := false }

/-- A mailbox takes its turn and one of its pending slots (R422, R424). -/
def Device.fetchSlot (s : Device) (ld mb : Nat) (b : Bell) : Device :=
  let u := s.setLd ld { s.ld ld with fetchMb := mb }
  ({ u with cmds := s.cmds ++ [s.fetchedCmd ld mb b], hif := { u.hif with next := s.hif.next + 1 } }).setMb ld mb
    { s.mbox ld mb with sqHead := ((s.mbox ld mb).sqHead + 1) % 256, bells := takeBell (s.mbox ld mb).bells }

theorem onCommandFetch_of_turn {b : Bell} {rest : List Bell} (hbells : (s.mbox ld mb).bells = b :: rest)
    (hturn : nextMb (s.ld ld).fetchMb (s.mayFetch ld) = some mb) : onCommandFetch ld mb s =
      if (s.mbox ld mb).resetting then (s.fetchSlot ld mb b).finish s.hif.next St.queueReset 0
      else if !(s.poisonIn 7 42 (slotAt ld mb (s.mbox ld mb).sqHead) 64).isEmpty then (s.fetchSlot ld mb b).finish s.hif.next St.invalidField 0
      else s.fetchSlot ld mb b := by
  rw [onCommandFetch]
  simp only [hbells, hturn, ne_eq, not_true_eq_false, if_false, Device.fetchSlot, Device.fetchedCmd]
  rfl

theorem onCommandFetch_of_other_turn (h : nextMb (s.ld ld).fetchMb (s.mayFetch ld) ≠ some mb) : onCommandFetch ld mb s = s := by
  rw [onCommandFetch]
  split
  · rfl
  · exact if_pos h

end

/-- An event at a mailbox that exists. -/
theorem next_of_atMb {out : Out} {s : State} {ld mb : Nat} {effect : Device → Device} {d : Device} (hld : ld < 16) (hmb : mb < 64)
    (h : out = onDevice s fun d => atMb ld mb (effect d)) (heffect : effect s.toDevice = d) : out = .next (s.after d) :=
  next_of h ((atMb_eq ld mb _ hld hmb).trans (congrArg _ heffect))

/-- An event of the device. -/
theorem next_of_device {out : Out} {s : State} {effect : Device → Device} {d : Device}
    (h : out = onDevice s fun d => .next (effect d)) (heffect : effect s.toDevice = d) : out = .next (s.after d) :=
  next_of h (congrArg _ heffect)

/-- Settles O13: a doorbell counts slots, and the fetch of a slot depends on the turn, a queue reset and poison. -/
theorem mailboxSlots : Obligations.MailboxSlots := by
  unfold Obligations.MailboxSlots
  refine ⟨fun s ld mb v hld hmb => ⟨fun hshut => ?_, fun hon hquiet hserved hnew => ?_⟩, fun s ld mb b rest hld hmb hbells hturn => ?_,
    fun s ld mb hld hmb hother => ?_⟩
  · exact next_of_atMb (out := execMbSqTail ld mb v s) hld hmb rfl (Device.sqTail_of_shut hshut)
  · exact next_of_atMb (out := execMbSqTail ld mb v s) hld hmb rfl (Device.sqTail_of_open hon hquiet hserved hnew)
  · have hfetch {d : Device} (h : onCommandFetch ld mb s.toDevice = d) : exec (.commandFetch ld mb) s = .next (s.after d) :=
      next_of_atMb (out := execCommandFetch ld mb s) hld hmb rfl h
    have hslot := onCommandFetch_of_turn hbells hturn
    refine ⟨fun hquiet hclean => ?_, fun hreset => ?_, fun hquiet hpoison => ?_⟩
    · exact hfetch ((hslot.trans (if_neg (Bool.eq_false_iff.1 hquiet))).trans (if_neg (by simp [hclean])))
    · exact hfetch (hslot.trans (if_pos hreset))
    · exact hfetch ((hslot.trans (if_neg (Bool.eq_false_iff.1 hquiet))).trans (if_pos (by simp [hpoison])))
  · exact next_of_atMb (out := execCommandFetch ld mb s) hld hmb rfl (onCommandFetch_of_other_turn hother)

/-! ## Mailbox control -/

section
variable {s : Device} {ld mb v : Nat}

/-- The fields that a write of MB_CTL stores (R420). -/
def Device.storeCtl (s : Device) (ld mb v : Nat) (enabled : Bool) : Device :=
  s.setMb ld mb { s.mbox ld mb with ctl := v / 4 % 2 ^ 26 * 4, enabled }

theorem Device.mbCtlWrite_of_on (hon : bit v 0 = true) (hset : bit v 1 = false) : s.mbCtlWrite ld mb v =
    s.storeCtl ld mb v (if (s.mbox ld mb).cqBase = 0 then (s.mbox ld mb).enabled else true) := by
  simp [Device.mbCtlWrite, Device.storeCtl, hon, hset]

theorem Device.mbCtlWrite_of_off (hoff : bit v 0 = false) (hset : bit v 1 = false) (hwaiting : (s.mbox ld mb).waiting = 0)
    (hcmds : s.mbCmds ld mb = []) : s.mbCtlWrite ld mb v = s.storeCtl ld mb v false := by
  simp [Device.mbCtlWrite, Device.storeCtl, hoff, hset, hwaiting, hcmds]

theorem Device.mbCtlWrite_of_reset (hoff : bit v 0 = false) (hquiet : (s.mbox ld mb).resetting = false)
    (h : bit v 1 = true ∨ (s.mbox ld mb).waiting ≠ 0 ∨ s.mbCmds ld mb ≠ []) :
    s.mbCtlWrite ld mb v = (s.storeCtl ld mb v false).startReset ld mb := by
  have hstart : (bit v 1 || ((s.mbox ld mb).waiting != 0 || !(s.mbCmds ld mb).isEmpty)) = true := by
    simpa [List.isEmpty_eq_false_iff] using h
  simp [Device.mbCtlWrite, Device.storeCtl, hoff, hquiet, hstart]

theorem onQueueResetEnd_of_idle (hreset : (s.mbox ld mb).resetting = true) (hwaiting : (s.mbox ld mb).waiting = 0)
    (hcmds : s.mbCmds ld mb = []) : onQueueResetEnd ld mb s =
      s.setMb ld mb { s.mbox ld mb with sqHead := 0, tail := 0, bells := [], fault := false, resetting := false } := by
  simp [onQueueResetEnd, hreset, hwaiting, hcmds]

theorem onQueueResetEnd_of_busy (h : (s.mbox ld mb).waiting ≠ 0 ∨ s.mbCmds ld mb ≠ []) : onQueueResetEnd ld mb s = s := by
  obtain h | h := h <;> simp [onQueueResetEnd, h]

end

/-- A write of MB_CTL while the device is in service. -/
theorem next_of_ctl {out : Out} {s : State} {ld mb v : Nat} {d : Device} (hld : ld < 16) (hmb : mb < 64) (hserved : s.sled.stage = 0)
    (h : out = onDevice s fun d => atMb ld mb (if d.sled.stage = 0 then d.mbCtlWrite ld mb v else d))
    (hwrite : s.mbCtlWrite ld mb v = d) : out = .next (s.after d) :=
  next_of_atMb hld hmb h ((if_pos hserved).trans hwrite)

/-- Settles O14: MB_CTL with ENABLE and RESET, the end of a queue reset and the reset of a function. -/
theorem mailboxControl : Obligations.MailboxControl := by
  unfold Obligations.MailboxControl
  refine ⟨fun s ld mb v hld hmb => ?_, fun s ld mb v hld hmb hserved hon hset => ?_, fun s ld mb v hld hmb hserved hoff hset => ?_,
    fun s ld mb v hld hmb hserved hoff hquiet => ?_, fun s ld mb hld hmb hreset => ⟨fun hwaiting hcmds => ?_, fun hbusy => ?_⟩,
    fun s ld hld => ?_⟩
  · exact next_of_atMb (out := execMbCqHead ld mb v s) hld hmb rfl rfl
  · exact next_of_ctl (out := execMbEnable ld mb v s) hld hmb hserved rfl
      (Device.mbCtlWrite_of_on ((bit_toNat v 0).trans hon) ((bit_toNat v 1).trans hset))
  · have hoff' := (bit_toNat v 0).trans hoff
    refine ⟨fun hwaiting hcmds => ?_, fun hbusy hquiet => ?_⟩
    · exact next_of_ctl (out := execMbEnable ld mb v s) hld hmb hserved rfl
        (Device.mbCtlWrite_of_off hoff' ((bit_toNat v 1).trans hset) hwaiting hcmds)
    · exact next_of_ctl (out := execMbEnable ld mb v s) hld hmb hserved rfl (Device.mbCtlWrite_of_reset hoff' hquiet (.inr hbusy))
  · have hoff' : bit (v.toNat ||| 2) 0 = false := by
      rw [bit_eq_testBit, Nat.testBit_or]
      exact Bool.or_eq_false_iff.2 ⟨hoff, rfl⟩
    have hset : bit (v.toNat ||| 2) 1 = true := by
      rw [bit_eq_testBit, Nat.testBit_or]
      exact Bool.or_eq_true_iff.2 (.inr rfl)
    exact next_of_ctl (out := execQueueReset ld mb v s) hld hmb hserved rfl (Device.mbCtlWrite_of_reset hoff' hquiet (.inl hset))
  · exact next_of_atMb (out := execQueueResetEnd ld mb s) hld hmb rfl (onQueueResetEnd_of_idle hreset hwaiting hcmds)
  · exact next_of_atMb (out := execQueueResetEnd ld mb s) hld hmb rfl (onQueueResetEnd_of_busy hbusy)
  · exact next_of_atUnit (out := execFunctionLevelReset ld s) (decide_eq_true hld) rfl rfl

/-! ## Admission -/

section
variable {s : Device} {ld mb n : Nat} {p : Pending}

section
variable (hready : s.mbReady ld mb = some p)
include hready

theorem onCommandAdmit_of_free (hturn : nextMb (s.ld ld).admitMb (fun m => (s.mbReady ld m).isSome) = some mb) (hhub : s.hubRuns = true)
    (hlink : s.linkUp = true) (hroom : s.rd Reg.HIF_ADMITTED 0 < s.rd Reg.HIF_ADMIT_MAX 0)
    (hld : s.hif.scarce = false ∨ s.turnLd = some ld) : onCommandAdmit ld mb s = s.enter p := by
  have hnot : (s.hif.scarce && s.turnLd != some ld) = false := by obtain h | h := hld <;> simp [h]
  simp [onCommandAdmit, hready, hturn, hhub, hlink, Nat.not_le.2 hroom, hnot]

theorem onCommandAdmit_of_full (hfull : s.rd Reg.HIF_ADMIT_MAX 0 ≤ s.rd Reg.HIF_ADMITTED 0) : onCommandAdmit ld mb s = s := by
  simp [onCommandAdmit, hready, hfull]

end

section
variable (hcmd : s.cmd n = some p)
include hcmd

/-! ## Start and deadline -/

theorem Device.unhold_of_unheld (hheld : p.held = none) : s.unhold n = s := by simp only [Device.unhold, hcmd, hheld]

section
variable (hphase : p.phase = .admitted) (hhub : s.hubRuns = true)
include hphase hhub

/-- An admitted command that no hold keeps starts; a reserved opcode ends then (R427, R431). -/
theorem onCommandExecutionStart_of_free (hheld : p.held = none) (hfree : s.heldBy p = none) : onCommandExecutionStart n s =
    if opcodes.contains (fld p.slot 0 1) then s.setCmd { p with phase := .started, started := s.now, ran := false }
    else (s.setCmd { p with phase := .started, started := s.now, ran := false }).finish n St.invalidField 0 := by
  simp only [onCommandExecutionStart, hcmd, hphase, hhub, hfree, Device.unhold_of_unheld hcmd hheld, ne_eq, not_true_eq_false,
    Bool.not_true, Bool.false_eq_true, or_self, if_false]

theorem onCommandExecutionStart_of_held {r : Nat} (hheld : p.held = none) (hkept : s.heldBy p = some r) :
    onCommandExecutionStart n s = s.setCmd { p with held := some (r, s.now) } := by
  simp [onCommandExecutionStart, hcmd, hphase, hhub, hkept, hheld, Device.unhold_of_unheld hcmd hheld, Device.hold]

theorem onCommandExecutionStart_of_noted {r t : Nat} (hkept : s.heldBy p = some r) (hheld : p.held = some (r, t)) :
    onCommandExecutionStart n s = s := by
  simp [onCommandExecutionStart, hcmd, hphase, hhub, hkept, hheld]

end

/-- The deadline of a command in ms: its own, or that of its LD (R446). -/
def Device.deadlineMs (s : Device) (p : Pending) : Nat :=
  if fld p.slot 4 2 = 0 then s.rdf Reg.HIF_LD_QOS p.ld 31 16 else fld p.slot 4 2

theorem onAdmitDeadlineExpiry_of_due (hphase : p.phase = .fetched) (hheard : p.silent = false) (hset : s.deadlineMs p ≠ 0)
    (hdue : s.deadlineMs p * 1000000 ≤ s.fullTime - p.full) : onAdmitDeadlineExpiry n s =
      ((s.addWait n 1 (s.fullTime - p.full)).inc Reg.HIF_LD_QOS_WAIT_NS p.ld (s.fullTime - p.full)).finish n St.refusedQos 0 := by
  simp only [onAdmitDeadlineExpiry, hcmd]
  exact if_pos ⟨hphase, by simp [hheard], hset, hdue⟩

theorem onAdmitDeadlineExpiry_of_early (h : s.deadlineMs p = 0 ∨ s.fullTime - p.full < s.deadlineMs p * 1000000) :
    onAdmitDeadlineExpiry n s = s := by
  simp only [onAdmitDeadlineExpiry, hcmd]
  refine if_neg fun ⟨_, _, hset, hdue⟩ => ?_
  exact h.elim hset (Nat.not_lt.2 hdue)

/-! ## Completion -/

section
variable (hphase : p.phase = .ended) (hhub : s.hubRuns = true)
include hphase hhub

/-- A completion entry whose LD has its turn is written, or sets FAULT when the link fails it (R423, R426, R447). -/
theorem onCompletionWrite_of_turn (hheard : p.silent = false) (hsound : (s.mbox p.ld p.mb).fault = false) (hlink : s.linkUp = true)
    (hturn : s.dmaLd = some p.ld) (ok : Bool) : onCompletionWrite n ok s =
      let t := s.takeDma p.ld 32
      if ok then (t.writeEntry p).leave p
      else ((t.setMb p.ld p.mb { t.mbox p.ld p.mb with fault := true }).raise p.ld 6).leave p := by
  simp [onCompletionWrite, hcmd, hphase, hhub, hheard, hsound, hlink, hturn]

theorem onCompletionWrite_of_dropped (h : p.silent = true ∨ (s.mbox p.ld p.mb).fault = true) (ok : Bool) :
    onCompletionWrite n ok s = s.leave p := by
  have hdrop : (p.silent || (s.mbox p.ld p.mb).fault) = true := Bool.or_eq_true_iff.2 h
  simp [onCompletionWrite, hcmd, hphase, hhub, hdrop]

end
end

theorem onInterruptCoalesceTimeout_of_due (hpending : (s.mbox ld mb).intPending ≠ 0) (hset : bits (s.mbox ld mb).ctl 27 18 ≠ 0)
    (hdue : 1000 * bits (s.mbox ld mb).ctl 27 18 ≤ s.now - (s.mbox ld mb).intSince) (hlink : s.linkUp = true) :
    onInterruptCoalesceTimeout ld mb true s = s.signal ld mb := by
  refine if_neg ?_
  simp [hpending, hset, Nat.not_lt.2 hdue, hlink]

end

/-- Settles O15: each event of the pipeline meets the command in the phase that its rule names and moves it on, or leaves it. -/
theorem commandPipeline : Obligations.CommandPipeline := by
  unfold Obligations.CommandPipeline
  refine ⟨fun s ld mb p hld hmb hready hturn hhub hlink => ⟨fun hroom htakes => ?_, fun hfull => ?_⟩,
    fun s n p hcmd _ hphase hheld hhub => ⟨fun hfree hknown => ?_, fun hfree hreserved => ?_, fun r hkept => ?_⟩,
    fun s n r t p hcmd hphase hhub hkept hheld => ?_,
    fun s n p hcmd hphase hheard => ⟨fun hset hdue => ?_, fun hearly => ?_⟩,
    fun s n p hcmd hphase hhub => ⟨fun hheard hsound hlink hturn => ?_, fun ok hdrop => ?_⟩,
    fun s ld mb hld hmb hpending hset hdue hlink => ?_⟩
  · exact next_of_atMb (out := execCommandAdmit ld mb s) hld hmb rfl (onCommandAdmit_of_free hready hturn hhub hlink hroom htakes)
  · exact next_of_atMb (out := execCommandAdmit ld mb s) hld hmb rfl (onCommandAdmit_of_full hready hfull)
  · exact next_of_device (out := execCommandExecutionStart n s) rfl
      ((onCommandExecutionStart_of_free hcmd hphase hhub hheld hfree).trans (if_pos hknown))
  · exact next_of_device (out := execCommandExecutionStart n s) rfl
      ((onCommandExecutionStart_of_free hcmd hphase hhub hheld hfree).trans (if_neg (Bool.eq_false_iff.1 hreserved)))
  · exact next_of_device (out := execCommandExecutionStart n s) rfl (onCommandExecutionStart_of_held hcmd hphase hhub hheld hkept)
  · exact next_of_device (out := execCommandExecutionStart n s) rfl (onCommandExecutionStart_of_noted hcmd hphase hhub hkept hheld)
  · exact next_of_device (out := execAdmitDeadlineExpiry n s) rfl (onAdmitDeadlineExpiry_of_due hcmd hphase hheard hset hdue)
  · exact next_of_device (out := execAdmitDeadlineExpiry n s) rfl (onAdmitDeadlineExpiry_of_early hcmd hearly)
  · have hwrite := onCompletionWrite_of_turn hcmd hphase hhub hheard hsound hlink hturn
    exact ⟨next_of_device (out := execCompletionWrite n true s) rfl (hwrite true),
      next_of_device (out := execCompletionWrite n false s) rfl (hwrite false)⟩
  · exact next_of_device (out := execCompletionWrite n ok s) rfl (onCompletionWrite_of_dropped hcmd hphase hhub hdrop ok)
  · exact next_of_atMb (out := execInterruptCoalesceTimeout ld mb true s) hld hmb rfl
      (onInterruptCoalesceTimeout_of_due hpending hset hdue hlink)

end Sys2Proof.Machine

/-! PROOFS. Interrupt causes and log records, and the register writes of HIF_LD_QOS and PWR_CAP_W and the coolant alarm (R31, R421, R453,
R455, R503, R586). -/

namespace Sys2Proof.Machine

/-! ## Registers that an update leaves alone -/

section
variable {s : Device} {r i q j : Nat} (h : regAddr q j ≠ regAddr r i)
include h

theorem Device.rd_wrf_ne {hi lo v : Nat} : (s.wrf r i hi lo v).rd q j = s.rd q j := Device.rd_wr_ne _ _ _ _ _ _ h

theorem Device.rd_orr_ne {v : Nat} : (s.orr r i v).rd q j = s.rd q j := Device.rd_wr_ne _ _ _ _ _ _ h

end

/-- A field written leaves everything but the registers as it was. -/
theorem Device.wrf_frame {s t : Device} {r i hi lo v : Nat} (h : { t with regs := s.regs } = s) :
    { t.wrf r i hi lo v with regs := s.regs } = s := h

theorem Device.pwr_of_regs_frame {s t : Device} (h : { t with regs := s.regs } = s) : t.pwr = s.pwr := (congrArg Device.pwr h :)

theorem Device.media_of_regs_frame {s t : Device} (h : { t with regs := s.regs } = s) : t.media = s.media := (congrArg Device.media h :)

/-! ## Interrupt causes and log records -/

section
variable {s : Device}

/-- An event cause changes the LD's interrupt registers and what the device sends. -/
theorem Device.raise_frame (ld k : Nat) : { s.raise ld k with hif := s.hif, out := s.out } = s := by
  unfold Device.raise
  dsimp only
  split <;> rfl

theorem Device.testBit_intCause_raise (ld k i j : Nat) :
    ((s.raise ld k).ld i).intCause.testBit j = ((s.ld i).intCause.testBit j || (decide (i = ld) && decide (j = k))) := by
  have hraised : (s.raise ld k).ld i = if i = ld then { s.ld ld with intCause := (s.ld ld).intCause ||| 2 ^ k } else s.ld i := by
    have hset : (s.raise ld k).ld i = (s.setLd ld { s.ld ld with intCause := (s.ld ld).intCause ||| 2 ^ k }).ld i := by
      unfold Device.raise
      dsimp only
      split <;> rfl
    rw [hset]
    split
    · next h => subst h; exact nget_nset_same _ _ _ _
    · next h => exact nget_nset_ne _ _ _ _ _ _ h
  rw [hraised]
  by_cases hi : i = ld
  · subst hi
    simp [Nat.testBit_or, Nat.testBit_two_pow, eq_comm]
  · simp [hi]

theorem Device.foldl_raise_frame (k : Nat) : ∀ (l : List Nat) (s : Device),
    { l.foldl (fun a i => a.raise i k) s with hif := s.hif, out := s.out } = s
  | [], _ => rfl
  | i :: l, s => by
    have htail := Device.foldl_raise_frame k l (s.raise i k)
    have hhead := s.raise_frame i k
    rw [List.foldl_cons]
    exact (congrArg (fun d : Device => { d with hif := s.hif, out := s.out }) htail).trans hhead

theorem Device.testBit_intCause_foldl_raise (k i j : Nat) : ∀ (l : List Nat) (s : Device),
    ((l.foldl (fun a i => a.raise i k) s).ld i).intCause.testBit j = ((s.ld i).intCause.testBit j || (decide (i ∈ l) && decide (j = k)))
  | [], s => by simp
  | a :: l, s => by
    rw [List.foldl_cons, Device.testBit_intCause_foldl_raise k i j l, Device.testBit_intCause_raise, Bool.or_assoc,
      ← Bool.and_or_distrib_right]
    simp [List.mem_cons]

/-- An event cause of every bound LD changes interrupt registers and what the device sends. -/
theorem Device.raiseAll_frame (k : Nat) : { s.raiseAll k with hif := s.hif, out := s.out } = s := Device.foldl_raise_frame k _ s

theorem Device.mem_boundLds {ld : Nat} : ld ∈ s.boundLds ↔ ld < 16 ∧ s.rdf Reg.HIF_LD_STATUS ld 0 0 = 1 := by
  simp [Device.boundLds]

/-- An event cause of every bound LD is set there (R421). -/
theorem Device.testBit_intCause_raiseAll_same {k ld : Nat} (h : ld ∈ s.boundLds) : ((s.raiseAll k).ld ld).intCause.testBit k = true := by
  rw [Device.raiseAll, Device.testBit_intCause_foldl_raise]
  simp [h]

/-- No event clears a cause that is set. -/
theorem Device.testBit_intCause_raiseAll_of_set {k ld j : Nat} (h : (s.ld ld).intCause.testBit j = true) :
    ((s.raiseAll k).ld ld).intCause.testBit j = true := by
  rw [Device.raiseAll, Device.testBit_intCause_foldl_raise, h, Bool.true_or]

/-- The ring and the stamping die's clock after a record, before it is signalled (R31, R453). -/
def Device.stamp (s : Device) (src typ : Nat) (body : List Byte) (viewer : Option Nat) : Device :=
  let c := s.clock src
  let ring := s.log ++ [⟨s.logNext, natLe 8 c.value ++ natLe 2 (c.tag src) ++ natLe 2 typ ++ natLe 4 c.seq ++ body, viewer⟩]
  { s.setClock src { c with seq := (c.seq + 1) % 2 ^ 32 } with log := ring.drop (ring.length - 65536), logNext := (s.logNext + 1) % 2 ^ 32 }

theorem Device.record_eq_raiseAll (typ : Nat) (body : List Byte) :
    s.record typ body none = (s.stamp (mastIndex s.hubDie) typ body none).raiseAll 0 := rfl

/-- A record that every LD sees changes the clock of its die, the ring, interrupt registers and what the device sends. -/
theorem Device.pwrRecord_frame (typ inst a b : Nat) : { s.pwrRecord typ inst a b with
    clocks := s.clocks, log := s.log, logNext := s.logNext, hif := s.hif, out := s.out } = s := by
  have hraised := Device.raiseAll_frame (s := s.stamp (mastIndex s.hubDie) typ (natLe 2 inst ++ natLe 2 a ++ natLe 2 b ++ natLe 10 0) none) 0
  exact congrArg (fun d : Device => { d with
    clocks := s.clocks, log := s.log, logNext := s.logNext, hif := s.hif, out := s.out }) hraised

theorem Device.testBit_intCause_pwrRecord {typ inst a b ld j : Nat} (h : (s.ld ld).intCause.testBit j = true) :
    ((s.pwrRecord typ inst a b).ld ld).intCause.testBit j = true := Device.testBit_intCause_raiseAll_of_set h

@[simp] theorem Device.raiseAll_regs (k : Nat) : (s.raiseAll k).regs = s.regs := (congrArg Device.regs (s.raiseAll_frame k) :)
@[simp] theorem Device.raiseAll_pwr (k : Nat) : (s.raiseAll k).pwr = s.pwr := (congrArg Device.pwr (s.raiseAll_frame k) :)
@[simp] theorem Device.raiseAll_media (k : Nat) : (s.raiseAll k).media = s.media := (congrArg Device.media (s.raiseAll_frame k) :)
@[simp] theorem Device.raiseAll_faults (k : Nat) : (s.raiseAll k).faults = s.faults := (congrArg Device.faults (s.raiseAll_frame k) :)
@[simp] theorem Device.pwrRecord_regs (typ inst a b : Nat) : (s.pwrRecord typ inst a b).regs = s.regs :=
  (congrArg Device.regs (s.pwrRecord_frame typ inst a b) :)
@[simp] theorem Device.pwrRecord_pwr (typ inst a b : Nat) : (s.pwrRecord typ inst a b).pwr = s.pwr :=
  (congrArg Device.pwr (s.pwrRecord_frame typ inst a b) :)
@[simp] theorem Device.pwrRecord_faults (typ inst a b : Nat) : (s.pwrRecord typ inst a b).faults = s.faults :=
  (congrArg Device.faults (s.pwrRecord_frame typ inst a b) :)

end

/-! ## The coolant alarm -/

section
variable {s : Device} {inlet flow : Nat}

/-- The measured inlet temperature and flow are stored (R586). -/
def Device.storeCoolant (s : Device) (inlet flow : Nat) : Device :=
  (s.wrf Reg.PWR_COOLANT 0 7 0 (min 255 inlet)).wrf Reg.PWR_COOLANT 0 31 16 (min 65535 flow)

theorem onCoolantAlarm_of_alarm (h : 40 < inlet ∨ flow < 250) :
    onCoolantAlarm inlet flow s = ((s.storeCoolant inlet flow).alert 0).raiseAll 5 := by
  simp only [onCoolantAlarm, if_pos h, Device.storeCoolant]

theorem onCoolantAlarm_of_normal (h : ¬(40 < inlet ∨ flow < 250)) : onCoolantAlarm inlet flow s = s.storeCoolant inlet flow := by
  simp only [onCoolantAlarm, if_neg h, Device.storeCoolant]

theorem Device.storeCoolant_frame : { s.storeCoolant inlet flow with regs := s.regs } = s := by
  unfold Device.storeCoolant
  exact Device.wrf_frame (Device.wrf_frame rfl)

theorem Device.storeCoolant_pwr : (s.storeCoolant inlet flow).pwr = s.pwr :=
  Device.pwr_of_regs_frame Device.storeCoolant_frame

theorem Device.storeCoolant_media : (s.storeCoolant inlet flow).media = s.media :=
  Device.media_of_regs_frame Device.storeCoolant_frame

theorem Device.rd_storeCoolant_ne {q j : Nat} (h : regAddr q j ≠ regAddr Reg.PWR_COOLANT 0) :
    (s.storeCoolant inlet flow).rd q j = s.rd q j := by
  rw [Device.storeCoolant, Device.rd_wrf_ne h, Device.rd_wrf_ne h]

theorem regAddr_ldStatus_ne_of_block {r ld : Nat} (hld : ld < 16) (hr : r % 0x1000 ≠ Reg.HIF_LD_STATUS % 0x1000 ∨ 0x0F000000 ≤ r) :
    regAddr Reg.HIF_LD_STATUS ld ≠ regAddr r 0 := by
  simp only [regAddr, Reg.HIF_LD_STATUS] at *
  omega

end

/-- Settles O54: the alarm stores what was measured, sets its alert and signals its cause, and changes nothing else. -/
theorem coolantAlarm : Obligations.CoolantAlarm := by
  unfold Obligations.CoolantAlarm
  intro s inlet flow
  refine ⟨onCoolantAlarm inlet flow s.toDevice, next_of (out := execCoolantAlarm inlet flow s) rfl rfl, ?_⟩
  by_cases halarm : 40 < inlet ∨ flow < 250
  · rw [onCoolantAlarm_of_alarm halarm]
    refine ⟨fun _ => ⟨?_, fun ld hld hbound => ?_⟩, ?_, ?_, fun q j hcoolant halert => ?_, fun hinlet hflow => by omega⟩
    · rw [Device.rd_congr (Device.raiseAll_regs 5), Device.alert, Device.rd_orr_same, Nat.testBit_or]
      exact Bool.or_eq_true_iff.2 (.inr rfl)
    · refine Device.testBit_intCause_raiseAll_same (Device.mem_boundLds.2 ⟨hld, ?_⟩)
      have halert : regAddr Reg.HIF_LD_STATUS ld ≠ regAddr Reg.SB_ALERT 0 := regAddr_ldStatus_ne_of_block hld (.inr (by decide))
      have hcoolant : regAddr Reg.HIF_LD_STATUS ld ≠ regAddr Reg.PWR_COOLANT 0 := regAddr_ldStatus_ne_of_block hld (.inr (by decide))
      rw [Device.rdf, Device.alert, Device.rd_orr_ne halert, Device.rd_storeCoolant_ne hcoolant]
      exact hbound
    · rw [Device.raiseAll_pwr, Device.alert, Device.orr_pwr, Device.storeCoolant_pwr]
    · rw [Device.raiseAll_media, Device.alert, Device.orr_media, Device.storeCoolant_media]
    · rw [Device.rd_congr (Device.raiseAll_regs 5)]
      rw [Device.alert, Device.rd_orr_ne halert, Device.rd_storeCoolant_ne hcoolant]
  · rw [onCoolantAlarm_of_normal halarm]
    exact ⟨fun h => absurd h halarm, Device.storeCoolant_pwr, Device.storeCoolant_media, fun q j hcoolant _ => Device.rd_storeCoolant_ne hcoolant,
      fun _ _ => Device.storeCoolant_frame⟩

/-! ## What a plain register holds after a write -/

theorem testBit_bits {n hi lo i : Nat} : (bits n hi lo).testBit i = (decide (i < hi + 1 - lo) && n.testBit (lo + i)) := by
  rw [bits, Nat.testBit_mod_two_pow, Nat.testBit_div_two_pow, Nat.add_comm lo i]

/-- A field that the write mask covers holds what was written (R4). -/
theorem bits_of_mask {old v hi lo mask rest : Nat} (hmask : ∀ i ≤ hi, lo ≤ i → mask.testBit i = true ∧ rest.testBit i = false) :
    bits (old &&& rest ||| v &&& mask) hi lo = bits v hi lo := by
  refine Nat.eq_of_testBit_eq fun i => ?_
  rw [testBit_bits, testBit_bits]
  by_cases hi' : i < hi + 1 - lo
  · obtain ⟨hm, hr⟩ := hmask (lo + i) (by omega) (by omega)
    rw [Nat.testBit_or, Nat.testBit_and, Nat.testBit_and, hm, hr, Bool.and_false, Bool.false_or, Bool.and_true]
  · rw [decide_eq_false hi', Bool.false_and, Bool.false_and]

section
variable {s : Device} {p : Path} {pass : Bool} {reg i : Nat} {v : BitVec 32}

/-- A write outside the ranges of its register's fields changes nothing (R4, R440). -/
theorem Device.regWriteBy_of_range {a : Access} {cs : List RangeCheck} (hreach : s.reaches p reg i = true)
    (hrow : regIs reg i a cs = true) (hwrites : a ≠ .ro) (hrange : ∀ r : RegRow, r.checks = cs → checksOk r v.toNat = false)
    (cmd : Option Nat) : s.regWriteBy p cmd pass (regAddr reg i) false v.toNat = (some St.invalidField, s) := by
  obtain ⟨t, r, k, x, hat, haccess, hchecks, -⟩ := regIs_spec hrow
  have hopen : s.accessFails p (regAddr reg i) false true = none := by
    simp only [Device.reaches, Bool.and_eq_true, Option.isNone_iff_eq_none] at hreach
    exact hreach.2
  rw [Device.regWriteBy_of_reached s p cmd pass _ false _ t r k hopen hat, if_neg (haccess ▸ hwrites), hrange r hchecks]
  rfl

theorem Device.writeReg_of_range {a : Access} {cs : List RangeCheck} (hreach : s.reaches p reg i = true)
    (hrow : regIs reg i a cs = true) (hwrites : a ≠ .ro) (hrange : ∀ r : RegRow, r.checks = cs → checksOk r v.toNat = false) :
    s.writeReg p reg i v = s := by
  have hnot : St.invalidField ≠ St.ok := by decide
  rw [Device.writeReg, Device.writeBy, Device.regWriteBy_of_range hreach hrow hwrites hrange]
  simp [hnot]

theorem Device.regEffect_of_plain {cmd : Option Nat} {r : RegRow} {x v : Nat} (hplain : reg ∉ operationRegs) (hrw : r.access = .rw) :
    s.regEffect p cmd pass (regAddr reg i) r ⟨reg, i, x⟩ v =
      (some St.ok, s.wr reg i ((s.rd reg i &&& (2 ^ 64 - 1 - r.mask)) ||| (v &&& r.mask))) := by
  simp only [operationRegs, List.mem_cons, List.not_mem_nil, or_false, not_or] at hplain
  simp [Device.regEffect, hplain, hrw, storedValue, Device.rd, Device.wr]

end

/-! ## HIF_LD_QOS -/

/-- HIF_LD_QOS holds WEIGHT of 1 to 64 in its low bits and REFUSE_MS in its high half (R455). -/
theorem qos_row : ∀ ld < 16, regIs Reg.HIF_LD_QOS ld .rw [⟨6, 0, 1, 64, 1⟩] = true ∧
    (regAt (regAddr Reg.HIF_LD_QOS ld)).any (fun e => e.2.1.mask == 0xFFFF007F) = true := by decide +kernel

/-- What HIF_LD_QOS holds after a write: WEIGHT and REFUSE_MS as written, the reserved bits as they were (R4). -/
def qosValue (old v : Nat) : Nat := (old &&& (2 ^ 64 - 1 - 0xFFFF007F)) ||| (v &&& 0xFFFF007F)

theorem qosMask_covers : ∀ i ≤ 31, (i ≤ 6 ∨ 16 ≤ i) →
    Nat.testBit 0xFFFF007F i = true ∧ Nat.testBit (2 ^ 64 - 1 - 0xFFFF007F) i = false := by decide

theorem checksOk_weight {r : RegRow} {v : Nat} (hchecks : r.checks = [⟨6, 0, 1, 64, 1⟩]) :
    checksOk r v = (decide (1 ≤ v % 128) && decide (v % 128 ≤ 64)) := by
  have hweight : bits v 6 0 = v % 128 := by simp [bits]
  simp [checksOk, hchecks, hweight, Nat.mod_one]

section
variable {s : Device} {p : Path} {ld : Nat} {v : BitVec 32} (hld : ld < 16) (hreach : s.reaches p Reg.HIF_LD_QOS ld = true)
include hld hreach

theorem Device.writeReg_qos_of_range (h : v.toNat % 128 = 0 ∨ 64 < v.toNat % 128) : s.writeReg p Reg.HIF_LD_QOS ld v = s :=
  Device.writeReg_of_range hreach (qos_row ld hld).1 nofun fun r hchecks => by rw [checksOk_weight hchecks]; simp; omega

theorem Device.writeReg_qos (hmin : 1 ≤ v.toNat % 128) (hmax : v.toNat % 128 ≤ 64) (hfaults : s.faults = []) :
    s.writeReg p Reg.HIF_LD_QOS ld v = s.wr Reg.HIF_LD_QOS ld (qosValue (s.rd Reg.HIF_LD_QOS ld) v.toNat) := by
  obtain ⟨hrow, hmask⟩ := qos_row ld hld
  have hrange (r : RegRow) (hchecks : r.checks = [⟨6, 0, 1, 64, 1⟩]) : checksOk r v.toNat = true := by
    rw [checksOk_weight hchecks]
    simp [hmin, hmax]
  rw [Device.writeReg, Device.writeBy_of_effect (e := (some St.ok, s.wr Reg.HIF_LD_QOS ld (qosValue (s.rd Reg.HIF_LD_QOS ld) v.toNat)))
    hreach hrow nofun hrange fun t r k x hat hrw => ?_, if_pos (.inr rfl)]
  · exact Device.settleFaults_nil _ hfaults
  · rw [hat, Option.any_some, beq_iff_eq] at hmask
    rw [Device.regEffect_of_plain (by decide) hrw, hmask, qosValue]

end

/-- Settles O10: the write stores the bits that the mask of HIF_LD_QOS covers. -/
theorem qosWrite : Obligations.QosWrite := by
  unfold Obligations.QosWrite
  intro s p ld v hld hreach hfaults _
  have hunit : (pathOk p && decide (ld < 16)) = true := by simp [Device.reaches_pathOk hreach, hld]
  refine ⟨fun hrange => ?_, fun hmin hmax => ⟨_, next_of_atUnit (out := execHifLdQos p ld v s) hunit rfl
    (Device.writeReg_qos hld hreach hmin hmax hfaults), ?_, ?_, fun q j => Device.rd_wr_ne _ _ _ _ _ _, rfl⟩⟩
  · exact next_of_atUnit (out := execHifLdQos p ld v s) hunit rfl (Device.writeReg_qos_of_range hld hreach hrange)
  · rw [Device.weight, Device.rdf, Device.rd_wr_same, qosValue, bits_of_mask fun i hi _ => qosMask_covers i (by omega) (.inl hi)]
    simp [bits]
  · rw [Device.rdf, Device.rd_wr_same, qosValue, bits_of_mask fun i hi hlo => qosMask_covers i hi (.inr hlo)]
    exact Nat.mod_eq_of_lt (by have := v.isLt; omega)

/-! ## PWR_CAP_W -/

theorem cap_row : regIs Reg.PWR_CAP_W 0 .rw [⟨11, 0, 1200, 3000, 1⟩] = true ∧
    (regAt (regAddr Reg.PWR_CAP_W 0)).any (fun e => e.2.1.mask == 2 ^ 12 - 1) = true := by decide +kernel

theorem checksOk_cap {r : RegRow} {v : Nat} (hchecks : r.checks = [⟨11, 0, 1200, 3000, 1⟩]) (hv : v < 4096) :
    checksOk r v = (decide (1200 ≤ v) && decide (v ≤ 3000)) := by
  have hcap : bits v 11 0 = v := by simp [bits, Nat.mod_eq_of_lt hv]
  simp [checksOk, hchecks, hcap, Nat.mod_one]

/-- A register that is written whole, within its mask, holds the value written. -/
theorem storedValue_rw_of_lt {r : RegRow} {n old v : Nat} (hn : n ≤ 64) (hrw : r.access = .rw) (hmask : r.mask = 2 ^ n - 1)
    (hold : old < 2 ^ n) (hv : v < 2 ^ n) : storedValue r old v = v := by
  have hlocked : storedValue r old v = storedValue { r with access := .rwl } old v := by simp only [storedValue, hrw]
  exact hlocked.trans (storedValue_of_lt hn rfl hmask hold hv)

section
variable {s : Device} {p : Path} {v : BitVec 32}

theorem Device.regEffect_cap {cmd : Option Nat} {pass : Bool} {r : RegRow} {x w : Nat} :
    s.regEffect p cmd pass (regAddr Reg.PWR_CAP_W 0) r ⟨Reg.PWR_CAP_W, 0, x⟩ w =
      (some St.ok, s.setCap (storedValue r (s.rd Reg.PWR_CAP_W 0) w)) := by
  have hother : Reg.PWR_CAP_W ∉ [Reg.SEC_CMD, Reg.MEDIA_RAW_GRANT, Reg.MEM_SCRUB_CTL_CORE, Reg.MEM_SCRUB_CTL_DIE, Reg.MEM_CORE_RET] := by decide
  simp only [List.mem_cons, List.not_mem_nil, or_false, not_or] at hother
  simp [Device.regEffect, Device.rd, hother]

theorem Device.setCap_faults {w : Nat} : (s.setCap w).faults = s.faults := by
  rw [Device.setCap, Device.pwrRecord_faults, Device.raiseAll_faults]
  rfl

theorem Device.writeReg_cap (hreach : s.reaches p Reg.PWR_CAP_W 0 = true) (hfaults : s.faults = []) (hold : s.rd Reg.PWR_CAP_W 0 < 4096)
    (hmin : 1200 ≤ v.toNat) (hmax : v.toNat ≤ 3000) : s.writeReg p Reg.PWR_CAP_W 0 v = s.setCap v.toNat := by
  obtain ⟨hrow, hmask⟩ := cap_row
  have hrange (r : RegRow) (hchecks : r.checks = [⟨11, 0, 1200, 3000, 1⟩]) : checksOk r v.toNat = true := by
    rw [checksOk_cap hchecks (by omega), decide_eq_true hmin, decide_eq_true hmax]
    rfl
  rw [Device.writeReg, Device.writeBy_of_effect (e := (some St.ok, s.setCap v.toNat)) hreach hrow nofun hrange fun t r k x hat hrw => ?_,
    if_pos (.inr rfl)]
  · exact Device.settleFaults_nil _ (Device.setCap_faults.trans hfaults)
  · rw [hat, Option.any_some, beq_iff_eq] at hmask
    rw [Device.regEffect_cap, storedValue_rw_of_lt (by decide) hrw hmask hold (by omega)]

theorem Device.rd_setCap_ne {w q j : Nat} (h : regAddr q j ≠ regAddr Reg.PWR_CAP_W 0) : (s.setCap w).rd q j = s.rd q j := by
  rw [Device.setCap, Device.rd_congr (Device.pwrRecord_regs _ _ _ _), Device.rd_congr (Device.raiseAll_regs _)]
  exact Device.rd_wr_ne _ _ _ _ _ _ h

theorem Device.rd_setCap_same {w : Nat} : (s.setCap w).rd Reg.PWR_CAP_W 0 = w := by
  rw [Device.setCap, Device.rd_congr (Device.pwrRecord_regs _ _ _ _), Device.rd_congr (Device.raiseAll_regs _), Device.rd_wr_same]

/-- Every bound LD is told of the new cap (R421). -/
theorem Device.testBit_intCause_setCap {w ld : Nat} (hld : ld < 16) (hbound : s.rdf Reg.HIF_LD_STATUS ld 0 0 = 1) :
    ((s.setCap w).ld ld).intCause.testBit 4 = true := by
  refine Device.testBit_intCause_pwrRecord (Device.testBit_intCause_raiseAll_same (Device.mem_boundLds.2 ⟨hld, ?_⟩))
  rw [Device.rdf, Device.rd_wr_ne _ _ _ _ _ _ (regAddr_ldStatus_ne_of_block hld (.inr (by decide)))]
  exact hbound

/-! ## A recomputation of the ceiling -/

theorem Device.rd_peak_ne {r i n q j : Nat} (h : regAddr q j ≠ regAddr r i) : (s.peak r i n).rd q j = s.rd q j := Device.rd_wr_ne _ _ _ _ _ _ h

/-- What is measured goes to the measurement registers and to PWR_STATUS (R500, R501). -/
theorem Device.rd_measurePower_ne {st inp q j : Nat} (hstorage : regAddr q j ≠ regAddr Reg.PWR_STORAGE_W 0)
    (hinput : regAddr q j ≠ regAddr Reg.PWR_INPUT_W 0) (hpeak : regAddr q j ≠ regAddr Reg.PWR_INPUT_PEAK_W 0)
    (henergy : regAddr q j ≠ regAddr Reg.PWR_ENERGY_J 0) (hstatus : regAddr q j ≠ regAddr Reg.PWR_STATUS 0) :
    (s.measurePower st inp).rd q j = s.rd q j := by
  rw [Device.measurePower, Device.rd_wrf_ne hstatus, Device.rd_wr_ne _ _ _ _ _ _ henergy, Device.rd_setPwr, Device.rd_peak_ne hpeak,
    Device.rd_wr_ne _ _ _ _ _ _ hinput, Device.rd_wr_ne _ _ _ _ _ _ hstorage]

theorem Device.ps_measurePower {st inp : Nat} : (s.measurePower st inp).ps = s.ps := by
  rw [Device.ps, Device.ps, Device.measurePower, Device.wrf, Device.rdf, Device.rdf, Device.rd_wr_same,
    bits_setBits_below (by decide) (by decide) (by decide), Device.rd_wr_ne _ _ _ _ _ _ (by decide), Device.rd_setPwr,
    Device.rd_peak_ne (by decide), Device.rd_wr_ne _ _ _ _ _ _ (by decide), Device.rd_wr_ne _ _ _ _ _ _ (by decide), Device.rdf]

theorem onCapRecompute_of_ps0 {st inp : Nat} (h : (s.measurePower st inp).ps = 0) :
    onCapRecompute st inp s = (s.measurePower st inp).newCeiling := by
  simp only [onCapRecompute, h, ne_eq, not_true_eq_false, if_false]

end

theorem execCapRecompute_of_ps0 {s : State} {st inp : Nat} (h : (s.measurePower st inp).ps = 0) :
    execCapRecompute st inp s = .next (s.after (s.measurePower st inp).newCeiling) :=
  next_of rfl (congrArg Host.Outcome.next (onCapRecompute_of_ps0 h))

/-- Settles O9: the check of the row of PWR_CAP_W decides, and the write is that of R503. -/
theorem capWrite : Obligations.CapWrite := by
  unfold Obligations.CapWrite
  intro s p v hreach hfaults hold hv
  refine ⟨fun hrange => ?_, fun hmin hmax => ⟨?_, fun ld hld hbound => Device.testBit_intCause_setCap hld hbound, Device.rd_setCap_same, ?_,
    fun q j hne => Device.rd_setCap_ne hne, fun w i hps => ⟨?_, ?_⟩⟩⟩
  · have hchecks (r : RegRow) (h : r.checks = [⟨11, 0, 1200, 3000, 1⟩]) : checksOk r v.toNat = false := by
      rw [checksOk_cap h hv]
      simp
      omega
    exact ⟨next_of_atUnit (out := execPwrCapW p v s) (Device.reaches_pathOk hreach) rfl
      (Device.writeReg_of_range hreach cap_row.1 nofun hchecks),
      fun cmd pass => Device.regWriteBy_of_range hreach cap_row.1 nofun hchecks cmd⟩
  · exact next_of_atUnit (out := execPwrCapW p v s) (Device.reaches_pathOk hreach) rfl (Device.writeReg_cap hreach hfaults hold hmin hmax)
  · rw [Device.pwrRecord_pwr, Device.raiseAll_pwr, Device.wr_pwr]
  · rw [Device.rd_measurePower_ne (by decide) (by decide) (by decide) (by decide) (by decide)]
    exact Device.rd_setCap_same
  · exact execCapRecompute_of_ps0 (s := s.after _) (Device.ps_measurePower.trans hps)

end Sys2Proof.Machine

/-! PROOFS. Binding of logical devices, CXL.mem requests and the memory-device mailbox (R414 to R416, R444). -/

namespace Sys2Proof.Machine

/-! ## Binding, unbinding and the admin LD -/

section
variable {s : Device} {ld u : Nat}

theorem Device.setAdmin_of_bound (h : s.rdf Reg.HIF_LD_STATUS ld 0 0 = 1) :
    s.setAdmin ld = { s with hif := { s.hif with admin := ld } } := by rw [Device.setAdmin, if_neg (by omega)]

theorem Device.setAdmin_of_unbound (h : s.rdf Reg.HIF_LD_STATUS ld 0 0 = 0) : s.setAdmin ld = s := by rw [Device.setAdmin, if_pos h]

theorem Device.bindLd_of_bound (h : s.rdf Reg.HIF_LD_STATUS ld 0 0 = 1 ∨ s.sled.stage ≠ 0) : s.bindLd ld u = s := by
  rw [Device.bindLd, if_pos h]

/-- The register of an LD that is bound with `u` units of window (R415). -/
def Device.bound (s : Device) (ld u : Nat) : Device := s.wr Reg.HIF_LD_STATUS ld (1 + u % 512 * 2 ^ 2)

/-- The pages that a window of `u` units takes of each half-stack in service (R415). -/
def Device.windowNeed (s : Device) (u : Nat) : List (Nat × Nat) :=
  (List.range s.spars.length).map (fun i => (s.spars.getD i 0, (u * 128 + s.spars.length - 1 - i) / s.spars.length))

section
variable (hfree : s.rdf Reg.HIF_LD_STATUS ld 0 0 = 0) (hservice : s.sled.stage = 0)
include hfree hservice

theorem Device.bindLd_of_refused (hexceeds : (s.bound ld u).pinExceeds (s.windowNeed u) = true) (hwindow : 0 < u) :
    s.bindLd ld u = ((s.bound ld u).wrf Reg.HIF_LD_STATUS ld 11 11 1).showReserves := by
  rw [Device.bindLd, if_neg (by omega)]
  dsimp only
  rw [if_pos (.inr hexceeds), if_neg (by omega)]
  rfl

theorem Device.bindLd_of_pinned {l : List Nat} {d : Device} (hspars : s.spars ≠ []) (hfits : (s.bound ld u).pinExceeds (s.windowNeed u) = false)
    (hpinned : (s.bound ld u).pinWindow s.spars (u * 128) = some (l, d)) :
    s.bindLd ld u = (d.setLd ld { d.ld ld with window := l }).showReserves := by
  have hsome : ¬(s.spars.length = 0 ∨ (s.bound ld u).pinExceeds (s.windowNeed u) = true) := by
    simp [hfits, hspars]
  simp only [Device.bound, Device.windowNeed] at hsome hpinned
  rw [Device.bindLd, if_neg (by omega)]
  dsimp only
  rw [if_neg hsome, hpinned]

end

/-- The reserves shown are a register of each LD (R444). -/
theorem Device.showReserves_frame : { s.showReserves with regs := s.regs } = s := by
  have hfold : ∀ (l : List Nat) (t : Device), { t with regs := s.regs } = s →
      { l.foldl (fun a i => a.wr Reg.HIF_LD_RESERVE i (s.ldReserve i)) t with regs := s.regs } = s := fun l => by
    induction l with
    | nil => exact fun t h => h
    | cons i l ih => exact fun t h => ih _ h
  exact hfold _ _ rfl

theorem Device.hif_of_regs_frame {t : Device} (h : { t with regs := s.regs } = s) : t.hif = s.hif := (congrArg Device.hif h :)

theorem Device.ld_showReserves {i : Nat} : s.showReserves.ld i = s.ld i := by
  rw [Device.ld, Device.hif_of_regs_frame Device.showReserves_frame, Device.ld]

theorem Device.rd_showReserves_ne {q j : Nat} (h : ∀ i < 16, regAddr q j ≠ regAddr Reg.HIF_LD_RESERVE i) :
    s.showReserves.rd q j = s.rd q j := by
  have hfold : ∀ (l : List Nat) (t : Device), (∀ i ∈ l, i < 16) →
      (l.foldl (fun a i => a.wr Reg.HIF_LD_RESERVE i (s.ldReserve i)) t).rd q j = t.rd q j := fun l => by
    induction l with
    | nil => exact fun t _ => rfl
    | cons i l ih =>
      intro t hl
      rw [List.foldl_cons, ih _ fun x hx => hl x (List.mem_cons_of_mem _ hx)]
      exact Device.rd_wr_ne _ _ _ _ _ _ (h i (hl i List.mem_cons_self))
  exact hfold _ _ fun i hi => List.mem_range.1 hi

theorem regAddr_ldStatus_ne_ldReserve (i : Nat) :
    regAddr Reg.HIF_LD_STATUS ld ≠ regAddr Reg.HIF_LD_RESERVE i := by
  simp only [regAddr, Reg.HIF_LD_STATUS, Reg.HIF_LD_RESERVE]
  omega

theorem Device.unbindLd_of_unbound (h : s.rdf Reg.HIF_LD_STATUS ld 0 0 = 0) : s.unbindLd ld = s := by rw [Device.unbindLd, if_pos h]

/-- An unbinding ends with the registers of the LD at 0 and no window. -/
theorem Device.unbindLd_of_bound (h : s.rdf Reg.HIF_LD_STATUS ld 0 0 = 1) :
    ∃ t : Device, s.unbindLd ld = ((t.setLd ld { t.ld ld with window := [] }).wr Reg.HIF_LD_STATUS ld 0).showReserves := by
  rw [Device.unbindLd, if_neg (by omega)]
  exact ⟨_, rfl⟩

end

/-- Settles O17: the bindings of R415 by the state of the LD and the limits of its window. -/
theorem logicalDevices : Obligations.LogicalDevices := by
  unfold Obligations.LogicalDevices
  refine ⟨fun s ld hld => ⟨fun hbound => ?_, fun hfree => ?_⟩, fun s ld u hld hu hbound => ?_,
    fun s ld u hld hu hfree hservice hspars => ⟨fun hexceeds hwindow => ?_, fun l d hfits hpinned => ?_⟩,
    fun s ld hld => ⟨fun hfree => ?_, fun hbound => ?_⟩⟩
  · exact next_of_atUnit (out := execAdminLdDesignate ld s) (decide_eq_true hld) rfl (Device.setAdmin_of_bound hbound)
  · exact next_of_atUnit (out := execAdminLdDesignate ld s) (decide_eq_true hld) rfl (Device.setAdmin_of_unbound hfree)
  · exact next_of_atUnit (out := execLdBind ld u s) (by simp [hld, hu]) rfl (Device.bindLd_of_bound hbound)
  · exact next_of_atUnit (out := execLdBind ld u s) (by simp [hld, hu]) rfl
      (Device.bindLd_of_refused hfree hservice hexceeds hwindow)
  · exact next_of_atUnit (out := execLdBind ld u s) (by simp [hld, hu]) rfl
      (Device.bindLd_of_pinned hfree hservice hspars hfits hpinned)
  · exact next_of_atUnit (out := execLdUnbind ld s) (decide_eq_true hld) rfl (Device.unbindLd_of_unbound hfree)
  · obtain ⟨t, ht⟩ := Device.unbindLd_of_bound hbound
    refine ⟨_, next_of_atUnit (out := execLdUnbind ld s) (decide_eq_true hld) rfl ht, ?_, ?_⟩
    · rw [Device.rd_showReserves_ne fun i _ => regAddr_ldStatus_ne_ldReserve i, Device.rd_wr_same]
    · rw [Device.ld_showReserves]
      exact congrArg LdState.window (nget_nset_same _ _ _ _)

/-! ## CXL.mem requests -/

section
variable {s : Device} {ld off n : Nat} {data : List Byte}

theorem onCxlMemWrite_of_reaches (h : s.memReaches ld off data.length = true) :
    onCxlMemWrite ld off data s = ((s.wakeHs (s.windowAt ld off).1).send { s.memPacket 1 ld off with
      len := (data.length + 15) / 16, lastBytes := data.length % 16, ackReq := true,
      body := data ++ List.replicate ((data.length + 15) / 16 * 16 - data.length) 0 }).noteReq ld off data.length true := by
  rw [onCxlMemWrite, h]
  rfl

theorem onCxlMemWrite_of_not_reaches (h : s.memReaches ld off data.length = false) : onCxlMemWrite ld off data s = s := by
  rw [onCxlMemWrite, h]
  rfl

theorem onCxlMemRead_of_reaches (h : s.memReaches ld off n = true) :
    onCxlMemRead ld off n s = ((s.wakeHs (s.windowAt ld off).1).send { s.memPacket 2 ld (off / 16 * 16) with
      len := (off + n - off / 16 * 16 + 15) / 16 }).noteReq ld off n false := by
  rw [onCxlMemRead, h]
  rfl

theorem onCxlMemRead_of_not_reaches (h : s.memReaches ld off n = false) : onCxlMemRead ld off n s = s := by
  rw [onCxlMemRead, h]
  rfl

end

/-- Settles O18: a request is sent, and noted, where it reaches the window of its LD. -/
theorem cxlMem : Obligations.CxlMem := by
  unfold Obligations.CxlMem
  refine ⟨fun s ld off data hreq => ⟨fun hreach => ?_, fun hreach => ?_⟩, fun s ld off n hreq => ⟨fun hreach => ?_, fun hreach => ?_⟩⟩
  · exact next_of_atUnit (out := execCxlMemWrite ld off data s) hreq rfl (onCxlMemWrite_of_reaches hreach)
  · exact next_of_atUnit (out := execCxlMemWrite ld off data s) hreq rfl (onCxlMemWrite_of_not_reaches hreach)
  · exact next_of_atUnit (out := execCxlMemRead ld off n s) hreq rfl (onCxlMemRead_of_reaches hreach)
  · exact next_of_atUnit (out := execCxlMemRead ld off n s) hreq rfl (onCxlMemRead_of_not_reaches hreach)

/-! ## The memory-device mailbox -/

/-- An answer of the memory-device mailbox is a return code and a payload that are free values (R414). -/
theorem Device.memDevice_eq (s : Device) (ld : Nat) : ∃ code payload,
    s.memDevice ld = { s with free := s.free + 3, out := s.out ++ [.memDev ld code payload] } := ⟨_, _, rfl⟩

/-- Settles O19: the six commands give the one answer of the memory-device mailbox. -/
theorem memoryDeviceMailbox : Obligations.MemoryDeviceMailbox := by
  unfold Obligations.MemoryDeviceMailbox
  intro s ld hld
  obtain ⟨code, payload, h⟩ := s.memDevice_eq ld
  refine ⟨code, payload, ?_, ?_, ?_, ?_, ?_, ?_⟩
  · exact next_of_atUnit (out := execIdentifyMemoryDevice ld s) (decide_eq_true hld) rfl h
  · exact next_of_atUnit (out := execGetSupportedLogs ld s) (decide_eq_true hld) rfl h
  · exact next_of_atUnit (out := execGetLog ld s) (decide_eq_true hld) rfl h
  · exact next_of_atUnit (out := execGetHealthInfo ld s) (decide_eq_true hld) rfl h
  · exact next_of_atUnit (out := execGetEventRecords ld s) (decide_eq_true hld) rfl h
  · exact next_of_atUnit (out := execClearEventRecords ld s) (decide_eq_true hld) rfl h

end Sys2Proof.Machine

/-! PROOFS. Link training, PERST_N and PRSNT_N (R414, R456, R584, R594, R596). -/

namespace Sys2Proof.Machine

/-! ## Link training -/

/-- A field within the low bits of a number is a field of those low bits. -/
theorem bits_low {n hi hi' lo' : Nat} (h : hi' ≤ hi) : bits (bits n hi 0) hi' lo' = bits n hi' lo' := by
  refine Nat.eq_of_testBit_eq fun i => ?_
  rw [testBit_bits, testBit_bits, testBit_bits, Nat.zero_add]
  by_cases hi' : i < hi' + 1 - lo'
  · rw [decide_eq_true (by omega : lo' + i < hi + 1 - 0), Bool.true_and]
  · rw [decide_eq_false hi', Bool.false_and, Bool.false_and]

/-- The low bits of HIF_PORT_STATUS: the rate, the lanes and the latency-optimised bit (R456). -/
def linkBits (rate lanes : Nat) (lopt : Bool) : Nat := rate + lanes * 2 ^ 2 + b2n lopt * 2 ^ 6

theorem bits_linkBits {rate lanes : Nat} (hrate : rate ≤ 3) (hlanes : lanes = 4 ∨ lanes = 8) (lopt : Bool) :
    bits (linkBits rate lanes lopt) 1 0 = rate ∧ bits (linkBits rate lanes lopt) 5 2 = lanes ∧
      bits (linkBits rate lanes lopt) 6 6 = b2n lopt ∧ linkBits rate lanes lopt < 2 ^ 7 := by
  have hlopt : b2n lopt ≤ 1 := by cases lopt <;> decide
  simp only [bits, linkBits]
  omega

section
variable {s : Device} {rate lanes : Nat} {lopt : Bool}

theorem onLinkL0_of_held (h : s.sled.stage ≠ 0 ∨ s.rdf Reg.SB_STATUS 0 0 0 = 1 ∨ s.fenced s.hubDie = true) :
    onLinkL0 rate lanes lopt s = s := by rw [onLinkL0, if_pos h]

theorem onLinkL0_of_free (hservice : s.sled.stage = 0) (hperst : s.rdf Reg.SB_STATUS 0 0 0 = 0) (hdie : s.fenced s.hubDie = false) :
    onLinkL0 rate lanes lopt s = s.wrf Reg.HIF_PORT_STATUS 0 6 0 (linkBits rate lanes lopt) := by
  rw [onLinkL0, if_neg (by simp [hservice, hperst, hdie]), linkBits]

/-- A field of HIF_PORT_STATUS after the link has trained. -/
theorem Device.rdf_linked {hi lo : Nat} (h : hi ≤ 6) (hbits : linkBits rate lanes lopt < 2 ^ 7) :
    (s.wrf Reg.HIF_PORT_STATUS 0 6 0 (linkBits rate lanes lopt)).rdf Reg.HIF_PORT_STATUS 0 hi lo =
      bits (linkBits rate lanes lopt) hi lo := by
  have hlow := Device.rdf_wrf_same (s := s) Reg.HIF_PORT_STATUS 0 6 0 (linkBits rate lanes lopt) (by decide)
  rw [Nat.mod_eq_of_lt hbits] at hlow
  rw [Device.rdf, ← bits_low h]
  exact congrArg (fun n => bits n hi lo) hlow

end

/-! ## PERST_N and PRSNT_N -/

section
variable {s : Device} {us : Nat}

theorem onPerstAssert_of_short (h : us < 100 ∨ 2 ≤ s.sled.stage) : onPerstAssert us s = s := by rw [onPerstAssert, if_pos h]

theorem onPerstAssert_of_quiesced (hlong : 100 ≤ us) (hstage : s.sled.stage = 1) :
    onPerstAssert us s = (s.wrf Reg.SB_STATUS 0 0 0 1).coldStart.inc Reg.SB_PERST_COUNT 0 1 := by
  have hquiesced : (s.wrf Reg.SB_STATUS 0 0 0 1).sled.stage = 1 := hstage
  simp only [onPerstAssert, if_neg (show ¬(us < 100 ∨ 2 ≤ s.sled.stage) by omega), if_pos hquiesced]

theorem onPerstAssert_of_running (hlong : 100 ≤ us) (hstage : s.sled.stage = 0) :
    onPerstAssert us s = (List.range 16).foldl (fun a ld => a.flr ld)
      (((s.wrf Reg.SB_STATUS 0 0 0 1).inc Reg.SB_PERST_COUNT 0 1).wrf Reg.HIF_PORT_STATUS 0 6 0 0) := by
  have hrunning : ¬(s.wrf Reg.SB_STATUS 0 0 0 1).sled.stage = 1 := fun h => absurd (hstage.symm.trans h) (by decide)
  simp only [onPerstAssert, if_neg (show ¬(us < 100 ∨ 2 ≤ s.sled.stage) by omega), if_neg hrunning]

theorem onPerstRelease_of_ignored (h : s.rdf Reg.SB_STATUS 0 0 0 = 0 ∨ 2 ≤ s.sled.stage) : onPerstRelease s = s := by
  rw [onPerstRelease, if_pos h]

theorem onPerstRelease_of_running (hperst : s.rdf Reg.SB_STATUS 0 0 0 = 1) (hstage : s.sled.stage = 0) :
    onPerstRelease s = s.wrf Reg.SB_STATUS 0 0 0 0 := by
  have hrunning : ¬(s.wrf Reg.SB_STATUS 0 0 0 0).sled.stage = 1 := fun h => absurd (hstage.symm.trans h) (by decide)
  simp only [onPerstRelease, if_neg (show ¬(s.rdf Reg.SB_STATUS 0 0 0 = 0 ∨ 2 ≤ s.sled.stage) by omega), if_neg hrunning]

theorem onPerstRelease_of_quiesced (hperst : s.rdf Reg.SB_STATUS 0 0 0 = 1) (hstage : s.sled.stage = 1) :
    onPerstRelease s = (s.wrf Reg.SB_STATUS 0 0 0 0).coldStart := by
  have hquiesced : (s.wrf Reg.SB_STATUS 0 0 0 0).sled.stage = 1 := hstage
  simp only [onPerstRelease, if_neg (show ¬(s.rdf Reg.SB_STATUS 0 0 0 = 0 ∨ 2 ≤ s.sled.stage) by omega), if_pos hquiesced]

/-- The sled as PRSNT_N shows it (R584). -/
def Device.setMated (s : Device) (b : Bool) : Device := { s with sled := { s.sled with mated := b } }

theorem onPrsntMate_of_powered (h : (s.setMated true).dark = false) : onPrsntMate s = s.setMated true := by
  have hstays : (!(s.setMated true).dark) = true := by simp [h]
  exact if_pos hstays

/-- A dark sled that mates starts on a good feed, feed A first. -/
theorem onPrsntMate_of_dark (hdark : (s.setMated true).dark = true) : onPrsntMate s =
    if (s.setMated true).feedGood false = true then ((s.setMated true).setActive false).coldStart
    else if (s.setMated true).feedGood true = true then ((s.setMated true).setActive true).coldStart
    else s.setMated true := by
  have hstarts : ¬(!(s.setMated true).dark) = true := by simp [hdark]
  exact if_neg hstarts

end

/-- Settles O55: what the pins and the link training do, by the stage that the sled is in. -/
theorem linkAndPins : Obligations.LinkAndPins := by
  unfold Obligations.LinkAndPins
  refine ⟨fun s rate lanes lopt hmin hmax hlanes => ?_, fun s => ⟨fun us h => ?_, fun us h => ⟨fun hstage => ?_, fun hstage => ?_⟩,
    fun h => ?_, fun hperst hstage => ?_, fun hperst hstage => ?_, ⟨fun hdark => ?_, fun hdark hA => ?_, fun hdark hA hB => ?_,
    fun hdark hA hB => ?_⟩, ?_⟩⟩
  · have hok : (1 ≤ rate && rate ≤ 3 && (lanes == 4 || lanes == 8)) = true := by simp [hmin, hmax, hlanes]
    obtain ⟨hrate, hlanesBits, hlopt, hbits⟩ := bits_linkBits hmax hlanes lopt
    refine ⟨fun hservice hperst hdie => ⟨_, next_of_atUnit (out := execLinkL0 rate lanes lopt s) hok rfl
      (onLinkL0_of_free hservice hperst hdie), rfl, ?_, ?_, ?_, ?_, fun q j hne => Device.rd_wrf_ne hne⟩, fun hheld => ?_⟩
    · rw [Device.rdf_linked (by decide) hbits, hrate]
    · rw [Device.rdf_linked (by decide) hbits, hlanesBits]
    · rw [Device.rdf_linked (by decide) hbits, hlopt]
    · rw [Device.linkUp, Device.rdf_linked (by decide) hbits, hrate]
      simp
      omega
    · exact next_of_atUnit (out := execLinkL0 rate lanes lopt s) hok rfl (onLinkL0_of_held hheld)
  · exact next_of_device (out := execPerstAssert us s) rfl (onPerstAssert_of_short h)
  · exact next_of_device (out := execPerstAssert us s) rfl (onPerstAssert_of_quiesced h hstage)
  · exact next_of_device (out := execPerstAssert us s) rfl (onPerstAssert_of_running h hstage)
  · exact next_of_device (out := execPerstRelease s) rfl (onPerstRelease_of_ignored h)
  · exact next_of_device (out := execPerstRelease s) rfl (onPerstRelease_of_running hperst hstage)
  · exact next_of_device (out := execPerstRelease s) rfl (onPerstRelease_of_quiesced hperst hstage)
  · exact next_of_device (out := execPrsntMate s) rfl (onPrsntMate_of_powered hdark)
  · exact next_of_device (out := execPrsntMate s) rfl ((onPrsntMate_of_dark hdark).trans (if_pos hA))
  · exact next_of_device (out := execPrsntMate s) rfl
      ((onPrsntMate_of_dark hdark).trans ((if_neg (Bool.eq_false_iff.1 hA)).trans (if_pos hB)))
  · exact next_of_device (out := execPrsntMate s) rfl
      ((onPrsntMate_of_dark hdark).trans ((if_neg (Bool.eq_false_iff.1 hA)).trans (if_neg (Bool.eq_false_iff.1 hB))))
  · exact next_of_device (out := execPrsntBreak s) rfl rfl

end Sys2Proof.Machine

/-! PROOFS. The commands of the Wesko monitor (R573, R575, R576). -/

namespace Sys2Proof.Machine

/-! ## The level of a command -/

section
variable {s : State} {out : Out} {level : Nat} {body : Device → Device}

/-- A command of the monitor at its level has its effect. -/
theorem next_of_wesko {d : Device} (h : out = onDevice s fun d => wesko level d (body d)) (hup : s.weskoUp = true) (hlevel : level ≤ s.debug)
    (heffect : body s.toDevice = d) : out = .next (s.after d) :=
  next_of h ((wesko_met level _ _ hup hlevel).trans (congrArg _ heffect))

/-- A command of the monitor at the lowest level has its effect at every level. -/
theorem next_of_wesko_any {d : Device} (h : out = onDevice s fun d => wesko 0 d (body d)) (hup : s.weskoUp = true)
    (heffect : body s.toDevice = d) : out = .next (s.after d) :=
  next_of_wesko h hup (Nat.zero_le _) heffect

theorem wesko_silent (level : Nat) (s body : Device) (h : s.weskoUp = false) : wesko level s body = .next s := by simp [wesko, h]

end

/-- The effect of WESKO_LOCK: OP 3 (R576). -/
def onWeskoLock (level : Nat) (s : Device) : Device := (s.secLock level 2).2.settleAll.weskoStatus (s.secLock level 2).1

/-- What FUSE and TEST answer is a free value (R573, R576). -/
def Device.answerOpen (s : Device) : Device := s.draw.2.weskoOk (natLe 8 s.draw.1)

/-- A command that the monitor runs at a level. -/
def RunsAt (level : Nat) (i : Instr) : Prop := ∃ body : Device → Device, ∀ s, exec i s = onDevice s fun d => wesko level d (body d)

theorem runsAt_of_level {n idx a c k m g : Nat} {data : List Byte} {v : BitVec 64} {w : BitVec 128} :
    ∀ e ∈ [(0, Instr.weskoId), (0, .weskoStatus), (0, .weskoNonce), (0, .weskoToken n data), (0, .weskoUnlock), (0, .weskoLifecycle),
      (0, .weskoLock n), (1, .weskoLog idx), (1, .weskoRr a), (2, .weskoRw a v), (2, .weskoHalt c), (2, .weskoResume c),
      (2, .weskoMr k m a g), (2, .weskoMw k m a w), (3, .weskoFuse), (3, .weskoTest)], RunsAt e.1 e.2 := by
  simp only [List.forall_mem_cons]
  exact ⟨⟨onWeskoId, fun _ => rfl⟩, ⟨onWeskoStatus, fun _ => rfl⟩, ⟨onWeskoNonce, fun _ => rfl⟩, ⟨onWeskoToken n data, fun _ => rfl⟩,
    ⟨onWeskoUnlock, fun _ => rfl⟩, ⟨onWeskoLifecycle, fun _ => rfl⟩, ⟨onWeskoLock n, fun _ => rfl⟩, ⟨onWeskoLog idx, fun _ => rfl⟩,
    ⟨onWeskoRr a, fun _ => rfl⟩, ⟨onWeskoRw a v, fun _ => rfl⟩, ⟨onWeskoHalt c, fun _ => rfl⟩, ⟨onWeskoResume c, fun _ => rfl⟩,
    ⟨onWeskoMr k m a g, fun _ => rfl⟩, ⟨onWeskoMw k m a w, fun _ => rfl⟩, ⟨Device.answerOpen, fun _ => rfl⟩,
    ⟨Device.answerOpen, fun _ => rfl⟩, fun _ h => absurd h List.not_mem_nil⟩

/-! ## What the commands answer -/

theorem length_natLe : ∀ n v, (natLe n v).length = n
  | 0, _ => rfl
  | n + 1, v => congrArg (· + 1) (length_natLe n (v / 256))

section
variable {s : Device} {core code inst addr count : Nat} {data : BitVec 128}

theorem onWeskoHalt_of_absent (h : 400 ≤ core) : onWeskoHalt core s = s.weskoErr St.invalidField := if_pos h

theorem onWeskoResume_of_absent (h : 400 ≤ core) : onWeskoResume core s = s.weskoErr St.invalidField := if_pos h

theorem onWeskoHalt_of_active (hcore : core < 400) (hdie : s.fenced (coreDie core) = false)
    (hactive : s.rdf Reg.CORE_STATE core 2 0 = 1 ∨ s.rdf Reg.CORE_STATE core 2 0 = 2) :
    onWeskoHalt core s = ((s.setCore core { s.core core with halting := true }).settleHalt core).weskoOk [] := by
  have htaken : ¬(s.fenced (coreDie core) = true ∨ (s.rdf Reg.CORE_STATE core 2 0 ≠ 1 ∧ s.rdf Reg.CORE_STATE core 2 0 ≠ 2)) := by
    rw [hdie]
    simp
    omega
  simp only [onWeskoHalt, if_neg (Nat.not_le.2 hcore), if_neg htaken]

/-- A core that halts, and whose queued instructions have completed, reads STATE 3 (R575). -/
theorem Device.rdf_state_settleHalt {c : Nat} (hhalting : (s.core c).halting = true) (hempty : (s.core c).board = []) :
    (s.settleHalt c).rdf Reg.CORE_STATE c 2 0 = 3 := by
  have hended : ((s.core c).halting && (s.core c).board.isEmpty) = true := by simp [hhalting, hempty]
  rw [Device.settleHalt]
  simp only [if_pos hended]
  exact Device.rdf_wrf_same _ _ _ _ _ _ (by decide)

theorem Device.core_halting {c : Nat} {k : Core} :
    ((s.setCore c { k with halting := true }).core c).halting = true ∧ ((s.setCore c { k with halting := true }).core c).board = k.board := by
  rw [Device.core_setCore_same]
  exact ⟨rfl, rfl⟩

theorem onWeskoResume_of_halted (hcore : core < 400) (hdie : s.fenced (coreDie core) = false) (hhalted : s.halted core = true) :
    onWeskoResume core s = (s.resumeCore core).settleFaults.weskoOk [] := by
  have htaken : ¬(s.fenced (coreDie core) = true ∨ (!s.halted core) = true) := by simp [hdie, hhalted]
  simp only [onWeskoResume, if_neg (Nat.not_le.2 hcore), if_neg htaken]

theorem Device.memDenied_scratch {n : Nat} {write : Bool} : s.memDenied 11 inst addr n write = some St.securityDenied := by
  rw [Device.memDenied, if_pos (by decide), if_pos rfl]

theorem onWeskoMr_of_denied {st : Nat} (hmin : 1 ≤ count) (hmax : count ≤ 64) (h : s.memDenied code inst addr count false = some st) :
    onWeskoMr code inst addr count s = s.weskoErr st := by
  rw [onWeskoMr, if_neg (by omega), h]

theorem onWeskoMw_of_denied {st : Nat} (h : s.memDenied code inst addr 16 true = some st) :
    onWeskoMw code inst addr data s = s.weskoErr st := by rw [onWeskoMw, h]

theorem onWeskoMr_of_clean (hmin : 1 ≤ count) (hmax : count ≤ 64) (h : s.memDenied code inst addr count false = none)
    (hclean : (s.weskoRead code inst addr count).2 = false) :
    onWeskoMr code inst addr count s = (s.wakeMem code inst).weskoOk (s.weskoRead code inst addr count).1 := by
  rw [onWeskoMr, if_neg (by omega), h]
  simp only [hclean, Bool.false_eq_true, if_false, List.append_nil]

theorem onWeskoMr_of_poisoned (hmin : 1 ≤ count) (hmax : count ≤ 64) (h : s.memDenied code inst addr count false = none)
    (hpoison : (s.weskoRead code inst addr count).2 = true) :
    onWeskoMr code inst addr count s =
      ((s.wakeMem code inst).memCount code (weskoPlace code inst addr).1 Reg.MEM_CORE_POISON_READ Reg.MEM_DIE_POISON_READ 1).weskoOk
        ((s.weskoRead code inst addr count).1 ++ [0x50]) := by
  rw [onWeskoMr, if_neg (by omega), h]
  simp only [hpoison, if_true]

theorem onWeskoMw_of_allowed (h : s.memDenied code inst addr 16 true = none) :
    onWeskoMw code inst addr data s = (((s.wakeMem code inst).writeMem code (weskoPlace code inst addr).1 (weskoPlace code inst addr).2
      (natLe 16 data.toNat) []).settleFaults).weskoOk [] := by rw [onWeskoMw, h]

theorem onWeskoLog_of_found {idx : Nat} {r : LogRecord} (h : s.log.find? (fun r => r.index = idx) = some r) :
    onWeskoLog idx s = s.weskoOk r.bytes := by rw [onWeskoLog, h]

theorem onWeskoLog_of_absent {idx : Nat} (h : s.log.find? (fun r => r.index = idx) = none) :
    onWeskoLog idx s = s.weskoOk (List.replicate 32 0) := by rw [onWeskoLog, h]

theorem onWeskoLifecycle_of_lasting (h : (s.dropToken.secLifecycle s.loadedToken 2 none).1 = none) :
    onWeskoLifecycle s = (s.dropToken.secLifecycle s.loadedToken 2 none).2.settleAll := by simp only [onWeskoLifecycle, h]

theorem onWeskoLifecycle_of_done {st : Nat} (h : (s.dropToken.secLifecycle s.loadedToken 2 none).1 = some st) :
    onWeskoLifecycle s = (s.dropToken.secLifecycle s.loadedToken 2 none).2.settleAll.weskoStatus st := by simp only [onWeskoLifecycle, h]

/-- The register write that RW carries: at the width of the register, with a free value for what a self-test finds. -/
def Device.monitorWrite (s : Device) (addr : Nat) (v : BitVec 64) : Option Nat × Device :=
  s.draw.2.regWriteBy .monitor none (s.draw.1 % 2 == 0) addr (regWidth addr) (if regWidth addr then v.toNat else v.toNat % 2 ^ 32)

theorem onWeskoRw_of_lasting {v : BitVec 64} (h : (s.monitorWrite addr v).1 = none) :
    onWeskoRw addr v s = (s.monitorWrite addr v).2.settleFaults := by
  unfold Device.monitorWrite at *
  simp only [onWeskoRw, h]

theorem onWeskoRw_of_done {v : BitVec 64} {st : Nat} (h : (s.monitorWrite addr v).1 = some st) :
    onWeskoRw addr v s = (s.monitorWrite addr v).2.settleFaults.weskoStatus st := by
  unfold Device.monitorWrite at *
  simp only [onWeskoRw, h]

end

/-- Settles O58: a command above the level is refused, one that names nothing the monitor reaches is an error. -/
theorem monitorLevels : Obligations.MonitorLevels := by
  unfold Obligations.MonitorLevels
  refine ⟨fun s l i n idx a c k m g data v w hrow => ?_, fun s c m a g w hup hlevel => ⟨fun hcore => ⟨?_, ?_⟩, fun hmin hmax => ?_, ?_⟩⟩
  · obtain ⟨body, hexec⟩ := runsAt_of_level (l, i) hrow
    exact ⟨fun hsilent => next_same (hexec s) (wesko_silent l _ _ hsilent), fun hup hbelow => next_of (hexec s) (wesko_below l _ _ hup hbelow)⟩
  · exact next_of_wesko (out := execWeskoHalt c s) rfl hup hlevel (onWeskoHalt_of_absent hcore)
  · exact next_of_wesko (out := execWeskoResume c s) rfl hup hlevel (onWeskoResume_of_absent hcore)
  · exact next_of_wesko (out := execWeskoMr 11 m a g s) rfl hup hlevel (onWeskoMr_of_denied hmin hmax Device.memDenied_scratch)
  · exact next_of_wesko (out := execWeskoMw 11 m a w s) rfl hup hlevel (onWeskoMw_of_denied Device.memDenied_scratch)

/-- Settles O59: each command at its level has the effect of its row. -/
theorem monitorCommands : Obligations.MonitorCommands := by
  unfold Obligations.MonitorCommands
  refine ⟨fun s hup => ⟨?_, ?_, fun hok => ?_, fun hbad => ?_, fun n data hn hlen => ?_, fun n data hbad => ?_, ?_, ?_, fun level => ?_⟩,
    fun s hup hlevel => ⟨fun idx r hfound => ?_, fun idx habsent => ?_, fun a => ⟨fun hok => ?_, fun hbad => ?_⟩⟩,
    fun s hup hlevel => ⟨fun a v => ?_, fun c hcore hdie => ⟨fun hactive => ⟨?_, fun hempty _ => ?_⟩, fun hhalted => ?_⟩,
      fun code m a g hmin hmax hallowed => ⟨fun hclean => ?_, fun hpoison => ?_⟩, fun code m a w hallowed => ?_⟩,
    fun s hup hlevel => ⟨natLe 8 s.draw.1, ?_, ?_, ?_⟩⟩
  · exact next_of_wesko_any (out := execWeskoId s) rfl hup rfl
  · exact next_of_wesko_any (out := execWeskoStatus s) rfl hup rfl
  · exact next_of_wesko_any (out := execWeskoNonce s) rfl hup (if_pos hok)
  · exact next_of_wesko_any (out := execWeskoNonce s) rfl hup (if_neg hbad)
  · exact next_of_wesko_any (out := execWeskoToken n data s) rfl hup (if_neg (by omega))
  · exact next_of_wesko_any (out := execWeskoToken n data s) rfl hup (if_pos hbad)
  · exact next_of_wesko_any (out := execWeskoUnlock s) rfl hup rfl
  · intro r
    cases hdone : r.1 with
    | none => exact next_of_wesko_any (out := execWeskoLifecycle s) rfl hup (onWeskoLifecycle_of_lasting hdone)
    | some st => exact next_of_wesko_any (out := execWeskoLifecycle s) rfl hup (onWeskoLifecycle_of_done hdone)
  · exact next_of_wesko_any (out := execWeskoLock level s) rfl hup rfl
  · exact next_of_wesko (out := execWeskoLog idx s) rfl hup hlevel (onWeskoLog_of_found hfound)
  · exact next_of_wesko (out := execWeskoLog idx s) rfl hup hlevel (onWeskoLog_of_absent habsent)
  · exact next_of_wesko (out := execWeskoRr a s) rfl hup hlevel (if_pos hok)
  · exact next_of_wesko (out := execWeskoRr a s) rfl hup hlevel (if_neg hbad)
  · intro r
    cases hdone : r.1 with
    | none => exact next_of_wesko (out := execWeskoRw a v s) rfl hup hlevel (onWeskoRw_of_lasting hdone)
    | some st => exact next_of_wesko (out := execWeskoRw a v s) rfl hup hlevel (onWeskoRw_of_done hdone)
  · exact next_of_wesko (out := execWeskoHalt c s) rfl hup hlevel (onWeskoHalt_of_active hcore hdie hactive)
  · obtain ⟨hhalting, hboard⟩ := Device.core_halting (s := s.toDevice) (c := c) (k := s.core c)
    exact Device.rdf_state_settleHalt hhalting (hboard.trans hempty)
  · exact next_of_wesko (out := execWeskoResume c s) rfl hup hlevel (onWeskoResume_of_halted hcore hdie hhalted)
  · exact next_of_wesko (out := execWeskoMr code m a g s) rfl hup hlevel (onWeskoMr_of_clean hmin hmax hallowed hclean)
  · exact next_of_wesko (out := execWeskoMr code m a g s) rfl hup hlevel (onWeskoMr_of_poisoned hmin hmax hallowed hpoison)
  · exact next_of_wesko (out := execWeskoMw code m a w s) rfl hup hlevel (onWeskoMw_of_allowed hallowed)
  · exact length_natLe _ _
  · exact next_of_wesko (out := execWeskoFuse s) rfl hup hlevel rfl
  · exact next_of_wesko (out := execWeskoTest s) rfl hup hlevel rfl

end Sys2Proof.Machine

/-! PROOFS. Tamper events, security operations and their timers (R566 to R574, R578). -/

namespace Sys2Proof.Machine

/-! ## Tamper events -/

/-- The device once a tamper event has set its kinds, wiped the scratches, raised its alert and written its record (R578). -/
def Device.tampered (s : Device) (d k : Nat) : Device :=
  let w := (((s.orr Reg.SEC_DIE_TAMPER d k).wipeScratch).inc Reg.SEC_TAMPER_COUNT 0 1).secAlert
  w.secRecord 0x1103 0 (w.rd Reg.SEC_DIE_TAMPER d % 16) 0xFF 3 0

/-- The tamper events of the last 24 h, with the present one (R578). -/
def Device.recentTampers (t : Device) : List Nat := t.sec.tampers.filter (fun a => decide (t.now < a + dayNs)) ++ [t.now]

def Device.noteTamper (t : Device) : Device := t.setSec (fun x => { x with tampers := t.recentTampers })

/-- TAMPER_LOCKOUT is set and both hub dies empty their key slots (R578). -/
def Device.lockKeys (u : Device) : Device :=
  (((u.wrf Reg.SEC_STATUS 0 6 6 1).setSec (fun x => { x with slotsEmpty := true })).wr Reg.SEC_DIE_ROT 42 0).wr Reg.SEC_DIE_ROT 52 0

section
variable {s : Device} {d k : Nat}

theorem onTamperEvent_of_ignored (h : s.fenced d = true ∨ 2 ≤ s.sled.stage) : onTamperEvent d k s = s := by
  rw [onTamperEvent, if_pos (by simpa using h)]

theorem onTamperEvent_of_running (hdie : s.fenced d = false) (hstage : s.sled.stage < 2) :
    onTamperEvent d k s = if (s.tampered d k).recentTampers.length < 3 then (s.tampered d k).noteTamper
      else (s.tampered d k).noteTamper.lockKeys := by
  rw [onTamperEvent, if_neg (by simp [hdie, hstage])]
  rfl

end

/-! ## Timers -/

section
variable {s : Device} {t : Nat}

theorem onNonceExpiry_of_none (h : s.sec.nonceAt = none) : onNonceExpiry s = s := by rw [onNonceExpiry, h]

theorem onNonceExpiry_of_some (h : s.sec.nonceAt = some t) : onNonceExpiry s = if t + 10 * minuteNs ≤ s.now then s.dropNonce else s := by
  rw [onNonceExpiry, h]

theorem onNonceRefusalEnd_of_none (h : s.sec.refuseFrom = none) : onNonceRefusalEnd s = s := by rw [onNonceRefusalEnd, h]

theorem onNonceRefusalEnd_of_some (h : s.sec.refuseFrom = some t) :
    onNonceRefusalEnd s = if t + minuteNs ≤ s.now then s.setSec (fun x => { x with refuseFrom := none }) else s := by
  rw [onNonceRefusalEnd, h]

theorem onDebugExpiry_of_none (h : s.sec.debugEnd = none) : onDebugExpiry s = s := by rw [onDebugExpiry, h]

theorem onDebugExpiry_of_some (h : s.sec.debugEnd = some t) :
    onDebugExpiry s = if t ≤ s.now then (s.setDebug 0 0xFF 3 none).settleAll else s := by rw [onDebugExpiry, h]

end

/-- Settles O57: tamper events by the count of the last 24 h, operations by their path, and timers by the clock. -/
theorem securityEvents : Obligations.SecurityEvents := by
  unfold Obligations.SecurityEvents
  refine ⟨fun s d k hdie hmin hmax => ⟨fun hignored => ?_, fun hrunning hstage => ⟨fun hfew => ?_, fun hmany => ?_⟩⟩,
    fun s p tok level image => ⟨fun hpath => ?_, fun hpath => ?_⟩,
    fun s => ⟨fun h => ?_, fun t h => ⟨fun hearly => ?_, fun hdue => ?_⟩, fun h => ?_, fun t h => ⟨fun hearly => ?_, fun hdue => ?_⟩,
      fun h => ?_, fun t h => ⟨fun hearly => ?_, fun hdue => ?_⟩⟩⟩
  · exact next_of_atUnit (out := execTamperEvent d k s) (by simp [hdie, hmin, hmax]) rfl (onTamperEvent_of_ignored hignored)
  · exact next_of_atUnit (out := execTamperEvent d k s) (by simp [hdie, hmin, hmax]) rfl
      ((onTamperEvent_of_running hrunning hstage).trans (if_pos hfew))
  · exact next_of_atUnit (out := execTamperEvent d k s) (by simp [hdie, hmin, hmax]) rfl
      ((onTamperEvent_of_running hrunning hstage).trans (if_neg (Nat.not_lt.2 hmany)))
  · have hclosed := Bool.eq_false_iff.1 hpath
    refine ⟨?_, ?_, ?_, ?_, ?_, ?_, ?_⟩
    · exact next_same (out := execNonce p s) rfl (congrArg _ (if_neg hclosed))
    · exact next_of_device (out := execUnlock p tok s) rfl (if_neg hclosed)
    · exact next_of_device (out := execLock p level s) rfl (if_neg hclosed)
    · exact next_of_device (out := execLifecycle p tok s) rfl (if_neg hclosed)
    · exact next_same (out := execFwStage p image s) rfl (congrArg _ (if_neg hclosed))
    · exact next_same (out := execFwActivate p s) rfl (congrArg _ (if_neg hclosed))
    · exact next_same (out := execSvnCommit p s) rfl (congrArg _ (if_neg hclosed))
  · refine ⟨?_, ?_, ?_, ?_, ?_, ?_, ?_⟩
    · exact next_of (out := execNonce p s) rfl (congrArg _ (if_pos hpath))
    · exact next_of_device (out := execUnlock p tok s) rfl (if_pos hpath)
    · exact next_of_device (out := execLock p level s) rfl (if_pos hpath)
    · exact next_of_device (out := execLifecycle p tok s) rfl (if_pos hpath)
    · exact next_of (out := execFwStage p image s) rfl (congrArg _ (if_pos hpath))
    · exact next_of (out := execFwActivate p s) rfl (congrArg _ (if_pos hpath))
    · exact next_of (out := execSvnCommit p s) rfl (congrArg _ (if_pos hpath))
  · exact next_of_device (out := execNonceExpiry s) rfl (onNonceExpiry_of_none h)
  · exact next_of_device (out := execNonceExpiry s) rfl ((onNonceExpiry_of_some h).trans (if_neg (Nat.not_le.2 hearly)))
  · exact next_of_device (out := execNonceExpiry s) rfl ((onNonceExpiry_of_some h).trans (if_pos hdue))
  · exact next_of_device (out := execNonceRefusalEnd s) rfl (onNonceRefusalEnd_of_none h)
  · exact next_of_device (out := execNonceRefusalEnd s) rfl ((onNonceRefusalEnd_of_some h).trans (if_neg (Nat.not_le.2 hearly)))
  · exact next_of_device (out := execNonceRefusalEnd s) rfl ((onNonceRefusalEnd_of_some h).trans (if_pos hdue))
  · exact next_of_device (out := execDebugExpiry s) rfl (onDebugExpiry_of_none h)
  · exact next_of_device (out := execDebugExpiry s) rfl ((onDebugExpiry_of_some h).trans (if_neg (Nat.not_le.2 hearly)))
  · exact next_of_device (out := execDebugExpiry s) rfl ((onDebugExpiry_of_some h).trans (if_pos hdue))

end Sys2Proof.Machine

/-! PROOFS. The DOE mailbox and the management port (R415, R418, R556, R557, R572, R578, R597). -/

namespace Sys2Proof.Machine

/-! ## SPDM requests -/

section
variable {s : State} {out : Out} {ld : Nat} {answer : Device → Device}

/-- A request of the DOE mailbox is answered while the hub die runs and the device is not RETIRED. -/
theorem next_of_atDoe {d : Device} (h : out = onDevice s fun d => atDoe ld d (answer d)) (hld : ld < 16) (hruns : s.hubRuns = true)
    (hlife : s.lifecycle ≠ 4) (hanswer : answer s.toDevice = d) : out = .next (s.after d) :=
  next_of h ((atDoe_eq ld _ _ hld hruns hlife).trans (congrArg _ hanswer))

theorem atDoe_silent (s a : Device) (hld : ld < 16) (h : s.hubRuns = false) : atDoe ld s a = .next s := by simp [atDoe, hld, h]

theorem atDoe_retired (s a : Device) (hld : ld < 16) (hruns : s.hubRuns = true) (hlife : s.lifecycle = 4) :
    atDoe ld s a = .next (s.spdmError ld Spdm.unsupported) := by simp [atDoe, hld, hruns, hlife]

end

/-- A request that the DOE mailbox of an LD answers. -/
def DoeRequest (ld : Nat) (c : Instr) : Prop := ∃ answer : Device → Device, ∀ s, exec c s = onDevice s fun d => atDoe ld d (answer d)

def answerCapabilities (ld : Nat) (s : Device) : Device := s.emit (.spdm ld Spdm.capabilities (natLe 1 17 ++ natLe 4 0x20016))

def answerDigests (ld : Nat) (s : Device) : Device := s.emit (.spdm ld Spdm.digests (natLe 1 1 ++ Config.sha512 s.chain))

theorem doeRequests {ld asym hash slot off len i : Nat} {signed : Bool} {nonce : BitVec 256} :
    ∀ c ∈ [Instr.getCapabilities ld, .negotiateAlgorithms ld asym hash, .getDigests ld, .getCertificate ld slot off len,
      .challenge ld slot nonce, .getMeasurements ld i signed nonce, .chunkGet ld slot off, .spdmUnsupportedRequest ld i], DoeRequest ld c := by
  simp only [List.forall_mem_cons]
  exact ⟨⟨answerCapabilities ld, fun _ => rfl⟩, ⟨onNegotiateAlgorithms ld asym hash, fun _ => rfl⟩, ⟨answerDigests ld, fun _ => rfl⟩,
    ⟨onGetCertificate ld slot off len, fun _ => rfl⟩, ⟨onChallenge ld slot nonce, fun _ => rfl⟩,
    ⟨onGetMeasurements ld i signed nonce, fun _ => rfl⟩, ⟨onChunkGet ld slot off, fun _ => rfl⟩,
    ⟨onSpdmUnsupportedRequest ld i, fun _ => rfl⟩, fun _ h => absurd h List.not_mem_nil⟩

section
variable {s : Device} {ld slot off len i : Nat} {signed : Bool} {nonce : BitVec 256}

theorem onGetVersion_of_silent (h : s.hubRuns = false) : onGetVersion ld s = s := by
  rw [onGetVersion, h]
  rfl

theorem onGetVersion_of_runs (h : s.hubRuns = true) : onGetVersion ld s = s.emit (.spdm ld Spdm.version (natLe 2 0x1300)) := by
  rw [onGetVersion, h]
  rfl

theorem onGetCertificate_of_slot (h : slot ≠ 0) : onGetCertificate ld slot off len s = s.spdmError ld Spdm.invalidRequest := if_pos (.inl h)

theorem onGetCertificate_zero : onGetCertificate ld 0 off len s =
    if s.chain.length ≤ off then s.spdmError ld Spdm.invalidRequest
    else s.emit (.spdm ld Spdm.certificate (natLe 2 (min len (s.chain.length - off)) ++
      natLe 2 (s.chain.length - off - min len (s.chain.length - off)) ++ (s.chain.drop off).take len)) := by
  simp only [onGetCertificate, ne_eq, not_true_eq_false, false_or, List.length_take, List.length_drop]

theorem onChallenge_of_lockout (h : s.lockout = true) : onChallenge ld slot nonce s = s.spdmError ld Spdm.unspecified := if_pos h

theorem onChallenge_of_slot (hopen : s.lockout = false) (hslot : slot ≠ 0) :
    onChallenge ld slot nonce s = s.spdmError ld Spdm.invalidRequest := by
  rw [onChallenge, if_neg (Bool.eq_false_iff.1 hopen), if_pos hslot]

theorem onChallenge_zero (hopen : s.lockout = false) :
    onChallenge ld 0 nonce s = s.draw.2.emit (.spdm ld Spdm.challengeAuth ((Config.sha512 s.chain ++ natLe 32 s.draw.1) ++
      Config.aliasSign s.hubDie (natLe 32 nonce.toNat ++ (Config.sha512 s.chain ++ natLe 32 s.draw.1)))) := by
  rw [onChallenge, if_neg (Bool.eq_false_iff.1 hopen), if_neg (by decide)]

theorem onGetMeasurements_of_lockout (h : s.lockout = true) : onGetMeasurements ld i true nonce s = s.spdmError ld Spdm.unspecified := by
  rw [onGetMeasurements, h]
  rfl

theorem onGetMeasurements_of_range (hrange : 8 < i) (hall : i ≠ 0xFF) :
    onGetMeasurements ld i false nonce s = s.spdmError ld Spdm.invalidRequest := by
  rw [onGetMeasurements, Bool.false_and, if_neg Bool.false_ne_true, if_pos ⟨hrange, hall⟩]

/-- An unsigned request for one measurement (R557). -/
theorem onGetMeasurements_of_one (hmin : 1 ≤ i) (hmax : i ≤ 8) : onGetMeasurements ld i false nonce s =
    s.draw.2.emit (.spdm ld Spdm.measurements (natLe 1 1 ++ natLe 1 0 ++ s.measurementBlock i ++ natLe 32 s.draw.1)) := by
  have hzero : i ≠ 0 := by omega
  have hall : i ≠ 0xFF := by omega
  have hrange : ¬(8 < i ∧ i ≠ 0xFF) := by omega
  simp only [onGetMeasurements, Bool.false_and, Bool.false_eq_true, if_false, if_neg hrange, if_neg hzero, if_neg hall]

end

/-- Settles O33: what each request is answered with, by the state of the hub die and of the device. -/
theorem spdmRequests : Obligations.SpdmRequests := by
  unfold Obligations.SpdmRequests
  refine ⟨fun s ld asym hash slot off len i signed nonce c hld hc => ?_, fun s ld hld hruns => ⟨?_, fun hlife => ⟨?_, fun asym hash => ?_, ?_,
    fun slot off len hslot => ?_, fun off len => ?_, fun nonce hopen => ⟨natLe 32 s.draw.1, length_natLe _ _, ?_⟩,
    fun slot nonce hopen hslot => ?_, fun slot nonce hlocked => ?_, fun i nonce hmin hmax => ⟨natLe 32 s.draw.1, length_natLe _ _, ?_⟩,
    fun i nonce hrange hall => ?_, fun i nonce hlocked => ?_, fun handle seq => ⟨natLe (s.draw.1 % 2 ^ 16) s.draw.2.draw.1, ?_⟩, fun code => ?_⟩⟩⟩
  · obtain ⟨answer, hexec⟩ := doeRequests c hc
    refine ⟨fun hsilent => ⟨next_same (hexec s) (atDoe_silent _ _ hld hsilent), ?_⟩,
      fun hruns hlife => next_of (hexec s) (atDoe_retired _ _ hld hruns hlife)⟩
    exact next_of_atUnit (out := execGetVersion ld s) (decide_eq_true hld) rfl (onGetVersion_of_silent hsilent)
  · exact next_of_atUnit (out := execGetVersion ld s) (decide_eq_true hld) rfl (onGetVersion_of_runs hruns)
  · exact next_of_atDoe (out := execGetCapabilities ld s) rfl hld hruns hlife rfl
  · exact next_of_atDoe (out := execNegotiateAlgorithms ld asym hash s) rfl hld hruns hlife rfl
  · exact next_of_atDoe (out := execGetDigests ld s) rfl hld hruns hlife rfl
  · exact next_of_atDoe (out := execGetCertificate ld slot off len s) rfl hld hruns hlife (onGetCertificate_of_slot hslot)
  · exact next_of_atDoe (out := execGetCertificate ld 0 off len s) rfl hld hruns hlife onGetCertificate_zero
  · exact next_of_atDoe (out := execChallenge ld 0 nonce s) rfl hld hruns hlife (onChallenge_zero hopen)
  · exact next_of_atDoe (out := execChallenge ld slot nonce s) rfl hld hruns hlife (onChallenge_of_slot hopen hslot)
  · exact next_of_atDoe (out := execChallenge ld slot nonce s) rfl hld hruns hlife (onChallenge_of_lockout hlocked)
  · exact next_of_atDoe (out := execGetMeasurements ld i false nonce s) rfl hld hruns hlife (onGetMeasurements_of_one hmin hmax)
  · exact next_of_atDoe (out := execGetMeasurements ld i false nonce s) rfl hld hruns hlife (onGetMeasurements_of_range hrange hall)
  · exact next_of_atDoe (out := execGetMeasurements ld i true nonce s) rfl hld hruns hlife (onGetMeasurements_of_lockout hlocked)
  · exact next_of_atDoe (out := execChunkGet ld handle seq s) rfl hld hruns hlife rfl
  · exact next_of_atDoe (out := execSpdmUnsupportedRequest ld code s) rfl hld hruns hlife rfl

/-! ## The management port -/

section
variable {s : Device} {ld u e a : Nat}

theorem onMctpControlMessage_of_down {eid : Option Nat} (h : s.portUp = false) : onMctpControlMessage eid s = s := if_pos (by simp [h])

theorem onFmApiMessage_of_down {m : FmMsg} (h : s.portUp = false) : onFmApiMessage m s = s := if_pos (by simp [h])

theorem onDynamicAddressAssign_of_held (h : s.portUp = false ∨ s.rdf Reg.SB_STATUS 0 2 2 = 1) : onDynamicAddressAssign a s = s := by
  rw [onDynamicAddressAssign, if_pos (by simpa using h)]

theorem onDynamicAddressAssign_of_i3c (hup : s.portUp = true) (h : s.rdf Reg.SB_STATUS 0 2 2 = 0) :
    onDynamicAddressAssign a s = s.wrf Reg.SB_STATUS 0 9 3 a := by rw [onDynamicAddressAssign, if_neg (by simp [hup, h])]

section
variable (hup : s.portUp = true)
include hup

theorem onMctpControlMessage_of_eid : onMctpControlMessage (some e) s =
    if 8 ≤ e ∧ e < 255 then (s.wrf Reg.SB_STATUS 0 17 10 e).mctp Mctp.control 0 (natLe 1 e) else s.mctp Mctp.control Mctp.invalid [] := by
  rw [onMctpControlMessage, hup]
  rfl

theorem onMctpControlMessage_none : onMctpControlMessage none s = s.draw.2.mctp Mctp.control 0 (natLe 8 s.draw.1) := by
  rw [onMctpControlMessage, hup]
  rfl

theorem onFmApiMessage_bind : onFmApiMessage (.bind ld u) s =
    if 16 ≤ ld ∨ 256 < u ∨ s.rdf Reg.HIF_LD_STATUS ld 0 0 = 1 then s.mctp Mctp.cxlFm Mctp.invalid []
    else (s.bindLd ld u).mctp Mctp.cxlFm 0 [] := by
  rw [onFmApiMessage, hup]
  rfl

theorem onFmApiMessage_unbind : onFmApiMessage (.unbind ld) s =
    if 16 ≤ ld ∨ s.rdf Reg.HIF_LD_STATUS ld 0 0 = 0 then s.mctp Mctp.cxlFm Mctp.invalid [] else (s.unbindLd ld).mctp Mctp.cxlFm 0 [] := by
  rw [onFmApiMessage, hup]
  rfl

theorem onFmApiMessage_admin : onFmApiMessage (.admin ld) s =
    if 16 ≤ ld ∨ s.rdf Reg.HIF_LD_STATUS ld 0 0 = 0 then s.mctp Mctp.cxlFm Mctp.invalid [] else (s.setAdmin ld).mctp Mctp.cxlFm 0 [] := by
  rw [onFmApiMessage, hup]
  rfl

theorem onFmApiMessage_regRead {addr : Nat} {wide : Bool} : onFmApiMessage (.regRead addr wide) s =
    (s.regReadBy .fabric addr wide).2.2.fmStatus (s.regReadBy .fabric addr wide).1 (natLe 8 (s.regReadBy .fabric addr wide).2.1) := by
  rw [onFmApiMessage, hup]
  rfl

/-- The register write that a message of the fabric manager carries. -/
def Device.fabricWrite (s : Device) (addr : Nat) (wide : Bool) (v : BitVec 64) : Option Nat × Device :=
  s.draw.2.regWriteBy .fabric none (s.draw.1 % 2 == 0) addr wide (if wide then v.toNat else v.toNat % 2 ^ 32)

theorem onFmApiMessage_regWrite {addr : Nat} {wide : Bool} {v : BitVec 64} : onFmApiMessage (.regWrite addr wide v) s =
    (s.fabricWrite addr wide v).2.settleFaults.fmStatus ((s.fabricWrite addr wide v).1.getD St.ok) [] := by
  rw [onFmApiMessage, hup]
  rfl

theorem onFmApiMessage_other {code : Nat} : onFmApiMessage (.other code) s = s.draw.2.mctp Mctp.cxlFm 0 (natLe 8 s.draw.1) := by
  rw [onFmApiMessage, hup]
  rfl

end

end

/-- Settles O34: what each message is answered with, by the state of the port. -/
theorem managementPort : Obligations.ManagementPort := by
  unfold Obligations.ManagementPort
  refine fun s => ⟨fun hdown => ⟨fun e => ?_, fun m => ?_, fun typ _ _ => ?_, fun a ha => ?_⟩,
    fun hup => ⟨fun e hmin hmax => ?_, fun e hrange => ?_, ⟨natLe 8 s.draw.1, ?_⟩, fun ld u hld hu hfree => ?_, fun ld u hbad => ?_,
      fun ld hld hbound => ⟨?_, ?_⟩, fun ld hbad => ⟨?_, ?_⟩, fun addr wide => ?_, fun addr wide v => ?_, fun code => ⟨natLe 8 s.draw.1, ?_⟩,
      fun typ _ _ => ?_, fun a ha => ⟨fun hfixed => ?_, fun hi3c => ?_⟩⟩⟩
  · exact next_of_device (out := execMctpControlMessage e s) rfl (onMctpControlMessage_of_down hdown)
  · exact next_of_device (out := execFmApiMessage m s) rfl (onFmApiMessage_of_down hdown)
  · exact next_same (out := execMctpUnsupportedType typ s) rfl (congrArg _ (if_neg (Bool.eq_false_iff.1 hdown)))
  · exact next_of_atUnit (out := execDynamicAddressAssign a s) (decide_eq_true ha) rfl (onDynamicAddressAssign_of_held (.inl hdown))
  · exact next_of_device (out := execMctpControlMessage (some e) s) rfl ((onMctpControlMessage_of_eid hup).trans (if_pos ⟨hmin, hmax⟩))
  · exact next_of_device (out := execMctpControlMessage (some e) s) rfl ((onMctpControlMessage_of_eid hup).trans (if_neg (by omega)))
  · exact next_of_device (out := execMctpControlMessage none s) rfl (onMctpControlMessage_none hup)
  · exact next_of_device (out := execFmApiMessage (.bind ld u) s) rfl ((onFmApiMessage_bind hup).trans (if_neg (by omega)))
  · exact next_of_device (out := execFmApiMessage (.bind ld u) s) rfl ((onFmApiMessage_bind hup).trans (if_pos hbad))
  · exact next_of_device (out := execFmApiMessage (.unbind ld) s) rfl ((onFmApiMessage_unbind hup).trans (if_neg (by omega)))
  · refine next_of_device (out := execFmApiMessage (.admin ld) s) rfl ((onFmApiMessage_admin hup).trans ((if_neg (by omega)).trans ?_))
    rw [Device.setAdmin_of_bound hbound]
  · exact next_of_device (out := execFmApiMessage (.unbind ld) s) rfl ((onFmApiMessage_unbind hup).trans (if_pos hbad))
  · exact next_of_device (out := execFmApiMessage (.admin ld) s) rfl ((onFmApiMessage_admin hup).trans (if_pos hbad))
  · exact next_of_device (out := execFmApiMessage (.regRead addr wide) s) rfl (onFmApiMessage_regRead hup)
  · exact next_of_device (out := execFmApiMessage (.regWrite addr wide v) s) rfl (onFmApiMessage_regWrite hup)
  · exact next_of_device (out := execFmApiMessage (.other code) s) rfl (onFmApiMessage_other hup)
  · exact next_of (out := execMctpUnsupportedType typ s) rfl (congrArg _ (if_pos hup))
  · exact next_of_atUnit (out := execDynamicAddressAssign a s) (decide_eq_true ha) rfl (onDynamicAddressAssign_of_held (.inr hfixed))
  · exact next_of_atUnit (out := execDynamicAddressAssign a s) (decide_eq_true ha) rfl (onDynamicAddressAssign_of_i3c hup hi3c)

end Sys2Proof.Machine

/-! PROOFS. Merge buffers, patrol, scrub passes and memory tests (R463, R464, R474, R475, R478, R479). -/

namespace Sys2Proof.Machine

/-! ## Records that every LD sees -/

section
variable {s : Device}

@[simp] theorem Device.record_all_regs (typ : Nat) (body : List Byte) : (s.record typ body none).regs = s.regs := by
  rw [Device.record_eq_raiseAll, Device.raiseAll_regs]
  rfl

@[simp] theorem Device.raiseAll_mem (k : Nat) : (s.raiseAll k).mem = s.mem := (congrArg Device.mem (s.raiseAll_frame k) :)

@[simp] theorem Device.record_all_mem (typ : Nat) (body : List Byte) : (s.record typ body none).mem = s.mem := by
  rw [Device.record_eq_raiseAll, Device.raiseAll_mem]
  rfl

theorem Device.fenced_congr {t : Device} {d : Nat} (h : t.rd Reg.AVL_DIE_STATUS d = s.rd Reg.AVL_DIE_STATUS d) : t.fenced d = s.fenced d := by
  rw [Device.fenced, Device.fenced, Device.rdf, Device.rdf, h]

end

/-! ## Merge buffers, patrol and scrub passes -/

section
variable {s : Device} {m ord inst : Nat} {e : Ecc} {x : Merge} {good bad : List Nat}

theorem onMergeWriteOut_of_absent (h : s.mem.merge[m]? = none) : onMergeWriteOut m e s = s := by rw [onMergeWriteOut, h]

theorem onMergeWriteOut_of_early (h : s.mem.merge[m]? = some x) (hearly : x.mem = 5 ∧ s.now - x.at_ < 64) : onMergeWriteOut m e s = s := by
  rw [onMergeWriteOut, h]
  exact if_pos hearly

/-- What the read-modify-write finds in the stored word is dealt with first (R463). -/
theorem onMergeWriteOut_of_due (h : s.mem.merge[m]? = some x) (hdue : ¬(x.mem = 5 ∧ s.now - x.at_ < 64)) :
    onMergeWriteOut m .clean s = s.writeOut x ∧
      onMergeWriteOut m .corrected s = (s.goodWord x.mem x.inst x.word).writeOut x ∧
      onMergeWriteOut m .uncorrectable s = (s.badWord x.mem x.inst x.word none).writeOut x ∧
      onMergeWriteOut m .poison s = (s.markPoison x.mem x.inst x.word true).writeOut x := by
  simp only [onMergeWriteOut, h]
  exact ⟨if_neg hdue, if_neg hdue, if_neg hdue, if_neg hdue⟩

theorem onDramPatrol_of_idle
    (h : s.fenced (s.hsDie ord) = true ∨ s.hsUp ord = false ∨ s.rdf Reg.MEM_PATROL_CTL (s.hsDie ord) 7 0 = 0) :
    onDramPatrol ord good bad s = s := by rw [onDramPatrol, if_pos (by simpa [or_assoc] using h)]

theorem onDramPatrol_of_runs (hdie : s.fenced (s.hsDie ord) = false) (hup : s.hsUp ord = true)
    (hctl : s.rdf Reg.MEM_PATROL_CTL (s.hsDie ord) 7 0 ≠ 0) :
    onDramPatrol ord good bad s = s.readWords 5 ord 0 (0x600000000 / 16) good bad := by
  rw [onDramPatrol, if_neg (by simp [hdie, hup, hctl])]

theorem onScrubSummary_of_none (h : nget none s.mem.scrubs inst = none) : onScrubSummary inst good bad s = s := by
  rw [onScrubSummary, h]

end

/-! ## Lane regions -/

section
variable {s : Device} {eng : Nat} {pass : Bool}

theorem onLaneRegionTest_of_idle (h : s.rdf Reg.MEM_CORE_LTEST_CTL (eng / 4) 0 0 = 0 ∨ s.rdf Reg.ENG_STATUS eng 11 11 = 1 ∨
    (s.engine eng).standIn ≠ [] ∨ s.fenced (coreDie (eng / 4)) = true) : onLaneRegionTest eng pass s = s := by
  refine if_pos ?_
  simp only [Bool.or_eq_true, beq_iff_eq, Bool.not_eq_true', List.isEmpty_eq_false_iff]
  tauto

section
variable (hctl : s.rdf Reg.MEM_CORE_LTEST_CTL (eng / 4) 0 0 = 1) (hengine : s.rdf Reg.ENG_STATUS eng 11 11 = 0)
  (hstandIn : (s.engine eng).standIn = []) (hdie : s.fenced (coreDie (eng / 4)) = false)
  (hreset : s.rdf Reg.CORE_STATE (eng / 4) 2 0 ≠ 0) (hgone : s.rdf Reg.CORE_STATE (eng / 4) 2 0 ≠ 6)
include hctl hengine hstandIn hdie hreset hgone

/-- An engine that tests goes on to its next region; one that fails goes to the stand-in (R478). -/
theorem onLaneRegionTest_of_tests : onLaneRegionTest eng pass s =
    if pass = true then
      if (s.engine eng).region = 271 then
        (s.setEngine eng { s.engine eng with region := ((s.engine eng).region + 1) % 272 }).inc Reg.MEM_CORE_LTEST_PASSES (eng / 4) 1
      else s.setEngine eng { s.engine eng with region := ((s.engine eng).region + 1) % 272 }
    else ((s.setEngine eng { s.engine eng with
        region := ((s.engine eng).region + 1) % 272, standIn := [(s.engine eng).region], retireNext := true }).inc
      Reg.MEM_CORE_LTEST_FAILS (eng / 4) 1).record 0x0E04
        (memBody 2 0 (eng / 4) (eng + (s.engine eng).region * 2 ^ 11) 0 0) none := by
  refine if_neg ?_
  simp [hctl, hengine, hstandIn, hdie, hreset, hgone]

end

end

/-! ## Secure scratch -/

section
variable {s : Device} {die : Nat} {pass : Bool}

/-- The root of trust of a hub die goes on to its next region (R479). -/
def Device.nextSecRegion (s : Device) (die : Nat) : Device :=
  { s with mem := { s.mem with secRegion := nset 0 s.mem.secRegion die ((nget 0 s.mem.secRegion die + 1) % 1024) } }

/-- The record of a region that fails (R479). -/
def Device.secRegionFailed (s : Device) (die r : Nat) : Device := s.record 0x0E05 (memBody 11 0 (0x200 + die) (r * 256) 0 0) none

/-- A failing region takes one of the spares left (R479). -/
def Device.takeSecSpare (s : Device) (die r left : Nat) : Device :=
  ({ s with mem := { s.mem with secMoved := nset [] s.mem.secMoved die (nget [] s.mem.secMoved die ++ [r]) } } : Device).wr
    Reg.MEM_SEC_SPARES_LEFT die (left - 1)

/-- The region moved to a spare, of a die that tests region `r`. -/
def Device.moveSecRegion (s : Device) (die : Nat) : Device :=
  ((s.nextSecRegion die).secRegionFailed die (nget 0 s.mem.secRegion die)).takeSecSpare die (nget 0 s.mem.secRegion die)
    (s.rd Reg.MEM_SEC_SPARES_LEFT die)

theorem onSecureScratchTest_of_fenced (h : s.fenced die = true) : onSecureScratchTest die pass s = s := if_pos h

theorem onSecureScratchTest_of_pass (hdie : s.fenced die = false) (hmiddle : nget 0 s.mem.secRegion die ≠ 1023) :
    onSecureScratchTest die true s = s.nextSecRegion die := by
  rw [onSecureScratchTest, if_neg (Bool.eq_false_iff.1 hdie)]
  exact if_neg hmiddle

theorem onSecureScratchTest_of_last (hdie : s.fenced die = false) (hlast : nget 0 s.mem.secRegion die = 1023) :
    onSecureScratchTest die true s = (s.nextSecRegion die).inc Reg.MEM_SEC_TEST_PASSES die 1 := by
  rw [onSecureScratchTest, if_neg (Bool.eq_false_iff.1 hdie)]
  exact if_pos hlast

theorem onSecureScratchTest_of_fail (hdie : s.fenced die = false) (hmiddle : nget 0 s.mem.secRegion die ≠ 1023)
    (hspare : s.rd Reg.MEM_SEC_SPARES_LEFT die ≠ 0) : onSecureScratchTest die false s =
      if s.rd Reg.MEM_SEC_SPARES_LEFT die ≤ 1 then ((s.moveSecRegion die).fenceDie die 6).settleAll else s.moveSecRegion die := by
  have hleft : (s.nextSecRegion die).rd Reg.MEM_SEC_SPARES_LEFT die = s.rd Reg.MEM_SEC_SPARES_LEFT die := rfl
  rw [onSecureScratchTest, if_neg (Bool.eq_false_iff.1 hdie)]
  simp only [if_neg hmiddle, Bool.false_eq_true, if_false]
  rw [Device.nextSecRegion] at hleft
  simp only [hleft, if_neg hspare]
  rfl

theorem Device.rd_moveSecRegion_spares : (s.moveSecRegion die).rd Reg.MEM_SEC_SPARES_LEFT die = s.rd Reg.MEM_SEC_SPARES_LEFT die - 1 :=
  Device.rd_wr_same _ _ _ _

theorem Device.moveSecRegion_mem : (s.moveSecRegion die).mem = { s.mem with
    secRegion := nset 0 s.mem.secRegion die ((nget 0 s.mem.secRegion die + 1) % 1024)
    secMoved := nset [] s.mem.secMoved die (nget [] s.mem.secMoved die ++ [nget 0 s.mem.secRegion die]) } := by
  rw [Device.moveSecRegion, Device.takeSecSpare, Device.secRegionFailed, Device.wr_mem, Device.record_all_mem, Device.nextSecRegion]

theorem Device.fenced_moveSecRegion {d : Nat} : (s.moveSecRegion die).fenced d = s.fenced d := by
  refine Device.fenced_congr ?_
  rw [Device.moveSecRegion, Device.takeSecSpare, Device.rd_wr_ne _ _ _ _ _ _ (by simp [regAddr, Reg.AVL_DIE_STATUS, Reg.MEM_SEC_SPARES_LEFT]; omega)]
  exact Device.rd_congr (Device.record_all_regs _ _) _ _

end

/-- Settles O50: each event by what it finds in the merge buffers, the patrol and scrub controls and the regions under test. -/
theorem memoryIntegrityEvents : Obligations.MemoryIntegrityEvents := by
  unfold Obligations.MemoryIntegrityEvents
  refine ⟨fun s m => ⟨fun habsent e => ?_, fun x hat hmem hearly e => ?_, fun x hat hdue => ?_⟩,
    fun s ord good bad hord => ⟨fun hidle => ?_, fun hdie hup hctl => ?_⟩,
    fun s inst good bad hinst => ⟨?_, fun hnone => ?_⟩,
    fun s eng heng => ⟨fun hidle pass => ?_, fun hctl hengine hstandIn hdie hreset hgone => ⟨fun hregion => ?_, fun hlast => ?_, ?_⟩⟩,
    fun s die hhub => ?_⟩
  · exact next_of_device (out := execMergeWriteOut m e s) rfl (onMergeWriteOut_of_absent habsent)
  · exact next_of_device (out := execMergeWriteOut m e s) rfl (onMergeWriteOut_of_early hat ⟨hmem, hearly⟩)
  · obtain ⟨hclean, hcorrected, huncorrectable, hpoison⟩ := onMergeWriteOut_of_due hat hdue
    exact ⟨next_of_device (out := execMergeWriteOut m .clean s) rfl hclean,
      next_of_device (out := execMergeWriteOut m .corrected s) rfl hcorrected,
      next_of_device (out := execMergeWriteOut m .uncorrectable s) rfl huncorrectable,
      next_of_device (out := execMergeWriteOut m .poison s) rfl hpoison⟩
  · exact next_of_atUnit (out := execDramPatrol ord good bad s) (decide_eq_true hord) rfl (onDramPatrol_of_idle hidle)
  · exact next_of_atUnit (out := execDramPatrol ord good bad s) (decide_eq_true hord) rfl (onDramPatrol_of_runs hdie hup hctl)
  · exact next_of_atUnit (out := execScrubSummary inst good bad s) (by simpa using hinst) rfl rfl
  · exact next_of_atUnit (out := execScrubSummary inst good bad s) (by simpa using hinst) rfl (onScrubSummary_of_none hnone)
  · exact next_of_atUnit (out := execLaneRegionTest eng pass s) (decide_eq_true heng) rfl (onLaneRegionTest_of_idle hidle)
  · refine next_of_atUnit (out := execLaneRegionTest eng true s) (decide_eq_true heng) rfl
      ((onLaneRegionTest_of_tests hctl hengine hstandIn hdie hreset hgone).trans ((if_pos rfl).trans ((if_neg (by omega)).trans ?_)))
    rw [Nat.mod_eq_of_lt (by omega : (s.engine eng).region + 1 < 272)]
  · refine next_of_atUnit (out := execLaneRegionTest eng true s) (decide_eq_true heng) rfl
      ((onLaneRegionTest_of_tests hctl hengine hstandIn hdie hreset hgone).trans ((if_pos rfl).trans ((if_pos hlast).trans ?_)))
    rw [hlast]
  · exact next_of_atUnit (out := execLaneRegionTest eng false s) (decide_eq_true heng) rfl
      ((onLaneRegionTest_of_tests hctl hengine hstandIn hdie hreset hgone).trans (if_neg Bool.false_ne_true))
  · have hunit : (die == 42 || die == 52) = true := by simpa using hhub
    refine ⟨fun hfenced pass => ?_, fun hdie => ⟨fun hmiddle => ?_, fun hlast => ?_, fun hmiddle hspares => ⟨s.moveSecRegion die, ?_,
      Device.rd_moveSecRegion_spares, ?_, ?_, Device.fenced_moveSecRegion⟩, fun hmiddle hlast => ⟨s.moveSecRegion die, ?_, ?_⟩⟩⟩
    · exact next_of_atUnit (out := execSecureScratchTest die pass s) hunit rfl (onSecureScratchTest_of_fenced hfenced)
    · exact next_of_atUnit (out := execSecureScratchTest die true s) hunit rfl (onSecureScratchTest_of_pass hdie hmiddle)
    · exact next_of_atUnit (out := execSecureScratchTest die true s) hunit rfl (onSecureScratchTest_of_last hdie hlast)
    · exact next_of_atUnit (out := execSecureScratchTest die false s) hunit rfl
        ((onSecureScratchTest_of_fail hdie hmiddle (by omega)).trans (if_neg (by omega)))
    · rw [Device.moveSecRegion_mem]
    · rw [Device.moveSecRegion_mem]
    · exact next_of_atUnit (out := execSecureScratchTest die false s) hunit rfl
        ((onSecureScratchTest_of_fail hdie hmiddle (by omega)).trans (if_pos (by omega)))
    · rw [Device.rd_moveSecRegion_spares, hlast]

end Sys2Proof.Machine

/-! PROOFS. Journal pages, quad progress, transactions, stream flushes and the erase of a victim (R384, R388 to R394). -/

namespace Sys2Proof.Machine

/-! ## Journal pages -/

/-- The records that have no page yet, at most one page of them (R388). -/
def Device.unpaged (s : Device) (ord : Nat) : List JRec := ((nget [] s.ftl.journal ord).filter (fun r => r.page.isNone)).take 128

/-- The records of a list get the page that is written now, twice under one WSN (R388). -/
def Device.closePage (s : Device) (ord : Nat) (new : List JRec) : Device :=
  (s.setFtl (fun f => { f with journal := nset [] f.journal ord ((nget [] f.journal ord).map (fun (r : JRec) =>
    if new.any (fun x => x.n == r.n) then { r with page := some (s.rd Reg.FTL_WSN ord) } else r)) })).bufferTwice ord 0x7FFFFFF 4
      (new.flatMap JRec.bytes)

/-- A checkpoint cycle starts above half of FTL_JRNL_MAX (R390). -/
def Device.cycleIfDue (u : Device) (ord : Nat) : Device :=
  if nget none u.ftl.cycle ord = none ∧ u.rdf Reg.FTL_JRNL_MAX 0 15 0 * 2 ^ 20 < 2 * u.rd Reg.FTL_JRNL_RETAINED ord then u.startCycle ord
  else u

section
variable {s : Device} {ord : Nat}

theorem Device.endCycle_of_none (h : nget none s.ftl.cycle ord = none) : s.endCycle ord = s := by rw [Device.endCycle, h]

/-- Without a cycle, a page closes if a record waits for one, and a cycle starts if it is due. -/
theorem onJournalPageClose_of_no_cycle (h : nget none s.ftl.cycle ord = none) :
    onJournalPageClose ord s = (if (s.unpaged ord).isEmpty then s else s.closePage ord (s.unpaged ord)).cycleIfDue ord := by
  simp only [onJournalPageClose, Device.endCycle_of_none h, Option.isNone_iff_eq_none]
  rfl

theorem onJournalPageClose_of_empty (h : nget none s.ftl.cycle ord = none) (hnew : s.unpaged ord = [])
    (hroom : 2 * s.rd Reg.FTL_JRNL_RETAINED ord ≤ s.rdf Reg.FTL_JRNL_MAX 0 15 0 * 2 ^ 20) : onJournalPageClose ord s = s := by
  rw [onJournalPageClose_of_no_cycle h, hnew, List.isEmpty_nil, if_pos rfl, Device.cycleIfDue, if_neg (by omega)]

theorem onJournalPageClose_of_new (h : nget none s.ftl.cycle ord = none) (hnew : s.unpaged ord ≠ []) :
    onJournalPageClose ord s = (s.closePage ord (s.unpaged ord)).cycleIfDue ord := by
  rw [onJournalPageClose_of_no_cycle h, if_neg (by simpa using hnew)]

end

/-! ## Stream flush -/

/-- What a stream flush makes of an entry of the write buffers: one that waits goes to SLC, and an extent that has begun goes whole
(R384). -/
def Device.flushed (s : Device) (ord : Nat) (b : BufCw) : BufCw :=
  if (s.waitingCws ord 0 false).any (fun w => w.cw.wsn == b.cw.wsn && w.ord == b.ord) then { b with slc := true }
  else if b.ord = ord ∧ b.cw.kind = 0 ∧ !s.bandBlock b.cw.band ∧ (s.waitingCws ord 0 false).any (fun w => w.sameExtent b) then
    { b with slc := true, loc := none, done := false }
  else b

section
variable {s : Device} {ord : Nat} {b : BufCw}

theorem onStreamFlush_eq : onStreamFlush ord s = s.setFtl (fun f => { f with buf := f.buf.map (s.flushed ord) }) := rfl

theorem Device.ord_of_waiting {use : Nat} {slc : Bool} (h : b ∈ s.waitingCws ord use slc) : b.ord = ord := by
  simp only [Device.waitingCws, List.mem_filter, Bool.and_eq_true, beq_iff_eq] at h
  exact h.2.1.1.1.1.1

/-- An entry stays as it was, or goes to SLC. -/
theorem Device.flushed_eq_or : s.flushed ord b = b ∨ ((s.flushed ord b).slc = true ∧ (s.flushed ord b).ord = ord) := by
  unfold Device.flushed
  split
  next hwaits =>
    obtain ⟨w, hw, hsame⟩ := List.any_eq_true.1 hwaits
    simp only [Bool.and_eq_true, beq_iff_eq] at hsame
    exact .inr ⟨rfl, hsame.2.symm.trans (Device.ord_of_waiting hw)⟩
  next =>
    split
    next hextent => exact .inr ⟨rfl, hextent.1⟩
    next => exact .inl rfl

theorem Device.flushed_of_waiting (h : b ∈ s.waitingCws ord 0 false) : s.flushed ord b = { b with slc := true } :=
  if_pos (List.any_eq_true.2 ⟨b, h, by simp⟩)

end

/-! ## Quad progress, transactions and victims -/

section
variable {s : Device} {ord die quad wls n grp t : Nat} {x : Txn}

/-- A code word that the progress covers has no durable map entry yet (R389). -/
def Device.progressHeld (s : Device) (ord die quad wls : Nat) : Bool :=
  (s.quadCws (nandDie ord die) quad).any (fun c => decide (locOff c.1 /
    max 1 (s.groupCws (nandDie ord die) quad (s.squad (rainGroup ord) die quad).slc) < wls) && !s.setDurable ord c.1 c.2)

theorem onQuadProgress_eq : onQuadProgress ord die quad wls s =
    if (s.squad (rainGroup ord) die quad).st ≠ 1 ∨ s.progress (nandDie ord die) quad < wls ∨ s.progressHeld ord die quad wls = true then s
    else s.journal ord 4 none (jQuad die quad wls) 0 none := rfl

theorem onTxnCommit_of_absent (h : s.ftl.txns.find? (fun x => x.id = n) = none) : onTxnCommit n s = s := by rw [onTxnCommit, h]

theorem onTxnCommit_of_waiting (h : s.ftl.txns.find? (fun x => x.id = n) = some x)
    (hwaits : x.committed = true ∨ x.parts.all x.prepared.contains = false) : onTxnCommit n s = s := by
  rw [onTxnCommit, h]
  exact if_pos (by simpa using hwaits)

/-- A transaction is noted as committed (R391). -/
def Device.noteCommit (s : Device) (n : Nat) : Device :=
  s.setFtl (fun f => { f with txns := f.txns.map (fun y => if y.id = n then { y with committed := true } else y) })

theorem onTxnCommit_of_prepared (h : s.ftl.txns.find? (fun x => x.id = n) = some x) (hfirst : x.committed = false)
    (hprepared : x.parts.all x.prepared.contains = true) : onTxnCommit n s =
      if x.parts.isEmpty = true then ((s.noteCommit n).applyTxn x).settleAll
      else (s.noteCommit n).journal (x.parts.foldl min 55) 11 none
        (natLe 1 x.parts.length ++ natLe 7 ((x.parts.map (fun h => 2 ^ h)).foldl (· + ·) 0)) n none := by
  rw [onTxnCommit, h]
  exact if_neg (by simp [hfirst, hprepared])

theorem onGcErase_of_state (h : (s.squad grp t quad).st ≠ 3) : onGcErase grp t quad s = s := if_pos (.inl h)

theorem onGcErase_of_reading
    (h : s.media.reads.any (fun r => rainGroup r.ord == grp && locDie r.loc == t && locQuad r.loc == quad) = true) :
    onGcErase grp t quad s = s := if_pos (.inr (.inr h))

/-- A victim with nothing on the medium and no reads is erased (R393, R394). -/
theorem onGcErase_of_empty (hvictim : (s.squad grp t quad).st = 3) (hreads : s.media.reads = []) (hnand : s.ftl.nand = []) :
    onGcErase grp t quad s = ((s.setSquad grp t quad { s.squad grp t quad with st := 4 }).setFtl (fun f => { f with
      erases := f.erases ++ (s.members grp).map (fun o => (nandDie o t, quad, (s.squad grp t quad).slc)),
      credit := if s.rdf Reg.FTL_GRP_STATUS grp 17 17 = 1
        then nset 0 f.credit grp (nget 0 f.credit grp + (0 - (s.squad grp t quad).copied)) else f.credit })).retryCredit.settleAll := by
  have hnone : (s.members grp).flatMap (fun o => (s.quadCws (nandDie o t) quad).map (fun c => (o, c.1, c.2))) = [] := by
    simp [Device.quadCws_of_empty hnand]
  simp only [onGcErase, hnone, hreads, List.any_nil, List.filter_nil, List.length_nil]
  exact if_neg (by simp [hvictim])

end

/-- Settles O49: each event by the journal, the quads, the transactions and the victims that it finds. -/
theorem translationEvents : Obligations.TranslationEvents := by
  unfold Obligations.TranslationEvents
  refine ⟨fun s ord hord => ⟨fun hcycle => ⟨fun hnew hroom => ?_, fun hnew => ?_⟩,
      s.setFtl (fun f => { f with buf := f.buf.map (s.flushed ord) }), ?_, List.length_map _, rfl, fun b hb => ?_, fun b hb _ hwaits => ?_⟩,
    fun s ord die quad wls hord hdie hquad => ⟨fun hheld => ?_, fun hopen hdone => ⟨fun hheld => ?_, fun hfree => ?_⟩⟩,
    fun s n => ⟨fun habsent => ?_, fun x hx => ⟨fun hwaits => ?_, fun hfirst hprepared => ⟨fun hnone => ?_, fun hparts => ?_⟩⟩⟩,
    fun s grp t quad hgrp ht hquad => ⟨fun hstate => ?_, fun hreading => ?_, fun hvictim hreads hnand => ?_⟩⟩
  · exact next_of_atUnit (out := execJournalPageClose ord s) (decide_eq_true hord) rfl (onJournalPageClose_of_empty hcycle hnew hroom)
  · exact next_of_atUnit (out := execJournalPageClose ord s) (decide_eq_true hord) rfl (onJournalPageClose_of_new hcycle hnew)
  · exact next_of_atUnit (out := execStreamFlush ord s) (decide_eq_true hord) rfl onStreamFlush_eq
  · obtain ⟨c, hc, rfl⟩ := List.mem_map.1 hb
    exact (Device.flushed_eq_or (s := s.toDevice) (ord := ord) (b := c)).imp_left fun (h : s.flushed ord c = c) => by rw [h]; exact hc
  · exact List.mem_map.2 ⟨b, hb, Device.flushed_of_waiting hwaits⟩
  · exact next_of_atUnit (out := execQuadProgress ord die quad wls s) (by simp [hord, hdie, hquad]) rfl
      (onQuadProgress_eq.trans (if_pos (by tauto)))
  · exact next_of_atUnit (out := execQuadProgress ord die quad wls s) (by simp [hord, hdie, hquad]) rfl
      (onQuadProgress_eq.trans (if_pos (.inr (.inr hheld))))
  · have hgoes : ¬((s.squad (rainGroup ord) die quad).st ≠ 1 ∨ s.progress (nandDie ord die) quad < wls ∨
        s.progressHeld ord die quad wls = true) := not_or.2 ⟨not_not.2 hopen, not_or.2 ⟨Nat.not_lt.2 hdone, Bool.eq_false_iff.1 hfree⟩⟩
    exact next_of_atUnit (out := execQuadProgress ord die quad wls s) (by simp [hord, hdie, hquad]) rfl
      (onQuadProgress_eq.trans (if_neg hgoes))
  · exact next_of_device (out := execTxnCommit n s) rfl (onTxnCommit_of_absent habsent)
  · exact next_of_device (out := execTxnCommit n s) rfl (onTxnCommit_of_waiting hx hwaits)
  · exact next_of_device (out := execTxnCommit n s) rfl
      ((onTxnCommit_of_prepared hx hfirst hprepared).trans (if_pos (List.isEmpty_iff.2 hnone)))
  · exact next_of_device (out := execTxnCommit n s) rfl
      ((onTxnCommit_of_prepared hx hfirst hprepared).trans (if_neg (mt List.isEmpty_iff.1 hparts)))
  · exact next_of_atUnit (out := execGcErase grp t quad s) (by simp [hgrp, ht, hquad]) rfl (onGcErase_of_state hstate)
  · exact next_of_atUnit (out := execGcErase grp t quad s) (by simp [hgrp, ht, hquad]) rfl (onGcErase_of_reading hreading)
  · exact next_of_atUnit (out := execGcErase grp t quad s) (by simp [hgrp, ht, hquad]) rfl (onGcErase_of_empty hvictim hreads hnand)

end Sys2Proof.Machine

/-! PROOFS. The feeds, the hold-up, shutdown requests, the cap loop and the limiter (R490 to R495, R500 to R502, R518, R542, R593). -/

namespace Sys2Proof.Machine

/-! ## Feeds -/

section
variable {s : Device} {b : Bool} {v : Nat}

theorem onFeedLost_of_good (h : 440 ≤ v) : onFeedLost b v s = s := if_pos h

/-- The supply that is lost gives the voltage of the feed that went, and of the other (R494). -/
theorem Device.supplyLoss_of_feed : (if b = true then s.supplyLoss (s.feedVolts true) (s.feedVolts false)
    else s.supplyLoss (s.feedVolts false) (s.feedVolts true)) = s.supplyLoss (s.feedVolts b) (s.feedVolts (!b)) := by
  cases b
  · exact if_neg Bool.false_ne_true
  · exact if_pos rfl

/-- A feed below 44 V is noted; what follows depends on the other feed (R490, R494). -/
theorem onFeedLost_of_lost (h : v < 440) : onFeedLost b v s =
    if (s.setFeed b v false).dark = true then s.setFeed b v false
    else if (s.setFeed b v false).feedGood (!b) = true then
      (if (s.setFeed b v false).onB = b ∧ (s.setFeed b v false).sled.stage < 2 then (s.setFeed b v false).switchFeed (!b)
        else if (s.setFeed b v false).onB = b then (s.setFeed b v false).setActive (!b)
        else ((s.setFeed b v false).alert 2).raiseAll 4)
    else (s.setFeed b v false).supplyLoss ((s.setFeed b v false).feedVolts b) ((s.setFeed b v false).feedVolts (!b)) := by
  simp only [onFeedLost, if_neg (Nat.not_le.2 h), Device.supplyLoss_of_feed]

theorem onFeedLost_of_dark (h : v < 440) (hdark : (s.setFeed b v false).dark = true) : onFeedLost b v s = s.setFeed b v false :=
  (onFeedLost_of_lost h).trans (if_pos hdark)

theorem onFeedLost_of_both (h : v < 440) (hlit : (s.setFeed b v false).dark = false) (hother : (s.setFeed b v false).feedGood (!b) = false) :
    onFeedLost b v s =
      (s.setFeed b v false).supplyLoss ((s.setFeed b v false).feedVolts b) ((s.setFeed b v false).feedVolts (!b)) := by
  rw [onFeedLost_of_lost h, if_neg (Bool.eq_false_iff.1 hlit), if_neg (Bool.eq_false_iff.1 hother)]

section
variable (h : v < 440) (hlit : (s.setFeed b v false).dark = false) (hother : (s.setFeed b v false).feedGood (!b) = true)
include h hlit hother

theorem onFeedLost_of_inactive (hactive : (s.setFeed b v false).onB ≠ b) :
    onFeedLost b v s = ((s.setFeed b v false).alert 2).raiseAll 4 := by
  rw [onFeedLost_of_lost h, if_neg (Bool.eq_false_iff.1 hlit), if_pos hother, if_neg fun hboth => hactive hboth.1, if_neg hactive]

theorem onFeedLost_of_active (hactive : (s.setFeed b v false).onB = b) (hstage : (s.setFeed b v false).sled.stage < 2) :
    onFeedLost b v s = (s.setFeed b v false).switchFeed (!b) := by
  rw [onFeedLost_of_lost h, if_neg (Bool.eq_false_iff.1 hlit), if_pos hother, if_pos ⟨hactive, hstage⟩]

theorem onFeedLost_of_off (hactive : (s.setFeed b v false).onB = b) (hstage : 2 ≤ (s.setFeed b v false).sled.stage) :
    onFeedLost b v s = (s.setFeed b v false).setActive (!b) := by
  rw [onFeedLost_of_lost h, if_neg (Bool.eq_false_iff.1 hlit), if_pos hother, if_neg fun hboth => Nat.not_lt.2 hstage hboth.2, if_pos hactive]

end

theorem onFeedGood_of_range (h : v < 480 ∨ 1024 ≤ v) : onFeedGood b v s = s := if_pos h

theorem onFeedGood_of_good (hmin : 480 ≤ v) (hmax : v < 1024) : onFeedGood b v s =
    if ((s.setFeed b v true).sled.mated && (s.setFeed b v true).dark) = true then ((s.setFeed b v true).setActive b).coldStart
    else s.setFeed b v true := if_neg (by omega)

theorem onFeedReturn_of_due (hctl : s.rdf Reg.PWR_SUP_CTL 0 0 0 = 1) (honB : s.onB = true) (hgood : s.feedGood false = true)
    (hstage : s.sled.stage < 2) (hlit : s.dark = false) : onFeedReturn s = s.switchFeed false :=
  if_pos ⟨hctl, honB, hgood, hstage, by simp [hlit]⟩

theorem onFeedReturn_of_stays (h : s.rdf Reg.PWR_SUP_CTL 0 0 0 = 0 ∨ s.onB = false ∨ s.feedGood false = false ∨ 2 ≤ s.sled.stage ∨
    s.dark = true) : onFeedReturn s = s := by
  refine if_neg ?_
  rintro ⟨hctl, honB, hgood, hstage, hlit⟩
  rw [Bool.not_eq_true'] at hlit
  simp [hctl, honB, hgood, hlit] at h
  omega

end

/-! ## Shutdown requests and the hold-up -/

section
variable {s : Device} {c ms : Nat}

theorem onShutdownRequest_of_off (h : 2 ≤ s.sled.stage) : onShutdownRequest s = s := if_pos h

/-- A shutdown request shows in SB_STATUS and is counted (R495, R595). -/
def Device.noteShutdown (s : Device) : Device := (s.wrf Reg.SB_STATUS 0 1 1 1).inc Reg.SB_SHUTDOWN_COUNT 0 1

theorem onShutdownRequest_of_on (h : s.sled.stage < 2) : onShutdownRequest s =
    { s.noteShutdown.sledDown with sled := { s.noteShutdown.sledDown.sled with stage := 1 } } := if_neg (Nat.not_le.2 h)

/-- A measurement stores both numbers and the two flags (R493, R542). -/
def Device.storeHoldup (s : Device) (c ms : Nat) : Device :=
  ((s.wr Reg.PWR_HOLDUP 0 (c + ms * 2 ^ 16)).wrf Reg.PWR_STATUS 0 11 11 (b2n (decide (ms < 40)))).wrf Reg.AVL_STATUS 0 7 7
    (b2n (decide (ms < 8)))

theorem onHoldupMeasure_of_off (h : 2 ≤ s.sled.stage) : onHoldupMeasure c ms s = s := if_pos h

theorem onHoldupMeasure_of_on (h : s.sled.stage < 2) (hc : c < 65536) (hms : ms < 65536) : onHoldupMeasure c ms s =
    if ms < 40 ∧ s.rdf Reg.PWR_STATUS 0 11 11 = 0 then ((s.storeHoldup c ms).raiseAll 4).pwrRecord 0x0F07 0x300 ms c
    else s.storeHoldup c ms := by
  rw [onHoldupMeasure, if_neg (Nat.not_le.2 h), Nat.min_eq_right (Nat.le_of_lt_succ hc), Nat.min_eq_right (Nat.le_of_lt_succ hms),
    Device.storeHoldup]

end

/-! ## The cap loop -/

section
variable {s : Device} {st inp : Nat}

theorem onCapRecompute_of_sleeping (h : (s.measurePower st inp).ps ≠ 0) : onCapRecompute st inp s = s.measurePower st inp := if_pos h

theorem Device.rd_measurePower_storage : (s.measurePower st inp).rd Reg.PWR_STORAGE_W 0 = min 4095 st := by
  rw [Device.measurePower, Device.rd_wrf_ne (by decide), Device.rd_wr_ne _ _ _ _ _ _ (by decide), Device.rd_setPwr,
    Device.rd_peak_ne (by decide), Device.rd_wr_ne _ _ _ _ _ _ (by decide), Device.rd_wr_same]

theorem Device.rd_measurePower_input : (s.measurePower st inp).rd Reg.PWR_INPUT_W 0 = min 4095 inp := by
  rw [Device.measurePower, Device.rd_wrf_ne (by decide), Device.rd_wr_ne _ _ _ _ _ _ (by decide), Device.rd_setPwr,
    Device.rd_peak_ne (by decide), Device.rd_wr_same]

end

/-- Settles O51: each event by the feeds, the stage of the sled and the power state. -/
theorem supplyEvents : Obligations.SupplyEvents := by
  unfold Obligations.SupplyEvents
  refine ⟨fun s b v => ⟨fun hgood => ?_, fun hlost => ⟨fun hdark => ?_, fun hlit hother => ⟨fun hactive => ?_, fun hactive hstage => ?_,
      fun hactive hstage => ?_⟩, fun hlit hother => ?_⟩, fun hrange => ?_, fun hmin hmax => ⟨fun hstays => ?_, fun hmated hdark => ?_⟩⟩,
    fun s => ⟨fun hctl honB hgood hstage hlit => ?_, fun hstays => ?_, fun hoff => ⟨?_, fun c ms => ?_⟩, fun hon => ?_,
      fun c ms hon hc hms => ⟨fun hstays => ?_, fun hlow hnew => ?_⟩,
      fun st inp => ⟨fun hsleeping => ?_, fun hps => ?_, Device.rd_measurePower_storage, Device.rd_measurePower_input⟩, fun on => ?_⟩⟩
  · exact next_of_device (out := execFeedLost b v s) rfl (onFeedLost_of_good hgood)
  · exact next_of_device (out := execFeedLost b v s) rfl (onFeedLost_of_dark hlost hdark)
  · exact next_of_device (out := execFeedLost b v s) rfl (onFeedLost_of_inactive hlost hlit hother hactive)
  · exact next_of_device (out := execFeedLost b v s) rfl (onFeedLost_of_active hlost hlit hother hactive hstage)
  · exact next_of_device (out := execFeedLost b v s) rfl (onFeedLost_of_off hlost hlit hother hactive hstage)
  · exact next_of_device (out := execFeedLost b v s) rfl (onFeedLost_of_both hlost hlit hother)
  · exact next_of_device (out := execFeedGood b v s) rfl (onFeedGood_of_range hrange)
  · refine next_of_device (out := execFeedGood b v s) rfl ((onFeedGood_of_good hmin hmax).trans (if_neg ?_))
    obtain hunmated | hlit := hstays
    · simp [hunmated]
    · simp [hlit]
  · exact next_of_device (out := execFeedGood b v s) rfl
      ((onFeedGood_of_good hmin hmax).trans (if_pos (Bool.and_eq_true_iff.2 ⟨hmated, hdark⟩)))
  · exact next_of_device (out := execFeedReturn s) rfl (onFeedReturn_of_due hctl honB hgood hstage hlit)
  · exact next_of_device (out := execFeedReturn s) rfl (onFeedReturn_of_stays hstays)
  · exact next_of_device (out := execShutdownRequest s) rfl (onShutdownRequest_of_off hoff)
  · exact next_of_device (out := execHoldupMeasure c ms s) rfl (onHoldupMeasure_of_off hoff)
  · exact next_of_device (out := execShutdownRequest s) rfl (onShutdownRequest_of_on hon)
  · exact next_of_device (out := execHoldupMeasure c ms s) rfl ((onHoldupMeasure_of_on hon hc hms).trans (if_neg (by omega)))
  · exact next_of_device (out := execHoldupMeasure c ms s) rfl ((onHoldupMeasure_of_on hon hc hms).trans (if_pos ⟨hlow, hnew⟩))
  · exact next_of_device (out := execCapRecompute st inp s) rfl (onCapRecompute_of_sleeping hsleeping)
  · exact execCapRecompute_of_ps0 hps
  · exact next_of (out := execHardwareLimiter on s) rfl rfl

end Sys2Proof.Machine

/-! PROOFS. Hints, voltage ramps, thermal steps and power states (R504 to R517, R548, R577, R603). -/

namespace Sys2Proof.Machine

/-! ## Hints and ramps -/

section
variable {s : Device} {c : Nat} {h : Hint}

theorem onHoistStagingStart_of_none (hdue : s.stagingDue c = none) : onHoistStagingStart c s = s := by rw [onHoistStagingStart, hdue]

theorem onHoistStagingStart_of_some (hdue : s.stagingDue c = some h) : onHoistStagingStart c s = s.setHint { h with staged := true } := by
  rw [onHoistStagingStart, hdue]

theorem onHintPhaseStart_of_none (hdue : s.phaseDue c = none) : onHintPhaseStart c s = s := by rw [onHintPhaseStart, hdue]

theorem onHintPhaseStart_of_some (hdue : s.phaseDue c = some h) : onHintPhaseStart c s = s.startHint h := by rw [onHintPhaseStart, hdue]

theorem onHintEnd_of_none (hdue : s.endDue c = none) : onHintEnd c s = s := by rw [onHintEnd, hdue]

theorem onHintEnd_of_some (hdue : s.endDue c = some h) :
    onHintEnd c s = (s.setPwr (fun p => { p with hints := p.hints.erase h })).showHints c := by rw [onHintEnd, hdue]

theorem onVoltageRampEnd_of_below (hbelow : s.rdf Reg.PWR_CORE_FREQ c 10 0 < s.rdf Reg.PWR_CORE_FREQ c 21 11) :
    onVoltageRampEnd c s = s.wrf Reg.PWR_CORE_FREQ c 10 0 (s.rdf Reg.PWR_CORE_FREQ c 21 11) := if_pos hbelow

theorem onVoltageRampEnd_of_reached (hreached : s.rdf Reg.PWR_CORE_FREQ c 21 11 ≤ s.rdf Reg.PWR_CORE_FREQ c 10 0) :
    onVoltageRampEnd c s = s := if_neg (Nat.not_lt.2 hreached)

end

/-! ## Thermal steps -/

section
variable {s : Device} {c temp : Nat}

/-- A fall of the thermal limit of a core whose temperature is stored (R510, R548). -/
def Device.throttle (t : Device) (c j : Nat) : Device :=
  if j < t.rdf Reg.PWR_THERM_CTL 0 7 0 || t.rotating c || t.fenced (coreDie c) || !t.stepDue c 100000 then t
  else ((if t.thermalLimit c < t.fmaxAged c then t else t.thermalAlert).setThermal c
    (max 400 (min (t.thermalLimit c) (t.fmaxAged c) - 25))).applyLimit c

theorem onThermalThrottleStep_eq : onThermalThrottleStep c temp s = (s.coreTemp c temp).throttle c ((s.coreTemp c temp).junction c temp) := by
  rw [onThermalThrottleStep, Device.throttle]

theorem Device.throttle_of_held {j : Nat} (h : j < s.rdf Reg.PWR_THERM_CTL 0 7 0 ∨ s.rotating c = true ∨ s.fenced (coreDie c) = true ∨
    s.stepDue c 100000 = false) : s.throttle c j = s := if_pos (by simpa [or_assoc] using h)

section
variable {j : Nat} (hhot : s.rdf Reg.PWR_THERM_CTL 0 7 0 ≤ j) (hrotating : s.rotating c = false)
  (hdie : s.fenced (coreDie c) = false) (hdue : s.stepDue c 100000 = true)
include hhot hrotating hdie hdue

theorem Device.throttle_of_due : s.throttle c j = ((if s.thermalLimit c < s.fmaxAged c then s else s.thermalAlert).setThermal c
    (max 400 (min (s.thermalLimit c) (s.fmaxAged c) - 25))).applyLimit c := if_neg (by simp [hhot, hrotating, hdie, hdue])

theorem Device.throttle_of_limited (hlimit : s.thermalLimit c < s.fmaxAged c) :
    s.throttle c j = (s.setThermal c (max 400 (s.thermalLimit c - 25))).applyLimit c := by
  rw [Device.throttle_of_due hhot hrotating hdie hdue, if_pos hlimit, Nat.min_eq_left (Nat.le_of_lt hlimit)]

/-- The first fall below the aged Fmax raises the thermal alert (R510). -/
theorem Device.throttle_of_unlimited (hlimit : s.fmaxAged c ≤ s.thermalLimit c) :
    s.throttle c j = (s.thermalAlert.setThermal c (max 400 (s.fmaxAged c - 25))).applyLimit c := by
  rw [Device.throttle_of_due hhot hrotating hdie hdue, if_neg (Nat.not_lt.2 hlimit), Nat.min_eq_right hlimit]

end

/-- A rise of the thermal limit of a core whose temperature is stored (R510). -/
def Device.recover (t : Device) (c j : Nat) : Device :=
  if t.rdf Reg.PWR_THERM_CTL 0 7 0 ≤ j + 2 || t.fenced (coreDie c) || !t.stepDue c 1000000 then t
  else (t.setThermal c (min 1450 (t.thermalLimit c + 25))).applyLimit c

theorem onThrottleRecoverStep_eq : onThrottleRecoverStep c temp s = (s.coreTemp c temp).recover c ((s.coreTemp c temp).junction c temp) := by
  rw [onThrottleRecoverStep, Device.recover]

theorem Device.recover_of_held {j : Nat} (h : s.rdf Reg.PWR_THERM_CTL 0 7 0 ≤ j + 2 ∨ s.fenced (coreDie c) = true ∨
    s.stepDue c 1000000 = false) : s.recover c j = s := if_pos (by simpa [or_assoc] using h)

theorem Device.recover_of_cool {j : Nat} (hcool : j + 2 < s.rdf Reg.PWR_THERM_CTL 0 7 0) (hdie : s.fenced (coreDie c) = false)
    (hdue : s.stepDue c 1000000 = true) : s.recover c j = (s.setThermal c (min 1450 (s.thermalLimit c + 25))).applyLimit c :=
  if_neg (by simp [hcool, hdie, hdue])

end

/-! ## Power states -/

section
variable {s : Device} {ps : Nat}

theorem onPsIdleTimer_of_held (h : s.inTransition = true ∨ ps ≤ s.ps ∨ s.rd (Reg.PWR_PS_IDLE_MS + 4 * (ps - 1)) 0 = 0 ∨
    bit (s.rdf Reg.PWR_PS_CTL 0 3 1) (ps - 1) = false ∨ s.psHolds ps none = false ∨ s.lifecycle = 4) : onPsIdleTimer ps s = s := by
  refine if_pos ?_
  simp only [Bool.or_eq_true, decide_eq_true_eq, beq_iff_eq, Bool.not_eq_true']
  tauto

theorem onPsIdleTimer_of_due (hrest : s.inTransition = false) (hdeeper : s.ps < ps) (hidle : s.rd (Reg.PWR_PS_IDLE_MS + 4 * (ps - 1)) 0 ≠ 0)
    (henabled : bit (s.rdf Reg.PWR_PS_CTL 0 3 1) (ps - 1) = true) (hholds : s.psHolds ps none = true) (htrip : s.tripped = false)
    (hstage : s.sled.stage = 0) (hlife : s.lifecycle ≠ 4) : onPsIdleTimer ps s = s.enterPs ps := by
  refine if_neg ?_
  simp [hrest, hdeeper, hidle, henabled, hholds, htrip, hstage, hlife]

theorem onPsTransitionEnd_of_rest (h : s.inTransition = false) : onPsTransitionEnd s = s := if_pos (by simp [h])

/-- The planes are in the new state: the residency is counted, the tests of the entry have run, and the cores and channels are off or on
(R513, R515). -/
def Device.arrivePs (s : Device) : Device :=
  let u := (s.inc (Reg.PWR_PS_RESIDENCY + 8 * s.ps) 0 (s.now - s.pwr.since)).entryTests s.ps s.pwr.target
  let v := (({ u with avl := { u.avl with testing := [] } } : Device).wrf Reg.PWR_STATUS 0 1 0 s.pwr.target).wrf Reg.PWR_STATUS 0 2 2 0
  let w := if s.ps < 2 ∧ 2 ≤ s.pwr.target then v.coresOff else if 2 ≤ s.ps ∧ s.pwr.target < 2 then v.coresOn else v
  if s.ps = 3 then w.channelsOn else w

/-- The end of a transition from `old` to `new` is noted, and recorded where the state changed (R516, R521). -/
def Device.notePs (x : Device) (old new : Nat) : Device :=
  if old = new then x.setPwr (fun p => { p with since := x.now, waiting := none, awake := [] })
  else ((x.setPwr (fun p => { p with since := x.now, waiting := none, awake := [] })).pwrRecord 0x0F06 0x300 new old).raiseAll 4

section
variable (h : s.inTransition = true)
include h

theorem onPsTransitionEnd_of_alone (halone : s.arrivePs.pwr.waiting = none) :
    onPsTransitionEnd s = (s.arrivePs.notePs s.ps s.pwr.target).applyLimits.settleAll := by
  rw [Device.arrivePs] at halone
  rw [onPsTransitionEnd, if_neg (by simp [h]), Device.arrivePs, Device.notePs]
  simp only [halone]

/-- A POWER_STATE that waits for the end of the transition completes (R516). -/
theorem onPsTransitionEnd_of_waiting {n : Nat} (hwaits : s.arrivePs.pwr.waiting = some n) :
    onPsTransitionEnd s = ((s.arrivePs.notePs s.ps s.pwr.target).finish n St.ok 0).applyLimits.settleAll := by
  rw [Device.arrivePs] at hwaits
  rw [onPsTransitionEnd, if_neg (by simp [h]), Device.arrivePs, Device.notePs]
  simp only [hwaits]

end

end

/-- Settles O52: each event by the hint, the temperature or the power state that is due. -/
theorem hintsAndFrequencies : Obligations.HintsAndFrequencies := by
  unfold Obligations.HintsAndFrequencies
  refine ⟨fun s c hc => ⟨fun hnone => ?_, fun h hdue => ?_, fun hnone => ?_, fun h hdue => ?_, fun hnone => ?_, fun h hdue => ?_,
      fun hbelow => ?_, fun hreached => ?_, ?_, fun temp => ⟨fun hheld => ?_, fun hhot hrotating hdie hdue => ⟨fun hlimit => ?_, fun hlimit => ?_⟩,
      fun hheld => ?_, fun hcool hdie hdue => ?_⟩⟩,
    fun s ps hmin hmax => ⟨fun hheld => ?_, fun hrest hdeeper hidle henabled hholds htrip hstage hlife => ?_⟩,
    fun s => ⟨fun ord hord => ?_, fun hps hlife => ?_, fun hstays => ?_, fun hrest => ?_,
      fun hmoves => ⟨fun halone => ?_, fun n hwaits => ?_⟩⟩⟩
  · exact next_of_atUnit (out := execHoistStagingStart c s) (decide_eq_true hc) rfl (onHoistStagingStart_of_none hnone)
  · exact next_of_atUnit (out := execHoistStagingStart c s) (decide_eq_true hc) rfl (onHoistStagingStart_of_some hdue)
  · exact next_of_atUnit (out := execHintPhaseStart c s) (decide_eq_true hc) rfl (onHintPhaseStart_of_none hnone)
  · exact next_of_atUnit (out := execHintPhaseStart c s) (decide_eq_true hc) rfl (onHintPhaseStart_of_some hdue)
  · exact next_of_atUnit (out := execHintEnd c s) (decide_eq_true hc) rfl (onHintEnd_of_none hnone)
  · exact next_of_atUnit (out := execHintEnd c s) (decide_eq_true hc) rfl (onHintEnd_of_some hdue)
  · exact next_of_atUnit (out := execVoltageRampEnd c s) (decide_eq_true hc) rfl (onVoltageRampEnd_of_below hbelow)
  · exact next_of_atUnit (out := execVoltageRampEnd c s) (decide_eq_true hc) rfl (onVoltageRampEnd_of_reached hreached)
  · exact next_of_atUnit (out := execDroopEvent c s) (decide_eq_true hc) rfl rfl
  · exact next_of_atUnit (out := execThermalThrottleStep c temp s) (decide_eq_true hc) rfl
      (onThermalThrottleStep_eq.trans (Device.throttle_of_held hheld))
  · exact next_of_atUnit (out := execThermalThrottleStep c temp s) (decide_eq_true hc) rfl
      (onThermalThrottleStep_eq.trans (Device.throttle_of_limited hhot hrotating hdie hdue hlimit))
  · exact next_of_atUnit (out := execThermalThrottleStep c temp s) (decide_eq_true hc) rfl
      (onThermalThrottleStep_eq.trans (Device.throttle_of_unlimited hhot hrotating hdie hdue hlimit))
  · exact next_of_atUnit (out := execThrottleRecoverStep c temp s) (decide_eq_true hc) rfl
      (onThrottleRecoverStep_eq.trans (Device.recover_of_held hheld))
  · exact next_of_atUnit (out := execThrottleRecoverStep c temp s) (decide_eq_true hc) rfl
      (onThrottleRecoverStep_eq.trans (Device.recover_of_cool hcool hdie hdue))
  · exact next_of_atUnit (out := execPsIdleTimer ps s) (by simp [hmin, hmax]) rfl (onPsIdleTimer_of_held hheld)
  · exact next_of_atUnit (out := execPsIdleTimer ps s) (by simp [hmin, hmax]) rfl
      (onPsIdleTimer_of_due hrest hdeeper hidle henabled hholds htrip hstage hlife)
  · exact next_of_atUnit (out := execHalfStackSleep ord s) (decide_eq_true hord) rfl rfl
  · exact next_of (out := execBackgroundTaskWake s) rfl (congrArg _ (if_pos ⟨hps, hlife⟩))
  · exact next_same (out := execBackgroundTaskWake s) rfl (congrArg _ (if_neg (by tauto)))
  · exact next_of_device (out := execPsTransitionEnd s) rfl (onPsTransitionEnd_of_rest hrest)
  · exact next_of_device (out := execPsTransitionEnd s) rfl (onPsTransitionEnd_of_alone hmoves halone)
  · exact next_of_device (out := execPsTransitionEnd s) rfl (onPsTransitionEnd_of_waiting hmoves hwaits)

end Sys2Proof.Machine

/-! PROOFS. Trips, storage responses and the thermal shutdown (R509 to R511, R520). -/

namespace Sys2Proof.Machine

section
variable {s : Device} {die temp : Nat}

/-! ## Trips and warm dies -/

theorem onThermalTrip_of_held (h : (s.dieTemp die temp false).fenced die = true ∨ temp < 115 ∨ (s.dieTemp die temp false).sled.stage ≠ 0) :
    onThermalTrip die temp s = s.dieTemp die temp false := if_pos (by simpa [or_assoc] using h)

theorem onThermalTrip_of_trips (hdie : (s.dieTemp die temp false).fenced die = false) (hhot : 115 ≤ temp)
    (hstage : (s.dieTemp die temp false).sled.stage = 0) : onThermalTrip die temp s =
      ((s.dieTemp die temp false).trip (0x200 + die) temp).setPwr (fun p => { p with junction := true }) :=
  if_neg (by simp [hdie, hhot, hstage])

theorem onStorageWarn_of_held (h : temp < (s.dieTemp die temp false).rdf Reg.PWR_THERM_CTL 0 15 8 ∨
    (s.dieTemp die temp false).fenced die = true ∨ (s.dieTemp die temp false).media.warm.contains (sheaveOrd die) = true) :
    onStorageWarn die temp s = s.dieTemp die temp false := by
  refine if_pos ?_
  rw [Bool.or_eq_true, Bool.or_eq_true, decide_eq_true_eq, or_assoc]
  exact h

/-- A die joins the warm dies (R510). -/
def Device.addWarm (t : Device) (die : Nat) : Device :=
  ({ t with media := { t.media with warm := t.media.warm ++ [sheaveOrd die] } } : Device).thermalAlert

theorem onStorageWarn_of_new (hwarm : (s.dieTemp die temp false).rdf Reg.PWR_THERM_CTL 0 15 8 ≤ temp)
    (hdie : (s.dieTemp die temp false).fenced die = false)
    (hnew : (s.dieTemp die temp false).media.warm.contains (sheaveOrd die) = false) :
    onStorageWarn die temp s = (s.dieTemp die temp false).addWarm die := by
  refine if_neg ?_
  rw [Bool.or_eq_true, Bool.or_eq_true, decide_eq_true_eq, hdie, hnew]
  simp [hwarm]

/-! ## Hot dies, packages and stacks -/

/-- A SHEAVE die joins the hot dies once (R510). -/
def Device.addHot (t : Device) (die : Nat) : Device :=
  if dieKind die = 0 ∧ t.media.hot.contains (sheaveOrd die) = false
  then { t with media := { t.media with hot := t.media.hot ++ [sheaveOrd die] } } else t

theorem Device.addHot_of_not_contains : (if dieKind die = 0 ∧ (!s.media.hot.contains (sheaveOrd die)) = true then
    ({ s with media := { s.media with hot := s.media.hot ++ [sheaveOrd die] } } : Device) else s) = s.addHot die := by
  unfold Device.addHot
  exact if_congr (by rw [Bool.not_eq_true']) rfl rfl

theorem Device.rdf_addHot {r i hi lo : Nat} : (s.addHot die).rdf r i hi lo = s.rdf r i hi lo := by
  unfold Device.addHot
  split <;> rfl

/-- STORAGE_HOT is set, recorded the first time, and the compute plane trips (R510, R511). -/
def Device.respondHot (u : Device) (die temp : Nat) (first : Bool) : Device :=
  (if first = true then ((u.draw.2.wrf Reg.PWR_STATUS 0 7 7 1).thermalAlert).pwrRecord 0x0F04 (0x200 + die) (temp % 65536) (u.draw.1 % 16)
    else u.draw.2.wrf Reg.PWR_STATUS 0 7 7 1).trip (0x200 + die) temp

/-- The temperature of a hot junction, package or stack, as it is stored (R520). -/
def Device.storeHot (s : Device) (die temp : Nat) : Device := s.dieTemp die temp (dieKind die == 1 || decide (temp < 105))

theorem onStorageHot_eq : onStorageHot (0x200 + die) temp s =
    if ((s.storeHot die temp).fenced die || decide (temp < (if dieKind die = 0 then 85 else 95)) || (s.storeHot die temp).sled.stage != 0) = true
    then s.storeHot die temp
    else ((s.storeHot die temp).addHot die).respondHot die temp (((s.storeHot die temp).addHot die).rdf Reg.PWR_STATUS 0 7 7 == 0) := by
  simp only [onStorageHot, Nat.add_sub_cancel_left, Device.addHot_of_not_contains]
  rfl

theorem onStorageHot_of_held (h : (s.storeHot die temp).fenced die = true ∨ temp < (if dieKind die = 0 then 85 else 95) ∨
    (s.storeHot die temp).sled.stage ≠ 0) : onStorageHot (0x200 + die) temp s = s.storeHot die temp := by
  rw [onStorageHot_eq]
  refine if_pos ?_
  rw [Bool.or_eq_true, Bool.or_eq_true, decide_eq_true_eq, bne_iff_ne, or_assoc]
  exact h

section
variable (hdie : (s.storeHot die temp).fenced die = false) (hhot : (if dieKind die = 0 then 85 else 95) ≤ temp)
  (hstage : (s.storeHot die temp).sled.stage = 0)
include hdie hhot hstage

theorem onStorageHot_of_hot : onStorageHot (0x200 + die) temp s =
    ((s.storeHot die temp).addHot die).respondHot die temp ((s.storeHot die temp).rdf Reg.PWR_STATUS 0 7 7 == 0) := by
  rw [onStorageHot_eq, Device.rdf_addHot]
  refine if_neg ?_
  rw [Bool.or_eq_true, Bool.or_eq_true, decide_eq_true_eq, bne_iff_ne, hdie, hstage]
  simp only [Bool.false_eq_true, false_or, ne_eq, not_true_eq_false, or_false]
  exact Nat.not_lt.2 hhot

theorem onStorageHot_of_again (hagain : (s.storeHot die temp).rdf Reg.PWR_STATUS 0 7 7 = 1) : onStorageHot (0x200 + die) temp s =
    (((s.storeHot die temp).addHot die).draw.2.wrf Reg.PWR_STATUS 0 7 7 1).trip (0x200 + die) temp := by
  rw [onStorageHot_of_hot hdie hhot hstage, hagain, Device.respondHot, if_neg (by decide)]

theorem onStorageHot_of_first (hfirst : (s.storeHot die temp).rdf Reg.PWR_STATUS 0 7 7 = 0) : onStorageHot (0x200 + die) temp s =
    ((((s.storeHot die temp).addHot die).draw.2.wrf Reg.PWR_STATUS 0 7 7 1).thermalAlert.pwrRecord 0x0F04 (0x200 + die) (temp % 65536)
      (((s.storeHot die temp).addHot die).draw.1 % 16)).trip (0x200 + die) temp := by
  rw [onStorageHot_of_hot hdie hhot hstage, hfirst, Device.respondHot, if_pos (by decide)]

end

/-! ## Shutdown, and the ends of the responses -/

theorem onThermalShutdown_of_cool (h : 2 ≤ s.sled.stage ∨ (temp < 125 ∧ (dieKind die ≠ 0 ∨ temp < 95))) :
    onThermalShutdown (0x200 + die) temp s = s := by
  refine if_pos ?_
  rw [Nat.add_sub_cancel_left]
  simp only [Bool.not_eq_true', decide_eq_false_iff_not]
  omega

theorem onThermalShutdown_of_hot (hstage : s.sled.stage < 2) (h : 125 ≤ temp ∨ (dieKind die = 0 ∧ 95 ≤ temp)) :
    onThermalShutdown (0x200 + die) temp s = s.thermalAlert.sledDown.powerOff 3 := by
  refine if_neg ?_
  rw [Nat.add_sub_cancel_left]
  simp only [Bool.not_eq_true', decide_eq_false_iff_not]
  omega

/-- No junction holds the trip any longer (R510). -/
def Device.freeJunction (s : Device) : Device := s.setPwr (fun p => { p with junction := false })

theorem onTripEnd_of_free (htrip : s.freeJunction.tripped = true) (hcool : s.freeJunction.rdf Reg.PWR_STATUS 0 7 7 = 0) :
    onTripEnd s = s.freeJunction.endTrip := if_pos (Bool.and_eq_true_iff.2 ⟨htrip, beq_iff_eq.2 hcool⟩)

theorem onTripEnd_of_held (h : s.freeJunction.tripped = false ∨ s.freeJunction.rdf Reg.PWR_STATUS 0 7 7 = 1) :
    onTripEnd s = s.freeJunction := by
  refine if_neg fun hboth => ?_
  obtain ⟨htrip, hcool⟩ := Bool.and_eq_true_iff.1 hboth
  obtain hno | hhot := h
  · exact Bool.false_ne_true (hno.symm.trans htrip)
  · exact absurd (hhot.symm.trans (beq_iff_eq.1 hcool)) (by decide)

theorem onStorageHotEnd_of_none (h : s.rdf Reg.PWR_STATUS 0 7 7 = 0) : onStorageHotEnd s = s := if_pos h

/-- The storage-hot response is over, and the commands that it held go on (R510). -/
def Device.coolStorage (s : Device) : Device :=
  let u := ({ s with media := { s.media with hot := [] } } : Device).wrf Reg.PWR_STATUS 0 7 7 0
  u.cmds.foldl (fun a p => if fld p.slot 0 1 = 0x02 ∧ p.phase = .started ∧ p.held.any (fun h => h.1 == 3) then a.unhold p.n else a) u

theorem onStorageHotEnd_of_hot (h : s.rdf Reg.PWR_STATUS 0 7 7 ≠ 0) : onStorageHotEnd s =
    if (s.coolStorage.tripped && !s.coolStorage.pwr.junction) = true then s.coolStorage.endTrip else s.coolStorage.settleAll := by
  rw [onStorageHotEnd, if_neg h, Device.coolStorage]

end

/-- Settles O53: each response by the temperature, the thresholds of R510 and the responses that stand already. -/
theorem thermalResponses : Obligations.ThermalResponses := by
  unfold Obligations.ThermalResponses
  refine ⟨fun s die temp hd => ⟨fun hplane => ⟨fun hheld => ?_, fun hdie hhot hstage => ?_⟩,
      fun hsheave => ⟨fun hheld => ?_, fun hwarm hdie hnew => ?_, ?_⟩,
      fun hkind => ⟨fun hheld => ?_, fun hdie hhot hstage => ⟨fun hagain => ?_, fun hfirst => ?_⟩⟩, fun hcool => ?_, fun hstage hhot => ?_⟩,
    fun s => ⟨fun htrip hcool => ?_, fun hheld => ?_, fun hnone => ?_, fun hhot => ⟨fun htrip hfree => ?_, fun hstays => ?_⟩⟩⟩
  · exact next_of_atUnit (out := execThermalTrip die temp s) (by simpa [hd, or_assoc] using hplane) rfl (onThermalTrip_of_held hheld)
  · exact next_of_atUnit (out := execThermalTrip die temp s) (by simpa [hd, or_assoc] using hplane) rfl (onThermalTrip_of_trips hdie hhot hstage)
  · exact next_of_atUnit (out := execStorageWarn die temp s) (by simp [hd, hsheave]) rfl (onStorageWarn_of_held hheld)
  · exact next_of_atUnit (out := execStorageWarn die temp s) (by simp [hd, hsheave]) rfl (onStorageWarn_of_new hwarm hdie hnew)
  · exact next_of_atUnit (out := execStorageWarnEnd die s) (by simp [hd, hsheave]) rfl rfl
  · exact next_of_atUnit (out := execStorageHot (0x200 + die) temp s) (by simpa [hd] using hkind) rfl (onStorageHot_of_held hheld)
  · exact next_of_atUnit (out := execStorageHot (0x200 + die) temp s) (by simpa [hd] using hkind) rfl
      (onStorageHot_of_again hdie hhot hstage hagain)
  · exact next_of_atUnit (out := execStorageHot (0x200 + die) temp s) (by simpa [hd] using hkind) rfl
      (onStorageHot_of_first hdie hhot hstage hfirst)
  · exact next_of_atUnit (out := execThermalShutdown (0x200 + die) temp s) (by simp [hd]) rfl (onThermalShutdown_of_cool hcool)
  · exact next_of_atUnit (out := execThermalShutdown (0x200 + die) temp s) (by simp [hd]) rfl (onThermalShutdown_of_hot hstage hhot)
  · exact next_of_device (out := execTripEnd s) rfl (onTripEnd_of_free htrip hcool)
  · exact next_of_device (out := execTripEnd s) rfl (onTripEnd_of_held hheld)
  · exact next_of_device (out := execStorageHotEnd s) rfl (onStorageHotEnd_of_none hnone)
  · exact next_of_device (out := execStorageHotEnd s) rfl
      ((onStorageHotEnd_of_hot hhot).trans (if_pos (Bool.and_eq_true_iff.2 ⟨htrip, by rw [Bool.not_eq_true']; exact hfree⟩)))
  · refine next_of_device (out := execStorageHotEnd s) rfl ((onStorageHotEnd_of_hot hhot).trans (if_neg fun hboth => ?_))
    obtain ⟨htrip, hfree⟩ := Bool.and_eq_true_iff.1 hboth
    obtain hno | hjunction := hstays
    · exact Bool.false_ne_true (hno.symm.trans htrip)
    · exact Bool.false_ne_true (((Bool.not_eq_true' _).mp hfree).symm.trans hjunction)

end Sys2Proof.Machine
